-- ==== Sys2Proof/Word.lean ====
section
/-! DEFINITION. The word types of the Berroth Gutiben: what the manual treats as bits, and the names of the
parts of the package (core, slot, thread, agent, fabric packet) that instructions and events mention. -/

namespace Sys2Proof

/-- A byte of memory. -/
abbrev Byte := BitVec 8

/-- A g register, a system register, a memory double word (R182, R318). -/
abbrev Word := BitVec 64

/-- An instruction word (R269). -/
abbrev IWord := BitVec 32

/-- A lane of a vector register (R384). -/
abbrev Lane := BitVec 32

/-- A vector register, a 64 B line (R384, R87): lane i is bits 32i+31 : 32i. -/
abbrev Line := BitVec 512

/-- A 56-bit virtual or physical address (R1). -/
abbrev Addr := BitVec 56

/-- A 5-bit register field (R270). -/
abbrev Reg := BitVec 5

/-- The switch marker S, bit 31 of an instruction word (R269, R292). -/
abbrev Mark := Bool

/-- A hardware thread: a core, a slot 0-7, and in slot 7 the address thread (0) or the arithmetic thread (1)
(R112, R182, R321). -/
structure ThreadRef where
  core : Nat
  slot : Nat
  th   : Nat
  deriving DecidableEq, Repr

/-- An agent that writes device registers: its world (R456), whether it is a host node (R455), and its die. -/
structure Agent where
  ns   : Bool
  host : Bool
  die  : Nat
  deriving DecidableEq, Repr

/-- An Ewenex packet: the fields of its header flit and its data flits (R449). -/
structure Packet where
  opc   : BitVec 8
  dst   : BitVec 16
  src   : BitVec 16
  ns    : Bool
  size  : BitVec 3
  ndata : BitVec 3
  hostn : Bool
  tag   : BitVec 16
  addr  : Addr
  mask  : Word
  pol   : BitVec 3
  aop   : BitVec 4
  ordsc : BitVec 4
  stat  : BitVec 3
  snp   : BitVec 2
  keep  : Bool
  zeros : Bool        -- every field that R449 requires to be zero is zero
  opd0  : Word
  opd1  : Word
  flits : List Line
  deriving DecidableEq, Repr

/-- Where a leased copy lies: a core's L1 or a die's L2 (R138). -/
inductive CopyPlace where
  | l1 (core : Nat)
  | l2 (die : Nat)
  deriving DecidableEq, Repr

/-- What a patrol scrub reads: a DRAM or LLC line by BLW line index, a line of an L2, or a line of a bank (R492). -/
inductive ScrubPlace where
  | dram (line : Nat)
  | llc (line : Nat)
  | bank (core bank line : Nat)
  | l2 (die : Nat) (line : Nat)
  deriving DecidableEq, Repr

/-- What a patrol scrub or a read finds in a line's code (R446, R492). -/
inductive ScrubFind where
  | clean
  | correctable
  | uncorrectable
  deriving DecidableEq, Repr

/-- The state in which a port's retraining leaves it (R447, R466 words 24-25). -/
inductive PortState where
  | down
  | training
  | up8
  | up4
  deriving DecidableEq, Repr

end Sys2Proof
end

