-- ==== Sys2Proof/Syntax.lean ====
section
/-! DEFINITION. The abstract syntax: one constructor for each row of spec/opcode_table.json.

The first 181 constructors are the instruction words (R269-R279). Their fields are the fields of the row, raw:
`m` is the switch marker, `d a b c` register fields, the others the row's own fields under the letters of the
table. The 105 constructors after them are the rows without an encoding: the part's internal and external events,
each whole and indivisible (95_what_each_step_holds.md). Their arguments say where the event happens and, where the
outside world supplies something (a packet, a trained link, a found error), what it supplies. -/

namespace Sys2Proof

/-- An instruction word, or an event of the part: the rows of the opcode table, in the table's order, but for the events
that come from outside the package or its software, which stand last. -/
inductive Instr where
  | nop    -- NOP (R314)
  | brk (m : Mark) (c : BitVec 10)    -- BRK (R315)
  | trap (m : Mark) (c : BitVec 8)    -- TRAP (R316)
  | eret (m : Mark)    -- ERET (R317)
  | rdsys (m : Mark) (d : Reg) (n : BitVec 10)    -- RDSYS (R318)
  | wrsys (m : Mark) (d : Reg) (n : BitVec 10)    -- WRSYS (R318)
  | susp (m : Mark) (a : Reg)    -- SUSP (R322)
  | resm (m : Mark) (a : Reg)    -- RESM (R322)
  | rdslot (m : Mark) (d a : Reg)    -- RDSLOT (R324)
  | wrslot (m : Mark) (d a : Reg)    -- WRSLOT (R324)
  | ctxkill (m : Mark) (a : Reg)    -- CTXKILL (R326)
  | fmt (a : BitVec 5) (b : BitVec 5) (d : BitVec 5) (e : BitVec 5) (c : BitVec 2)    -- FMT (R282)
  | rep (c : BitVec 8) (d : BitVec 5) (a : BitVec 5) (b : BitVec 5)    -- REP (R283)
  | lui (m : Mark) (d : Reg) (i : BitVec 20)    -- LUI (R303)
  | add (m : Mark) (d a b : Reg)    -- ADD (R300)
  | sub (m : Mark) (d a b : Reg)    -- SUB (R300)
  | and (m : Mark) (d a b : Reg)    -- AND (R300)
  | or (m : Mark) (d a b : Reg)    -- OR (R300)
  | xor (m : Mark) (d a b : Reg)    -- XOR (R300)
  | andn (m : Mark) (d a b : Reg)    -- ANDN (R300)
  | shl (m : Mark) (d a b : Reg)    -- SHL (R300)
  | shr (m : Mark) (d a b : Reg)    -- SHR (R300)
  | sra (m : Mark) (d a b : Reg)    -- SRA (R300)
  | min (m : Mark) (d a b : Reg)    -- MIN (R300)
  | max (m : Mark) (d a b : Reg)    -- MAX (R300)
  | minu (m : Mark) (d a b : Reg)    -- MINU (R300)
  | maxu (m : Mark) (d a b : Reg)    -- MAXU (R300)
  | clz (m : Mark) (d a : Reg)    -- CLZ (R300)
  | ctz (m : Mark) (d a : Reg)    -- CTZ (R300)
  | popc (m : Mark) (d a : Reg)    -- POPC (R300)
  | sext (m : Mark) (d a b : Reg)    -- SEXT (R300)
  | addi (m : Mark) (d a : Reg) (i : BitVec 15)    -- ADDI (R301)
  | andi (m : Mark) (d a : Reg) (i : BitVec 15)    -- ANDI (R301)
  | ori (m : Mark) (d a : Reg) (i : BitVec 15)    -- ORI (R301)
  | xori (m : Mark) (d a : Reg) (i : BitVec 15)    -- XORI (R301)
  | shli (m : Mark) (d a : Reg) (n : BitVec 6)    -- SHLI (R302)
  | shri (m : Mark) (d a : Reg) (n : BitVec 6)    -- SHRI (R302)
  | srai (m : Mark) (d a : Reg) (n : BitVec 6)    -- SRAI (R302)
  | mul (m : Mark) (d a b : Reg)    -- MUL (R304)
  | mulh (m : Mark) (d a b : Reg)    -- MULH (R304)
  | mulhu (m : Mark) (d a b : Reg)    -- MULHU (R304)
  | div (m : Mark) (d a b : Reg)    -- DIV (R304)
  | divu (m : Mark) (d a b : Reg)    -- DIVU (R304)
  | rem (m : Mark) (d a b : Reg)    -- REM (R304)
  | remu (m : Mark) (d a b : Reg)    -- REMU (R304)
  | fadd (m : Mark) (d a b : Reg) (p : BitVec 1)    -- FADD (R311)
  | fsub (m : Mark) (d a b : Reg) (p : BitVec 1)    -- FSUB (R311)
  | fmul (m : Mark) (d a b : Reg) (p : BitVec 1)    -- FMUL (R311)
  | fma (m : Mark) (d a b : Reg) (p : BitVec 1)    -- FMA (R311)
  | fdiv (m : Mark) (d a b : Reg) (p : BitVec 1)    -- FDIV (R311)
  | fsqrt (m : Mark) (d a : Reg) (p : BitVec 1)    -- FSQRT (R311)
  | fmin (m : Mark) (d a b : Reg) (p : BitVec 1)    -- FMIN (R311)
  | fmax (m : Mark) (d a b : Reg) (p : BitVec 1)    -- FMAX (R311)
  | fcmp (m : Mark) (d a b : Reg) (x : BitVec 5) (p : BitVec 1)    -- FCMP (R312)
  | fcvt (m : Mark) (d a : Reg) (x : BitVec 5) (p : BitVec 1)    -- FCVT (R313)
  | cmp (m : Mark) (c : BitVec 4) (k : BitVec 2) (p : BitVec 4) (a b : Reg)    -- CMP (R305)
  | cmpi (m : Mark) (c : BitVec 4) (k : BitVec 2) (p : BitVec 4) (a : Reg) (i : BitVec 10)    -- CMPI (R305)
  | bt (m : Mark) (q : BitVec 4) (d : BitVec 20)    -- BT (R306)
  | bf (m : Mark) (q : BitVec 4) (d : BitVec 20)    -- BF (R306)
  | j (m : Mark) (d : BitVec 25)    -- J (R306)
  | jal (m : Mark) (d : Reg) (i : BitVec 20)    -- JAL (R307)
  | jr (m : Mark) (a : Reg)    -- JR (R308)
  | jalr (m : Mark) (d a : Reg)    -- JALR (R308)
  | ld (m : Mark) (d a : Reg) (p : BitVec 3) (z : BitVec 2) (o : BitVec 10)    -- LD (R333)
  | st (m : Mark) (d a : Reg) (p : BitVec 3) (z : BitVec 2) (o : BitVec 10)    -- ST (R333)
  | ldv (m : Mark) (d a : Reg) (p : BitVec 3) (o : BitVec 10)    -- LDV (R338)
  | stv (m : Mark) (d a : Reg) (p : BitVec 3) (o : BitVec 10)    -- STV (R338)
  | aadd (m : Mark) (d a : Reg) (p : BitVec 3) (z : BitVec 1) (o : BitVec 4)    -- AADD (R341)
  | aand (m : Mark) (d a : Reg) (p : BitVec 3) (z : BitVec 1) (o : BitVec 4)    -- AAND (R341)
  | aor (m : Mark) (d a : Reg) (p : BitVec 3) (z : BitVec 1) (o : BitVec 4)    -- AOR (R341)
  | axor (m : Mark) (d a : Reg) (p : BitVec 3) (z : BitVec 1) (o : BitVec 4)    -- AXOR (R341)
  | amin (m : Mark) (d a : Reg) (p : BitVec 3) (z : BitVec 1) (o : BitVec 4)    -- AMIN (R341)
  | amax (m : Mark) (d a : Reg) (p : BitVec 3) (z : BitVec 1) (o : BitVec 4)    -- AMAX (R341)
  | aswp (m : Mark) (d a : Reg) (p : BitVec 3) (z : BitVec 1) (o : BitVec 4)    -- ASWP (R341)
  | acas (m : Mark) (d a : Reg) (p : BitVec 3) (z : BitVec 1) (o : BitVec 4)    -- ACAS (R341)
  | afadd (m : Mark) (d a : Reg) (p : BitVec 3) (z : BitVec 1) (o : BitVec 4)    -- AFADD (R341)
  | clean (m : Mark) (a b : Reg)    -- CLEAN (R344)
  | inval (m : Mark) (a b : Reg)    -- INVAL (R344)
  | flush (m : Mark) (a b : Reg)    -- FLUSH (R344)
  | pref (m : Mark) (d a b : Reg)    -- PREF (R344)
  | fenceAcq (m : Mark) (sc : BitVec 3)    -- FENCE_ACQ (R163)
  | fenceRel (m : Mark) (sc : BitVec 3)    -- FENCE_REL (R162)
  | fenceFull (m : Mark) (sc : BitVec 3)    -- FENCE_FULL (R163)
  | bar (m : Mark) (d a b : Reg) (sc : BitVec 3)    -- BAR (R351)
  | bara (m : Mark) (d a b : Reg) (sc : BitVec 3)    -- BARA (R351)
  | barw (m : Mark) (d a : Reg) (sc : BitVec 3)    -- BARW (R352)
  | barx (m : Mark) (d a b : Reg) (sc : BitVec 3)    -- BARX (R354)
  | barq (m : Mark) (d a : Reg) (sc : BitVec 3)    -- BARQ (R355)
  | send (m : Mark) (d a b : Reg) (md : BitVec 1)    -- SEND (R357)
  | recv (m : Mark) (d : Reg)    -- RECV (R358)
  | waitm (m : Mark)    -- WAITM (R200)
  | mbput (m : Mark) (d a b : Reg) (md : BitVec 1)    -- MBPUT (R359)
  | mbget (m : Mark) (d a b : Reg) (md : BitVec 1)    -- MBGET (R359)
  | chainSet (m : Mark) (a : Reg)    -- CHAIN_SET (R360)
  | chainRel (m : Mark) (a : Reg)    -- CHAIN_REL (R360)
  | chainAcq (m : Mark) (d : Reg)    -- CHAIN_ACQ (R360)
  | spawn (m : Mark) (d a b : Reg)    -- SPAWN (R328)
  | yield (m : Mark)    -- YIELD (R329)
  | exit (m : Mark)    -- EXIT (R204)
  | trig (m : Mark)    -- TRIG (R203)
  | gwait (m : Mark)    -- GWAIT (R205)
  | migrate (m : Mark) (a : Reg)    -- MIGRATE (R195)
  | rqput (m : Mark) (d a b : Reg)    -- RQPUT (R331)
  | bpush (m : Mark) (d a : Reg) (z : BitVec 2) (v : BitVec 1)    -- BPUSH (R68)
  | bpushn (m : Mark) (d a : Reg) (n : BitVec 2) (z : BitVec 2) (v : BitVec 1)    -- BPUSHN (R68)
  | bpop (m : Mark) (d a : Reg) (z : BitVec 2) (v : BitVec 1)    -- BPOP (R68)
  | bpeek (m : Mark) (d a : Reg) (z : BitVec 2) (v : BitVec 1)    -- BPEEK (R68)
  | bmput (m : Mark) (d a b : Reg)    -- BMPUT (R70)
  | bmget (m : Mark) (d a b : Reg)    -- BMGET (R70)
  | bmdel (m : Mark) (d a b : Reg)    -- BMDEL (R71)
  | bhput (m : Mark) (d a : Reg)    -- BHPUT (R72)
  | bhpop (m : Mark) (d a : Reg)    -- BHPOP (R72)
  | bhtop (m : Mark) (d a : Reg)    -- BHTOP (R72)
  | bgadd (m : Mark) (d a b : Reg) (o : BitVec 1)    -- BGADD (R74)
  | bgrd (m : Mark) (d a b : Reg)    -- BGRD (R74)
  | bgclr (m : Mark) (a b : Reg) (l : BitVec 1)    -- BGCLR (R74)
  | bpset (m : Mark) (d a b : Reg)    -- BPSET (R365)
  | blink (m : Mark) (a b : Reg) (c : BitVec 4)    -- BLINK (R81)
  | bstat (m : Mark) (d a : Reg)    -- BSTAT (R64)
  | bvadd (m : Mark) (a b c : Reg) (t : BitVec 1)    -- BVADD (R91)
  | bvmul (m : Mark) (d a b : Reg) (t : BitVec 1)    -- BVMUL (R91)
  | bvfma (m : Mark) (d a b c : Reg) (t : BitVec 1)    -- BVFMA (R91)
  | bvfill (m : Mark) (a b c : Reg)    -- BVFILL (R91)
  | bvcvt (m : Mark) (a b : Reg) (r : BitVec 1)    -- BVCVT (R95)
  | bvsum (m : Mark) (d a b : Reg) (t : BitVec 1)    -- BVSUM (R93)
  | bvrmax (m : Mark) (d a b : Reg) (t : BitVec 1)    -- BVRMAX (R93)
  | bsmx (m : Mark) (a b : Reg)    -- BSMX (R94)
  | rowcpy (m : Mark) (d a b : Reg)    -- ROWCPY (R100)
  | rowset (m : Mark) (d b : Reg)    -- ROWSET (R100)
  | rowand (m : Mark) (d a b : Reg)    -- ROWAND (R100)
  | rowor (m : Mark) (d a b : Reg)    -- ROWOR (R100)
  | rowxor (m : Mark) (d a b : Reg)    -- ROWXOR (R100)
  | rownot (m : Mark) (d a b : Reg)    -- ROWNOT (R100)
  | rowmaj (m : Mark) (d a b : Reg)    -- ROWMAJ (R100)
  | cpy (m : Mark) (d a b : Reg)    -- CPY (R128)
  | walk (m : Mark) (d a b : Reg)    -- WALK (R130)
  | mxv (m : Mark) (d a b : Reg)    -- MXV (R380)
  | qld (m : Mark) (a : Reg) (i : BitVec 1)    -- QLD (R382)
  | qst (m : Mark) (a : Reg) (i : BitVec 1)    -- QST (R383)
  | vadd (m : Mark) (d a b : Reg) (t : BitVec 1)    -- VADD (R390)
  | vsub (m : Mark) (d a b : Reg) (t : BitVec 1)    -- VSUB (R390)
  | vmul (m : Mark) (d a b : Reg) (t : BitVec 1)    -- VMUL (R390)
  | vfma (m : Mark) (d a b c : Reg) (t : BitVec 1)    -- VFMA (R390)
  | vmin (m : Mark) (d a b : Reg) (t : BitVec 1)    -- VMIN (R390)
  | vmax (m : Mark) (d a b : Reg) (t : BitVec 1)    -- VMAX (R390)
  | vdiv (m : Mark) (d a b : Reg) (t : BitVec 1)    -- VDIV (R390)
  | vabs (m : Mark) (d a : Reg) (t : BitVec 1)    -- VABS (R390)
  | vneg (m : Mark) (d a : Reg) (t : BitVec 1)    -- VNEG (R390)
  | vsqrt (m : Mark) (d a : Reg)    -- VSQRT (R392)
  | vrcp (m : Mark) (d a : Reg)    -- VRCP (R392)
  | vrsq (m : Mark) (d a : Reg)    -- VRSQ (R392)
  | vexp2 (m : Mark) (d a : Reg)    -- VEXP2 (R392)
  | vlog2 (m : Mark) (d a : Reg)    -- VLOG2 (R392)
  | vcvt (m : Mark) (d a : Reg) (p : BitVec 2)    -- VCVT (R394)
  | vand (m : Mark) (d a b : Reg)    -- VAND (R395)
  | vor (m : Mark) (d a b : Reg)    -- VOR (R395)
  | vxor (m : Mark) (d a b : Reg)    -- VXOR (R395)
  | vshl (m : Mark) (d a b : Reg)    -- VSHL (R395)
  | vshr (m : Mark) (d a b : Reg)    -- VSHR (R395)
  | vsra (m : Mark) (d a b : Reg)    -- VSRA (R395)
  | vcmp (m : Mark) (a b c : Reg)    -- VCMP (R397)
  | vsel (m : Mark) (d a b : Reg)    -- VSEL (R398)
  | vbcast (m : Mark) (d a : Reg)    -- VBCAST (R398)
  | vins (m : Mark) (d a : Reg) (n : BitVec 4)    -- VINS (R398)
  | vext (m : Mark) (d a : Reg) (n : BitVec 4)    -- VEXT (R398)
  | vperm (m : Mark) (d a b : Reg)    -- VPERM (R398)
  | vslide (m : Mark) (d a b : Reg) (n : BitVec 4)    -- VSLIDE (R398)
  | vredadd (m : Mark) (d a : Reg) (t : BitVec 1)    -- VREDADD (R401)
  | vredmax (m : Mark) (d a : Reg) (t : BitVec 1)    -- VREDMAX (R401)
  | vredmin (m : Mark) (d a : Reg) (t : BitVec 1)    -- VREDMIN (R401)
  | vscan (m : Mark) (d a : Reg) (t : BitVec 1)    -- VSCAN (R402)
  | vscanm (m : Mark) (d a : Reg) (t : BitVec 1)    -- VSCANM (R402)
  | vscanl (m : Mark) (d a b c : Reg)    -- VSCANL (R403)
  | mma (m : Mark) (d a b : Reg)    -- MMA (R411)
  | mzero (m : Mark) (d : Reg) (k : BitVec 1)    -- MZERO (R421)
  | mld (m : Mark) (d a b : Reg) (k : BitVec 1)    -- MLD (R422)
  | mst (m : Mark) (d a : Reg) (k : BitVec 1)    -- MST (R422)
  | mcommit (m : Mark)    -- MCOMMIT (R415)
  | mwaitb (m : Mark) (d : Reg) (n : BitVec 4)    -- MWAITB (R417)
  | mstat (m : Mark) (d b : Reg) (c : BitVec 1)    -- MSTAT (R417)
  | cbld (m : Mark) (a b : Reg) (k : BitVec 1)    -- CBLD (R423)
  | tableWalk (die entry : Nat)    -- TABLE_WALK (R24)
  | deferredResultLand (id : Nat)    -- DEFERRED_RESULT_LAND (R290)
  | acceptanceReturn (id : Nat)    -- ACCEPTANCE_RETURN (R294)
  | markerCommit (t : ThreadRef)    -- MARKER_COMMIT (R292)
  | storeAck (id : Nat)    -- STORE_ACK (R136)
  | clearance (id : Nat)    -- CLEARANCE (R164)
  | homeRequest (line : Nat)    -- HOME_REQUEST (R149)
  | invalidate (die home : Nat)    -- INVALIDATE (R148)
  | recallWords (die home : Nat)    -- RECALL_WORDS (R148)
  | recallAndDiscard (die home : Nat)    -- RECALL_AND_DISCARD (R148)
  | forwardWord (line word : Nat)    -- FORWARD_WORD (R153)
  | reservationGrant (line word : Nat)    -- RESERVATION_GRANT (R152)
  | fillReply (id : Nat)    -- FILL_REPLY (R160)
  | leaseExpiry (place : CopyPlace) (line : Nat)    -- LEASE_EXPIRY (R138)
  | bankOperation (core bank : Nat)    -- BANK_OPERATION (R67)
  | personalityChange (core bank : Nat)    -- PERSONALITY_CHANGE (R77)
  | link (core bank : Nat)    -- LINK (R81)
  | bankAluLineStep (core bank : Nat)    -- BANK_ALU_LINE_STEP (R97)
  | pinAccept (core bank : Nat)    -- PIN_ACCEPT (R412)
  | matrixStepStart (core : Nat)    -- MATRIX_STEP_START (R414)
  | matrixStepEnd (core : Nat)    -- MATRIX_STEP_END (R414)
  | heldWriteProceed (core bank : Nat)    -- HELD_WRITE_PROCEED (R413)
  | tileLoadDone (id : Nat)    -- TILE_LOAD_DONE (R422)
  | cbldDone (id : Nat)    -- CBLD_DONE (R423)
  | mxvAccept (core : Nat)    -- MXV_ACCEPT (R380)
  | mxvEntryReserve (core : Nat)    -- MXV_ENTRY_RESERVE (R132)
  | qldDataArrive (id : Nat)    -- QLD_DATA_ARRIVE (R114)
  | qdead (core : Nat)    -- QDEAD (R118)
  | rowStep (core cmd : Nat)    -- ROW_STEP (R102)
  | copyEngineTurn (stack : Nat)    -- COPY_ENGINE_TURN (R128)
  | traversalHop (core cmd : Nat)    -- TRAVERSAL_HOP (R130)
  | engineCompletion (core cmd : Nat)    -- ENGINE_COMPLETION (R124)
  | slotWake (t : ThreadRef)    -- SLOT_WAKE (R183)
  | messageInsert (core : Nat)    -- MESSAGE_INSERT (R199)
  | sendRetry (t : ThreadRef)    -- SEND_RETRY (R357)
  | sendAnswer (t : ThreadRef)    -- SEND_ANSWER (R357)
  | travelDepart (t : ThreadRef)    -- TRAVEL_DEPART (R190)
  | travelArrival (n : Nat)    -- TRAVEL_ARRIVAL (R192)
  | travelReturn (n : Nat)    -- TRAVEL_RETURN (R193)
  | spawnArrival (n : Nat)    -- SPAWN_ARRIVAL (R328)
  | quantumExpiry (core slot : Nat)    -- QUANTUM_EXPIRY (R224)
  | berthTake (core : Nat)    -- BERTH_TAKE (R220)
  | berthPrefetchDone (core berth : Nat)    -- BERTH_PREFETCH_DONE (R220)
  | slotTakesRider (core slot : Nat)    -- SLOT_TAKES_RIDER (R221)
  | batchHandout (die : Nat)    -- BATCH_HANDOUT (R216)
  | groupPlace (die : Nat)    -- GROUP_PLACE (R217)
  | gridComplete (gid : Nat)    -- GRID_COMPLETE (R214)
  | ctxkillComplete (n : Nat)    -- CTXKILL_COMPLETE (R445)
  | xinvComplete (t : ThreadRef)    -- XINV_COMPLETE (R33)
  | evacuationComplete (core : Nat)    -- EVACUATION_COMPLETE (R441)
  | accessPortDone (t : ThreadRef)    -- ACCESS_PORT_DONE (R432)
  | bootDone (trained : Bool) (portsUp : BitVec 16)    -- BOOT_DONE (R489)
  | rd (p : Packet)    -- RD (R450)
  | rdl (p : Packet)    -- RDL (R450)
  | wr (p : Packet)    -- WR (R450)
  | wrd (p : Packet)    -- WRD (R450)
  | atm (p : Packet)    -- ATM (R450)
  | data (p : Packet)    -- DATA (R450)
  | ack (p : Packet)    -- ACK (R450)
  | err (p : Packet)    -- ERR (R451)
  | bka (p : Packet)    -- BKA (R450)
  | coreWake (core : Nat)    -- CORE_WAKE (R490)
  | replay (die entry : Nat)    -- REPLAY (R39)
  | faultAction (die entry : Nat)    -- FAULT (R39)
  | engineResume (core cmd : Nat)    -- ENGINE_RESUME (R438)
  | engineEnd (core cmd : Nat)    -- ENGINE_END (R438)
  | dieFence (who : Agent) (die : Nat)    -- DIE_FENCE (R443)
  | dispatcherTimeout (die : Nat)    -- DISPATCHER_TIMEOUT (R443)
  | carveWrite (core : Nat) (v : Word)    -- CARVE_WRITE (R45)
  | ctxidWrite (who : Agent) (core : Nat) (v : Word)    -- CTXID_WRITE (R18)
  | xinvWrite (t : ThreadRef) (v : Word)    -- XINV_WRITE (R33)
  | bpcfgWrite (who : Agent) (core bank : Nat) (v : Word)    -- BPCFG_WRITE (R61)
  | vpoolWrite (quad : Nat) (v : Word)    -- VPOOL_WRITE (R47)
  | srtWrite (core n : Nat) (v : Word)    -- SRT_WRITE (R320)
  | evacGo (who : Agent) (core : Nat) (v : Word)    -- EVAC_GO (R440)
  | fwdClear (core : Nat)    -- FWD_CLEAR (R442)
  | resumeThread (t : ThreadRef)    -- RESUME (R434)
  | endThread (t : ThreadRef)    -- END (R434)
  | accessPortGo (t : ThreadRef) (v : Word)    -- ACCESS_PORT_GO (R432)
  | biasTableWrite (index : Nat) (v : Word)    -- BIAS_TABLE_WRITE (R460)
  | rsync (v : Word)    -- RSYNC (R465)
  | hkill (who : Agent) (v : Word)    -- HKILL (R465)
  | registerWrite (who : Agent) (off : Nat) (v : Word)    -- REGISTER_WRITE (R17)
  | powerOn    -- POWER_ON (R489)
  | cold (who : Agent)    -- COLD (R488)
  | warm (who : Agent)    -- WARM (R488)
  | refresh (pch dbank : Nat)    -- REFRESH (R492)
  | patrolScrub (place : ScrubPlace) (found : ScrubFind)    -- PATROL_SCRUB (R492)
  | recalibration (pch : Nat)    -- RECALIBRATION (R492)
  | telemetrySample (die : Nat) (pwr : BitVec 16) (temp : BitVec 8)    -- TELEMETRY_SAMPLE (R495)
  | powerWindow (exceeded : Bool)    -- POWER_WINDOW (R491)
  | coreIdle (core : Nat)    -- CORE_IDLE (R490)
  | stackSelfRefresh (stack : Nat)    -- STACK_SELF_REFRESH (R490)
  | linkRetraining (port : Nat) (result : PortState)    -- LINK_RETRAINING (R447)
  | flitResend (die : Nat)    -- FLIT_RESEND (R493)
  | noroute (tag : BitVec 16)    -- NOROUTE (R448)
  | rds (p : Packet)    -- RDS (R452)
  | rdx (p : Packet)    -- RDX (R452)
  | wb (p : Packet)    -- WB (R450)
  | snprsp (p : Packet)    -- SNPRSP (R452)
  | agentTimeout (line : Nat)    -- AGENT_TIMEOUT (R452)
  | parityError (die : Nat)    -- PARITY_ERROR (R493)
  | frontEndPop    -- FRONT_END_POP (R212)
  | pilotElection    -- PILOT_ELECTION (R215)
  | resyncRecordWritten    -- RESYNC_RECORD_WRITTEN (R214)
  deriving DecidableEq, Repr

end Sys2Proof
end

