-- ==== Sys2Proof/WellFormed.lean ====
section
/-! DEFINITION. Well-formedness of instructions: the limits that an instruction's own entry puts on its operand
fields, whatever thread issues it and whatever prefix stands before it. A word whose instruction is not well formed
raises ILL (R280). -/

namespace Sys2Proof

/-- The register numbers of the system-register map; every other number is reserved (R318). -/
def sysregKnown (n : BitVec 10) : Bool :=
  let k := n.toNat
  decide (k ≤ 0x004) || k == 0x008 || (decide (0x010 ≤ k) && decide (k ≤ 0x016)) ||
    (decide (0x020 ≤ k) && decide (k ≤ 0x02F)) || (decide (0x040 ≤ k) && decide (k ≤ 0x05F))

/-- Instruction words are the constructors with an encoding; the others are events. -/
def Instr.isWord : Instr → Bool
  | .nop => true
  | .brk _ _ => true
  | .trap _ _ => true
  | .eret _ => true
  | .rdsys _ _ _ => true
  | .wrsys _ _ _ => true
  | .susp _ _ => true
  | .resm _ _ => true
  | .rdslot _ _ _ => true
  | .wrslot _ _ _ => true
  | .ctxkill _ _ => true
  | .fmt _ _ _ _ _ => true
  | .rep _ _ _ _ => true
  | .lui _ _ _ => true
  | .add _ _ _ _ => true
  | .sub _ _ _ _ => true
  | .and _ _ _ _ => true
  | .or _ _ _ _ => true
  | .xor _ _ _ _ => true
  | .andn _ _ _ _ => true
  | .shl _ _ _ _ => true
  | .shr _ _ _ _ => true
  | .sra _ _ _ _ => true
  | .min _ _ _ _ => true
  | .max _ _ _ _ => true
  | .minu _ _ _ _ => true
  | .maxu _ _ _ _ => true
  | .clz _ _ _ => true
  | .ctz _ _ _ => true
  | .popc _ _ _ => true
  | .sext _ _ _ _ => true
  | .addi _ _ _ _ => true
  | .andi _ _ _ _ => true
  | .ori _ _ _ _ => true
  | .xori _ _ _ _ => true
  | .shli _ _ _ _ => true
  | .shri _ _ _ _ => true
  | .srai _ _ _ _ => true
  | .mul _ _ _ _ => true
  | .mulh _ _ _ _ => true
  | .mulhu _ _ _ _ => true
  | .div _ _ _ _ => true
  | .divu _ _ _ _ => true
  | .rem _ _ _ _ => true
  | .remu _ _ _ _ => true
  | .fadd _ _ _ _ _ => true
  | .fsub _ _ _ _ _ => true
  | .fmul _ _ _ _ _ => true
  | .fma _ _ _ _ _ => true
  | .fdiv _ _ _ _ _ => true
  | .fsqrt _ _ _ _ => true
  | .fmin _ _ _ _ _ => true
  | .fmax _ _ _ _ _ => true
  | .fcmp _ _ _ _ _ _ => true
  | .fcvt _ _ _ _ _ => true
  | .cmp _ _ _ _ _ _ => true
  | .cmpi _ _ _ _ _ _ => true
  | .bt _ _ _ => true
  | .bf _ _ _ => true
  | .j _ _ => true
  | .jal _ _ _ => true
  | .jr _ _ => true
  | .jalr _ _ _ => true
  | .ld _ _ _ _ _ _ => true
  | .st _ _ _ _ _ _ => true
  | .ldv _ _ _ _ _ => true
  | .stv _ _ _ _ _ => true
  | .aadd _ _ _ _ _ _ => true
  | .aand _ _ _ _ _ _ => true
  | .aor _ _ _ _ _ _ => true
  | .axor _ _ _ _ _ _ => true
  | .amin _ _ _ _ _ _ => true
  | .amax _ _ _ _ _ _ => true
  | .aswp _ _ _ _ _ _ => true
  | .acas _ _ _ _ _ _ => true
  | .afadd _ _ _ _ _ _ => true
  | .clean _ _ _ => true
  | .inval _ _ _ => true
  | .flush _ _ _ => true
  | .pref _ _ _ _ => true
  | .fenceAcq _ _ => true
  | .fenceRel _ _ => true
  | .fenceFull _ _ => true
  | .bar _ _ _ _ _ => true
  | .bara _ _ _ _ _ => true
  | .barw _ _ _ _ => true
  | .barx _ _ _ _ _ => true
  | .barq _ _ _ _ => true
  | .send _ _ _ _ _ => true
  | .recv _ _ => true
  | .waitm _ => true
  | .mbput _ _ _ _ _ => true
  | .mbget _ _ _ _ _ => true
  | .chainSet _ _ => true
  | .chainRel _ _ => true
  | .chainAcq _ _ => true
  | .spawn _ _ _ _ => true
  | .yield _ => true
  | .exit _ => true
  | .trig _ => true
  | .gwait _ => true
  | .migrate _ _ => true
  | .rqput _ _ _ _ => true
  | .bpush _ _ _ _ _ => true
  | .bpushn _ _ _ _ _ _ => true
  | .bpop _ _ _ _ _ => true
  | .bpeek _ _ _ _ _ => true
  | .bmput _ _ _ _ => true
  | .bmget _ _ _ _ => true
  | .bmdel _ _ _ _ => true
  | .bhput _ _ _ => true
  | .bhpop _ _ _ => true
  | .bhtop _ _ _ => true
  | .bgadd _ _ _ _ _ => true
  | .bgrd _ _ _ _ => true
  | .bgclr _ _ _ _ => true
  | .bpset _ _ _ _ => true
  | .blink _ _ _ _ => true
  | .bstat _ _ _ => true
  | .bvadd _ _ _ _ _ => true
  | .bvmul _ _ _ _ _ => true
  | .bvfma _ _ _ _ _ _ => true
  | .bvfill _ _ _ _ => true
  | .bvcvt _ _ _ _ => true
  | .bvsum _ _ _ _ _ => true
  | .bvrmax _ _ _ _ _ => true
  | .bsmx _ _ _ => true
  | .rowcpy _ _ _ _ => true
  | .rowset _ _ _ => true
  | .rowand _ _ _ _ => true
  | .rowor _ _ _ _ => true
  | .rowxor _ _ _ _ => true
  | .rownot _ _ _ _ => true
  | .rowmaj _ _ _ _ => true
  | .cpy _ _ _ _ => true
  | .walk _ _ _ _ => true
  | .mxv _ _ _ _ => true
  | .qld _ _ _ => true
  | .qst _ _ _ => true
  | .vadd _ _ _ _ _ => true
  | .vsub _ _ _ _ _ => true
  | .vmul _ _ _ _ _ => true
  | .vfma _ _ _ _ _ _ => true
  | .vmin _ _ _ _ _ => true
  | .vmax _ _ _ _ _ => true
  | .vdiv _ _ _ _ _ => true
  | .vabs _ _ _ _ => true
  | .vneg _ _ _ _ => true
  | .vsqrt _ _ _ => true
  | .vrcp _ _ _ => true
  | .vrsq _ _ _ => true
  | .vexp2 _ _ _ => true
  | .vlog2 _ _ _ => true
  | .vcvt _ _ _ _ => true
  | .vand _ _ _ _ => true
  | .vor _ _ _ _ => true
  | .vxor _ _ _ _ => true
  | .vshl _ _ _ _ => true
  | .vshr _ _ _ _ => true
  | .vsra _ _ _ _ => true
  | .vcmp _ _ _ _ => true
  | .vsel _ _ _ _ => true
  | .vbcast _ _ _ => true
  | .vins _ _ _ _ => true
  | .vext _ _ _ _ => true
  | .vperm _ _ _ _ => true
  | .vslide _ _ _ _ _ => true
  | .vredadd _ _ _ _ => true
  | .vredmax _ _ _ _ => true
  | .vredmin _ _ _ _ => true
  | .vscan _ _ _ _ => true
  | .vscanm _ _ _ _ => true
  | .vscanl _ _ _ _ _ => true
  | .mma _ _ _ _ => true
  | .mzero _ _ _ => true
  | .mld _ _ _ _ _ => true
  | .mst _ _ _ _ => true
  | .mcommit _ => true
  | .mwaitb _ _ _ => true
  | .mstat _ _ _ _ => true
  | .cbld _ _ _ _ => true
  | .tableWalk _ _ => false
  | .replay _ _ => false
  | .faultAction _ _ => false
  | .deferredResultLand _ => false
  | .acceptanceReturn _ => false
  | .markerCommit _ => false
  | .storeAck _ => false
  | .clearance _ => false
  | .homeRequest _ => false
  | .invalidate _ _ => false
  | .recallWords _ _ => false
  | .recallAndDiscard _ _ => false
  | .forwardWord _ _ => false
  | .reservationGrant _ _ => false
  | .fillReply _ => false
  | .leaseExpiry _ _ => false
  | .bankOperation _ _ => false
  | .personalityChange _ _ => false
  | .link _ _ => false
  | .bankAluLineStep _ _ => false
  | .pinAccept _ _ => false
  | .matrixStepStart _ => false
  | .matrixStepEnd _ => false
  | .heldWriteProceed _ _ => false
  | .tileLoadDone _ => false
  | .cbldDone _ => false
  | .mxvAccept _ => false
  | .mxvEntryReserve _ => false
  | .qldDataArrive _ => false
  | .qdead _ => false
  | .rowStep _ _ => false
  | .copyEngineTurn _ => false
  | .traversalHop _ _ => false
  | .engineCompletion _ _ => false
  | .engineResume _ _ => false
  | .engineEnd _ _ => false
  | .slotWake _ => false
  | .messageInsert _ => false
  | .sendRetry _ => false
  | .sendAnswer _ => false
  | .travelDepart _ => false
  | .travelArrival _ => false
  | .travelReturn _ => false
  | .spawnArrival _ => false
  | .quantumExpiry _ _ => false
  | .berthTake _ => false
  | .berthPrefetchDone _ _ => false
  | .slotTakesRider _ _ => false
  | .frontEndPop => false
  | .batchHandout _ => false
  | .groupPlace _ => false
  | .gridComplete _ => false
  | .pilotElection => false
  | .dieFence _ _ => false
  | .dispatcherTimeout _ => false
  | .ctxkillComplete _ => false
  | .carveWrite _ _ => false
  | .ctxidWrite _ _ _ => false
  | .xinvWrite _ _ => false
  | .xinvComplete _ => false
  | .bpcfgWrite _ _ _ _ => false
  | .vpoolWrite _ _ => false
  | .srtWrite _ _ _ => false
  | .evacGo _ _ _ => false
  | .evacuationComplete _ => false
  | .fwdClear _ => false
  | .resumeThread _ => false
  | .endThread _ => false
  | .accessPortGo _ _ => false
  | .accessPortDone _ => false
  | .biasTableWrite _ _ => false
  | .rsync _ => false
  | .resyncRecordWritten => false
  | .hkill _ _ => false
  | .registerWrite _ _ _ => false
  | .powerOn => false
  | .cold _ => false
  | .warm _ => false
  | .bootDone _ _ => false
  | .refresh _ _ => false
  | .patrolScrub _ _ => false
  | .recalibration _ => false
  | .telemetrySample _ _ _ => false
  | .powerWindow _ => false
  | .coreIdle _ => false
  | .coreWake _ => false
  | .stackSelfRefresh _ => false
  | .linkRetraining _ _ => false
  | .flitResend _ => false
  | .noroute _ => false
  | .rd _ => false
  | .rdl _ => false
  | .wr _ => false
  | .wrd _ => false
  | .atm _ => false
  | .bka _ => false
  | .rds _ => false
  | .rdx _ => false
  | .wb _ => false
  | .snprsp _ => false
  | .agentTimeout _ => false
  | .data _ => false
  | .ack _ => false
  | .err _ => false
  | .parityError _ => false

/-- The operand limits of each instruction's entry (R280): reserved policies R133, conditions R276 and R312, formats
R313, tile and predicate fields R349 and R407, even registers R274 and R356, paired fields R363, source ranges R375,
lane conditions R397, scopes R347. Events have no fields to limit. -/
def Instr.wf : Instr → Bool
  | .nop => true
  | .brk _ _ => true
  | .trap _ _ => true
  | .eret _ => true
  | .rdsys _ _ n => sysregKnown n
  | .wrsys _ _ n => sysregKnown n
  | .susp _ _ => true
  | .resm _ _ => true
  | .rdslot _ _ _ => true
  | .wrslot _ _ _ => true
  | .ctxkill _ _ => true
  | .fmt _ _ _ e c => c != 0 || e == 0
  | .rep _ _ _ _ => true
  | .lui _ _ _ => true
  | .add _ _ _ _ => true
  | .sub _ _ _ _ => true
  | .and _ _ _ _ => true
  | .or _ _ _ _ => true
  | .xor _ _ _ _ => true
  | .andn _ _ _ _ => true
  | .shl _ _ _ _ => true
  | .shr _ _ _ _ => true
  | .sra _ _ _ _ => true
  | .min _ _ _ _ => true
  | .max _ _ _ _ => true
  | .minu _ _ _ _ => true
  | .maxu _ _ _ _ => true
  | .clz _ _ _ => true
  | .ctz _ _ _ => true
  | .popc _ _ _ => true
  | .sext _ _ _ b => decide (b.toNat ≤ 2)
  | .addi _ _ _ _ => true
  | .andi _ _ _ _ => true
  | .ori _ _ _ _ => true
  | .xori _ _ _ _ => true
  | .shli _ _ _ _ => true
  | .shri _ _ _ _ => true
  | .srai _ _ _ _ => true
  | .mul _ _ _ _ => true
  | .mulh _ _ _ _ => true
  | .mulhu _ _ _ _ => true
  | .div _ _ _ _ => true
  | .divu _ _ _ _ => true
  | .rem _ _ _ _ => true
  | .remu _ _ _ _ => true
  | .fadd _ _ _ _ _ => true
  | .fsub _ _ _ _ _ => true
  | .fmul _ _ _ _ _ => true
  | .fma _ _ _ _ _ => true
  | .fdiv _ _ _ _ _ => true
  | .fsqrt _ _ _ _ => true
  | .fmin _ _ _ _ _ => true
  | .fmax _ _ _ _ _ => true
  | .fcmp _ d _ _ x _ => decide (x.toNat ≤ 4) && decide (d.toNat < 16)
  | .fcvt _ _ _ x _ => decide (1 ≤ x.toNat) && decide (x.toNat ≤ 14)
  | .cmp _ c _ _ _ _ => decide (c.toNat ≤ 5)
  | .cmpi _ c _ _ _ _ => decide (c.toNat ≤ 5)
  | .bt _ _ _ => true
  | .bf _ _ _ => true
  | .j _ _ => true
  | .jal _ _ _ => true
  | .jr _ _ => true
  | .jalr _ _ _ => true
  | .ld _ _ _ p _ _ => decide (p.toNat ≤ 5)
  | .st _ _ _ p _ _ => decide (p.toNat ≤ 5)
  | .ldv _ _ _ p _ => decide (p.toNat ≤ 5)
  | .stv _ _ _ p _ => decide (p.toNat ≤ 5)
  | .aadd _ _ _ p _ _ => decide (p.toNat ≤ 5)
  | .aand _ _ _ p _ _ => decide (p.toNat ≤ 5)
  | .aor _ _ _ p _ _ => decide (p.toNat ≤ 5)
  | .axor _ _ _ p _ _ => decide (p.toNat ≤ 5)
  | .amin _ _ _ p _ _ => decide (p.toNat ≤ 5)
  | .amax _ _ _ p _ _ => decide (p.toNat ≤ 5)
  | .aswp _ _ _ p _ _ => decide (p.toNat ≤ 5)
  | .acas _ d _ p _ _ => decide (p.toNat ≤ 5) && decide (d.toNat % 2 = 0)
  | .afadd _ _ _ p _ _ => decide (p.toNat ≤ 5)
  | .clean _ _ _ => true
  | .inval _ _ _ => true
  | .flush _ _ _ => true
  | .pref _ d _ _ => d == 0 || d == 2 || d == 3
  | .fenceAcq _ sc => decide (sc.toNat ≤ 4)
  | .fenceRel _ sc => decide (sc.toNat ≤ 4)
  | .fenceFull _ sc => decide (sc.toNat ≤ 4)
  | .bar _ d _ _ sc => decide (sc.toNat ≤ 4) && decide (d.toNat < 16)
  | .bara _ d _ _ sc => decide (sc.toNat ≤ 4) && decide (d.toNat < 16)
  | .barw _ d _ sc => decide (sc.toNat ≤ 4) && decide (d.toNat < 16)
  | .barx _ d _ _ sc => decide (sc.toNat ≤ 4) && decide (d.toNat < 16)
  | .barq _ _ _ sc => decide (sc.toNat ≤ 4)
  | .send _ _ _ b _ => decide (b.toNat % 2 = 0)
  | .recv _ d => decide (d.toNat % 2 = 0)
  | .waitm _ => true
  | .mbput _ d _ b md => decide (d.toNat < 8) && (if md = 0 then b == 0 else decide (b.toNat < 16))
  | .mbget _ _ a b md => decide (a.toNat < 8) && (if md = 0 then b == 0 else decide (b.toNat < 16))
  | .chainSet _ _ => true
  | .chainRel _ _ => true
  | .chainAcq _ _ => true
  | .spawn _ _ _ _ => true
  | .yield _ => true
  | .exit _ => true
  | .trig _ => true
  | .gwait _ => true
  | .migrate _ _ => true
  | .rqput _ _ _ _ => true
  | .bpush _ _ _ z v => (v == 0) == (z == 0)
  | .bpushn _ d _ n z v => ((v == 0) == (z == 0)) && decide (d.toNat + n.toNat ≤ 31)
  | .bpop _ _ _ z v => (v == 0) == (z == 0)
  | .bpeek _ _ _ z v => (v == 0) == (z == 0)
  | .bmput _ _ _ _ => true
  | .bmget _ _ _ _ => true
  | .bmdel _ _ _ _ => true
  | .bhput _ _ _ => true
  | .bhpop _ _ _ => true
  | .bhtop _ _ _ => true
  | .bgadd _ _ _ b o => o == 0 || b == 0
  | .bgrd _ _ _ _ => true
  | .bgclr _ _ b l => l == 0 || b == 0
  | .bpset _ _ _ _ => true
  | .blink _ _ _ c => c != 0
  | .bstat _ _ _ => true
  | .bvadd _ _ _ _ _ => true
  | .bvmul _ _ _ _ _ => true
  | .bvfma _ _ _ _ _ _ => true
  | .bvfill _ _ _ _ => true
  | .bvcvt _ _ _ _ => true
  | .bvsum _ _ _ _ _ => true
  | .bvrmax _ _ _ _ _ => true
  | .bsmx _ _ _ => true
  | .rowcpy _ _ a b => a != 0 && decide (b.toNat ≤ 30)
  | .rowset _ _ b => decide (b.toNat ≤ 30)
  | .rowand _ _ a b => a != 0 && decide (a.toNat ≤ 30) && decide (b.toNat ≤ 30)
  | .rowor _ _ a b => a != 0 && decide (a.toNat ≤ 30) && decide (b.toNat ≤ 30)
  | .rowxor _ _ a b => a != 0 && decide (a.toNat ≤ 30) && decide (b.toNat ≤ 30)
  | .rownot _ _ a b => a != 0 && decide (b.toNat ≤ 30)
  | .rowmaj _ _ a b => a != 0 && decide (a.toNat ≤ 29) && decide (b.toNat ≤ 30)
  | .cpy _ _ _ b => decide (b.toNat ≤ 30)
  | .walk _ _ _ b => decide (b.toNat ≤ 30)
  | .mxv _ _ _ _ => true
  | .qld _ _ _ => true
  | .qst _ _ _ => true
  | .vadd _ _ _ _ _ => true
  | .vsub _ _ _ _ _ => true
  | .vmul _ _ _ _ _ => true
  | .vfma _ _ _ _ _ _ => true
  | .vmin _ _ _ _ _ => true
  | .vmax _ _ _ _ _ => true
  | .vdiv _ _ _ _ _ => true
  | .vabs _ _ _ _ => true
  | .vneg _ _ _ _ => true
  | .vsqrt _ _ _ => true
  | .vrcp _ _ _ => true
  | .vrsq _ _ _ => true
  | .vexp2 _ _ _ => true
  | .vlog2 _ _ _ => true
  | .vcvt _ _ _ _ => true
  | .vand _ _ _ _ => true
  | .vor _ _ _ _ => true
  | .vxor _ _ _ _ => true
  | .vshl _ _ _ _ => true
  | .vshr _ _ _ _ => true
  | .vsra _ _ _ _ => true
  | .vcmp _ _ _ c => decide (c.toNat ≤ 4) || (decide (16 ≤ c.toNat) && decide (c.toNat ≤ 21))
  | .vsel _ _ _ _ => true
  | .vbcast _ _ _ => true
  | .vins _ _ _ _ => true
  | .vext _ _ _ _ => true
  | .vperm _ _ _ _ => true
  | .vslide _ _ _ _ _ => true
  | .vredadd _ _ _ _ => true
  | .vredmax _ _ _ _ => true
  | .vredmin _ _ _ _ => true
  | .vscan _ _ _ _ => true
  | .vscanm _ _ _ _ => true
  | .vscanl _ _ _ _ _ => true
  | .mma _ d _ _ => decide (d.toNat < 16)
  | .mzero _ d _ => decide (d.toNat < 16)
  | .mld _ d _ b k => decide (d.toNat < 16) && (k == 1 || b == 0)
  | .mst _ d _ _ => decide (d.toNat < 16)
  | .mcommit _ => true
  | .mwaitb _ _ _ => true
  | .mstat _ _ b c => if c = 0 then b == 0 else decide (b.toNat < 16)
  | .cbld _ _ b k => k == 1 || b == 0
  | .tableWalk _ _ => true
  | .replay _ _ => true
  | .faultAction _ _ => true
  | .deferredResultLand _ => true
  | .acceptanceReturn _ => true
  | .markerCommit _ => true
  | .storeAck _ => true
  | .clearance _ => true
  | .homeRequest _ => true
  | .invalidate _ _ => true
  | .recallWords _ _ => true
  | .recallAndDiscard _ _ => true
  | .forwardWord _ _ => true
  | .reservationGrant _ _ => true
  | .fillReply _ => true
  | .leaseExpiry _ _ => true
  | .bankOperation _ _ => true
  | .personalityChange _ _ => true
  | .link _ _ => true
  | .bankAluLineStep _ _ => true
  | .pinAccept _ _ => true
  | .matrixStepStart _ => true
  | .matrixStepEnd _ => true
  | .heldWriteProceed _ _ => true
  | .tileLoadDone _ => true
  | .cbldDone _ => true
  | .mxvAccept _ => true
  | .mxvEntryReserve _ => true
  | .qldDataArrive _ => true
  | .qdead _ => true
  | .rowStep _ _ => true
  | .copyEngineTurn _ => true
  | .traversalHop _ _ => true
  | .engineCompletion _ _ => true
  | .engineResume _ _ => true
  | .engineEnd _ _ => true
  | .slotWake _ => true
  | .messageInsert _ => true
  | .sendRetry _ => true
  | .sendAnswer _ => true
  | .travelDepart _ => true
  | .travelArrival _ => true
  | .travelReturn _ => true
  | .spawnArrival _ => true
  | .quantumExpiry _ _ => true
  | .berthTake _ => true
  | .berthPrefetchDone _ _ => true
  | .slotTakesRider _ _ => true
  | .frontEndPop => true
  | .batchHandout _ => true
  | .groupPlace _ => true
  | .gridComplete _ => true
  | .pilotElection => true
  | .dieFence _ _ => true
  | .dispatcherTimeout _ => true
  | .ctxkillComplete _ => true
  | .carveWrite _ _ => true
  | .ctxidWrite _ _ _ => true
  | .xinvWrite _ _ => true
  | .xinvComplete _ => true
  | .bpcfgWrite _ _ _ _ => true
  | .vpoolWrite _ _ => true
  | .srtWrite _ _ _ => true
  | .evacGo _ _ _ => true
  | .evacuationComplete _ => true
  | .fwdClear _ => true
  | .resumeThread _ => true
  | .endThread _ => true
  | .accessPortGo _ _ => true
  | .accessPortDone _ => true
  | .biasTableWrite _ _ => true
  | .rsync _ => true
  | .resyncRecordWritten => true
  | .hkill _ _ => true
  | .registerWrite _ _ _ => true
  | .powerOn => true
  | .cold _ => true
  | .warm _ => true
  | .bootDone _ _ => true
  | .refresh _ _ => true
  | .patrolScrub _ _ => true
  | .recalibration _ => true
  | .telemetrySample _ _ _ => true
  | .powerWindow _ => true
  | .coreIdle _ => true
  | .coreWake _ => true
  | .stackSelfRefresh _ => true
  | .linkRetraining _ _ => true
  | .flitResend _ => true
  | .noroute _ => true
  | .rd _ => true
  | .rdl _ => true
  | .wr _ => true
  | .wrd _ => true
  | .atm _ => true
  | .bka _ => true
  | .rds _ => true
  | .rdx _ => true
  | .wb _ => true
  | .snprsp _ => true
  | .agentTimeout _ => true
  | .data _ => true
  | .ack _ => true
  | .err _ => true
  | .parityError _ => true

end Sys2Proof
end

