-- ==== Sys2Proof/Decode.lean ====
section
/-! DEFINITION. The decoder and, after it, the encoder, both from the formats and the opcode map of chapter 12
(R269-R279). The decoder is total: it reads one 32-bit word, and rejects by name the words that are no instruction.
Field limits that an instruction's own entry sets are `Instr.wf` (R280). Fields are read as numbers, so that the
round trip is arithmetic. -/

namespace Sys2Proof

/-- Why a word is no instruction (R280). All three raise ILL when the word issues. -/
inductive DecodeError where
  /-- The major opcode is reserved (R279). -/
  | reservedMajor
  /-- The sub-opcode is not assigned in its group (R279). -/
  | reservedSub
  /-- A field that the instruction does not use, or a fixed bit of its row, is not as required (R270). -/
  | unusedBits
  deriving DecidableEq, Repr

/-- The n bits of w from bit lo up, as a number. -/
def bits (w : IWord) (lo n : Nat) : Nat := w.toNat / 2 ^ lo % 2 ^ n

/-- The n-bit field of w whose lowest bit is lo. -/
def fld (w : IWord) (lo n : Nat) : BitVec n := BitVec.ofNat n (w.toNat / 2 ^ lo)

/-- Bit 31, the switch marker (R269). -/
def mark (w : IWord) : Mark := decide (w.toNat / 2147483648 % 2 = 1)

/-- Major 0x00 (R279). -/
def decodeSystem (w : IWord) : Except DecodeError Instr :=
  match bits w 0 10 with
  | 0 => if w.toNat = 0 then .ok (.nop) else .error .unusedBits
  | 1 => if bits w 20 5 = 0 then .ok (.brk (mark w) (fld w 10 10)) else .error .unusedBits
  | 2 => if bits w 18 7 = 0 then .ok (.trap (mark w) (fld w 10 8)) else .error .unusedBits
  | 3 => if bits w 10 15 = 0 then .ok (.eret (mark w)) else .error .unusedBits
  | 4 => .ok (.rdsys (mark w) (fld w 20 5) (fld w 10 10))
  | 5 => .ok (.wrsys (mark w) (fld w 20 5) (fld w 10 10))
  | 6 => if bits w 10 5 = 0 ∧ bits w 20 5 = 0 then .ok (.susp (mark w) (fld w 15 5)) else .error .unusedBits
  | 7 => if bits w 10 5 = 0 ∧ bits w 20 5 = 0 then .ok (.resm (mark w) (fld w 15 5)) else .error .unusedBits
  | 8 => if bits w 10 5 = 0 then .ok (.rdslot (mark w) (fld w 20 5) (fld w 15 5)) else .error .unusedBits
  | 9 => if bits w 10 5 = 0 then .ok (.wrslot (mark w) (fld w 20 5) (fld w 15 5)) else .error .unusedBits
  | 10 => if bits w 10 5 = 0 ∧ bits w 20 5 = 0 then .ok (.ctxkill (mark w) (fld w 15 5)) else .error .unusedBits
  | _ => .error .reservedSub

/-- Major 0x04 (R279). -/
def decodeInteger (w : IWord) : Except DecodeError Instr :=
  match bits w 0 10 with
  | 0 => .ok (.add (mark w) (fld w 20 5) (fld w 15 5) (fld w 10 5))
  | 1 => .ok (.sub (mark w) (fld w 20 5) (fld w 15 5) (fld w 10 5))
  | 2 => .ok (.and (mark w) (fld w 20 5) (fld w 15 5) (fld w 10 5))
  | 3 => .ok (.or (mark w) (fld w 20 5) (fld w 15 5) (fld w 10 5))
  | 4 => .ok (.xor (mark w) (fld w 20 5) (fld w 15 5) (fld w 10 5))
  | 5 => .ok (.andn (mark w) (fld w 20 5) (fld w 15 5) (fld w 10 5))
  | 6 => .ok (.shl (mark w) (fld w 20 5) (fld w 15 5) (fld w 10 5))
  | 7 => .ok (.shr (mark w) (fld w 20 5) (fld w 15 5) (fld w 10 5))
  | 8 => .ok (.sra (mark w) (fld w 20 5) (fld w 15 5) (fld w 10 5))
  | 9 => .ok (.min (mark w) (fld w 20 5) (fld w 15 5) (fld w 10 5))
  | 10 => .ok (.max (mark w) (fld w 20 5) (fld w 15 5) (fld w 10 5))
  | 11 => .ok (.minu (mark w) (fld w 20 5) (fld w 15 5) (fld w 10 5))
  | 12 => .ok (.maxu (mark w) (fld w 20 5) (fld w 15 5) (fld w 10 5))
  | 13 => if bits w 10 5 = 0 then .ok (.clz (mark w) (fld w 20 5) (fld w 15 5)) else .error .unusedBits
  | 14 => if bits w 10 5 = 0 then .ok (.ctz (mark w) (fld w 20 5) (fld w 15 5)) else .error .unusedBits
  | 15 => if bits w 10 5 = 0 then .ok (.popc (mark w) (fld w 20 5) (fld w 15 5)) else .error .unusedBits
  | 16 => .ok (.sext (mark w) (fld w 20 5) (fld w 15 5) (fld w 10 5))
  | _ => .error .reservedSub

/-- Major 0x09 (R279). -/
def decodeShiftImm (w : IWord) : Except DecodeError Instr :=
  match bits w 6 2 with
  | 0 => if bits w 8 7 = 0 then .ok (.shli (mark w) (fld w 20 5) (fld w 15 5) (fld w 0 6)) else .error .unusedBits
  | 1 => if bits w 8 7 = 0 then .ok (.shri (mark w) (fld w 20 5) (fld w 15 5) (fld w 0 6)) else .error .unusedBits
  | 2 => if bits w 8 7 = 0 then .ok (.srai (mark w) (fld w 20 5) (fld w 15 5) (fld w 0 6)) else .error .unusedBits
  | _ => .error .reservedSub

/-- Major 0x0A (R279). -/
def decodeMulDiv (w : IWord) : Except DecodeError Instr :=
  match bits w 0 10 with
  | 0 => .ok (.mul (mark w) (fld w 20 5) (fld w 15 5) (fld w 10 5))
  | 1 => .ok (.mulh (mark w) (fld w 20 5) (fld w 15 5) (fld w 10 5))
  | 2 => .ok (.mulhu (mark w) (fld w 20 5) (fld w 15 5) (fld w 10 5))
  | 3 => .ok (.div (mark w) (fld w 20 5) (fld w 15 5) (fld w 10 5))
  | 4 => .ok (.divu (mark w) (fld w 20 5) (fld w 15 5) (fld w 10 5))
  | 5 => .ok (.rem (mark w) (fld w 20 5) (fld w 15 5) (fld w 10 5))
  | 6 => .ok (.remu (mark w) (fld w 20 5) (fld w 15 5) (fld w 10 5))
  | _ => .error .reservedSub

/-- Major 0x0B (R279). -/
def decodeScalarFloat (w : IWord) : Except DecodeError Instr :=
  match bits w 0 4 with
  | 0 => if bits w 5 5 = 0 then .ok (.fadd (mark w) (fld w 20 5) (fld w 15 5) (fld w 10 5) (fld w 4 1)) else .error .unusedBits
  | 1 => if bits w 5 5 = 0 then .ok (.fsub (mark w) (fld w 20 5) (fld w 15 5) (fld w 10 5) (fld w 4 1)) else .error .unusedBits
  | 2 => if bits w 5 5 = 0 then .ok (.fmul (mark w) (fld w 20 5) (fld w 15 5) (fld w 10 5) (fld w 4 1)) else .error .unusedBits
  | 3 => if bits w 5 5 = 0 then .ok (.fma (mark w) (fld w 20 5) (fld w 15 5) (fld w 10 5) (fld w 4 1)) else .error .unusedBits
  | 4 => if bits w 5 5 = 0 then .ok (.fdiv (mark w) (fld w 20 5) (fld w 15 5) (fld w 10 5) (fld w 4 1)) else .error .unusedBits
  | 5 => if bits w 5 10 = 0 then .ok (.fsqrt (mark w) (fld w 20 5) (fld w 15 5) (fld w 4 1)) else .error .unusedBits
  | 6 => if bits w 5 5 = 0 then .ok (.fmin (mark w) (fld w 20 5) (fld w 15 5) (fld w 10 5) (fld w 4 1)) else .error .unusedBits
  | 7 => if bits w 5 5 = 0 then .ok (.fmax (mark w) (fld w 20 5) (fld w 15 5) (fld w 10 5) (fld w 4 1)) else .error .unusedBits
  | 8 => .ok (.fcmp (mark w) (fld w 20 5) (fld w 15 5) (fld w 10 5) (fld w 5 5) (fld w 4 1))
  | 9 => if bits w 10 5 = 0 then .ok (.fcvt (mark w) (fld w 20 5) (fld w 15 5) (fld w 5 5) (fld w 4 1)) else .error .unusedBits
  | _ => .error .reservedSub

/-- Major 0x0E (R279). -/
def decodeBranch (w : IWord) : Except DecodeError Instr :=
  match bits w 20 1 with
  | 0 => .ok (.bf (mark w) (fld w 21 4) (fld w 0 20))
  | 1 => .ok (.bt (mark w) (fld w 21 4) (fld w 0 20))
  | _ => .error .reservedSub

/-- Major 0x11 (R279). -/
def decodeJumpReg (w : IWord) : Except DecodeError Instr :=
  match bits w 0 10 with
  | 0 => if bits w 10 5 = 0 ∧ bits w 20 5 = 0 then .ok (.jr (mark w) (fld w 15 5)) else .error .unusedBits
  | 1 => if bits w 10 5 = 0 then .ok (.jalr (mark w) (fld w 20 5) (fld w 15 5)) else .error .unusedBits
  | _ => .error .reservedSub

/-- Major 0x16 (R279). -/
def decodeAtomic (w : IWord) : Except DecodeError Instr :=
  match bits w 6 4 with
  | 0 => if bits w 0 2 = 0 ∧ bits w 11 1 = 1 then .ok (.aadd (mark w) (fld w 20 5) (fld w 15 5) (fld w 12 3) (fld w 10 1) (fld w 2 4)) else .error .unusedBits
  | 1 => if bits w 0 2 = 0 ∧ bits w 11 1 = 1 then .ok (.aand (mark w) (fld w 20 5) (fld w 15 5) (fld w 12 3) (fld w 10 1) (fld w 2 4)) else .error .unusedBits
  | 2 => if bits w 0 2 = 0 ∧ bits w 11 1 = 1 then .ok (.aor (mark w) (fld w 20 5) (fld w 15 5) (fld w 12 3) (fld w 10 1) (fld w 2 4)) else .error .unusedBits
  | 3 => if bits w 0 2 = 0 ∧ bits w 11 1 = 1 then .ok (.axor (mark w) (fld w 20 5) (fld w 15 5) (fld w 12 3) (fld w 10 1) (fld w 2 4)) else .error .unusedBits
  | 4 => if bits w 0 2 = 0 ∧ bits w 11 1 = 1 then .ok (.amin (mark w) (fld w 20 5) (fld w 15 5) (fld w 12 3) (fld w 10 1) (fld w 2 4)) else .error .unusedBits
  | 5 => if bits w 0 2 = 0 ∧ bits w 11 1 = 1 then .ok (.amax (mark w) (fld w 20 5) (fld w 15 5) (fld w 12 3) (fld w 10 1) (fld w 2 4)) else .error .unusedBits
  | 6 => if bits w 0 2 = 0 ∧ bits w 11 1 = 1 then .ok (.aswp (mark w) (fld w 20 5) (fld w 15 5) (fld w 12 3) (fld w 10 1) (fld w 2 4)) else .error .unusedBits
  | 7 => if bits w 0 2 = 0 ∧ bits w 11 1 = 1 then .ok (.acas (mark w) (fld w 20 5) (fld w 15 5) (fld w 12 3) (fld w 10 1) (fld w 2 4)) else .error .unusedBits
  | 8 => if bits w 0 2 = 0 ∧ bits w 11 1 = 1 then .ok (.afadd (mark w) (fld w 20 5) (fld w 15 5) (fld w 12 3) (fld w 10 1) (fld w 2 4)) else .error .unusedBits
  | _ => .error .reservedSub

/-- Major 0x17 (R279). -/
def decodeCache (w : IWord) : Except DecodeError Instr :=
  match bits w 0 10 with
  | 0 => if bits w 20 5 = 0 then .ok (.clean (mark w) (fld w 15 5) (fld w 10 5)) else .error .unusedBits
  | 1 => if bits w 20 5 = 0 then .ok (.inval (mark w) (fld w 15 5) (fld w 10 5)) else .error .unusedBits
  | 2 => if bits w 20 5 = 0 then .ok (.flush (mark w) (fld w 15 5) (fld w 10 5)) else .error .unusedBits
  | 3 => .ok (.pref (mark w) (fld w 20 5) (fld w 15 5) (fld w 10 5))
  | _ => .error .reservedSub

/-- Major 0x18 (R279). -/
def decodeFence (w : IWord) : Except DecodeError Instr :=
  match bits w 0 2 with
  | 0 => if bits w 5 20 = 0 then .ok (.fenceAcq (mark w) (fld w 2 3)) else .error .unusedBits
  | 1 => if bits w 5 20 = 0 then .ok (.fenceRel (mark w) (fld w 2 3)) else .error .unusedBits
  | 2 => if bits w 5 20 = 0 then .ok (.fenceFull (mark w) (fld w 2 3)) else .error .unusedBits
  | _ => .error .reservedSub

/-- Major 0x19 (R279). -/
def decodeBarrier (w : IWord) : Except DecodeError Instr :=
  match bits w 0 3 with
  | 0 => if bits w 6 4 = 0 then .ok (.bar (mark w) (fld w 20 5) (fld w 15 5) (fld w 10 5) (fld w 3 3)) else .error .unusedBits
  | 1 => if bits w 6 4 = 0 then .ok (.bara (mark w) (fld w 20 5) (fld w 15 5) (fld w 10 5) (fld w 3 3)) else .error .unusedBits
  | 2 => if bits w 6 9 = 0 then .ok (.barw (mark w) (fld w 20 5) (fld w 15 5) (fld w 3 3)) else .error .unusedBits
  | 3 => if bits w 6 4 = 0 then .ok (.barx (mark w) (fld w 20 5) (fld w 15 5) (fld w 10 5) (fld w 3 3)) else .error .unusedBits
  | 4 => if bits w 6 9 = 0 then .ok (.barq (mark w) (fld w 20 5) (fld w 15 5) (fld w 3 3)) else .error .unusedBits
  | _ => .error .reservedSub

/-- Major 0x1A (R279). -/
def decodeMessage (w : IWord) : Except DecodeError Instr :=
  match bits w 0 4 with
  | 0 => if bits w 5 5 = 0 then .ok (.send (mark w) (fld w 20 5) (fld w 15 5) (fld w 10 5) (fld w 4 1)) else .error .unusedBits
  | 1 => if bits w 4 16 = 0 then .ok (.recv (mark w) (fld w 20 5)) else .error .unusedBits
  | 2 => if bits w 4 21 = 0 then .ok (.waitm (mark w)) else .error .unusedBits
  | 3 => if bits w 5 5 = 0 then .ok (.mbput (mark w) (fld w 20 5) (fld w 15 5) (fld w 10 5) (fld w 4 1)) else .error .unusedBits
  | 4 => if bits w 5 5 = 0 then .ok (.mbget (mark w) (fld w 20 5) (fld w 15 5) (fld w 10 5) (fld w 4 1)) else .error .unusedBits
  | 5 =>
    match bits w 4 2 with
    | 0 => if bits w 4 11 = 0 ∧ bits w 20 5 = 0 then .ok (.chainSet (mark w) (fld w 15 5)) else .error .unusedBits
    | 1 => if bits w 4 11 = 1 ∧ bits w 20 5 = 0 then .ok (.chainRel (mark w) (fld w 15 5)) else .error .unusedBits
    | 2 => if bits w 4 16 = 2 then .ok (.chainAcq (mark w) (fld w 20 5)) else .error .unusedBits
    | _ => .error .reservedSub
  | _ => .error .reservedSub

/-- Major 0x1B (R279). -/
def decodeRider (w : IWord) : Except DecodeError Instr :=
  match bits w 0 10 with
  | 0 => .ok (.spawn (mark w) (fld w 20 5) (fld w 15 5) (fld w 10 5))
  | 1 => if bits w 10 15 = 0 then .ok (.yield (mark w)) else .error .unusedBits
  | 2 => if bits w 10 15 = 0 then .ok (.exit (mark w)) else .error .unusedBits
  | 3 => if bits w 10 15 = 0 then .ok (.trig (mark w)) else .error .unusedBits
  | 4 => if bits w 10 15 = 0 then .ok (.gwait (mark w)) else .error .unusedBits
  | 5 => if bits w 10 5 = 0 ∧ bits w 20 5 = 0 then .ok (.migrate (mark w) (fld w 15 5)) else .error .unusedBits
  | 6 => .ok (.rqput (mark w) (fld w 20 5) (fld w 15 5) (fld w 10 5))
  | _ => .error .reservedSub

/-- Major 0x1C (R279). -/
def decodeBankStructure (w : IWord) : Except DecodeError Instr :=
  match bits w 0 4 with
  | 0 => if bits w 7 8 = 0 then .ok (.bpush (mark w) (fld w 20 5) (fld w 15 5) (fld w 5 2) (fld w 4 1)) else .error .unusedBits
  | 1 => if bits w 9 6 = 0 then .ok (.bpushn (mark w) (fld w 20 5) (fld w 15 5) (fld w 7 2) (fld w 5 2) (fld w 4 1)) else .error .unusedBits
  | 2 => if bits w 7 8 = 0 then .ok (.bpop (mark w) (fld w 20 5) (fld w 15 5) (fld w 5 2) (fld w 4 1)) else .error .unusedBits
  | 3 => if bits w 7 8 = 0 then .ok (.bpeek (mark w) (fld w 20 5) (fld w 15 5) (fld w 5 2) (fld w 4 1)) else .error .unusedBits
  | 4 => if bits w 4 6 = 0 then .ok (.bmput (mark w) (fld w 20 5) (fld w 15 5) (fld w 10 5)) else .error .unusedBits
  | 5 => if bits w 4 6 = 0 then .ok (.bmget (mark w) (fld w 20 5) (fld w 15 5) (fld w 10 5)) else .error .unusedBits
  | 6 => if bits w 4 6 = 0 then .ok (.bmdel (mark w) (fld w 20 5) (fld w 15 5) (fld w 10 5)) else .error .unusedBits
  | 7 => if bits w 4 11 = 0 then .ok (.bhput (mark w) (fld w 20 5) (fld w 15 5)) else .error .unusedBits
  | 8 => if bits w 4 11 = 0 then .ok (.bhpop (mark w) (fld w 20 5) (fld w 15 5)) else .error .unusedBits
  | 9 => if bits w 4 11 = 0 then .ok (.bhtop (mark w) (fld w 20 5) (fld w 15 5)) else .error .unusedBits
  | 10 => if bits w 5 5 = 0 then .ok (.bgadd (mark w) (fld w 20 5) (fld w 15 5) (fld w 10 5) (fld w 4 1)) else .error .unusedBits
  | 11 => if bits w 4 6 = 0 then .ok (.bgrd (mark w) (fld w 20 5) (fld w 15 5) (fld w 10 5)) else .error .unusedBits
  | 12 => if bits w 5 5 = 0 ∧ bits w 20 5 = 0 then .ok (.bgclr (mark w) (fld w 15 5) (fld w 10 5) (fld w 4 1)) else .error .unusedBits
  | 13 => if bits w 4 6 = 0 then .ok (.bpset (mark w) (fld w 20 5) (fld w 15 5) (fld w 10 5)) else .error .unusedBits
  | 14 => if bits w 8 2 = 0 ∧ bits w 20 5 = 0 then .ok (.blink (mark w) (fld w 15 5) (fld w 10 5) (fld w 4 4)) else .error .unusedBits
  | 15 => if bits w 4 11 = 0 then .ok (.bstat (mark w) (fld w 20 5) (fld w 15 5)) else .error .unusedBits
  | _ => .error .reservedSub

/-- Major 0x1D (R279). -/
def decodeBankAlu (w : IWord) : Except DecodeError Instr :=
  match bits w 0 3 with
  | 0 => if bits w 4 1 = 0 ∧ bits w 20 5 = 0 then .ok (.bvadd (mark w) (fld w 15 5) (fld w 10 5) (fld w 5 5) (fld w 3 1)) else .error .unusedBits
  | 1 => if bits w 4 6 = 0 then .ok (.bvmul (mark w) (fld w 20 5) (fld w 15 5) (fld w 10 5) (fld w 3 1)) else .error .unusedBits
  | 2 => if bits w 4 1 = 0 then .ok (.bvfma (mark w) (fld w 20 5) (fld w 15 5) (fld w 10 5) (fld w 5 5) (fld w 3 1)) else .error .unusedBits
  | 3 => if bits w 3 2 = 0 ∧ bits w 20 5 = 0 then .ok (.bvfill (mark w) (fld w 15 5) (fld w 10 5) (fld w 5 5)) else .error .unusedBits
  | 4 => if bits w 3 1 = 0 ∧ bits w 5 5 = 0 ∧ bits w 20 5 = 0 then .ok (.bvcvt (mark w) (fld w 15 5) (fld w 10 5) (fld w 4 1)) else .error .unusedBits
  | 5 => if bits w 4 6 = 0 then .ok (.bvsum (mark w) (fld w 20 5) (fld w 15 5) (fld w 10 5) (fld w 3 1)) else .error .unusedBits
  | 6 => if bits w 4 6 = 0 then .ok (.bvrmax (mark w) (fld w 20 5) (fld w 15 5) (fld w 10 5) (fld w 3 1)) else .error .unusedBits
  | 7 => if bits w 3 7 = 0 ∧ bits w 20 5 = 0 then .ok (.bsmx (mark w) (fld w 15 5) (fld w 10 5)) else .error .unusedBits
  | _ => .error .reservedSub

/-- Major 0x1E (R279). -/
def decodeRow (w : IWord) : Except DecodeError Instr :=
  match bits w 0 3 with
  | 0 => if bits w 3 7 = 0 then .ok (.rowcpy (mark w) (fld w 20 5) (fld w 15 5) (fld w 10 5)) else .error .unusedBits
  | 1 => if bits w 3 7 = 0 ∧ bits w 15 5 = 0 then .ok (.rowset (mark w) (fld w 20 5) (fld w 10 5)) else .error .unusedBits
  | 2 => if bits w 3 7 = 0 then .ok (.rowand (mark w) (fld w 20 5) (fld w 15 5) (fld w 10 5)) else .error .unusedBits
  | 3 => if bits w 3 7 = 0 then .ok (.rowor (mark w) (fld w 20 5) (fld w 15 5) (fld w 10 5)) else .error .unusedBits
  | 4 => if bits w 3 7 = 0 then .ok (.rowxor (mark w) (fld w 20 5) (fld w 15 5) (fld w 10 5)) else .error .unusedBits
  | 5 => if bits w 3 7 = 0 then .ok (.rownot (mark w) (fld w 20 5) (fld w 15 5) (fld w 10 5)) else .error .unusedBits
  | 6 => if bits w 3 7 = 0 then .ok (.rowmaj (mark w) (fld w 20 5) (fld w 15 5) (fld w 10 5)) else .error .unusedBits
  | _ => .error .reservedSub

/-- Major 0x1F (R279). -/
def decodeQuay (w : IWord) : Except DecodeError Instr :=
  match bits w 0 3 with
  | 0 => if bits w 3 7 = 0 then .ok (.cpy (mark w) (fld w 20 5) (fld w 15 5) (fld w 10 5)) else .error .unusedBits
  | 1 => if bits w 3 7 = 0 then .ok (.walk (mark w) (fld w 20 5) (fld w 15 5) (fld w 10 5)) else .error .unusedBits
  | 2 => if bits w 3 7 = 0 then .ok (.mxv (mark w) (fld w 20 5) (fld w 15 5) (fld w 10 5)) else .error .unusedBits
  | 3 => if bits w 4 11 = 0 ∧ bits w 20 5 = 0 then .ok (.qld (mark w) (fld w 15 5) (fld w 3 1)) else .error .unusedBits
  | 4 => if bits w 4 11 = 0 ∧ bits w 20 5 = 0 then .ok (.qst (mark w) (fld w 15 5) (fld w 3 1)) else .error .unusedBits
  | _ => .error .reservedSub

/-- Major 0x20 (R279). -/
def decodeVectorArith (w : IWord) : Except DecodeError Instr :=
  match bits w 0 4 with
  | 0 => if bits w 5 5 = 0 then .ok (.vadd (mark w) (fld w 20 5) (fld w 15 5) (fld w 10 5) (fld w 4 1)) else .error .unusedBits
  | 1 => if bits w 5 5 = 0 then .ok (.vsub (mark w) (fld w 20 5) (fld w 15 5) (fld w 10 5) (fld w 4 1)) else .error .unusedBits
  | 2 => if bits w 5 5 = 0 then .ok (.vmul (mark w) (fld w 20 5) (fld w 15 5) (fld w 10 5) (fld w 4 1)) else .error .unusedBits
  | 3 => .ok (.vfma (mark w) (fld w 20 5) (fld w 15 5) (fld w 10 5) (fld w 5 5) (fld w 4 1))
  | 4 => if bits w 5 5 = 0 then .ok (.vmin (mark w) (fld w 20 5) (fld w 15 5) (fld w 10 5) (fld w 4 1)) else .error .unusedBits
  | 5 => if bits w 5 5 = 0 then .ok (.vmax (mark w) (fld w 20 5) (fld w 15 5) (fld w 10 5) (fld w 4 1)) else .error .unusedBits
  | 6 => if bits w 5 5 = 0 then .ok (.vdiv (mark w) (fld w 20 5) (fld w 15 5) (fld w 10 5) (fld w 4 1)) else .error .unusedBits
  | 7 => if bits w 5 10 = 0 then .ok (.vabs (mark w) (fld w 20 5) (fld w 15 5) (fld w 4 1)) else .error .unusedBits
  | 8 => if bits w 5 10 = 0 then .ok (.vneg (mark w) (fld w 20 5) (fld w 15 5) (fld w 4 1)) else .error .unusedBits
  | _ => .error .reservedSub

/-- Major 0x21 (R279). -/
def decodeVectorSpecial (w : IWord) : Except DecodeError Instr :=
  match bits w 0 5 with
  | 0 => if bits w 5 10 = 0 then .ok (.vsqrt (mark w) (fld w 20 5) (fld w 15 5)) else .error .unusedBits
  | 1 => if bits w 5 10 = 0 then .ok (.vrcp (mark w) (fld w 20 5) (fld w 15 5)) else .error .unusedBits
  | 2 => if bits w 5 10 = 0 then .ok (.vrsq (mark w) (fld w 20 5) (fld w 15 5)) else .error .unusedBits
  | 3 => if bits w 5 10 = 0 then .ok (.vexp2 (mark w) (fld w 20 5) (fld w 15 5)) else .error .unusedBits
  | 4 => if bits w 5 10 = 0 then .ok (.vlog2 (mark w) (fld w 20 5) (fld w 15 5)) else .error .unusedBits
  | 5 => if bits w 7 8 = 0 then .ok (.vcvt (mark w) (fld w 20 5) (fld w 15 5) (fld w 5 2)) else .error .unusedBits
  | _ => .error .reservedSub

/-- Major 0x22 (R279). -/
def decodeVectorLogic (w : IWord) : Except DecodeError Instr :=
  match bits w 0 5 with
  | 0 => if bits w 5 5 = 0 then .ok (.vand (mark w) (fld w 20 5) (fld w 15 5) (fld w 10 5)) else .error .unusedBits
  | 1 => if bits w 5 5 = 0 then .ok (.vor (mark w) (fld w 20 5) (fld w 15 5) (fld w 10 5)) else .error .unusedBits
  | 2 => if bits w 5 5 = 0 then .ok (.vxor (mark w) (fld w 20 5) (fld w 15 5) (fld w 10 5)) else .error .unusedBits
  | 3 => if bits w 5 5 = 0 then .ok (.vshl (mark w) (fld w 20 5) (fld w 15 5) (fld w 10 5)) else .error .unusedBits
  | 4 => if bits w 5 5 = 0 then .ok (.vshr (mark w) (fld w 20 5) (fld w 15 5) (fld w 10 5)) else .error .unusedBits
  | 5 => if bits w 5 5 = 0 then .ok (.vsra (mark w) (fld w 20 5) (fld w 15 5) (fld w 10 5)) else .error .unusedBits
  | _ => .error .reservedSub

/-- Major 0x23 (R279). -/
def decodeLane (w : IWord) : Except DecodeError Instr :=
  match bits w 0 5 with
  | 0 => if bits w 20 5 = 0 then .ok (.vcmp (mark w) (fld w 15 5) (fld w 10 5) (fld w 5 5)) else .error .unusedBits
  | 1 => if bits w 5 5 = 0 then .ok (.vsel (mark w) (fld w 20 5) (fld w 15 5) (fld w 10 5)) else .error .unusedBits
  | 2 => if bits w 5 10 = 0 then .ok (.vbcast (mark w) (fld w 20 5) (fld w 15 5)) else .error .unusedBits
  | 3 => if bits w 9 6 = 0 then .ok (.vins (mark w) (fld w 20 5) (fld w 15 5) (fld w 5 4)) else .error .unusedBits
  | 4 => if bits w 9 6 = 0 then .ok (.vext (mark w) (fld w 20 5) (fld w 15 5) (fld w 5 4)) else .error .unusedBits
  | 5 => if bits w 5 5 = 0 then .ok (.vperm (mark w) (fld w 20 5) (fld w 15 5) (fld w 10 5)) else .error .unusedBits
  | 6 => if bits w 9 1 = 0 then .ok (.vslide (mark w) (fld w 20 5) (fld w 15 5) (fld w 10 5) (fld w 5 4)) else .error .unusedBits
  | _ => .error .reservedSub

/-- Major 0x24 (R279). -/
def decodeScan (w : IWord) : Except DecodeError Instr :=
  match bits w 0 5 with
  | 0 => if bits w 6 9 = 0 then .ok (.vredadd (mark w) (fld w 20 5) (fld w 15 5) (fld w 5 1)) else .error .unusedBits
  | 1 => if bits w 6 9 = 0 then .ok (.vredmax (mark w) (fld w 20 5) (fld w 15 5) (fld w 5 1)) else .error .unusedBits
  | 2 => if bits w 6 9 = 0 then .ok (.vredmin (mark w) (fld w 20 5) (fld w 15 5) (fld w 5 1)) else .error .unusedBits
  | 3 => if bits w 6 9 = 0 then .ok (.vscan (mark w) (fld w 20 5) (fld w 15 5) (fld w 5 1)) else .error .unusedBits
  | 4 => if bits w 6 9 = 0 then .ok (.vscanm (mark w) (fld w 20 5) (fld w 15 5) (fld w 5 1)) else .error .unusedBits
  | 5 => .ok (.vscanl (mark w) (fld w 20 5) (fld w 15 5) (fld w 10 5) (fld w 5 5))
  | _ => .error .reservedSub

/-- Major 0x25 (R279). -/
def decodeMatrix (w : IWord) : Except DecodeError Instr :=
  match bits w 0 5 with
  | 0 => if bits w 5 5 = 0 then .ok (.mma (mark w) (fld w 20 5) (fld w 15 5) (fld w 10 5)) else .error .unusedBits
  | 1 => if bits w 6 14 = 0 then .ok (.mzero (mark w) (fld w 20 5) (fld w 5 1)) else .error .unusedBits
  | 2 => if bits w 6 4 = 0 then .ok (.mld (mark w) (fld w 20 5) (fld w 15 5) (fld w 10 5) (fld w 5 1)) else .error .unusedBits
  | 3 => if bits w 6 9 = 0 then .ok (.mst (mark w) (fld w 20 5) (fld w 15 5) (fld w 5 1)) else .error .unusedBits
  | 4 => if bits w 5 20 = 0 then .ok (.mcommit (mark w)) else .error .unusedBits
  | 5 => if bits w 9 11 = 0 then .ok (.mwaitb (mark w) (fld w 20 5) (fld w 5 4)) else .error .unusedBits
  | 6 => if bits w 6 4 = 0 ∧ bits w 15 5 = 0 then .ok (.mstat (mark w) (fld w 20 5) (fld w 10 5) (fld w 5 1)) else .error .unusedBits
  | 7 => if bits w 6 4 = 0 ∧ bits w 20 5 = 0 then .ok (.cbld (mark w) (fld w 15 5) (fld w 10 5) (fld w 5 1)) else .error .unusedBits
  | _ => .error .reservedSub

/-- The decoder (R269, R279): any word gives an instruction, or the name of what is wrong with it. -/
def decode (w : IWord) : Except DecodeError Instr :=
  match bits w 25 6 with
  | 0 => decodeSystem w
  | 1 => if bits w 2 3 = 0 ∧ bits w 31 1 = 0 then .ok (.fmt (fld w 20 5) (fld w 15 5) (fld w 10 5) (fld w 5 5) (fld w 0 2)) else .error .unusedBits
  | 2 => if bits w 0 2 = 0 ∧ bits w 31 1 = 0 then .ok (.rep (fld w 17 8) (fld w 12 5) (fld w 7 5) (fld w 2 5)) else .error .unusedBits
  | 3 => .ok (.lui (mark w) (fld w 20 5) (fld w 0 20))
  | 4 => decodeInteger w
  | 5 => .ok (.addi (mark w) (fld w 20 5) (fld w 15 5) (fld w 0 15))
  | 6 => .ok (.andi (mark w) (fld w 20 5) (fld w 15 5) (fld w 0 15))
  | 7 => .ok (.ori (mark w) (fld w 20 5) (fld w 15 5) (fld w 0 15))
  | 8 => .ok (.xori (mark w) (fld w 20 5) (fld w 15 5) (fld w 0 15))
  | 9 => decodeShiftImm w
  | 10 => decodeMulDiv w
  | 11 => decodeScalarFloat w
  | 12 => if bits w 0 5 = 0 then .ok (.cmp (mark w) (fld w 21 4) (fld w 19 2) (fld w 15 4) (fld w 10 5) (fld w 5 5)) else .error .unusedBits
  | 13 => .ok (.cmpi (mark w) (fld w 21 4) (fld w 19 2) (fld w 15 4) (fld w 10 5) (fld w 0 10))
  | 14 => decodeBranch w
  | 15 => .ok (.j (mark w) (fld w 0 25))
  | 16 => .ok (.jal (mark w) (fld w 20 5) (fld w 0 20))
  | 17 => decodeJumpReg w
  | 18 => .ok (.ld (mark w) (fld w 20 5) (fld w 15 5) (fld w 12 3) (fld w 10 2) (fld w 0 10))
  | 19 => .ok (.st (mark w) (fld w 20 5) (fld w 15 5) (fld w 12 3) (fld w 10 2) (fld w 0 10))
  | 20 => if bits w 10 2 = 0 then .ok (.ldv (mark w) (fld w 20 5) (fld w 15 5) (fld w 12 3) (fld w 0 10)) else .error .unusedBits
  | 21 => if bits w 10 2 = 0 then .ok (.stv (mark w) (fld w 20 5) (fld w 15 5) (fld w 12 3) (fld w 0 10)) else .error .unusedBits
  | 22 => decodeAtomic w
  | 23 => decodeCache w
  | 24 => decodeFence w
  | 25 => decodeBarrier w
  | 26 => decodeMessage w
  | 27 => decodeRider w
  | 28 => decodeBankStructure w
  | 29 => decodeBankAlu w
  | 30 => decodeRow w
  | 31 => decodeQuay w
  | 32 => decodeVectorArith w
  | 33 => decodeVectorSpecial w
  | 34 => decodeVectorLogic w
  | 35 => decodeLane w
  | 36 => decodeScan w
  | 37 => decodeMatrix w
  | _ => .error .reservedMajor

/-- The number that the encoding of an instruction word stands for: each field at its place in the row (R269-R279).
An event has no encoding. -/
def encodeNat : Instr → Option Nat
  | .nop => some (0)
  | .brk m c => some (1 + m.toNat * 2147483648 + c.toNat * 1024)
  | .trap m c => some (2 + m.toNat * 2147483648 + c.toNat * 1024)
  | .eret m => some (3 + m.toNat * 2147483648)
  | .rdsys m d n => some (4 + m.toNat * 2147483648 + d.toNat * 1048576 + n.toNat * 1024)
  | .wrsys m d n => some (5 + m.toNat * 2147483648 + d.toNat * 1048576 + n.toNat * 1024)
  | .susp m a => some (6 + m.toNat * 2147483648 + a.toNat * 32768)
  | .resm m a => some (7 + m.toNat * 2147483648 + a.toNat * 32768)
  | .rdslot m d a => some (8 + m.toNat * 2147483648 + d.toNat * 1048576 + a.toNat * 32768)
  | .wrslot m d a => some (9 + m.toNat * 2147483648 + d.toNat * 1048576 + a.toNat * 32768)
  | .ctxkill m a => some (10 + m.toNat * 2147483648 + a.toNat * 32768)
  | .fmt a b d e c => some (33554432 + a.toNat * 1048576 + b.toNat * 32768 + d.toNat * 1024 + e.toNat * 32 + c.toNat)
  | .rep c d a b => some (67108864 + c.toNat * 131072 + d.toNat * 4096 + a.toNat * 128 + b.toNat * 4)
  | .lui m d i => some (100663296 + m.toNat * 2147483648 + d.toNat * 1048576 + i.toNat)
  | .add m d a b => some (134217728 + m.toNat * 2147483648 + d.toNat * 1048576 + a.toNat * 32768 + b.toNat * 1024)
  | .sub m d a b => some (134217729 + m.toNat * 2147483648 + d.toNat * 1048576 + a.toNat * 32768 + b.toNat * 1024)
  | .and m d a b => some (134217730 + m.toNat * 2147483648 + d.toNat * 1048576 + a.toNat * 32768 + b.toNat * 1024)
  | .or m d a b => some (134217731 + m.toNat * 2147483648 + d.toNat * 1048576 + a.toNat * 32768 + b.toNat * 1024)
  | .xor m d a b => some (134217732 + m.toNat * 2147483648 + d.toNat * 1048576 + a.toNat * 32768 + b.toNat * 1024)
  | .andn m d a b => some (134217733 + m.toNat * 2147483648 + d.toNat * 1048576 + a.toNat * 32768 + b.toNat * 1024)
  | .shl m d a b => some (134217734 + m.toNat * 2147483648 + d.toNat * 1048576 + a.toNat * 32768 + b.toNat * 1024)
  | .shr m d a b => some (134217735 + m.toNat * 2147483648 + d.toNat * 1048576 + a.toNat * 32768 + b.toNat * 1024)
  | .sra m d a b => some (134217736 + m.toNat * 2147483648 + d.toNat * 1048576 + a.toNat * 32768 + b.toNat * 1024)
  | .min m d a b => some (134217737 + m.toNat * 2147483648 + d.toNat * 1048576 + a.toNat * 32768 + b.toNat * 1024)
  | .max m d a b => some (134217738 + m.toNat * 2147483648 + d.toNat * 1048576 + a.toNat * 32768 + b.toNat * 1024)
  | .minu m d a b => some (134217739 + m.toNat * 2147483648 + d.toNat * 1048576 + a.toNat * 32768 + b.toNat * 1024)
  | .maxu m d a b => some (134217740 + m.toNat * 2147483648 + d.toNat * 1048576 + a.toNat * 32768 + b.toNat * 1024)
  | .clz m d a => some (134217741 + m.toNat * 2147483648 + d.toNat * 1048576 + a.toNat * 32768)
  | .ctz m d a => some (134217742 + m.toNat * 2147483648 + d.toNat * 1048576 + a.toNat * 32768)
  | .popc m d a => some (134217743 + m.toNat * 2147483648 + d.toNat * 1048576 + a.toNat * 32768)
  | .sext m d a b => some (134217744 + m.toNat * 2147483648 + d.toNat * 1048576 + a.toNat * 32768 + b.toNat * 1024)
  | .addi m d a i => some (167772160 + m.toNat * 2147483648 + d.toNat * 1048576 + a.toNat * 32768 + i.toNat)
  | .andi m d a i => some (201326592 + m.toNat * 2147483648 + d.toNat * 1048576 + a.toNat * 32768 + i.toNat)
  | .ori m d a i => some (234881024 + m.toNat * 2147483648 + d.toNat * 1048576 + a.toNat * 32768 + i.toNat)
  | .xori m d a i => some (268435456 + m.toNat * 2147483648 + d.toNat * 1048576 + a.toNat * 32768 + i.toNat)
  | .shli m d a n => some (301989888 + m.toNat * 2147483648 + d.toNat * 1048576 + a.toNat * 32768 + n.toNat)
  | .shri m d a n => some (301989952 + m.toNat * 2147483648 + d.toNat * 1048576 + a.toNat * 32768 + n.toNat)
  | .srai m d a n => some (301990016 + m.toNat * 2147483648 + d.toNat * 1048576 + a.toNat * 32768 + n.toNat)
  | .mul m d a b => some (335544320 + m.toNat * 2147483648 + d.toNat * 1048576 + a.toNat * 32768 + b.toNat * 1024)
  | .mulh m d a b => some (335544321 + m.toNat * 2147483648 + d.toNat * 1048576 + a.toNat * 32768 + b.toNat * 1024)
  | .mulhu m d a b => some (335544322 + m.toNat * 2147483648 + d.toNat * 1048576 + a.toNat * 32768 + b.toNat * 1024)
  | .div m d a b => some (335544323 + m.toNat * 2147483648 + d.toNat * 1048576 + a.toNat * 32768 + b.toNat * 1024)
  | .divu m d a b => some (335544324 + m.toNat * 2147483648 + d.toNat * 1048576 + a.toNat * 32768 + b.toNat * 1024)
  | .rem m d a b => some (335544325 + m.toNat * 2147483648 + d.toNat * 1048576 + a.toNat * 32768 + b.toNat * 1024)
  | .remu m d a b => some (335544326 + m.toNat * 2147483648 + d.toNat * 1048576 + a.toNat * 32768 + b.toNat * 1024)
  | .fadd m d a b p => some (369098752 + m.toNat * 2147483648 + d.toNat * 1048576 + a.toNat * 32768 + b.toNat * 1024 + p.toNat * 16)
  | .fsub m d a b p => some (369098753 + m.toNat * 2147483648 + d.toNat * 1048576 + a.toNat * 32768 + b.toNat * 1024 + p.toNat * 16)
  | .fmul m d a b p => some (369098754 + m.toNat * 2147483648 + d.toNat * 1048576 + a.toNat * 32768 + b.toNat * 1024 + p.toNat * 16)
  | .fma m d a b p => some (369098755 + m.toNat * 2147483648 + d.toNat * 1048576 + a.toNat * 32768 + b.toNat * 1024 + p.toNat * 16)
  | .fdiv m d a b p => some (369098756 + m.toNat * 2147483648 + d.toNat * 1048576 + a.toNat * 32768 + b.toNat * 1024 + p.toNat * 16)
  | .fsqrt m d a p => some (369098757 + m.toNat * 2147483648 + d.toNat * 1048576 + a.toNat * 32768 + p.toNat * 16)
  | .fmin m d a b p => some (369098758 + m.toNat * 2147483648 + d.toNat * 1048576 + a.toNat * 32768 + b.toNat * 1024 + p.toNat * 16)
  | .fmax m d a b p => some (369098759 + m.toNat * 2147483648 + d.toNat * 1048576 + a.toNat * 32768 + b.toNat * 1024 + p.toNat * 16)
  | .fcmp m d a b x p => some (369098760 + m.toNat * 2147483648 + d.toNat * 1048576 + a.toNat * 32768 + b.toNat * 1024 + x.toNat * 32 + p.toNat * 16)
  | .fcvt m d a x p => some (369098761 + m.toNat * 2147483648 + d.toNat * 1048576 + a.toNat * 32768 + x.toNat * 32 + p.toNat * 16)
  | .cmp m c k p a b => some (402653184 + m.toNat * 2147483648 + c.toNat * 2097152 + k.toNat * 524288 + p.toNat * 32768 + a.toNat * 1024 + b.toNat * 32)
  | .cmpi m c k p a i => some (436207616 + m.toNat * 2147483648 + c.toNat * 2097152 + k.toNat * 524288 + p.toNat * 32768 + a.toNat * 1024 + i.toNat)
  | .bt m q d => some (470810624 + m.toNat * 2147483648 + q.toNat * 2097152 + d.toNat)
  | .bf m q d => some (469762048 + m.toNat * 2147483648 + q.toNat * 2097152 + d.toNat)
  | .j m d => some (503316480 + m.toNat * 2147483648 + d.toNat)
  | .jal m d i => some (536870912 + m.toNat * 2147483648 + d.toNat * 1048576 + i.toNat)
  | .jr m a => some (570425344 + m.toNat * 2147483648 + a.toNat * 32768)
  | .jalr m d a => some (570425345 + m.toNat * 2147483648 + d.toNat * 1048576 + a.toNat * 32768)
  | .ld m d a p z o => some (603979776 + m.toNat * 2147483648 + d.toNat * 1048576 + a.toNat * 32768 + p.toNat * 4096 + z.toNat * 1024 + o.toNat)
  | .st m d a p z o => some (637534208 + m.toNat * 2147483648 + d.toNat * 1048576 + a.toNat * 32768 + p.toNat * 4096 + z.toNat * 1024 + o.toNat)
  | .ldv m d a p o => some (671088640 + m.toNat * 2147483648 + d.toNat * 1048576 + a.toNat * 32768 + p.toNat * 4096 + o.toNat)
  | .stv m d a p o => some (704643072 + m.toNat * 2147483648 + d.toNat * 1048576 + a.toNat * 32768 + p.toNat * 4096 + o.toNat)
  | .aadd m d a p z o => some (738199552 + m.toNat * 2147483648 + d.toNat * 1048576 + a.toNat * 32768 + p.toNat * 4096 + z.toNat * 1024 + o.toNat * 4)
  | .aand m d a p z o => some (738199616 + m.toNat * 2147483648 + d.toNat * 1048576 + a.toNat * 32768 + p.toNat * 4096 + z.toNat * 1024 + o.toNat * 4)
  | .aor m d a p z o => some (738199680 + m.toNat * 2147483648 + d.toNat * 1048576 + a.toNat * 32768 + p.toNat * 4096 + z.toNat * 1024 + o.toNat * 4)
  | .axor m d a p z o => some (738199744 + m.toNat * 2147483648 + d.toNat * 1048576 + a.toNat * 32768 + p.toNat * 4096 + z.toNat * 1024 + o.toNat * 4)
  | .amin m d a p z o => some (738199808 + m.toNat * 2147483648 + d.toNat * 1048576 + a.toNat * 32768 + p.toNat * 4096 + z.toNat * 1024 + o.toNat * 4)
  | .amax m d a p z o => some (738199872 + m.toNat * 2147483648 + d.toNat * 1048576 + a.toNat * 32768 + p.toNat * 4096 + z.toNat * 1024 + o.toNat * 4)
  | .aswp m d a p z o => some (738199936 + m.toNat * 2147483648 + d.toNat * 1048576 + a.toNat * 32768 + p.toNat * 4096 + z.toNat * 1024 + o.toNat * 4)
  | .acas m d a p z o => some (738200000 + m.toNat * 2147483648 + d.toNat * 1048576 + a.toNat * 32768 + p.toNat * 4096 + z.toNat * 1024 + o.toNat * 4)
  | .afadd m d a p z o => some (738200064 + m.toNat * 2147483648 + d.toNat * 1048576 + a.toNat * 32768 + p.toNat * 4096 + z.toNat * 1024 + o.toNat * 4)
  | .clean m a b => some (771751936 + m.toNat * 2147483648 + a.toNat * 32768 + b.toNat * 1024)
  | .inval m a b => some (771751937 + m.toNat * 2147483648 + a.toNat * 32768 + b.toNat * 1024)
  | .flush m a b => some (771751938 + m.toNat * 2147483648 + a.toNat * 32768 + b.toNat * 1024)
  | .pref m d a b => some (771751939 + m.toNat * 2147483648 + d.toNat * 1048576 + a.toNat * 32768 + b.toNat * 1024)
  | .fenceAcq m sc => some (805306368 + m.toNat * 2147483648 + sc.toNat * 4)
  | .fenceRel m sc => some (805306369 + m.toNat * 2147483648 + sc.toNat * 4)
  | .fenceFull m sc => some (805306370 + m.toNat * 2147483648 + sc.toNat * 4)
  | .bar m d a b sc => some (838860800 + m.toNat * 2147483648 + d.toNat * 1048576 + a.toNat * 32768 + b.toNat * 1024 + sc.toNat * 8)
  | .bara m d a b sc => some (838860801 + m.toNat * 2147483648 + d.toNat * 1048576 + a.toNat * 32768 + b.toNat * 1024 + sc.toNat * 8)
  | .barw m d a sc => some (838860802 + m.toNat * 2147483648 + d.toNat * 1048576 + a.toNat * 32768 + sc.toNat * 8)
  | .barx m d a b sc => some (838860803 + m.toNat * 2147483648 + d.toNat * 1048576 + a.toNat * 32768 + b.toNat * 1024 + sc.toNat * 8)
  | .barq m d a sc => some (838860804 + m.toNat * 2147483648 + d.toNat * 1048576 + a.toNat * 32768 + sc.toNat * 8)
  | .send m d a b md => some (872415232 + m.toNat * 2147483648 + d.toNat * 1048576 + a.toNat * 32768 + b.toNat * 1024 + md.toNat * 16)
  | .recv m d => some (872415233 + m.toNat * 2147483648 + d.toNat * 1048576)
  | .waitm m => some (872415234 + m.toNat * 2147483648)
  | .mbput m d a b md => some (872415235 + m.toNat * 2147483648 + d.toNat * 1048576 + a.toNat * 32768 + b.toNat * 1024 + md.toNat * 16)
  | .mbget m d a b md => some (872415236 + m.toNat * 2147483648 + d.toNat * 1048576 + a.toNat * 32768 + b.toNat * 1024 + md.toNat * 16)
  | .chainSet m a => some (872415237 + m.toNat * 2147483648 + a.toNat * 32768)
  | .chainRel m a => some (872415253 + m.toNat * 2147483648 + a.toNat * 32768)
  | .chainAcq m d => some (872415269 + m.toNat * 2147483648 + d.toNat * 1048576)
  | .spawn m d a b => some (905969664 + m.toNat * 2147483648 + d.toNat * 1048576 + a.toNat * 32768 + b.toNat * 1024)
  | .yield m => some (905969665 + m.toNat * 2147483648)
  | .exit m => some (905969666 + m.toNat * 2147483648)
  | .trig m => some (905969667 + m.toNat * 2147483648)
  | .gwait m => some (905969668 + m.toNat * 2147483648)
  | .migrate m a => some (905969669 + m.toNat * 2147483648 + a.toNat * 32768)
  | .rqput m d a b => some (905969670 + m.toNat * 2147483648 + d.toNat * 1048576 + a.toNat * 32768 + b.toNat * 1024)
  | .bpush m d a z v => some (939524096 + m.toNat * 2147483648 + d.toNat * 1048576 + a.toNat * 32768 + z.toNat * 32 + v.toNat * 16)
  | .bpushn m d a n z v => some (939524097 + m.toNat * 2147483648 + d.toNat * 1048576 + a.toNat * 32768 + n.toNat * 128 + z.toNat * 32 + v.toNat * 16)
  | .bpop m d a z v => some (939524098 + m.toNat * 2147483648 + d.toNat * 1048576 + a.toNat * 32768 + z.toNat * 32 + v.toNat * 16)
  | .bpeek m d a z v => some (939524099 + m.toNat * 2147483648 + d.toNat * 1048576 + a.toNat * 32768 + z.toNat * 32 + v.toNat * 16)
  | .bmput m d a b => some (939524100 + m.toNat * 2147483648 + d.toNat * 1048576 + a.toNat * 32768 + b.toNat * 1024)
  | .bmget m d a b => some (939524101 + m.toNat * 2147483648 + d.toNat * 1048576 + a.toNat * 32768 + b.toNat * 1024)
  | .bmdel m d a b => some (939524102 + m.toNat * 2147483648 + d.toNat * 1048576 + a.toNat * 32768 + b.toNat * 1024)
  | .bhput m d a => some (939524103 + m.toNat * 2147483648 + d.toNat * 1048576 + a.toNat * 32768)
  | .bhpop m d a => some (939524104 + m.toNat * 2147483648 + d.toNat * 1048576 + a.toNat * 32768)
  | .bhtop m d a => some (939524105 + m.toNat * 2147483648 + d.toNat * 1048576 + a.toNat * 32768)
  | .bgadd m d a b o => some (939524106 + m.toNat * 2147483648 + d.toNat * 1048576 + a.toNat * 32768 + b.toNat * 1024 + o.toNat * 16)
  | .bgrd m d a b => some (939524107 + m.toNat * 2147483648 + d.toNat * 1048576 + a.toNat * 32768 + b.toNat * 1024)
  | .bgclr m a b l => some (939524108 + m.toNat * 2147483648 + a.toNat * 32768 + b.toNat * 1024 + l.toNat * 16)
  | .bpset m d a b => some (939524109 + m.toNat * 2147483648 + d.toNat * 1048576 + a.toNat * 32768 + b.toNat * 1024)
  | .blink m a b c => some (939524110 + m.toNat * 2147483648 + a.toNat * 32768 + b.toNat * 1024 + c.toNat * 16)
  | .bstat m d a => some (939524111 + m.toNat * 2147483648 + d.toNat * 1048576 + a.toNat * 32768)
  | .bvadd m a b c t => some (973078528 + m.toNat * 2147483648 + a.toNat * 32768 + b.toNat * 1024 + c.toNat * 32 + t.toNat * 8)
  | .bvmul m d a b t => some (973078529 + m.toNat * 2147483648 + d.toNat * 1048576 + a.toNat * 32768 + b.toNat * 1024 + t.toNat * 8)
  | .bvfma m d a b c t => some (973078530 + m.toNat * 2147483648 + d.toNat * 1048576 + a.toNat * 32768 + b.toNat * 1024 + c.toNat * 32 + t.toNat * 8)
  | .bvfill m a b c => some (973078531 + m.toNat * 2147483648 + a.toNat * 32768 + b.toNat * 1024 + c.toNat * 32)
  | .bvcvt m a b r => some (973078532 + m.toNat * 2147483648 + a.toNat * 32768 + b.toNat * 1024 + r.toNat * 16)
  | .bvsum m d a b t => some (973078533 + m.toNat * 2147483648 + d.toNat * 1048576 + a.toNat * 32768 + b.toNat * 1024 + t.toNat * 8)
  | .bvrmax m d a b t => some (973078534 + m.toNat * 2147483648 + d.toNat * 1048576 + a.toNat * 32768 + b.toNat * 1024 + t.toNat * 8)
  | .bsmx m a b => some (973078535 + m.toNat * 2147483648 + a.toNat * 32768 + b.toNat * 1024)
  | .rowcpy m d a b => some (1006632960 + m.toNat * 2147483648 + d.toNat * 1048576 + a.toNat * 32768 + b.toNat * 1024)
  | .rowset m d b => some (1006632961 + m.toNat * 2147483648 + d.toNat * 1048576 + b.toNat * 1024)
  | .rowand m d a b => some (1006632962 + m.toNat * 2147483648 + d.toNat * 1048576 + a.toNat * 32768 + b.toNat * 1024)
  | .rowor m d a b => some (1006632963 + m.toNat * 2147483648 + d.toNat * 1048576 + a.toNat * 32768 + b.toNat * 1024)
  | .rowxor m d a b => some (1006632964 + m.toNat * 2147483648 + d.toNat * 1048576 + a.toNat * 32768 + b.toNat * 1024)
  | .rownot m d a b => some (1006632965 + m.toNat * 2147483648 + d.toNat * 1048576 + a.toNat * 32768 + b.toNat * 1024)
  | .rowmaj m d a b => some (1006632966 + m.toNat * 2147483648 + d.toNat * 1048576 + a.toNat * 32768 + b.toNat * 1024)
  | .cpy m d a b => some (1040187392 + m.toNat * 2147483648 + d.toNat * 1048576 + a.toNat * 32768 + b.toNat * 1024)
  | .walk m d a b => some (1040187393 + m.toNat * 2147483648 + d.toNat * 1048576 + a.toNat * 32768 + b.toNat * 1024)
  | .mxv m d a b => some (1040187394 + m.toNat * 2147483648 + d.toNat * 1048576 + a.toNat * 32768 + b.toNat * 1024)
  | .qld m a i => some (1040187395 + m.toNat * 2147483648 + a.toNat * 32768 + i.toNat * 8)
  | .qst m a i => some (1040187396 + m.toNat * 2147483648 + a.toNat * 32768 + i.toNat * 8)
  | .vadd m d a b t => some (1073741824 + m.toNat * 2147483648 + d.toNat * 1048576 + a.toNat * 32768 + b.toNat * 1024 + t.toNat * 16)
  | .vsub m d a b t => some (1073741825 + m.toNat * 2147483648 + d.toNat * 1048576 + a.toNat * 32768 + b.toNat * 1024 + t.toNat * 16)
  | .vmul m d a b t => some (1073741826 + m.toNat * 2147483648 + d.toNat * 1048576 + a.toNat * 32768 + b.toNat * 1024 + t.toNat * 16)
  | .vfma m d a b c t => some (1073741827 + m.toNat * 2147483648 + d.toNat * 1048576 + a.toNat * 32768 + b.toNat * 1024 + c.toNat * 32 + t.toNat * 16)
  | .vmin m d a b t => some (1073741828 + m.toNat * 2147483648 + d.toNat * 1048576 + a.toNat * 32768 + b.toNat * 1024 + t.toNat * 16)
  | .vmax m d a b t => some (1073741829 + m.toNat * 2147483648 + d.toNat * 1048576 + a.toNat * 32768 + b.toNat * 1024 + t.toNat * 16)
  | .vdiv m d a b t => some (1073741830 + m.toNat * 2147483648 + d.toNat * 1048576 + a.toNat * 32768 + b.toNat * 1024 + t.toNat * 16)
  | .vabs m d a t => some (1073741831 + m.toNat * 2147483648 + d.toNat * 1048576 + a.toNat * 32768 + t.toNat * 16)
  | .vneg m d a t => some (1073741832 + m.toNat * 2147483648 + d.toNat * 1048576 + a.toNat * 32768 + t.toNat * 16)
  | .vsqrt m d a => some (1107296256 + m.toNat * 2147483648 + d.toNat * 1048576 + a.toNat * 32768)
  | .vrcp m d a => some (1107296257 + m.toNat * 2147483648 + d.toNat * 1048576 + a.toNat * 32768)
  | .vrsq m d a => some (1107296258 + m.toNat * 2147483648 + d.toNat * 1048576 + a.toNat * 32768)
  | .vexp2 m d a => some (1107296259 + m.toNat * 2147483648 + d.toNat * 1048576 + a.toNat * 32768)
  | .vlog2 m d a => some (1107296260 + m.toNat * 2147483648 + d.toNat * 1048576 + a.toNat * 32768)
  | .vcvt m d a p => some (1107296261 + m.toNat * 2147483648 + d.toNat * 1048576 + a.toNat * 32768 + p.toNat * 32)
  | .vand m d a b => some (1140850688 + m.toNat * 2147483648 + d.toNat * 1048576 + a.toNat * 32768 + b.toNat * 1024)
  | .vor m d a b => some (1140850689 + m.toNat * 2147483648 + d.toNat * 1048576 + a.toNat * 32768 + b.toNat * 1024)
  | .vxor m d a b => some (1140850690 + m.toNat * 2147483648 + d.toNat * 1048576 + a.toNat * 32768 + b.toNat * 1024)
  | .vshl m d a b => some (1140850691 + m.toNat * 2147483648 + d.toNat * 1048576 + a.toNat * 32768 + b.toNat * 1024)
  | .vshr m d a b => some (1140850692 + m.toNat * 2147483648 + d.toNat * 1048576 + a.toNat * 32768 + b.toNat * 1024)
  | .vsra m d a b => some (1140850693 + m.toNat * 2147483648 + d.toNat * 1048576 + a.toNat * 32768 + b.toNat * 1024)
  | .vcmp m a b c => some (1174405120 + m.toNat * 2147483648 + a.toNat * 32768 + b.toNat * 1024 + c.toNat * 32)
  | .vsel m d a b => some (1174405121 + m.toNat * 2147483648 + d.toNat * 1048576 + a.toNat * 32768 + b.toNat * 1024)
  | .vbcast m d a => some (1174405122 + m.toNat * 2147483648 + d.toNat * 1048576 + a.toNat * 32768)
  | .vins m d a n => some (1174405123 + m.toNat * 2147483648 + d.toNat * 1048576 + a.toNat * 32768 + n.toNat * 32)
  | .vext m d a n => some (1174405124 + m.toNat * 2147483648 + d.toNat * 1048576 + a.toNat * 32768 + n.toNat * 32)
  | .vperm m d a b => some (1174405125 + m.toNat * 2147483648 + d.toNat * 1048576 + a.toNat * 32768 + b.toNat * 1024)
  | .vslide m d a b n => some (1174405126 + m.toNat * 2147483648 + d.toNat * 1048576 + a.toNat * 32768 + b.toNat * 1024 + n.toNat * 32)
  | .vredadd m d a t => some (1207959552 + m.toNat * 2147483648 + d.toNat * 1048576 + a.toNat * 32768 + t.toNat * 32)
  | .vredmax m d a t => some (1207959553 + m.toNat * 2147483648 + d.toNat * 1048576 + a.toNat * 32768 + t.toNat * 32)
  | .vredmin m d a t => some (1207959554 + m.toNat * 2147483648 + d.toNat * 1048576 + a.toNat * 32768 + t.toNat * 32)
  | .vscan m d a t => some (1207959555 + m.toNat * 2147483648 + d.toNat * 1048576 + a.toNat * 32768 + t.toNat * 32)
  | .vscanm m d a t => some (1207959556 + m.toNat * 2147483648 + d.toNat * 1048576 + a.toNat * 32768 + t.toNat * 32)
  | .vscanl m d a b c => some (1207959557 + m.toNat * 2147483648 + d.toNat * 1048576 + a.toNat * 32768 + b.toNat * 1024 + c.toNat * 32)
  | .mma m d a b => some (1241513984 + m.toNat * 2147483648 + d.toNat * 1048576 + a.toNat * 32768 + b.toNat * 1024)
  | .mzero m d k => some (1241513985 + m.toNat * 2147483648 + d.toNat * 1048576 + k.toNat * 32)
  | .mld m d a b k => some (1241513986 + m.toNat * 2147483648 + d.toNat * 1048576 + a.toNat * 32768 + b.toNat * 1024 + k.toNat * 32)
  | .mst m d a k => some (1241513987 + m.toNat * 2147483648 + d.toNat * 1048576 + a.toNat * 32768 + k.toNat * 32)
  | .mcommit m => some (1241513988 + m.toNat * 2147483648)
  | .mwaitb m d n => some (1241513989 + m.toNat * 2147483648 + d.toNat * 1048576 + n.toNat * 32)
  | .mstat m d b c => some (1241513990 + m.toNat * 2147483648 + d.toNat * 1048576 + b.toNat * 1024 + c.toNat * 32)
  | .cbld m a b k => some (1241513991 + m.toNat * 2147483648 + a.toNat * 32768 + b.toNat * 1024 + k.toNat * 32)
  | .tableWalk _ _ => none
  | .replay _ _ => none
  | .faultAction _ _ => none
  | .deferredResultLand _ => none
  | .acceptanceReturn _ => none
  | .markerCommit _ => none
  | .storeAck _ => none
  | .clearance _ => none
  | .homeRequest _ => none
  | .invalidate _ _ => none
  | .recallWords _ _ => none
  | .recallAndDiscard _ _ => none
  | .forwardWord _ _ => none
  | .reservationGrant _ _ => none
  | .fillReply _ => none
  | .leaseExpiry _ _ => none
  | .bankOperation _ _ => none
  | .personalityChange _ _ => none
  | .link _ _ => none
  | .bankAluLineStep _ _ => none
  | .pinAccept _ _ => none
  | .matrixStepStart _ => none
  | .matrixStepEnd _ => none
  | .heldWriteProceed _ _ => none
  | .tileLoadDone _ => none
  | .cbldDone _ => none
  | .mxvAccept _ => none
  | .mxvEntryReserve _ => none
  | .qldDataArrive _ => none
  | .qdead _ => none
  | .rowStep _ _ => none
  | .copyEngineTurn _ => none
  | .traversalHop _ _ => none
  | .engineCompletion _ _ => none
  | .engineResume _ _ => none
  | .engineEnd _ _ => none
  | .slotWake _ => none
  | .messageInsert _ => none
  | .sendRetry _ => none
  | .sendAnswer _ => none
  | .travelDepart _ => none
  | .travelArrival _ => none
  | .travelReturn _ => none
  | .spawnArrival _ => none
  | .quantumExpiry _ _ => none
  | .berthTake _ => none
  | .berthPrefetchDone _ _ => none
  | .slotTakesRider _ _ => none
  | .frontEndPop => none
  | .batchHandout _ => none
  | .groupPlace _ => none
  | .gridComplete _ => none
  | .pilotElection => none
  | .dieFence _ _ => none
  | .dispatcherTimeout _ => none
  | .ctxkillComplete _ => none
  | .carveWrite _ _ => none
  | .ctxidWrite _ _ _ => none
  | .xinvWrite _ _ => none
  | .xinvComplete _ => none
  | .bpcfgWrite _ _ _ _ => none
  | .vpoolWrite _ _ => none
  | .srtWrite _ _ _ => none
  | .evacGo _ _ _ => none
  | .evacuationComplete _ => none
  | .fwdClear _ => none
  | .resumeThread _ => none
  | .endThread _ => none
  | .accessPortGo _ _ => none
  | .accessPortDone _ => none
  | .biasTableWrite _ _ => none
  | .rsync _ => none
  | .resyncRecordWritten => none
  | .hkill _ _ => none
  | .registerWrite _ _ _ => none
  | .powerOn => none
  | .cold _ => none
  | .warm _ => none
  | .bootDone _ _ => none
  | .refresh _ _ => none
  | .patrolScrub _ _ => none
  | .recalibration _ => none
  | .telemetrySample _ _ _ => none
  | .powerWindow _ => none
  | .coreIdle _ => none
  | .coreWake _ => none
  | .stackSelfRefresh _ => none
  | .linkRetraining _ _ => none
  | .flitResend _ => none
  | .noroute _ => none
  | .rd _ => none
  | .rdl _ => none
  | .wr _ => none
  | .wrd _ => none
  | .atm _ => none
  | .bka _ => none
  | .rds _ => none
  | .rdx _ => none
  | .wb _ => none
  | .snprsp _ => none
  | .agentTimeout _ => none
  | .data _ => none
  | .ack _ => none
  | .err _ => none
  | .parityError _ => none

/-- The encoding of an instruction word. -/
def encode (i : Instr) : Option IWord := (encodeNat i).map (BitVec.ofNat 32)

/-- A word from its four bytes, the lowest address first (R6, R269). -/
def wordOfBytes (b0 b1 b2 b3 : Byte) : IWord :=
  BitVec.ofNat 32 (b0.toNat + 256 * b1.toNat + 65536 * b2.toNat + 16777216 * b3.toNat)

/-- The decoder on bytes: the first four are the instruction word. -/
def decodeBytes : List Byte → Option Instr
  | b0 :: b1 :: b2 :: b3 :: _ =>
    match decode (wordOfBytes b0 b1 b2 b3) with
    | .ok i => some i
    | .error _ => none
  | _ => none

/-- What the decoder reads from a table row's bits. Every row with an encoding has 32 bits, laid out as four bytes,
the first at the lowest address; a row without an encoding has no bits to read. -/
def decodeTableWord (nbits w : Nat) : Option Instr :=
  if nbits = 0 then none
  else
    let v := w % 2 ^ nbits
    decodeBytes [BitVec.ofNat 8 v, BitVec.ofNat 8 (v / 256), BitVec.ofNat 8 (v / 65536),
      BitVec.ofNat 8 (v / 16777216)]

end Sys2Proof
end

