-- ==== Sys2Proof/Config.lean ====
section
/-! DEFINITION. What the manual leaves open and one package fixes: the free values of the model. Each is a constant
without a body, so that no proof can see its value. -/

namespace Sys2Proof

/-- The cycles that pass in step n of a run when the agenda does not say (R57: the figures bound time and do not fix
the moment; DESIGN CHOICE, log entry 2). -/
opaque Config.elapsed : Nat → Nat

/-- The free choice number n: which enabled move comes next when the agenda is empty (R161, R166; DESIGN CHOICE, log entry 1),
which way of a set is replaced (R43, R47, R49; DESIGN CHOICE, log entry 9). -/
opaque Config.choice : Nat → Nat

/-- The RESYNC word for the patrol-scrub position, after a number of lines scrubbed (R466 names it and gives no layout; DESIGN CHOICE, log entry 18). -/
opaque Config.scrubWord : Nat → BitVec 64

/-- The RESYNC word for the refresh state, after a number of refreshes (R466 names it and gives no layout; DESIGN CHOICE, log entry 18). -/
opaque Config.refreshWord : Nat → BitVec 64

/-- The fabric codewords that the FEC of a die's links has corrected since their last event, in step n of a run (R447, R494; DESIGN CHOICE, log entry 18). -/
opaque Config.fecCorrected : Nat → Nat

/-- The throttle as the percentage that telemetry shows, for a number of added cycles other than 0 (R495; DESIGN CHOICE, log entry 18). -/
opaque Config.throttlePercent : Nat → BitVec 8

end Sys2Proof
end

