-- ==== Sys2Proof/Machine/State.lean ====
section
/-! DEFINITION. The state of the package (plain data), the two kinds of stop, and the state after reset.

Sparse parts are association lists in one canonical form (Assoc.lean): keys strictly rising, no entry equal to the
default of its part. INVENTORY.md lists every field with its rule and its reset value. -/

namespace Sys2Proof.Machine

/-- A sparse table by number; an absent key reads as the table's default. -/
abbrev Assoc (α : Type) := List (Nat × α)

/-- Memory: bytes by offset; an unlisted offset reads 0 (R488; DESIGN CHOICE, log entry 6 for the banks). -/
abbrev Memory := List Host.Cell

/-- Why the machine stops with a fault: never. The part's own faults freeze a thread and the machine goes on (R426,
R427), and the manual names no event that stops the package for good: even after a failed boot it waits for the next
reset (R489). The type has no constructor, so no meaning can answer with a fault. -/
inductive Fault where
  deriving DecidableEq, Repr

/-- Why a step has no meaning. -/
inductive Refusal where
  /-- The instruction's meaning is not written: raised by its arm in Dispatch.lean only. Safe: nothing is proved of it. -/
  | notModelled (mnemonic : String)
  deriving DecidableEq, Repr

/-- The fault classes of R426. -/
inductive FaultClass where
  | ill | priv | align | xlat | perm | world | policy | poison | qdead | bankop | brk
  deriving DecidableEq, Repr

/-- A failure of an access: its class, its R37 cause (0 for classes without one), the address it names, and the
DETAIL of R429. -/
structure Fail where
  cls    : FaultClass
  cause  : Nat
  addr   : Nat
  detail : Nat
  deriving DecidableEq, Repr

/-- The file of a result's register (R433). -/
inductive RegFile where
  | g | v | none
  deriving DecidableEq, Repr

/-- What a result in flight belongs to: the six kinds of landing entry, then the kinds of the acceptance record
(R433). -/
inductive OutKind where
  | ld | ldv | atomic | struct | bankAlu | mxv
  | store | mmaPin | tile | cacheRange | qld | qst | engine | other
  deriving DecidableEq, Repr

/-- One result or acceptance that a thread still waits for or has not committed (R290, R294). The list of a thread is
in program order. -/
structure Out where
  id      : Nat               -- the access in flight
  kind    : OutKind
  entry   : Nat               -- landing entry 0-7, for the six landing kinds
  file    : RegFile
  reg     : Nat
  done    : Bool              -- landed, or accepted
  value   : Line
  bst     : Option (BitVec 3) -- status that commits (R66)
  flags   : BitVec 5          -- NV DZ OF UF NX that commit (R240)
  fail    : Option Fail
  act     : BitVec 2          -- ACT of R433
  discard : Bool              -- a younger instruction of the segment wrote the register (R292)
  lanes   : BitVec 16         -- lanes that commit, for an LDV (R338)
  addr    : Nat
  tile    : Nat
  step    : Nat
  chain   : Bool              -- the result is pushed downstream when it commits (R197)
  late    : Bool              -- the failure was found after the acceptance had returned (R295)
  deriving DecidableEq, Repr

/-- What a PARKED thread waits for (R183). -/
inductive Park where
  | marker                                   -- R292
  | unaccepted                               -- R294, 32 unaccepted accesses
  | release (scope : Nat)                    -- the conditions of R162 at a scope
  | reads                                    -- R163: earlier reads have returned their values
  | mailbox (n : Nat) (put : Bool)           -- R119
  | chainPop (n : Nat)                       -- R197
  | chainPush                                -- R197
  | message                                  -- R200
  | answer                                   -- R357
  | barrier (level obj d : Nat)              -- R352; the predicate that BARW or BAR names
  | fences                                   -- R162: a release fence before it is open
  | matrixQueue                              -- R412
  | pin (want : List (Nat × Nat))            -- R89: (bank, line) pins that the step needs
  | tile (n : Nat)                           -- R421
  | table                                    -- R423
  | batches (n : Nat)                        -- R415, R417
  | engineLimit                              -- R122
  | loadQueue                                -- R114
  | pops (n : Nat)                           -- R115
  | storeQueue                               -- R116
  | storeEmpty                               -- R116
  | xinv                                     -- R33
  | change                                   -- R45, R61, R47
  | fetch (va : Nat)                         -- R309: the address whose translation is awaited
  | settle (slot th : Nat)                   -- R323
  | grid                                     -- R205
  | copy (copied : Nat)                      -- R220: the input copy that a supervisor's resume makes again
  deriving DecidableEq, Repr

/-- Why a thread departs (R190, R195). -/
inductive Depart where
  | go (core : Nat)          -- a .go access: the pc names its unit
  | migrate (core : Nat)     -- MIGRATE: the pc names the next unit
  deriving DecidableEq, Repr

/-- What the thread would do were it neither suspended nor frozen (R183). -/
inductive Run where
  | free
  | ready
  | parked (w : Park)
  | departing (d : Depart)
  deriving DecidableEq, Repr

/-- The rider fields of SS and the launch attributes (R186, word 1, bits 63:32). -/
structure Status where
  priv  : BitVec 2
  ns    : Bool
  rnd   : BitVec 2
  flags : BitVec 5
  bst   : BitVec 3
  pp    : Bool
  repc  : BitVec 8
  prx   : Bool
  anch  : Bool
  stay  : Bool
  up    : Bool
  dn    : Bool
  prio  : BitVec 2
  roam  : Bool
  skp   : BitVec 2
  deriving DecidableEq, Repr

/-- The prefix descriptor (R287): the FMT and the REP word of the unit, 0 when absent. -/
structure Descriptor where
  fmt : IWord
  rep : IWord
  deriving DecidableEq, Repr

/-- The last fault of a thread (R429, R431). -/
structure FaultInfo where
  cls    : Option FaultClass
  cause  : Nat
  prec   : Bool
  entry  : Nat
  detail : Nat
  pf     : Bool
  accr   : Bool
  addr   : Nat
  deriving DecidableEq, Repr

/-- The access port (R430, R432). -/
structure Port where
  paddr  : Word
  pdata  : Word
  busy   : Bool
  done   : Bool
  cls    : BitVec 4
  cause  : BitVec 4
  pol    : BitVec 3
  size   : BitVec 2
  kind   : BitVec 2
  deriving DecidableEq, Repr

/-- A batch of matrix steps (R415). -/
structure Batch where
  num    : Nat
  closed : Bool
  live   : Nat          -- steps not yet ended
  uid    : Nat          -- names it among all batches, whatever its number
  failed : Bool
  flags  : BitVec 5
  deriving DecidableEq, Repr

/-- The matrix state of a slot (R415, R416). -/
structure MatrixStatus where
  fstep   : BitVec 16
  fbatch  : BitVec 8
  ftile   : BitVec 4
  fstat   : BitVec 2
  seq     : BitVec 8
  open_   : BitVec 16
  batches : List Batch
  deriving DecidableEq, Repr

/-- A load-queue entry (R114): reserved by an instruction, then filled. -/
structure LoadEntry where
  id     : Nat                   -- the access, or the MXV
  ready  : Bool
  data   : Line
  flags  : BitVec 5
  poison : Bool
  deriving DecidableEq, Repr

/-- How far a waiting instruction has come, for the unit to go on from when its thread is READY again. -/
inductive Progress where
  | none
  | asked (id : Nat)                       -- its request is under way: SEND, XINV, a register change
  | answered (v : Nat)                     -- the answer has come
  | arrived                                -- BAR: the arrival is made (R351)
  | leaving                                -- BAR, BARW, CHAIN.acq: it has acted, and its acquire fence is under way (R163, R352, R360)
  | faulted (f : FaultInfo)                -- a precise fault was found: the thread freezes after its marker steps (R297, R309)
  deriving DecidableEq, Repr

/-- A registration at a barrier (R350): level, object, phase of the arrival. -/
structure Registration where
  level : Nat
  obj   : Nat
  phase : Bool
  deriving DecidableEq, Repr

/-- Precise mode: the unit whose access the marker follows, as it issues again if the access fails (R296): its pc, REPC, PP and descriptor,
the entries of the chain and of the load queue that it popped, and the register that it incremented. -/
structure Back where
  pc     : Word
  repc   : BitVec 8
  pp     : Bool
  desc   : Descriptor
  popped : List Word
  loads  : List LoadEntry
  inc    : Option (Nat × Word)
  deriving DecidableEq, Repr

/-- A thread: its slot state and the context of its rider (R182, R184). -/
structure Thread where
  run     : Run
  susp    : Bool                -- SUSPENDED, or a suspension recorded while FROZEN (R183)
  froz    : Bool                -- FROZEN
  pc      : Word                -- bits 55:2 of a pc that can be fetched; others fail at the fetch (R21, R317)
  pw      : BitVec 32           -- lane mask 15:0, q0-q15 31:16
  ss      : Status
  g       : Assoc Word          -- g1-g31
  v       : Assoc Line          -- v0-v31
  desc    : Descriptor
  gid     : BitVec 16
  rid     : BitVec 32
  vsave   : Word                -- record word 35
  asave   : Word                -- record word 36
  outs    : List Out
  sack    : Nat                 -- store-acknowledge counter (R136)
  wbs     : List Nat            -- write-backs that its releases wait for (R142)
  dlines  : List Nat            -- record of deferred lines, oldest first (R141)
  mx      : MatrixStatus
  regs    : List Registration
  fault   : FaultInfo
  port    : Port
  prog    : Progress
  popped  : List Word           -- entries that g28 popped for the unit at pc, which waits (R197)
  claim   : Bool                -- a place of the downstream queue is its own, for the unit at pc (R197)
  arrival : Nat                 -- copies filled before this moment count as misses (R138)
  group   : Option (Nat × Nat)  -- grid key and group index of which the rider is a member (R188)
  index   : Nat                 -- rider index in the group (R187)
  trig    : Bool                -- triggered (R203)
  suspReq : Bool                -- a suspension that waits for the unit boundary (R322)
  stuck   : Bool                -- its travel for the access at pc was returned: it is made in place (R193)
  back    : Option Back         -- PRX: the unit whose access the marker follows (R296)
  deriving DecidableEq, Repr

/-- A message-queue entry (R199) or a message on its way. -/
structure Msg where
  w0     : Word
  w1     : Word
  tag    : BitVec 32
  system : Bool                 -- may use entries 60-63 (R199)
  engine : Bool                 -- an engine completion of the core's own quay die (R199)
  src    : Option ThreadRef     -- the sending thread, which waits for the answer (R357)
  try_   : Bool
  ctx    : Word                 -- the sender's CTXID
  lines  : List (Nat × Nat)     -- BLW address ranges that a completion reports (R127)
  cmd    : Option (Nat × Nat)   -- unit core and command slot of an engine completion
  came   : Nat                  -- the cycle of its arrival at its core (R199)
  id     : Nat                  -- the offer that its sender waits for (R357)
  deriving DecidableEq, Repr

/-- A barrier object (R348). -/
structure Barrier where
  phase   : Bool
  npart   : Nat
  arrived : Nat
  pend    : Nat
  waiters : Nat
  hold    : Bool
  err     : Bool
  wrote   : List (Nat × Nat)    -- BLW byte ranges that engines completed in this phase (R127)
  left    : List (Nat × Nat)    -- those of the phase that the registered threads are leaving (R127)
  deriving DecidableEq, Repr

/-- A bank ALU command (R90, R371). -/
structure AluCmd where
  fn   : Nat
  int  : Bool                   -- T
  sr   : Bool
  off  : Nat
  n    : Nat
  bad  : Bool                   -- the count word breaks a limit of R371
  nf   : Nat
  wide : Bool                   -- DIR
  st   : Nat
  vec  : Line
  sc   : BitVec 32
  rnd  : BitVec 2
  seed : Word
  deriving DecidableEq, Repr

/-- An operation that a bank performs (R67). -/
inductive BankCmd where
  | read (off n : Nat)
  | write (off n : Nat) (mask : BitVec 64) (d : Line)
  | vread (off n : Nat)                                -- vector accesses for arrays only (R339)
  | vwrite (off n : Nat) (mask : BitVec 64) (d : Line)
  | atomic (off n op : Nat) (x y : Word) (rnd : BitVec 2)
  | readLines (off n : Nat)
  | writeLines (off : Nat) (ls : List Line)
  | push (vec : Bool) (sz : Nat) (es : List Line)
  | pop (vec : Bool) (sz : Nat)
  | peek (vec : Bool) (sz : Nat)
  | mapPut (k v : Word)
  | mapGet (k : Word)
  | mapDel (k : Word)
  | heapPut (e : Word)
  | heapPop
  | heapTop
  | histAdd (v : Word) (c : BitVec 32)
  | histRead (i : Word)
  | histClear (i : Word)
  | histClearAll
  | change (w : Word)
  | link (names : List Lane)
  | stat
  | alu (c : AluCmd)
  | pin (step line : Nat)
  | vector (off n : Nat)
  | config (w : Word) (keepNs : Bool)
  | launch                                             -- the front end's pop of an entry group (R67, R209)
  deriving DecidableEq, Repr

/-- Who waits for a bank operation. -/
inductive BankSrc where
  | access (id : Nat)                 -- a thread's access in flight
  | host (p : Packet)                 -- a fabric request (R450)
  | writer (t : ThreadRef) (id : Nat)   -- a WRSYS, whose writer is parked (R45, R61)
  | agent                             -- a control-window write, the dispatcher
  | front                             -- the launch front end (R209)
  | step (core id : Nat)              -- a matrix step's pin
  deriving DecidableEq, Repr

/-- An operation in a bank's input queue, with what the checks of R15 need. -/
structure BankReq where
  src  : BankSrc
  cmd  : BankCmd
  t    : ThreadRef
  gid  : BitVec 16
  ns   : Bool
  priv : BitVec 2
  host : Bool
  fwd  : Bool              -- already admitted at the addressed bank and forwarded (R82, R83)
  addr : Nat               -- bank-window offset of the addressed bank (R84, R85)
  came : Nat               -- the cycle of its arrival (R67)
  bad  : Bool              -- the bytes that it stores carry a poison mark (R220, R446)
  deriving DecidableEq, Repr

/-- A bank ALU command in progress (R97). -/
structure AluRun where
  req   : BankReq
  c     : AluCmd
  step  : Nat
  acc   : List (BitVec 32)
  buf   : List (BitVec 32)
  m     : BitVec 32
  flags : BitVec 5
  deriving DecidableEq, Repr

/-- Parameters of a personality (R60, R62). -/
structure Params where
  pers : BitVec 3
  esz  : BitVec 2
  cap  : BitVec 13
  log  : BitVec 4
  sh   : BitVec 6
  deriving DecidableEq, Repr

/-- A personality change or link in progress: BUSY is set (R77, R81). -/
structure ChangeRun where
  req   : BankReq
  p     : Params
  mode  : Nat
  names : List (Nat × Nat)         -- a link: the named banks
  isLink : Bool
  carve : Bool                     -- part of a CARVE change (R45)
  deriving DecidableEq, Repr

/-- A bank and its controller (R60, R63, R67, R87). -/
structure Bank where
  ns    : Bool
  group : BitVec 16
  p     : Params
  busy  : Bool
  comp  : List (Nat × Nat)       -- the composite's banks, head first; empty when alone (R60, R81)
  head  : Nat                    -- queue HEAD (R64)
  count : Nat
  occ   : List Nat               -- occupied map slots, ascending (R63)
  upd   : Assoc (BitVec 8)       -- by line (R88)
  pin   : Assoc Nat              -- by line (R89)
  queue : List BankReq           -- at most 32 (R67)
  net   : List BankReq           -- further arrivals, which wait in the network (R58)
  alu   : Option AluRun
  chg   : Option ChangeRun
  facts : List (Bool × Bool)     -- launch queue: entry begins a push, pusher has the privilege mark (R208)
  deriving DecidableEq, Repr

/-- A tile or the codebook table: owner and record (R405, R419). Its data are kept beside it. -/
structure Tile where
  data   : List (BitVec 32)      -- 256 elements, or empty for all zero
  owner  : BitVec 32
  status : BitVec 2
  pend   : Nat
  batch  : BitVec 8
  step   : BitVec 16
  deriving DecidableEq, Repr

/-- A step of the matrix queue (R412). -/
structure MStep where
  id     : Nat                   -- names rise in issue order among steps, MLDs and CBLDs
  slot   : Nat
  rid    : BitVec 32
  batch  : Nat
  index  : Nat
  tile   : Nat
  fa     : Nat
  fb     : Nat
  scl    : Nat
  aAddr  : Nat                   -- bank-window offsets
  bAddr  : Nat
  sAddr  : Nat
  aVa    : Nat                   -- the operands' addresses as the instruction names them
  bVa    : Nat
  sVa    : Nat
  rnd    : BitVec 2
  want   : List (Nat × Nat)      -- (bank, line) pin requests not yet accepted
  pins   : List (Nat × Nat)      -- pins placed
  sent   : Bool                  -- its pin requests have left the slot
  started : Bool                 -- its lines have been read
  begun  : Nat                   -- orders the started steps by their start (R414)
  bid    : Nat                   -- uid of its batch
  aVal   : List Line             -- the operand lines as read
  bVal   : List Line
  sVal   : List Byte
  deriving DecidableEq, Repr

/-- A store-queue entry (R116): 16 elements in len bytes. -/
structure StoreEntry where
  len  : Nat
  data : Line
  deriving DecidableEq, Repr

/-- The four engine command kinds (R122). -/
inductive CmdKind where
  | cpy | row (fn : Nat) | walk | mxv
  deriving DecidableEq, Repr

/-- Where a command stands. -/
inductive CmdStage where
  | waiting                              -- R123: leaves once the issuer's stores are released
  | running
  | stopped (reason cause va : Nat)      -- R437
  | finished (status : Nat)              -- the completion is not yet sent (R124)
  deriving DecidableEq, Repr

/-- An engine command slot (R122, R438). -/
structure Cmd where
  id     : Nat
  kind   : CmdKind
  d      : Word
  srcs   : List Word
  comp   : Word
  opw    : Word
  stage  : CmdStage
  count  : Nat
  path   : Nat
  result : Nat
  ptr    : Word                          -- WALK: next address
  phase  : Nat                           -- WALK: 0 start, 1 following nodes, 2 table entry; MXV: 1 while its table loads
  pool   : Word
  ctx    : Word
  gid    : BitVec 16
  rid    : BitVec 32
  priv   : BitVec 2
  rnd    : BitVec 2
  t      : ThreadRef
  fa     : Nat
  fb     : Nat
  vec    : List Line                     -- MXV vector, read at acceptance (R131)
  book   : List Byte                     -- MXV codebook as at acceptance
  outs   : List (BitVec 32)              -- MXV rows done and not yet placed in an entry
  flags  : BitVec 5
  bad    : Bool                          -- an MXV row was poisoned in the entry being filled
  placed : Nat                           -- MXV: load-queue entries reserved
  wrote  : List (Nat × Nat)              -- BLW address ranges written (R127)
  next   : Nat                           -- rows: the next step to be sent (R102)
  ahead  : List Nat                      -- rows: steps performed before an earlier one of the command
  deriving DecidableEq, Repr

/-- The base states of R144. -/
inductive LineState where
  | inv | leased | shared | owned
  deriving DecidableEq, Repr

/-- An L1 copy (R43, R44): leased, shared, or the words that its core owns. -/
structure L1Line where
  st     : LineState
  own    : BitVec 16             -- state O: the words that it holds
  data   : Line
  miss   : BitVec 16             -- words that the copy does not hold: owned elsewhere when it was read (R145)
  fill   : Nat
  poison : Bool
  victim : Option Nat            -- pooled for this core (R47)
  way    : Nat                   -- its way of the set, which is a bank of the core (R43)
  old    : Bool                  -- a QST has written the line at its home since it was filled (R117, R168)
  deriving DecidableEq, Repr

/-- A die's L2 line (R144): base copy, owned words with their cores, deferred bytes. -/
structure L2Line where
  st     : LineState
  data   : Line
  own    : BitVec 16
  owners : Assoc Nat             -- owning core of each owned word (R50)
  miss   : BitVec 16             -- words that an L or S copy does not hold: owned elsewhere when it was read (R145)
  dmask  : BitVec 64
  ddata  : Line
  dns    : BitVec 64             -- the deferred bytes whose writers are non-secure (R449, R458)
  fill   : Nat
  len    : Nat
  poison : Bool
  old    : Bool                  -- a QST has written the line at its home since it was filled (R117, R168)
  deriving DecidableEq, Repr

/-- A line of an LLC slice, over the DRAM array (R51, R54). -/
structure LlcLine where
  data  : Line
  dirty : Bool                   -- modified: DRAM holds older bytes
  bad   : Bool                   -- poisoned (R446)
  deriving DecidableEq, Repr

/-- A leaf in a translation buffer (R32). -/
structure Leaf where
  asid  : BitVec 16
  vbase : Nat
  size  : Nat
  entry : Word
  loc   : Nat                    -- physical address of the entry
  deriving DecidableEq, Repr

/-- A row step that its command has sent (R102). -/
structure RowStep where
  core : Nat
  cmd  : Nat
  id   : Nat                        -- the command's name
  step : Nat
  rows : List Nat                   -- BLW offsets: the sources, then the destination
  deriving DecidableEq, Repr

/-- A write of XINV that has not ended (R33): its scope, kind, page and ASID, and the accesses and row steps it waits for. -/
structure Xinv where
  t     : ThreadRef
  v     : Word
  waits : List Nat
  rows  : List RowStep
  deriving DecidableEq, Repr

/-- Who waits in a coalescing entry (R35, R40). -/
inductive Waiter where
  | access (id : Nat)
  | fetch (t : ThreadRef)
  | args (gid : Nat)
  | engine (core cmd va : Nat) (wr : Bool)
  deriving DecidableEq, Repr

/-- A coalescing-table entry (R35, R38). -/
structure Coal where
  index   : Nat
  asid    : BitVec 16
  ctx     : Word
  vpn     : Nat
  miss    : Bool                 -- made by a miss: its key has no cause (R35)
  cause   : Nat                  -- 0 while no check of the miss has failed
  kind    : Nat                  -- KIND of R38
  va      : Nat
  core    : Nat
  slot    : Nat
  waiters : List Waiter
  sent    : Option Word          -- word 1 of its message, once sent (R38, R39)
  walking : Bool
  leaf    : Option Leaf          -- a buffered leaf whose DTY is to be set (R30)
  deriving DecidableEq, Repr

/-- What a home sends to a die (R148). -/
inductive HomeMsgKind where
  | invalidate
  | aliasCopy (pa : Nat)             -- alias invalidation: the line address that the write used (R147)
  | recall (words : BitVec 16)
  | discard (words : BitVec 16)
  deriving DecidableEq, Repr

/-- A message from the home of line `line` (a BLW line number) to a die; `op` says whose acknowledgement it is. -/
structure HomeMsg where
  line : Nat
  kind : HomeMsgKind
  op   : Nat                     -- 0: the home's request or row step in progress; else the write owed a clearance
  seq  : Nat                     -- orders the messages and replies of one home to one die (R148)
  deriving DecidableEq, Repr

/-- What a request asks of a home (R52, R145, R152, R450, R452). -/
inductive ReqKind where
  | own (words : BitVec 16)
  | readWt
  | readWi                       -- a tracked copy
  | write (pol : Nat) (mask : BitVec 64) (d : Line)
  | deferred (mask : BitVec 64) (d : Line)
  | reserve (word : Nat)
  | hostRead (kind : Nat)        -- 0 RD, 1 RDS, 2 RDX, 3 RDL
  | hostWrite (mask : BitVec 64) (d : Line)
  | evict                        -- the LLC needs the line's place (R54)
  | flip                         -- its page turns to host bias (R462, R463)
  deriving DecidableEq, Repr

/-- A request at a home. -/
structure HomeReq where
  id   : Nat                     -- access in flight, or 0
  t    : ThreadRef
  die  : Nat
  core : Nat
  pa   : Nat                     -- line address under the alias of the request
  words : BitVec 16              -- words that it touches (R134)
  kind : ReqKind
  ns   : Bool
  host : Option Packet
  bad  : Bool                    -- a write-back that carries a poison mark (R446)
  seq  : Nat                     -- its arrival among the requests of all lines (R153)
  bias : Bool                    -- the line was in host bias as it arrived (R463)
  deriving DecidableEq, Repr

/-- Who has a home ask the host's agent (R452, R461): a request or a reservation by its number, or a reader or writer whose act is made
at the home in one step. -/
inductive Asker where
  | req (seq : Nat)
  | engine (id : Nat)                    -- an engine command by its name
  | fetch (t : ThreadRef) (rid : BitVec 32)
  | walk (die entry : Nat)
  | port (t : ThreadRef)
  | args (key : Nat)                     -- the argument block of a grid
  deriving DecidableEq, Repr

/-- A snoop that is outstanding: its TAG, whom it is for, and whether it is SNPX (R452). -/
structure Snoop where
  tag  : BitVec 16
  who  : Asker
  excl : Bool
  deriving DecidableEq, Repr

/-- A reservation that the home has accepted (R152, R153). -/
structure Resv where
  word    : Nat                  -- the lowest word it asks for
  granted : Bool
  req     : HomeReq
  deriving DecidableEq, Repr

/-- A directory entry and its home's work on the line (R52, R149, R153). PEND is set while a request waits for
acknowledgements (`act`) or a `.wi` write for its sharers. -/
structure Home where
  odie   : Nat
  own    : BitVec 16
  shr    : BitVec 4
  queue  : List HomeReq
  act    : Option HomeReq        -- the request that waits for acknowledgements
  acks   : Nat
  resv   : List Resv             -- reservations in the order accepted (R153)
  snoop  : Option Snoop          -- the snoop outstanding (R452)
  snooped : List (Asker × Bool)  -- for whom, and for which kind of snoop, the agent has answered and nothing has been served yet
  asking : List Asker            -- those outside the queue that wait behind the snoop outstanding
  unanswered : List Asker        -- those whose wait the agent did not end in time, and who have not been told yet
  deriving DecidableEq, Repr

/-- A home's answer with a line, on its way to a die (R145, R148, R160). -/
structure Reply where
  data  : Line
  miss  : BitVec 16              -- words that are owned elsewhere, which it does not carry
  grant : BitVec 16              -- words whose ownership it brings
  share : Bool                   -- it brings a tracked copy
  bad   : Bool                   -- poisoned (R446)
  seq   : Nat
  deriving DecidableEq, Repr

/-- Where an access in flight stands. -/
inductive Stage where
  | coal                          -- waits in a coalescing entry (R35)
  | checked                       -- translated and checked: its acceptance is to return (R294)
  | atHome                        -- its request is at the home
  | reply (r : Reply)             -- the home has answered with the line
  | acked                         -- performed; the acknowledgement is on its way (R136)
  | atBank                        -- in the bank's input queue
  | atPeer                        -- on the fabric
  | landing                       -- its value is on its way to the thread (R290)
  | done
  deriving DecidableEq, Repr

/-- What an access does. -/
inductive AccKind where
  | load | store | atomic
  | range (fn line last : Nat)     -- CLEAN, INVAL, FLUSH (R344): the next line address and the last
  | writeBack                      -- deferred bytes on their way home (R142)
  | qld | qst
  | tileLoad (tile : Nat) | tileStore (tile : Nat) | bookLoad
  | fence (scope : Nat)            -- a release fence whose conditions do not hold yet (R162)
  | bank                           -- structure, bank ALU, MXV vector, pins
  | spawnRead
  | port (k : Nat)                 -- the access port's: 0 load, 1 store, 2 fetch (R432)
  deriving DecidableEq, Repr

/-- An access in flight. -/
structure Access where
  id    : Nat
  t     : ThreadRef
  kind  : AccKind
  stage : Stage
  va    : Nat
  pa    : Nat
  n     : Nat                       -- bytes
  pol   : Nat
  data  : Line
  mask  : BitVec 64                 -- bytes written, from va on
  aop   : Nat
  ordsc : Nat
  y     : Word                      -- ACAS new value
  fmt   : Nat                       -- memory format of a vector load (R337)
  value : Line                      -- what it read
  flags : BitVec 5
  bst   : Option (BitVec 3)
  poison : Bool
  fail  : Option Fail
  cmd   : Option BankCmd
  lines : List Line                 -- a tile or table transfer
  pas   : List Nat                  -- their line addresses, once all have been checked
  got   : Nat                       -- lines of it transferred
  gid   : BitVec 16
  ctx   : Word
  priv  : BitVec 2
  rnd   : BitVec 2
  rid   : BitVec 32
  leaf  : Nat                       -- page it was translated through
  sackd : Bool                      -- counts in the store-acknowledge counter
  waits : List Nat                  -- write-backs that its acknowledgement waits for (R345)
  scalar : Bool                     -- a scalar LD or ST (R17, R76)
  whole : Bool                      -- a vector access without FMT and with all lanes (R339)
  tag   : BitVec 16
  after : List Nat                  -- results that its address or data register awaits (R175)
  prx   : Bool                      -- issued in precise mode (R296)
  asked : Nat                       -- when its request left for a peer, among the names given (R160, R167)
  deriving DecidableEq, Repr

/-- A handle of the ready queue (R219); KINDs 1 and 2 carry their context. -/
structure Handle where
  kind  : Nat
  pri   : Nat
  rqp   : BitVec 2
  gid   : BitVec 16                 -- KIND 0: the group identifier of the slot that issued the RQPUT
  addr  : Nat
  ctx   : Option Thread
  slot  : Nat                       -- 0-6 any deck slot; 7 the quay pair; 8 the kernel slot
  pair  : Option Thread             -- the arithmetic thread of a quay rider
  first : Bool                      -- first rider of a group with an input region (R220)
  deriving DecidableEq, Repr

/-- A berth (R220). -/
structure Berth where
  handle  : Handle
  since   : Nat                     -- orders the berths by the time they were taken (R221)
  loaded  : Bool                    -- the context has landed
  lines   : List Line               -- the lines of the record and of the vector save area that have landed
  copied  : Nat                     -- input bytes copied
  fault   : Option Fail             -- the failure of its prefetch or its input copy (R220, R221)
  deriving DecidableEq, Repr

/-- A core (R182 and the per-core registers of R18). -/
structure Core where
  threads : Assoc Thread            -- 0-6 deck slots, 7 quay address, 8 quay arithmetic
  qntm    : Assoc (BitVec 32)       -- by slot (R224)
  qexp    : List (Nat × Nat)        -- slots whose counter has just expired, with the thread that did it
  carveK  : Nat
  carveRef : Bool
  carveBusy : Option (Nat × BankSrc)    -- new K of the change in progress, and its writer (R45)
  carveWait : List (Nat × BankSrc)      -- further writes
  lease   : BitVec 32
  seed    : Word
  ctxid   : Word
  cbtV    : Bool
  cbtOwner : BitVec 32
  tvec    : Word
  evTarget : BitVec 10
  evWhy   : BitVec 3
  evSt    : BitVec 2
  fwdV    : Bool
  fwdTarget : BitVec 10
  cycleOff : Word                   -- CYCLE = now + cycleOff
  srt     : Assoc (BitVec 32)
  wake    : List (BitVec 32)        -- RIDs whose WAKE is pending
  serial  : Nat
  rr      : Nat                     -- slot that issued last (R225)
  mbox    : Assoc Word
  mfull   : List Nat                -- full mailboxes
  mwait   : List (Nat × Bool × Nat) -- parked threads: mailbox, put, thread, in order
  chain   : List Word               -- inbound queue (R196)
  msgs    : List Msg
  ni      : List Msg                -- messages that wait for insertion (R199)
  inserted : Nat                    -- the cycle of the last insertion (R199)
  evq     : List Msg                -- events and fault messages that wait for entries (R201)
  rq      : List Handle             -- ready queue, in arrival order
  arrivals : List Handle            -- travel and SPAWN arrivals that wait for room (R192)
  berths  : Assoc (Option Berth)
  kernel  : Option (BitVec 32)      -- RID for which slot 0 is kept (R221)
  bars    : Assoc Barrier
  tlb     : List Leaf
  l1      : Assoc L1Line
  banks   : Assoc Bank
  tiles   : Assoc Tile
  book    : List Byte               -- codebook, 768 B, or empty for all zero
  bookLoad : Option Nat             -- a CBLD under way
  mq      : List MStep
  ldq     : List LoadEntry
  stq     : List StoreEntry
  cmds    : Assoc (Option Cmd)
  idle    : Bool                    -- clock gated (R490)
  killed  : Bool                    -- arrivals are discarded until CTXID is next written (R444)
  deriving DecidableEq, Repr

/-- A hand-out of group indices (R216). -/
structure HandOut where
  gid   : Nat                       -- key of the grid
  idxs  : List Nat
  deriving DecidableEq, Repr

/-- A die. -/
structure Die where
  fenced  : Bool
  batches : List HandOut
  coal    : List Coal
  coalWait : List Coal              -- misses that found the table full (R36)
  l2      : Assoc L2Line
  inbox   : List HomeMsg
  srid    : BitVec 32
  nrid    : BitVec 32
  counters : Assoc Word
  tsamp   : Word
  bars    : Assoc Barrier
  newest  : Assoc Nat               -- by peer line: the name given as its last reply or acknowledgement was taken (R160, R167)
  unsent  : List Msg                -- messages that wait for FSUP, with system tag by world in tag (R428)
  deriving DecidableEq, Repr

/-- A quad. -/
structure Quad where
  members : BitVec 4
  tlb     : List Leaf
  bars    : Assoc Barrier
  deriving DecidableEq, Repr

/-- A live group (R188). -/
structure Group where
  grid  : Nat
  index : Nat
  core  : Nat
  banks : BitVec 16
  live  : Nat                       -- riders not ended
  untrig : Nat                      -- riders neither triggered nor ended
  input : Bool                      -- its input copy has not ended: no rider is runnable (R220)
  deriving DecidableEq, Repr

/-- A grid in flight (R210, R213). -/
structure Grid where
  key    : Nat
  gid    : BitVec 16
  pri    : Nat
  roam   : Bool
  reissue : Bool
  prx    : Bool
  rnd    : BitVec 2
  priv   : BitVec 2
  kslot  : Bool
  ndeck  : Nat
  quay   : Bool
  banks  : BitVec 16
  ctx    : Word
  dentry : Addr
  aentry : Addr
  xentry : Addr
  size   : Word
  args   : Word
  ssz    : Nat
  sbase  : Nat
  pred   : Option Nat
  pgid   : BitVec 16
  insrc  : Word
  instride : Word
  inlen  : Nat
  inbank : Nat
  inoff  : Nat
  qbar   : BitVec 32
  dbar   : BitVec 32
  pbar   : BitVec 32
  inline : List Byte                -- argument bytes not yet stored (R211)
  argPos : Nat                      -- argument bytes stored
  argWait : Bool                    -- they wait in a coalescing entry
  argFail : Bool                    -- FAULT answered that entry
  started : Bool                    -- its first group has been dispatched
  next   : Nat
  back   : List Nat                 -- indices that a fence gave back (R218)
  placed : Nat
  ended  : Nat
  trigd  : List Nat                 -- indices triggered
  lost   : Nat
  noMore : Bool                     -- REISSUE = 0 and groups lost
  deriving DecidableEq, Repr

/-- A kill in progress (R444). -/
structure Kill where
  ns    : Bool
  asid  : BitVec 16
  ended : Nat
  issuer : Option ThreadRef          -- the issuer; none for HKILL
  tag   : BitVec 32
  waits : List Nat                   -- write-backs under way when it began (R445)
  deriving DecidableEq, Repr

/-- A travel packet, SPAWN arrival or returning packet in the network (R191, R193, R328). -/
structure Travel where
  id    : Nat
  dst   : Nat
  src   : Nat
  asid  : BitVec 16
  ns    : Bool
  ctx   : Thread
  spawn : Bool
  back  : Bool                      -- it returns to its source (R193)
  go    : Bool                      -- it travels for a .go access at its pc
  deriving DecidableEq, Repr

/-- What a SAVED rider stays a part of while only its record holds it (R184, R188, R325). -/
structure Saved where
  rid    : BitVec 32
  ns     : Bool
  asid   : BitVec 16
  group  : Option (Nat × Nat)
  index  : Nat
  trig   : Bool
  dlines : List Nat                 -- lines into which it has deferred bytes (R141)
  core   : Nat                      -- the core that it left
  arrival : Nat                     -- when it had arrived there (R138)
  wbs    : List Nat                 -- write-backs that its releases wait for (R142)
  deriving DecidableEq, Repr

/-- A SPAWN whose record is being read (R328). -/
structure Spawn where
  id    : Nat
  t     : ThreadRef
  rid   : BitVec 32
  dst   : Nat
  addr  : Nat
  deriving DecidableEq, Repr

/-- A write that is owed a clearance (R164). -/
structure Clear where
  id   : Nat
  t    : ThreadRef
  acks : Nat
  die  : Nat
  pa   : Nat                        -- the line it wrote
  gid  : BitVec 16                  -- of the rider that wrote (R205)
  op   : Nat                        -- names its invalidations
  wi   : Bool                       -- a .wi write: its acknowledgement waits for them (R147)
  rid  : BitVec 32                  -- the rider that wrote, and its context: it may be in another slot by now
  ctx  : Word
  deriving DecidableEq, Repr

/-- A write of the bias table that is not acknowledged yet: the recalls that it waits for, by their numbers, and its writer (R462). -/
structure Flip where
  waits : List Nat
  w     : BankSrc
  deriving DecidableEq, Repr

/-- A node-table entry (R454). -/
structure Node where
  v    : Bool
  host : Bool
  node : BitVec 16
  deriving DecidableEq, Repr

/-- An entry of a copy engine's order: a command's turn, or a FALLBACK row copy (R102, R128). -/
structure Turn where
  core : Nat
  cmd  : Nat
  row  : Option RowStep
  deriving DecidableEq, Repr

/-- A stack's quay die (R457, R458, R128). -/
structure Stack where
  engNs   : Bool                    -- ECFG.NS
  regions : Assoc Word              -- 32 words: register j has words 2j and 2j+1
  turns   : List Turn               -- copy engine: its work in arrival order
  rows    : List RowStep            -- row sequencers: the other steps in arrival order
  walks   : List (Nat × Nat)        -- traversal engine: walks in arrival order (core, command slot)
  refresh : Bool                    -- in self-refresh (R490)
  deriving DecidableEq, Repr

/-- Who moves. -/
inductive Who where
  | issue (t : ThreadRef)
  | event (i : Instr)
  deriving DecidableEq, Repr

/-- One move of the agenda: who moves and the cycles that pass before. -/
structure Move where
  who : Who
  dt  : Nat
  deriving DecidableEq, Repr

/-- The state of the package. -/
structure State where
  -- the model's own fields
  agenda  : List Move
  stepNo  : Nat
  cur     : ThreadRef
  nextId  : Nat
  -- time and memory
  now     : Nat
  dram    : Memory
  dramBad : List Nat                -- poisoned BLW lines, ascending
  sram    : Memory
  sramBad : List Nat                -- poisoned bank-window lines, ascending
  -- agents
  cores   : Assoc Core
  quads   : Assoc Quad
  dies    : Assoc Die
  qdies   : Assoc Stack
  homes   : Assoc Home
  llc     : Assoc LlcLine           -- by BLW line number
  inflight : List Access
  clears  : List Clear
  spawns  : List Spawn
  travels : List Travel
  saved   : List Saved
  xinvs   : List Xinv
  kills   : List Kill
  evacs   : List (Nat × Nat × List Nat) -- source, target, and the threads that were suspended before (R441)
  ended   : List Nat                -- RIDs whose rider has ended, ascending (R201)
  -- package registers
  bias    : List Nat                -- bias bits set, ascending (R460)
  flips   : List Flip               -- writes of the bias table under way (R462)
  nodes   : Assoc Node
  ecfgLocked : Bool
  lqCore  : BitVec 10
  lqBank  : BitVec 4
  repNode : BitVec 12
  nid     : BitVec 16
  agent   : BitVec 12
  pbar    : Assoc Word
  prst    : BitVec 2
  pbars   : Assoc Barrier           -- package barriers
  podBars : Assoc Barrier           -- pod barriers whose state this package holds
  -- dispatch
  flash   : List Byte
  pilot   : Nat
  served  : Nat
  electing : Bool
  seq     : BitVec 32
  grids   : List Grid
  groups  : List Group
  gridKey : Nat
  reports : List (Word × Word)
  sent    : List Packet             -- packets sent on the fabric
  rsyncs  : List Word
  rsyncLen : Option Nat             -- length of the record whose stores are on their way (R465)
  -- device operation
  ports   : Assoc PortState
  scrubs : Nat                      -- lines scrubbed (R492); the RESYNC word is a free value of it
  refreshes : Nat                   -- refreshes performed (R492); the RESYNC word is a free value of it
  retrain : Word                    -- ports that retrain, bit by port (R466)
  samples : Word                    -- telemetry samples (R495)
  throttle : Nat                    -- cycles added to the interval between step starts (R491)
  deriving DecidableEq, Repr

/-! ## Reset values (R488) -/

def Status.reset : Status :=
  { priv := 0, ns := false, rnd := 0, flags := 0, bst := 0, pp := false, repc := 0, prx := false, anch := false,
    stay := false, up := false, dn := false, prio := 0, roam := false, skp := 0 }

def FaultInfo.reset : FaultInfo :=
  { cls := none, cause := 0, prec := false, entry := 0, detail := 0, pf := false, accr := false, addr := 0 }

def Port.reset : Port :=
  { paddr := 0, pdata := 0, busy := false, done := false, cls := 0, cause := 0, pol := 0, size := 0, kind := 0 }

def MatrixStatus.reset : MatrixStatus :=
  { fstep := 0, fbatch := 0, ftile := 0, fstat := 0, seq := 0, open_ := 0, batches := [] }

/-- A FREE thread, every register 0 (DESIGN CHOICE, log entry 11). -/
def Thread.reset : Thread :=
  { run := .free, susp := false, froz := false, pc := 0, pw := 0, ss := Status.reset, g := [], v := [],
    desc := { fmt := 0, rep := 0 }, gid := 0, rid := 0, vsave := 0, asave := 0, outs := [], sack := 0, wbs := [],
    dlines := [], mx := MatrixStatus.reset, regs := [], fault := FaultInfo.reset, port := Port.reset, prog := .none, popped := [],
    claim := false, arrival := 0, group := none, index := 0, trig := false, suspReq := false, stuck := false,
    back := none }

def Barrier.reset : Barrier :=
  { phase := false, npart := 0, arrived := 0, pend := 0, waiters := 0, hold := false, err := false, wrote := [],
    left := [] }

def Params.array : Params := { pers := 0, esz := 0, cap := 0, log := 0, sh := 0 }

/-- An alone array bank with BPCFG at reset (R60). -/
def Bank.reset : Bank :=
  { ns := false, group := 0, p := Params.array, busy := false, comp := [], head := 0, count := 0, occ := [], upd := [],
    pin := [], queue := [], net := [], alu := none, chg := none, facts := [] }

/-- DESIGN CHOICE, log entry 11. -/
def Tile.reset : Tile := { data := [], owner := 0, status := 0, pend := 0, batch := 0, step := 0 }

/-- A core at reset: CARVE.K 0, LEASE 0x1000, the round-robin pointer as if slot 6 had issued last (R41, R137, R225).
DESIGN CHOICE, log entry 11. -/
def Core.reset : Core :=
  { threads := [], qntm := [], qexp := [], carveK := 0, carveRef := false, carveBusy := none, carveWait := [],
    lease := 0x1000, seed := 0, ctxid := 0, cbtV := false, cbtOwner := 0, tvec := 0, evTarget := 0, evWhy := 0,
    evSt := 0, fwdV := false, fwdTarget := 0, cycleOff := 0, srt := [], wake := [], serial := 1, rr := 6, mbox := [],
    mfull := [], mwait := [], chain := [], msgs := [], ni := [], inserted := 0, evq := [], rq := [], arrivals := [], berths := [],
    kernel := none, bars := [], tlb := [], l1 := [], banks := [], tiles := [], book := [], bookLoad := none, mq := [],
    ldq := [], stq := [], cmds := [], idle := false, killed := false }

def Quad.reset : Quad := { members := 0, tlb := [], bars := [] }

def Die.reset : Die :=
  { fenced := false, batches := [], coal := [], coalWait := [], l2 := [], inbox := [], srid := 0, nrid := 0,
    counters := [], tsamp := 0, bars := [], newest := [], unsent := [] }

def Stack.reset : Stack := { engNs := false, regions := [], turns := [], rows := [], walks := [], refresh := false }

def Home.reset : Home :=
  { odie := 0, own := 0, shr := 0, queue := [], act := none, acks := 0, resv := [], snoop := none, snooped := [],
    asking := [], unanswered := [] }

def Node.reset : Node := { v := false, host := false, node := 0 }

/-- The package right after power-on: a COLD reset (R488), STATE 1, booting (R487). The BOOT_DONE event makes the steps
of R489. DESIGN CHOICE, log entries 3, 6, 11. -/
def State.reset : State :=
  { agenda := [], stepNo := 0, cur := { core := 1, slot := 0, th := 0 }, nextId := 1, now := 0, dram := [],
    dramBad := [], sram := [], sramBad := [], cores := [], quads := [], dies := [], qdies := [], homes := [], llc := [],
    inflight := [], clears := [], spawns := [], travels := [], saved := [], xinvs := [], kills := [], evacs := [], ended := [], bias := [], flips := [],
    nodes := [], ecfgLocked := false, lqCore := 0, lqBank := 15, repNode := 0, nid := 0, agent := 0, pbar := [],
    prst := 1, pbars := [], podBars := [], flash := [], pilot := 0, served := 3, electing := false, seq := 0,
    grids := [], groups := [], gridKey := 1, reports := [], sent := [], rsyncs := [], rsyncLen := none, ports := [],
    scrubs := 0, refreshes := 0, retrain := 0, samples := 0, throttle := 0 }

end Sys2Proof.Machine
end

