-- ==== Sys2Proof/Machine/Assoc.lean ====
section
/-! DEFINITION. Sparse tables: reading and writing them in the canonical form, and memory as such a table of bytes. -/

namespace Sys2Proof.Machine

variable {α : Type}

/-- The value at key k; `d` where the table lists nothing. -/
def aget (d : α) : Assoc α → Nat → α
  | [], _ => d
  | (k', v) :: r, k => if k = k' then v else aget d r k

/-- The table with the entry (k, v), in key order. -/
def aput : Assoc α → Nat → α → Assoc α
  | [], k, v => [(k, v)]
  | (k', v') :: r, k, v =>
    if k < k' then (k, v) :: (k', v') :: r else if k = k' then (k, v) :: r else (k', v') :: aput r k v

/-- The table without an entry at k. -/
def adel : Assoc α → Nat → Assoc α
  | [], _ => []
  | (k', v') :: r, k => if k = k' then adel r k else (k', v') :: adel r k

/-- The table with k reading as v: an entry equal to the default is not kept. -/
def aset [DecidableEq α] (d : α) (l : Assoc α) (k : Nat) (v : α) : Assoc α :=
  if v = d then adel l k else aput l k v

/-- The keys rise strictly and lie above the bound. -/
def risingFrom : Option Nat → Assoc α → Bool
  | _, [] => true
  | none, (k, _) :: r => risingFrom (some k) r
  | some b, (k, _) :: r => decide (b < k) && risingFrom (some k) r

/-- The canonical form: keys strictly rising, no entry equal to the default. -/
def canonical [DecidableEq α] (d : α) (l : Assoc α) : Bool :=
  risingFrom none l && l.all fun e => e.2 != d

/-! ### Memory -/

/-- The canonical form of a memory: addresses strictly rising, no entry equal to the 0 that an unlisted address
reads as. -/
def Memory.wf (m : Memory) : Bool := canonical (0 : Byte) m

/-- One byte. DESIGN CHOICE, log entry 6. -/
def rdByte (m : Memory) (a : Nat) : Byte := aget 0 m a

/-- Memory with one byte written. -/
def wrByte (m : Memory) (a : Nat) (b : Byte) : Memory := aset 0 m a b

/-- n bytes from a on, little-endian, as a number (R6). -/
def rdNat (m : Memory) (a : Nat) : Nat → Nat
  | 0 => 0
  | n + 1 => (rdByte m a).toNat + 256 * rdNat m (a + 1) n

/-- The low n bytes of v written from a on, where the mask has a one (R6). -/
def wrMasked (m : Memory) (a : Nat) : Nat → (mask v : Nat) → Memory
  | 0, _, _ => m
  | n + 1, mask, v =>
    let m' := if mask % 2 = 1 then wrByte m a (BitVec.ofNat 8 v) else m
    wrMasked m' (a + 1) n (mask / 2) (v / 256)

/-- The low n bytes of v written from a on. -/
def wrNat (m : Memory) (a n v : Nat) : Memory := wrMasked m a n (2 ^ n - 1) v

/-- The 64 B line that holds a. -/
def rdLine (m : Memory) (a : Nat) : Line := BitVec.ofNat 512 (rdNat m (a / 64 * 64) 64)

/-- The bytes of [a, a + n) set to zero: the entries go. -/
def zeroRange (m : Memory) (a n : Nat) : Memory := m.filter fun e => e.1 < a || a + n ≤ e.1

/-- A list of bytes written from a on. -/
def wrBytes (m : Memory) (a : Nat) : List Byte → Memory
  | [] => m
  | b :: bs => wrBytes (wrByte m a b) (a + 1) bs

/-- n bytes from a on. -/
def rdBytes (m : Memory) (a : Nat) : Nat → List Byte
  | 0 => []
  | n + 1 => rdByte m a :: rdBytes m (a + 1) n

/-! ### Ascending sets of numbers -/

/-- The set with k. -/
def sins : List Nat → Nat → List Nat
  | [], k => [k]
  | x :: r, k => if k < x then k :: x :: r else if k = x then x :: r else x :: sins r k

/-- The set without k. -/
def sdel (l : List Nat) (k : Nat) : List Nat := l.filter fun x => x != k

end Sys2Proof.Machine
end

