-- ==== Sys2Proof/Machine/Bits.lean ====
section
/-! DEFINITION. Bit fields, sign extension, lanes and byte masks. -/

namespace Sys2Proof.Machine

/-- Bits hi:lo of a number. -/
def field (w hi lo : Nat) : Nat := w / 2 ^ lo % 2 ^ (hi + 1 - lo)

/-- Bit i of a number. -/
def bit (w i : Nat) : Bool := w / 2 ^ i % 2 == 1

/-- 1 or 0. -/
def b01 (b : Bool) : Nat := if b then 1 else 0

/-- The n-bit number v read in two's complement. -/
def signed (n v : Nat) : Int := if v % 2 ^ n < 2 ^ (n - 1) then (v % 2 ^ n : Nat) else ((v % 2 ^ n : Nat) : Int) - 2 ^ n

/-- An integer as a two's complement word of n bits. -/
def ofInt (n : Nat) (i : Int) : BitVec n := BitVec.ofInt n i

/-- Sign extension of a field to 64 bits (R272-R276). -/
def sext64 {n : Nat} (v : BitVec n) : Word := v.signExtend 64

/-- A word from a number. -/
def word (n : Nat) : Word := BitVec.ofNat 64 n

/-- Lane i of a vector register (R384). -/
def lane (v : Line) (i : Nat) : Lane := BitVec.ofNat 32 (v.toNat / 2 ^ (32 * i))

/-- The elements of width w bits of a line, n of them, from element 0. -/
def elems (w : Nat) : Nat → Nat → List Nat
  | 0, _ => []
  | n + 1, v => v % 2 ^ w :: elems w n (v / 2 ^ w)

/-- A number from elements of width w bits, element 0 lowest. -/
def packElems (w : Nat) : List Nat → Nat
  | [] => 0
  | x :: r => x % 2 ^ w + 2 ^ w * packElems w r

/-- The 16 lanes of a register. -/
def lanes (v : Line) : List Lane := (elems 32 16 v.toNat).map (BitVec.ofNat 32)

/-- A register from its lanes. -/
def ofLanes (l : List Lane) : Line := BitVec.ofNat 512 (packElems 32 (l.map BitVec.toNat))

/-- A register with lane i replaced. -/
def setLane (v : Line) (i : Nat) (x : Lane) : Line := ofLanes ((lanes v).set i x)

/-- The lanes of a, where the mask has a one, over b. -/
def selLanes (mask : Nat) (a b : Line) : Line :=
  ofLanes ((List.range 16).map fun i => if bit mask i then lane a i else lane b i)

/-- n ones. -/
def ones (n : Nat) : Nat := 2 ^ n - 1

/-- The byte mask of a lane mask, w bytes a lane. -/
def byteMask (w : Nat) : Nat → Nat → Nat
  | 0, _ => 0
  | n + 1, lm => (if lm % 2 = 1 then ones w else 0) + 2 ^ w * byteMask w n (lm / 2)

/-- The bytes of a, where the mask has a one, over b. -/
def mergeBytes (mask : Nat) (a b : Nat) : Nat → Nat
  | 0 => 0
  | n + 1 =>
    (if mask % 2 = 1 then a % 256 else b % 256) + 256 * mergeBytes (mask / 2) (a / 256) (b / 256) n

/-- A line with the masked bytes of a over b. -/
def overlay (mask : BitVec 64) (a b : Line) : Line := BitVec.ofNat 512 (mergeBytes mask.toNat a.toNat b.toNat 64)

/-- n bytes of a line from byte o on. -/
def lineBytes (l : Line) (o n : Nat) : Nat := l.toNat / 2 ^ (8 * o) % 2 ^ (8 * n)

/-- The 4-byte words (of the 16 of a line) that bytes o to o + n - 1 touch (R134). -/
def wordsTouched (o n : Nat) : BitVec 16 :=
  BitVec.ofNat 16 ((List.range 16).foldl (fun acc j => if 4 * j < o + n ∧ o < 4 * j + 4 then acc + 2 ^ j else acc) 0)

/-- The words that a byte mask touches. -/
def wordsOfMask (m : BitVec 64) : BitVec 16 :=
  BitVec.ofNat 16 ((List.range 16).foldl (fun acc j => if field m.toNat (4 * j + 3) (4 * j) = 0 then acc else acc + 2 ^ j) 0)

/-- The byte mask of a word mask. -/
def maskOfWords (w : BitVec 16) : BitVec 64 := BitVec.ofNat 64 (byteMask 4 16 w.toNat)

/-- A byte as a list from a number, n bytes, little-endian (R6). -/
def bytesOf : Nat → Nat → List Byte
  | 0, _ => []
  | n + 1, v => BitVec.ofNat 8 v :: bytesOf n (v / 256)

/-- A number from bytes, little-endian. -/
def ofBytes : List Byte → Nat
  | [] => 0
  | b :: r => b.toNat + 256 * ofBytes r

/-- The k-th element of a list of numbers, 0 beyond its end. -/
def nth (l : List Nat) (k : Nat) : Nat := l.getD k 0

end Sys2Proof.Machine
end

