-- ==== Sys2Proof/Machine/Address.lean ====
section
/-! DEFINITION. The device physical map, the two DRAM windows and the device region (R8-R14, R19), and where cores,
dies and stacks lie (R3-R5). -/

namespace Sys2Proof.Machine

/-- The windows of R8; an address in no listed range belongs to no window. -/
inductive Window where
  | iw (o : Nat)
  | blw (b : Nat)
  | bank (o : Nat)
  | control (o : Nat)
  | peer
  | hole
  deriving DecidableEq, Repr

/-- The window of a physical address (R8). -/
def window (pa : Nat) : Window :=
  if pa < 0x10000000000 then .iw pa
  else if pa < 0x20000000000 then .blw (pa - 0x10000000000)
  else if pa < 0x20040000000 then .bank (pa - 0x20000000000)
  else if 0x20100000000 ≤ pa ∧ pa < 0x20200000000 then .control (pa - 0x20100000000)
  else if 0x80000000000000 ≤ pa ∧ pa < 0x100000000000000 then .peer
  else .hole

/-- A number that tells windows apart, for pages that straddle them (R9). -/
def windowKind : Window → Nat
  | .iw _ => 0
  | .blw _ => 1
  | .bank _ => 2
  | .control _ => 3
  | .peer => 4
  | .hole => 5

/-- The whole of [a, a + n) lies inside one window (R9). -/
def inOneWindow (a n : Nat) : Bool :=
  let k := windowKind (window a)
  k != 5 && k == windowKind (window (a + n - 1))

/-- IW or BLW. -/
def isDram (pa : Nat) : Bool := decide (pa < 0x20000000000)

/-- IW offset to BLW offset (R10). -/
def iwToBlw (o : Nat) : Nat :=
  let stack := field o 11 8 ^^^ field o 27 24
  let pch := field o 17 12 ^^^ field o 33 28
  let w := field o 39 18 * 256 + field o 7 0
  stack * 2 ^ 36 + pch * 2 ^ 30 + w

/-- BLW offset to IW offset (R10). -/
def blwToIw (b : Nat) : Nat :=
  let w := b % 2 ^ 30
  let lo := w % 256
  let hi := field w 29 8
  let st := field b 39 36 ^^^ field w 17 14
  let pc := field b 35 30 ^^^ field w 23 18
  hi * 2 ^ 18 + pc * 2 ^ 12 + st * 2 ^ 8 + lo

/-- The DRAM byte of a physical address, as a BLW offset; none outside IW and BLW. -/
def dramOff (pa : Nat) : Option Nat :=
  match window pa with
  | .iw o => some (iwToBlw o)
  | .blw b => some b
  | _ => none

/-- The line (BLW offset / 64) at whose home a physical address is served (R51); 0 where there is none. -/
def homeLine (pa : Nat) : Nat := ((dramOff pa).getD 0) / 64

/-- The line address of the other alias of a line address (R12). -/
def otherAlias (pa : Nat) : Nat :=
  match window pa with
  | .iw o => 0x10000000000 + iwToBlw o
  | .blw b => blwToIw b
  | _ => pa

/-- The line address of pa. -/
def lineAddr (pa : Nat) : Nat := pa / 64 * 64

/-- The IW and the BLW line addresses of a home line. -/
def aliasesOf (line : Nat) : List Nat := [blwToIw (64 * line), 0x10000000000 + 64 * line]

/-- Stack and pch of a BLW offset (R11). -/
def stackOf (b : Nat) : Nat := b / 2 ^ 36 % 16

/-- The core whose quay unit serves the byte at a BLW offset: (s << 6) | n (R5). -/
def coreOfDram (b : Nat) : Nat := b / 2 ^ 30 % 1024

/-- The die of a core (R3). -/
def dieOf (core : Nat) : Nat := core / 256 % 4

/-- The quad of a core in the package, die << 6 | quad (R3, R16). -/
def quadOf (core : Nat) : Nat := core / 4 % 256

/-- The 16-bit bank number, core << 4 | bank, of a bank-window offset (R13). -/
def bankOf (o : Nat) : Nat × Nat := (o / 2 ^ 20 % 1024, o / 2 ^ 16 % 16)

/-- The bank-window offset of a byte of a bank (R13). -/
def bankOff (core bank off : Nat) : Nat := core * 2 ^ 20 + bank * 2 ^ 16 + off

/-- An address of the device region (R14). -/
def inDeviceRegion (va : Nat) : Bool := va / 2 ^ 52 % 16 == 15

/-- The bank-window offset that a device-region address reaches from a core; none where nothing is assigned (R14). -/
def deviceBank (core va : Nat) : Option Nat :=
  if 0xF0000000000000 ≤ va ∧ va < 0xF0000040000000 then some (va - 0xF0000000000000)
  else if 0xF1000000000000 ≤ va ∧ va < 0xF1000000100000 then some (core * 2 ^ 20 + (va - 0xF1000000000000))
  else none

/-- Bits 54:43 of a peer address, the node-table index, and bits 42:0, the offset (R19). -/
def peerNode (pa : Nat) : Nat := field pa 54 43
def peerOff (pa : Nat) : Nat := field pa 42 0

/-- The slice and set of the die L2 for a physical address (R48). -/
def l2Slice (pa : Nat) : Nat := field pa 11 6 ^^^ field pa 17 12 ^^^ field pa 23 18 ^^^ field pa 29 24
def l2Set (pa : Nat) : Nat := field pa 16 6

/-- The number of a thread's table entry: 0-6 deck slots, 7 the quay address thread, 8 the arithmetic thread. -/
def tid (t : ThreadRef) : Nat := if t.slot = 7 then 7 + t.th else t.slot

/-- The thread with a table number. -/
def ofTid (core n : Nat) : ThreadRef := if n < 7 then ⟨core, n, 0⟩ else ⟨core, 7, n - 7⟩

end Sys2Proof.Machine
end

