-- ==== Sys2Proof/Machine/Ops.lean ====
section
/-! DEFINITION. The named operations over the state: cores, threads and registers; results on their way; messages and
events; freezing a thread (R427, R429); entering and leaving a trap handler (R316, R317). -/

namespace Sys2Proof.Machine

/-! ### Parts of the state -/

def coreAt (s : State) (c : Nat) : Core := aget Core.reset s.cores c
def setCore (s : State) (c : Nat) (v : Core) : State := { s with cores := aset Core.reset s.cores c v }
def modCore (s : State) (c : Nat) (f : Core → Core) : State := setCore s c (f (coreAt s c))

def dieAt (s : State) (d : Nat) : Die := aget Die.reset s.dies d
def modDie (s : State) (d : Nat) (f : Die → Die) : State := { s with dies := aset Die.reset s.dies d (f (dieAt s d)) }

def quadAt (s : State) (q : Nat) : Quad := aget Quad.reset s.quads q
def modQuad (s : State) (q : Nat) (f : Quad → Quad) : State :=
  { s with quads := aset Quad.reset s.quads q (f (quadAt s q)) }

def stackAt (s : State) (n : Nat) : Stack := aget Stack.reset s.qdies n
def modStack (s : State) (n : Nat) (f : Stack → Stack) : State :=
  { s with qdies := aset Stack.reset s.qdies n (f (stackAt s n)) }

def homeAt (s : State) (line : Nat) : Home := aget Home.reset s.homes line
def setHome (s : State) (line : Nat) (h : Home) : State := { s with homes := aset Home.reset s.homes line h }
def modHome (s : State) (line : Nat) (f : Home → Home) : State := setHome s line (f (homeAt s line))

def bankAt (s : State) (c b : Nat) : Bank := aget Bank.reset (coreAt s c).banks b
def modBank (s : State) (c b : Nat) (f : Bank → Bank) : State :=
  modCore s c fun k => { k with banks := aset Bank.reset k.banks b (f (aget Bank.reset k.banks b)) }

def tileAt (s : State) (c n : Nat) : Tile := aget Tile.reset (coreAt s c).tiles n
def modTile (s : State) (c n : Nat) (f : Tile → Tile) : State :=
  modCore s c fun k => { k with tiles := aset Tile.reset k.tiles n (f (aget Tile.reset k.tiles n)) }

def cmdAt (s : State) (c n : Nat) : Option Cmd := aget none (coreAt s c).cmds n
def setCmd (s : State) (c n : Nat) (v : Option Cmd) : State :=
  modCore s c fun k => { k with cmds := aset none k.cmds n v }

/-! ### Threads -/

def threadAt (s : State) (t : ThreadRef) : Thread := aget Thread.reset (coreAt s t.core).threads (tid t)
def setThread (s : State) (t : ThreadRef) (v : Thread) : State :=
  modCore s t.core fun k => { k with threads := aset Thread.reset k.threads (tid t) v }
def modThread (s : State) (t : ThreadRef) (f : Thread → Thread) : State := setThread s t (f (threadAt s t))

/-- The thread whose unit is being executed. -/
def me (s : State) : Thread := threadAt s s.cur
def modMe (s : State) (f : Thread → Thread) : State := modThread s s.cur f

/-- The core on which it runs. -/
def myCore (s : State) : Core := coreAt s s.cur.core

/-- The kinds of thread (R112, R182). -/
def isDeck (t : ThreadRef) : Bool := decide (t.slot < 7)
def isAddr (t : ThreadRef) : Bool := t.slot == 7 && t.th == 0
def isArith (t : ThreadRef) : Bool := t.slot == 7 && t.th != 0

/-- A thread may issue: READY (R183). -/
def canIssue (th : Thread) : Bool := th.run == .ready && !th.susp && !th.froz

/-- The kernel slot of a core: slot 0 while it holds the core's kernel rider (R182, R222). -/
def isKernelSlot (s : State) (t : ThreadRef) : Bool :=
  t.slot == 0 && (coreAt s t.core).kernel == some (threadAt s t).rid

/-- CTXID fields (R22). -/
def ctxAsid (w : Word) : BitVec 16 := w.extractLsb' 0 16
def ctxNs (w : Word) : Bool := w.getLsbD 16
def ctxRoot (w : Word) : Nat := field w.toNat 63 24

/-! ### Registers -/

/-- g[r]; g0 reads zero (R270). -/
def rdG (th : Thread) (r : Nat) : Word := if r = 0 then 0 else aget 0 th.g r

/-- g[r] := v; a write to g0 is discarded (R270). -/
def wrG (th : Thread) (r : Nat) (v : Word) : Thread := if r = 0 then th else { th with g := aset 0 th.g r v }

def rdV (th : Thread) (r : Nat) : Line := aget 0 th.v r
def wrV (th : Thread) (r : Nat) (v : Line) : Thread := { th with v := aset 0 th.v r v }

/-- Predicate q[i], bit 16 + i of pw (R186, R305). -/
def rdQ (th : Thread) (i : Nat) : Bool := th.pw.getLsbD (16 + i)
def wrQ (th : Thread) (i : Nat) (b : Bool) : Thread :=
  let n := th.pw.toNat
  { th with pw := BitVec.ofNat 32 (n - b01 (bit n (16 + i)) * 2 ^ (16 + i) + b01 b * 2 ^ (16 + i)) }

/-- The lane mask (R186). -/
def laneMask (th : Thread) : Nat := th.pw.toNat % 65536

/-- Flags join the sticky flags (R240). -/
def orFlags (th : Thread) (f : BitVec 5) : Thread := { th with ss := { th.ss with flags := th.ss.flags ||| f } }

/-- A structure status commits to BST, and q15 says whether it is OK (R66). DEDUCED, log entry 37. -/
def commitBst (th : Thread) (st : BitVec 3) : Thread :=
  wrQ { th with ss := { th.ss with bst := st } } 15 (st == 0)

/-- Record word 1: pw and the rider fields (R186). -/
def statusWord (th : Thread) : Word :=
  let x := th.ss
  word (th.pw.toNat + 2 ^ 32 * x.skp.toNat + 2 ^ 34 * b01 x.roam + 2 ^ 35 * x.prio.toNat + 2 ^ 37 * b01 x.dn
    + 2 ^ 38 * b01 x.up + 2 ^ 39 * b01 x.stay + 2 ^ 40 * b01 x.anch + 2 ^ 41 * b01 x.prx + 2 ^ 42 * x.repc.toNat
    + 2 ^ 50 * b01 x.pp + 2 ^ 51 * x.bst.toNat + 2 ^ 54 * x.flags.toNat + 2 ^ 59 * x.rnd.toNat + 2 ^ 61 * b01 x.ns
    + 2 ^ 62 * x.priv.toNat)

/-- The rider fields of a record word 1 (R186). -/
def statusOfWord (w : Word) : Status :=
  let n := w.toNat
  { priv := BitVec.ofNat 2 (field n 63 62), ns := bit n 61, rnd := BitVec.ofNat 2 (field n 60 59),
    flags := BitVec.ofNat 5 (field n 58 54), bst := BitVec.ofNat 3 (field n 53 51), pp := bit n 50,
    repc := BitVec.ofNat 8 (field n 49 42), prx := bit n 41, anch := bit n 40, stay := bit n 39, up := bit n 38,
    dn := bit n 37, prio := BitVec.ofNat 2 (field n 36 35), roam := bit n 34, skp := BitVec.ofNat 2 (field n 33 32) }

/-- The prefix descriptor as record word 33 (R186). -/
def descWord (th : Thread) : Word := word (th.desc.fmt.toNat + 2 ^ 32 * th.desc.rep.toNat)

/-! ### Results on their way (R290-R294) -/

/-- The kinds that hold a landing entry (R290). -/
def holdsEntry : OutKind → Bool
  | .ld | .ldv | .atomic | .struct | .bankAlu | .mxv => true
  | _ => false

/-- Landing entries in use. -/
def landings (th : Thread) : Nat := (th.outs.filter fun o => holdsEntry o.kind).length

/-- Accesses without an entry that have not returned their acceptance (R294). -/
def unaccepted (th : Thread) : Nat := (th.outs.filter fun o => !holdsEntry o.kind && !o.done).length

/-- The lowest landing entry that no result holds. DESIGN CHOICE, log entry 72. -/
def freeEntry (th : Thread) : Nat :=
  ((List.range 8).find? fun e => th.outs.all fun o => !(holdsEntry o.kind && o.entry == e)).getD 0

/-- Older results of the segment for a register that is written at issue are discarded at commit (R292). DEDUCED, log entry 26. -/
def discardOlder (th : Thread) (f : RegFile) (r : Nat) : Thread :=
  { th with outs := th.outs.map fun o => if o.file == f && o.reg == r then { o with discard := true } else o }

/-- The core downstream of a chain (R197). -/
def chainTarget (s : State) : Nat := s.cur.core + 1

/-- A non-deferred instruction writes its result at issue (R291, R292). Under a DN binding a result for g29 is pushed
downstream; the room was checked before the unit performed anything (R197). The pushed value is written to g29 itself as well, where
RDSLOT and a thread that clears DN find it. DESIGN CHOICE, log entry 65. -/
def writeG (s : State) (r : Nat) (v : Word) : State :=
  let s := modMe s fun th => discardOlder (wrG th r v) .g r
  if (me s).ss.dn && r == 29 then modCore s (chainTarget s) fun k => { k with chain := k.chain ++ [v] } else s

def writeV (s : State) (r : Nat) (v : Line) : State := modMe s fun th => discardOlder (wrV th r v) .v r

def writeQ (s : State) (i : Nat) (b : Bool) : State := modMe s fun th => wrQ th i b

/-- A new name for an access, command, message or batch. -/
def fresh (s : State) : Nat × State := (s.nextId, { s with nextId := s.nextId + 1 })

def Out.blank (id : Nat) (k : OutKind) : Out :=
  { id := id, kind := k, entry := 0, file := .none, reg := 0, done := false, value := 0, bst := none, flags := 0,
    fail := none, act := 0, discard := false, lanes := 0xFFFF, addr := 0, tile := 0, step := 0, chain := false,
    late := false }

/-- A result joins its thread's list, in program order. A younger deferred result for the same register commits
last and needs no discard (R292). -/
def addOut (s : State) (t : ThreadRef) (o : Out) : State :=
  modThread s t fun th =>
    { th with outs := th.outs ++ [if holdsEntry o.kind then { o with entry := freeEntry th } else o] }

def modOut (s : State) (t : ThreadRef) (id : Nat) (f : Out → Out) : State :=
  modThread s t fun th => { th with outs := th.outs.map fun o => if o.id == id then f o else o }

/-- A failure that comes after the acceptance has its place in program order all the same (R295). -/
def insertOut (s : State) (t : ThreadRef) (o : Out) : State :=
  modThread s t fun th =>
    { th with outs := th.outs.takeWhile (fun x => decide (x.id < o.id)) ++ o :: th.outs.dropWhile fun x => decide (x.id < o.id) }

/-- An acceptance returns, once. One without failure and status needs no commit: it leaves the list. -/
def acceptOut (s : State) (t : ThreadRef) (id : Nat) (bst : Option (BitVec 3)) (fail : Option Fail) : State :=
  modThread s t fun th =>
    { th with outs := th.outs.filterMap fun o =>
        if o.id == id && !holdsEntry o.kind && !o.done then
          if bst.isNone && fail.isNone then none else some { o with done := true, bst := bst, fail := fail }
        else some o }

/-- A result lands (R290). -/
def landOut (s : State) (t : ThreadRef) (id : Nat) (v : Line) (bst : Option (BitVec 3)) (fl : BitVec 5)
    (fail : Option Fail) : State :=
  modOut s t id fun o => { o with done := true, value := v, bst := bst, flags := fl, fail := fail }

/-! ### The chain queues (R197) -/

/-- A result that commits to g29 under DN is pushed downstream (R197). -/
def pushesOut (o : Out) : Bool := o.chain && !o.discard

/-- A thread takes its marker steps: at a marker once every result has landed and every acceptance has returned, while SUSPENDED as they
come (R292, R323). -/
def atCommit (th : Thread) : Bool :=
  !th.froz && th.run != .free &&
    (th.susp || (th.run == .parked .marker && th.outs.all fun o => o.done)) && (!th.outs.isEmpty || th.run == .parked .marker)

/-- A thread waits for entries that its queue holds. -/
def waitsPop (s : State) (t : ThreadRef) : Bool :=
  let th := threadAt s t
  !th.susp && !th.froz && match th.run with
    | .parked (.chainPop n) => decide (n ≤ (coreAt s t.core).chain.length)
    | _ => false

/-- A thread waits for room in the downstream queue: with its unit, or with a result that commits (R197). -/
def waitsPush (s : State) (t : ThreadRef) : Bool :=
  let th := threadAt s t
  !th.froz && ((!th.susp && th.run == .parked .chainPush) || (atCommit th && match th.outs with
    | o :: _ => o.done && o.fail.isNone && pushesOut o
    | [] => false))

/-- A thread may pop n entries: they are there, and no lower slot waits for them (R197, R206). -/
def mayPop (s : State) (t : ThreadRef) (n : Nat) : Bool :=
  decide (n ≤ (coreAt s t.core).chain.length) && (List.range (min t.slot 7)).all fun x => !waitsPop s ⟨t.core, x, 0⟩

/-- The places of the downstream queue that READY threads of a core have been given and not used yet, one thread left out. -/
def claims (s : State) (t : ThreadRef) : Nat :=
  (coreAt s t.core).threads.countP fun e => e.1 != tid t && e.2.claim && canIssue e.2

/-- A thread may push: it has been given a place, or there is room and no lower slot waits for it (R197, R206). -/
def mayPush (s : State) (t : ThreadRef) : Bool :=
  let n := (coreAt s (t.core + 1)).chain.length
  ((threadAt s t).claim && decide (n < 8)) ||
    (decide (n + claims s t < 8) && (List.range (min t.slot 7)).all fun x => !waitsPush s ⟨t.core, x, 0⟩)

/-- The entries of a unit that waits leave the queue for it (R197). -/
def takeEntries (s : State) (t : ThreadRef) (n : Nat) : State :=
  let es := (coreAt s t.core).chain.take n
  modThread (modCore s t.core fun k => { k with chain := k.chain.drop n }) t fun th => { th with popped := es }

/-- A unit that is not performed has popped nothing, and keeps no place (R197). DEDUCED, log entry 23. -/
def giveBack (s : State) (t : ThreadRef) : State :=
  let th := threadAt s t
  if th.popped.isEmpty && !th.claim then s
  else
    let s := modThread s t fun th => { th with popped := [], claim := false }
    if th.popped.isEmpty then s else modCore s t.core fun k => { k with chain := th.popped ++ k.chain }

/-! ### Accesses in flight -/

def accessAt (s : State) (id : Nat) : Option Access := s.inflight.find? fun a => a.id == id
def modAccess (s : State) (id : Nat) (f : Access → Access) : State :=
  { s with inflight := s.inflight.map fun a => if a.id == id then f a else a }
def dropAccess (s : State) (id : Nat) : State := { s with inflight := s.inflight.filter fun a => a.id != id }
def stageAccess (s : State) (id : Nat) (g : Stage) : State := modAccess s id fun a => { a with stage := g }

def addSack (s : State) (t : ThreadRef) : State := modThread s t fun th => { th with sack := th.sack + 1 }
/-- DEDUCED, log entry 59. -/
def subSack (s : State) (t : ThreadRef) : State := modThread s t fun th => { th with sack := th.sack - 1 }

/-! ### Messages and events (R199, R201, R222, R428) -/

def Msg.plain (w0 w1 : Word) (tag : BitVec 32) (system : Bool) : Msg :=
  { w0 := w0, w1 := w1, tag := tag, system := system, engine := false, src := none, try_ := false, ctx := 0,
    lines := [], cmd := none, came := 0, id := 0 }

/-- The forwarding entries from a core on, over at most a number of them. -/
def followFwd (s : State) : (fuel : Nat) → Nat → Nat
  | 0, c => c
  | n + 1, c => if (coreAt s c).fwdV then followFwd s n (coreAt s c).fwdTarget.toNat else c

/-- Where a core's messages, arrivals and bank accesses go while its forwarding entry is valid, and that of its target (R442). -/
def forwarded (s : State) (c : Nat) : Nat := followFwd s 1024 c

/-- The order of messages that arrive in one cycle: by sender core, then slot (R199). -/
def msgRank (m : Msg) : Nat :=
  match m.src with
  | some t => 16 * t.core + tid t + 1
  | none => 0

/-- A message takes its place behind those that arrived before (R199). -/
def insertMsg (l : List Msg) (m : Msg) : List Msg :=
  let n := (l.reverse.takeWhile fun x => x.came == m.came && decide (msgRank m < msgRank x)).length
  l.take (l.length - n) ++ m :: l.drop (l.length - n)

/-- A message reaches a core: system messages wait in the core in order of occurrence, others in its network
interface in arrival order (R199, R201). -/
def deliver (s : State) (c : Nat) (m : Msg) : State :=
  let m := { m with came := s.now }
  modCore s (forwarded s c) fun k =>
    if m.system then { k with evq := k.evq ++ [m] } else { k with ni := insertMsg k.ni m }

/-- The supervisor's core of a world on a die (R428). -/
def supCore (die : Nat) (ns : Bool) : Nat := 256 * die + (if ns then 0 else 1)

/-- A message to the supervisor of a world on a die, under the tag of FSUP; it waits while that is 0 (R428). DEDUCED, log entry 48. -/
def toSupervisor (s : State) (die : Nat) (ns : Bool) (w0 w1 : Word) : State :=
  let d := dieAt s die
  let tag := if ns then d.nrid else d.srid
  if tag = 0 then
    modDie s die fun d => { d with unsent := d.unsent ++ [{ Msg.plain w0 w1 0 true with try_ := ns }] }
  else deliver s (supCore die ns) (Msg.plain w0 w1 tag true)

/-- A kernel event of a core: to its kernel rider, or else to the supervisor of the context's world (R222). -/
def sendEvent (s : State) (c : Nat) (type slot : Nat) (rid : BitVec 32) (detail : Word) : State :=
  let k := coreAt s c
  let w0 := word (type * 2 ^ 56 + slot * 2 ^ 32 + rid.toNat)
  match k.kernel with
  | some r => deliver s c (Msg.plain w0 detail r true)
  | none => toSupervisor s (dieOf c) (ctxNs k.ctxid) w0 detail

/-! ### Faults (R426-R429) -/

def classCode : FaultClass → Nat
  | .ill => 1 | .priv => 2 | .align => 3 | .xlat => 4 | .perm => 5 | .world => 6 | .policy => 7 | .poison => 8
  | .qdead => 9 | .bankop => 10 | .brk => 11

/-- The class of a cause of R37. -/
def causeClass (c : Nat) : FaultClass :=
  if c = 8 ∨ c = 9 ∨ c = 10 ∨ c = 11 ∨ c = 15 then .perm
  else if c = 12 then .world else if c = 13 then .policy else .xlat

/-- The fault packet of a thread, word 0 (R429). -/
def faultWord (ctx : Word) (t : ThreadRef) (f : FaultInfo) : Word :=
  let cls := match f.cls with
    | some c => classCode c
    | none => 0
  word (0x11 * 2 ^ 56 + cls * 2 ^ 52 + f.cause * 2 ^ 48 + b01 f.prec * 2 ^ 47 + t.slot * 2 ^ 44 + t.th * 2 ^ 43
    + t.core * 2 ^ 33 + f.detail * 2 ^ 23 + f.entry * 2 ^ 20 + b01 f.pf * 2 ^ 19 + b01 f.accr * 2 ^ 18
    + b01 (ctxNs ctx) * 2 ^ 16 + (ctxAsid ctx).toNat)

/-- The fault packet of a thread goes to the supervisor of the context's world (R428, R429). -/
def sendFault (s : State) (t : ThreadRef) (f : FaultInfo) : State :=
  let ctx := (coreAt s t.core).ctxid
  toSupervisor s (dieOf t.core) (ctxNs ctx) (faultWord ctx t f) (word (f.addr % 2 ^ 56))

/-- TAKING A FAULT, the one shared operation: the thread is FROZEN with its registers, pc, PP and REPC as they stand,
and exactly one packet goes to the supervisor of the context's world (R427, R428, R429). -/
def takeFault (s : State) (t : ThreadRef) (f : FaultInfo) : State :=
  sendFault (modThread s t fun th => { th with froz := true, fault := f }) t f

/-- A precise fault of the unit being issued: the marker steps of R292 come first (R297); with nothing outstanding the
thread freezes with the pc at the unit. What the unit had popped goes back (R197). -/
def preciseFault (s : State) (cls : FaultClass) (cause detail : Nat) (addr : Option Nat) : State :=
  let s := giveBack s s.cur
  let th := me s
  let f := FaultInfo.mk (some cls) cause true 0 detail false false (addr.getD th.pc.toNat)
  if th.outs.isEmpty then takeFault s s.cur f else modMe s fun th => { th with run := .parked .marker, prog := .faulted f }

/-! ### Traps (R316, R317) -/

/-- TAKING A TRAP, the one shared operation: g24 takes the next unit's address and the old privilege, user becomes
kernel, and the pc goes to the entry of the handler table (R316). The new pc is the result. -/
def takeTrap (s : State) (nextUnit : Nat) (code : Nat) : State × Nat :=
  let p := (me s).ss.priv
  let s := writeG s 24 (word (nextUnit + p.toNat))
  let s := modMe s fun th => { th with ss := { th.ss with priv := if p = 0 then 1 else p } }
  (s, field (myCore s).tvec.toNat 55 12 * 2 ^ 12 + code * 16)

/-- RETURNING FROM A TRAP: the privilege and the pc come from g24 (R317). -/
def leaveTrap (s : State) : State × Nat :=
  let w := rdG (me s) 24
  (modMe s fun th => { th with ss := { th.ss with priv := w.extractLsb' 0 2 } }, w.toNat / 4 * 4)

/-! ### Suspension (R183, R322) -/

/-- A request of suspension: at once for a thread between units or REP iterations and for a PARKED one; after the unit for one
that has issued its prefixes, and after the last unit of a skip window; a DEPARTING rider stays with its pc at the access, and a
SUSPENDED one as it is (R183, R289, R322). -/
def suspendThread (th : Thread) : Thread :=
  if th.susp then th
  else
  match th.run with
  | .free => th
  | .ready => if (th.ss.skp != 0 || (th.ss.pp && th.ss.repc == 0)) && !th.froz then { th with suspReq := true } else { th with susp := true }
  | .parked _ => if th.ss.skp != 0 && !th.froz then { th with suspReq := true } else { th with susp := true }
  | .departing _ => { th with run := .ready, susp := true }

/-- The threads that an act on a slot concerns: both of slot 7 (R322). -/
def slotThreads (t : ThreadRef) : List ThreadRef := if t.slot = 7 then [⟨t.core, 7, 0⟩, ⟨t.core, 7, 1⟩] else [t]

/-- A suspension that comes while a core is evacuated stays when its slots resume (R441, step 5). -/
def keepSuspended (s : State) (t : ThreadRef) : State :=
  if (threadAt s t).run == .free then s
  else { s with evacs := s.evacs.map fun e => if e.1 == t.core then (e.1, e.2.1, sins e.2.2 (tid t)) else e }

/-! ### Leaving a slot -/

/-- The barrier objects of the instance that covers a core (R158, R349): level 0 core, 1 quad, 2 die, 3 package,
4 pod. DEDUCED, log entry 48. -/
def barrierAt (s : State) (core level obj : Nat) : Barrier :=
  match level with
  | 0 => aget Barrier.reset (coreAt s core).bars obj
  | 1 => aget Barrier.reset (quadAt s (quadOf core)).bars obj
  | 2 => aget Barrier.reset (dieAt s (dieOf core)).bars obj
  | 3 => aget Barrier.reset s.pbars obj
  | _ => aget Barrier.reset s.podBars obj

def setBarrier (s : State) (core level obj : Nat) (b : Barrier) : State :=
  match level with
  | 0 => modCore s core fun k => { k with bars := aset Barrier.reset k.bars obj b }
  | 1 => modQuad s (quadOf core) fun k => { k with bars := aset Barrier.reset k.bars obj b }
  | 2 => modDie s (dieOf core) fun k => { k with bars := aset Barrier.reset k.bars obj b }
  | 3 => { s with pbars := aset Barrier.reset s.pbars obj b }
  | _ => { s with podBars := aset Barrier.reset s.podBars obj b }

/-- A registration is observed, or withdrawn, counting as observed (R350, R352, R353). -/
def observe (b : Barrier) : Barrier :=
  let w := b.waiters - 1
  { b with waiters := w, hold := b.hold && w != 0, left := if w = 0 then [] else b.left }

/-- The registrations of a thread are withdrawn (R350). -/
def withdraw (s : State) (t : ThreadRef) : State :=
  let th := threadAt s t
  let s := th.regs.foldl (fun s r => setBarrier s t.core r.level r.obj (observe (barrierAt s t.core r.level r.obj))) s
  modThread s t fun th => { th with regs := [] }

/-- Nothing waits for a slot of the core: no berthed and no waiting rider (R222). -/
def nothingWaits (k : Core) : Bool :=
  k.rq.isEmpty && k.arrivals.isEmpty && k.berths.all fun b => b.2.isNone

/-- The slot becomes FREE; a deck slot with nothing waiting sends SLOTFREE (R222). The rider concerned is the one
that left. -/
def freeSlot (s : State) (t : ThreadRef) : State :=
  let rid := (threadAt s t).rid
  let s := withdraw s t
  let s := setThread s t Thread.reset
  let s := modCore s t.core fun k => { k with mwait := k.mwait.filter fun w => w.2.2 != tid t }
  if isDeck t && nothingWaits (coreAt s t.core) then sendEvent s t.core 0x53 t.slot rid 0 else s

end Sys2Proof.Machine
end

