-- ==== Sys2Proof/Machine/Operands.lean ====
section
/-! DEFINITION. Operand forms: which registers an instruction names, how REP steps them (R283, R285), which pops a chain
binding or vlq makes (R115, R197), and what FMT and REP each instruction accepts (R281, R282, R286). -/

namespace Sys2Proof.Machine

/-- The field that gives an operand its number, for the strides of R283: d (PRED in format C), a, b; c is never
stepped. -/
inductive OperandField where
  | d | a | b | c
  deriving DecidableEq, Repr

/-- The register files that a field may name (R270). -/
inductive OperandFile where
  | g | v | acc | q | mb
  deriving DecidableEq, Repr

/-- An operand: the field, the file, the encoded number, and whether it is read and written. -/
structure Operand where
  fld  : OperandField
  file : OperandFile
  num  : Nat
  src  : Bool
  dst  : Bool
  deriving DecidableEq, Repr

/-- The file of a structure element (R363). -/
def elemFile (v : BitVec 1) : OperandFile := if v = 0 then .g else .v

/-- The register operands of an instruction, sources in the order a, b, c, d (R197). -/
def operands : Instr → List Operand
  | .nop => []
  | .brk _ _ => []
  | .trap _ _ => []
  | .eret _ => []
  | .rdsys _ d _ => [.mk .d .g d.toNat false true]
  | .wrsys _ d _ => [.mk .d .g d.toNat true false]
  | .susp _ a => [.mk .a .g a.toNat true false]
  | .resm _ a => [.mk .a .g a.toNat true false]
  | .rdslot _ d a => [.mk .d .g d.toNat false true, .mk .a .g a.toNat true false]
  | .wrslot _ d a => [.mk .a .g a.toNat true false, .mk .d .g d.toNat true false]
  | .ctxkill _ a => [.mk .a .g a.toNat true false]
  | .fmt _ _ _ _ _ => []
  | .rep _ _ _ _ => []
  | .lui _ d _ => [.mk .d .g d.toNat false true]
  | .add _ d a b => [.mk .a .g a.toNat true false, .mk .b .g b.toNat true false, .mk .d .g d.toNat false true]
  | .sub _ d a b => [.mk .a .g a.toNat true false, .mk .b .g b.toNat true false, .mk .d .g d.toNat false true]
  | .and _ d a b => [.mk .a .g a.toNat true false, .mk .b .g b.toNat true false, .mk .d .g d.toNat false true]
  | .or _ d a b => [.mk .a .g a.toNat true false, .mk .b .g b.toNat true false, .mk .d .g d.toNat false true]
  | .xor _ d a b => [.mk .a .g a.toNat true false, .mk .b .g b.toNat true false, .mk .d .g d.toNat false true]
  | .andn _ d a b => [.mk .a .g a.toNat true false, .mk .b .g b.toNat true false, .mk .d .g d.toNat false true]
  | .shl _ d a b => [.mk .a .g a.toNat true false, .mk .b .g b.toNat true false, .mk .d .g d.toNat false true]
  | .shr _ d a b => [.mk .a .g a.toNat true false, .mk .b .g b.toNat true false, .mk .d .g d.toNat false true]
  | .sra _ d a b => [.mk .a .g a.toNat true false, .mk .b .g b.toNat true false, .mk .d .g d.toNat false true]
  | .min _ d a b => [.mk .a .g a.toNat true false, .mk .b .g b.toNat true false, .mk .d .g d.toNat false true]
  | .max _ d a b => [.mk .a .g a.toNat true false, .mk .b .g b.toNat true false, .mk .d .g d.toNat false true]
  | .minu _ d a b => [.mk .a .g a.toNat true false, .mk .b .g b.toNat true false, .mk .d .g d.toNat false true]
  | .maxu _ d a b => [.mk .a .g a.toNat true false, .mk .b .g b.toNat true false, .mk .d .g d.toNat false true]
  | .clz _ d a => [.mk .a .g a.toNat true false, .mk .d .g d.toNat false true]
  | .ctz _ d a => [.mk .a .g a.toNat true false, .mk .d .g d.toNat false true]
  | .popc _ d a => [.mk .a .g a.toNat true false, .mk .d .g d.toNat false true]
  | .sext _ d a _ => [.mk .a .g a.toNat true false, .mk .d .g d.toNat false true]
  | .addi _ d a _ => [.mk .a .g a.toNat true false, .mk .d .g d.toNat false true]
  | .andi _ d a _ => [.mk .a .g a.toNat true false, .mk .d .g d.toNat false true]
  | .ori _ d a _ => [.mk .a .g a.toNat true false, .mk .d .g d.toNat false true]
  | .xori _ d a _ => [.mk .a .g a.toNat true false, .mk .d .g d.toNat false true]
  | .shli _ d a _ => [.mk .a .g a.toNat true false, .mk .d .g d.toNat false true]
  | .shri _ d a _ => [.mk .a .g a.toNat true false, .mk .d .g d.toNat false true]
  | .srai _ d a _ => [.mk .a .g a.toNat true false, .mk .d .g d.toNat false true]
  | .mul _ d a b => [.mk .a .g a.toNat true false, .mk .b .g b.toNat true false, .mk .d .g d.toNat false true]
  | .mulh _ d a b => [.mk .a .g a.toNat true false, .mk .b .g b.toNat true false, .mk .d .g d.toNat false true]
  | .mulhu _ d a b => [.mk .a .g a.toNat true false, .mk .b .g b.toNat true false, .mk .d .g d.toNat false true]
  | .div _ d a b => [.mk .a .g a.toNat true false, .mk .b .g b.toNat true false, .mk .d .g d.toNat false true]
  | .divu _ d a b => [.mk .a .g a.toNat true false, .mk .b .g b.toNat true false, .mk .d .g d.toNat false true]
  | .rem _ d a b => [.mk .a .g a.toNat true false, .mk .b .g b.toNat true false, .mk .d .g d.toNat false true]
  | .remu _ d a b => [.mk .a .g a.toNat true false, .mk .b .g b.toNat true false, .mk .d .g d.toNat false true]
  | .fadd _ d a b _ => [.mk .a .g a.toNat true false, .mk .b .g b.toNat true false, .mk .d .g d.toNat false true]
  | .fsub _ d a b _ => [.mk .a .g a.toNat true false, .mk .b .g b.toNat true false, .mk .d .g d.toNat false true]
  | .fmul _ d a b _ => [.mk .a .g a.toNat true false, .mk .b .g b.toNat true false, .mk .d .g d.toNat false true]
  | .fma _ d a b _ => [.mk .a .g a.toNat true false, .mk .b .g b.toNat true false, .mk .d .g d.toNat true true]
  | .fdiv _ d a b _ => [.mk .a .g a.toNat true false, .mk .b .g b.toNat true false, .mk .d .g d.toNat false true]
  | .fsqrt _ d a _ => [.mk .a .g a.toNat true false, .mk .d .g d.toNat false true]
  | .fmin _ d a b _ => [.mk .a .g a.toNat true false, .mk .b .g b.toNat true false, .mk .d .g d.toNat false true]
  | .fmax _ d a b _ => [.mk .a .g a.toNat true false, .mk .b .g b.toNat true false, .mk .d .g d.toNat false true]
  | .fcmp _ d a b _ _ => [.mk .a .g a.toNat true false, .mk .b .g b.toNat true false, .mk .d .q d.toNat false true]
  | .fcvt _ d a _ _ => [.mk .a .g a.toNat true false, .mk .d .g d.toNat false true]
  | .cmp _ _ _ p a b => [.mk .a .g a.toNat true false, .mk .b .g b.toNat true false, .mk .d .q p.toNat false true]
  | .cmpi _ _ _ p a _ => [.mk .a .g a.toNat true false, .mk .d .q p.toNat false true]
  | .bt _ _ _ => []
  | .bf _ _ _ => []
  | .j _ _ => []
  | .jal _ d _ => [.mk .d .g d.toNat false true]
  | .jr _ a => [.mk .a .g a.toNat true false]
  | .jalr _ d a => [.mk .a .g a.toNat true false, .mk .d .g d.toNat false true]
  | .ld _ d a _ _ _ => [.mk .a .g a.toNat true false, .mk .d .g d.toNat false true]
  | .st _ d a _ _ _ => [.mk .a .g a.toNat true false, .mk .d .g d.toNat true false]
  | .ldv _ d a _ _ => [.mk .a .g a.toNat true false, .mk .d .v d.toNat false true]
  | .stv _ d a _ _ => [.mk .a .g a.toNat true false, .mk .d .v d.toNat true false]
  | .aadd _ d a _ _ _ => [.mk .a .g a.toNat true false, .mk .d .g d.toNat true true]
  | .aand _ d a _ _ _ => [.mk .a .g a.toNat true false, .mk .d .g d.toNat true true]
  | .aor _ d a _ _ _ => [.mk .a .g a.toNat true false, .mk .d .g d.toNat true true]
  | .axor _ d a _ _ _ => [.mk .a .g a.toNat true false, .mk .d .g d.toNat true true]
  | .amin _ d a _ _ _ => [.mk .a .g a.toNat true false, .mk .d .g d.toNat true true]
  | .amax _ d a _ _ _ => [.mk .a .g a.toNat true false, .mk .d .g d.toNat true true]
  | .aswp _ d a _ _ _ => [.mk .a .g a.toNat true false, .mk .d .g d.toNat true true]
  | .acas _ d a _ _ _ => [.mk .a .g a.toNat true false, .mk .d .g d.toNat true true, .mk .d .g (d.toNat + 1) true false]
  | .afadd _ d a _ _ _ => [.mk .a .g a.toNat true false, .mk .d .g d.toNat true true]
  | .clean _ a b => [.mk .a .g a.toNat true false, .mk .b .g b.toNat true false]
  | .inval _ a b => [.mk .a .g a.toNat true false, .mk .b .g b.toNat true false]
  | .flush _ a b => [.mk .a .g a.toNat true false, .mk .b .g b.toNat true false]
  | .pref _ _ a b => [.mk .a .g a.toNat true false, .mk .b .g b.toNat true false]
  | .fenceAcq _ _ => []
  | .fenceRel _ _ => []
  | .fenceFull _ _ => []
  | .bar _ d a b _ => [.mk .a .g a.toNat true false, .mk .b .g b.toNat true false, .mk .d .q d.toNat false true]
  | .bara _ d a b _ => [.mk .a .g a.toNat true false, .mk .b .g b.toNat true false, .mk .d .q d.toNat false true]
  | .barw _ d a _ => [.mk .a .g a.toNat true false, .mk .d .q d.toNat false true]
  | .barx _ d a b _ => [.mk .a .g a.toNat true false, .mk .b .g b.toNat true false, .mk .d .q d.toNat false true]
  | .barq _ d a _ => [.mk .a .g a.toNat true false, .mk .d .g d.toNat false true]
  | .send _ d a b _ => [.mk .a .g a.toNat true false, .mk .b .g b.toNat true false, .mk .b .g (b.toNat + 1) true false, .mk .d .g d.toNat false true]
  | .recv _ d => [.mk .d .g d.toNat false true, .mk .d .g (d.toNat + 1) false true]
  | .waitm _ => []
  | .mbput _ d a _ _ => [.mk .a .g a.toNat true false, .mk .d .mb d.toNat false true]
  | .mbget _ d a _ _ => [.mk .a .mb a.toNat true false, .mk .d .g d.toNat false true]
  | .chainSet _ a => [.mk .a .g a.toNat true false]
  | .chainRel _ a => [.mk .a .g a.toNat true false]
  | .chainAcq _ d => [.mk .d .g d.toNat false true]
  | .spawn _ d a b => [.mk .a .g a.toNat true false, .mk .b .g b.toNat true false, .mk .d .g d.toNat false true]
  | .yield _ => []
  | .exit _ => []
  | .trig _ => []
  | .gwait _ => []
  | .migrate _ a => [.mk .a .g a.toNat true false]
  | .rqput _ d a b => [.mk .a .g a.toNat true false, .mk .b .g b.toNat true false, .mk .d .g d.toNat false true]
  | .bpush _ d a _ v => [.mk .a .g a.toNat true false, .mk .d (elemFile v) d.toNat true false]
  | .bpushn _ d a n _ v => [.mk .a .g a.toNat true false] ++ (List.range (n.toNat + 1)).map fun i => .mk .d (elemFile v) (d.toNat + i) true false
  | .bpop _ d a _ v => [.mk .a .g a.toNat true false, .mk .d (elemFile v) d.toNat false true]
  | .bpeek _ d a _ v => [.mk .a .g a.toNat true false, .mk .d (elemFile v) d.toNat false true]
  | .bmput _ d a b => [.mk .a .g a.toNat true false, .mk .b .g b.toNat true false, .mk .d .g d.toNat true false]
  | .bmget _ d a b => [.mk .a .g a.toNat true false, .mk .b .g b.toNat true false, .mk .d .g d.toNat false true]
  | .bmdel _ d a b => [.mk .a .g a.toNat true false, .mk .b .g b.toNat true false, .mk .d .g d.toNat false true]
  | .bhput _ d a => [.mk .a .g a.toNat true false, .mk .d .g d.toNat true false]
  | .bhpop _ d a => [.mk .a .g a.toNat true false, .mk .d .g d.toNat false true]
  | .bhtop _ d a => [.mk .a .g a.toNat true false, .mk .d .g d.toNat false true]
  | .bgadd _ d a b o => [.mk .a .g a.toNat true false] ++ (if o = 0 then [.mk .b .g b.toNat true false] else []) ++ [.mk .d .g d.toNat true false]
  | .bgrd _ d a b => [.mk .a .g a.toNat true false, .mk .b .g b.toNat true false, .mk .d .g d.toNat false true]
  | .bgclr _ a b l => [.mk .a .g a.toNat true false] ++ (if l = 0 then [.mk .b .g b.toNat true false] else [])
  | .bpset _ d a b => [.mk .a .g a.toNat true false, .mk .b .g b.toNat true false, .mk .d .g d.toNat false true]
  | .blink _ a b _ => [.mk .a .g a.toNat true false, .mk .b .v b.toNat true false]
  | .bstat _ d a => [.mk .a .g a.toNat true false, .mk .d .g d.toNat false true]
  | .bvadd _ a b c _ => [.mk .a .g a.toNat true false, .mk .b .g b.toNat true false, .mk .c .v c.toNat true false]
  | .bvmul _ d a b _ => [.mk .a .g a.toNat true false, .mk .b .g b.toNat true false, .mk .d .g d.toNat true false]
  | .bvfma _ d a b c _ => [.mk .a .g a.toNat true false, .mk .b .g b.toNat true false, .mk .c .v c.toNat true false, .mk .d .g d.toNat true false]
  | .bvfill _ a b c => [.mk .a .g a.toNat true false, .mk .b .g b.toNat true false, .mk .c .v c.toNat true false]
  | .bvcvt _ a b _ => [.mk .a .g a.toNat true false, .mk .b .g b.toNat true false]
  | .bvsum _ d a b _ => [.mk .a .g a.toNat true false, .mk .b .g b.toNat true false, .mk .d .v d.toNat false true]
  | .bvrmax _ d a b _ => [.mk .a .g a.toNat true false, .mk .b .g b.toNat true false, .mk .d .v d.toNat false true]
  | .bsmx _ a b => [.mk .a .g a.toNat true false, .mk .b .g b.toNat true false]
  | .rowcpy _ d a b => [.mk .a .g a.toNat true false, .mk .b .g b.toNat true false, .mk .b .g (b.toNat + 1) true false, .mk .d .g d.toNat true false]
  | .rowset _ d b => [.mk .b .g b.toNat true false, .mk .b .g (b.toNat + 1) true false, .mk .d .g d.toNat true false]
  | .rowand _ d a b => [.mk .a .g a.toNat true false, .mk .a .g (a.toNat + 1) true false, .mk .b .g b.toNat true false, .mk .b .g (b.toNat + 1) true false, .mk .d .g d.toNat true false]
  | .rowor _ d a b => [.mk .a .g a.toNat true false, .mk .a .g (a.toNat + 1) true false, .mk .b .g b.toNat true false, .mk .b .g (b.toNat + 1) true false, .mk .d .g d.toNat true false]
  | .rowxor _ d a b => [.mk .a .g a.toNat true false, .mk .a .g (a.toNat + 1) true false, .mk .b .g b.toNat true false, .mk .b .g (b.toNat + 1) true false, .mk .d .g d.toNat true false]
  | .rownot _ d a b => [.mk .a .g a.toNat true false, .mk .b .g b.toNat true false, .mk .b .g (b.toNat + 1) true false, .mk .d .g d.toNat true false]
  | .rowmaj _ d a b => [.mk .a .g a.toNat true false, .mk .a .g (a.toNat + 1) true false, .mk .a .g (a.toNat + 2) true false, .mk .b .g b.toNat true false, .mk .b .g (b.toNat + 1) true false, .mk .d .g d.toNat true false]
  | .cpy _ d a b => [.mk .a .g a.toNat true false, .mk .b .g b.toNat true false, .mk .b .g (b.toNat + 1) true false, .mk .d .g d.toNat true false]
  | .walk _ d a b => [.mk .a .g a.toNat true false, .mk .b .g b.toNat true false, .mk .b .g (b.toNat + 1) true false, .mk .d .g d.toNat true false]
  | .mxv _ d a b => [.mk .a .g a.toNat true false, .mk .b .g b.toNat true false, .mk .d .g d.toNat true false]
  | .qld _ a i => [.mk .a .g a.toNat true (i == 1)]
  | .qst _ a i => [.mk .a .g a.toNat true (i == 1)]
  | .vadd _ d a b _ => [.mk .a .v a.toNat true false, .mk .b .v b.toNat true false, .mk .d .v d.toNat false true]
  | .vsub _ d a b _ => [.mk .a .v a.toNat true false, .mk .b .v b.toNat true false, .mk .d .v d.toNat false true]
  | .vmul _ d a b _ => [.mk .a .v a.toNat true false, .mk .b .v b.toNat true false, .mk .d .v d.toNat false true]
  | .vfma _ d a b c _ => [.mk .a .v a.toNat true false, .mk .b .v b.toNat true false, .mk .c .v c.toNat true false, .mk .d .v d.toNat false true]
  | .vmin _ d a b _ => [.mk .a .v a.toNat true false, .mk .b .v b.toNat true false, .mk .d .v d.toNat false true]
  | .vmax _ d a b _ => [.mk .a .v a.toNat true false, .mk .b .v b.toNat true false, .mk .d .v d.toNat false true]
  | .vdiv _ d a b _ => [.mk .a .v a.toNat true false, .mk .b .v b.toNat true false, .mk .d .v d.toNat false true]
  | .vabs _ d a _ => [.mk .a .v a.toNat true false, .mk .d .v d.toNat false true]
  | .vneg _ d a _ => [.mk .a .v a.toNat true false, .mk .d .v d.toNat false true]
  | .vsqrt _ d a => [.mk .a .v a.toNat true false, .mk .d .v d.toNat false true]
  | .vrcp _ d a => [.mk .a .v a.toNat true false, .mk .d .v d.toNat false true]
  | .vrsq _ d a => [.mk .a .v a.toNat true false, .mk .d .v d.toNat false true]
  | .vexp2 _ d a => [.mk .a .v a.toNat true false, .mk .d .v d.toNat false true]
  | .vlog2 _ d a => [.mk .a .v a.toNat true false, .mk .d .v d.toNat false true]
  | .vcvt _ d a _ => [.mk .a .v a.toNat true false, .mk .d .v d.toNat false true]
  | .vand _ d a b => [.mk .a .v a.toNat true false, .mk .b .v b.toNat true false, .mk .d .v d.toNat false true]
  | .vor _ d a b => [.mk .a .v a.toNat true false, .mk .b .v b.toNat true false, .mk .d .v d.toNat false true]
  | .vxor _ d a b => [.mk .a .v a.toNat true false, .mk .b .v b.toNat true false, .mk .d .v d.toNat false true]
  | .vshl _ d a b => [.mk .a .v a.toNat true false, .mk .b .v b.toNat true false, .mk .d .v d.toNat false true]
  | .vshr _ d a b => [.mk .a .v a.toNat true false, .mk .b .v b.toNat true false, .mk .d .v d.toNat false true]
  | .vsra _ d a b => [.mk .a .v a.toNat true false, .mk .b .v b.toNat true false, .mk .d .v d.toNat false true]
  | .vcmp _ a b _ => [.mk .a .v a.toNat true false, .mk .b .v b.toNat true false]
  | .vsel _ d a b => [.mk .a .v a.toNat true false, .mk .b .v b.toNat true false, .mk .d .v d.toNat false true]
  | .vbcast _ d a => [.mk .a .g a.toNat true false, .mk .d .v d.toNat false true]
  | .vins _ d a _ => [.mk .a .g a.toNat true false, .mk .d .v d.toNat false true]
  | .vext _ d a _ => [.mk .a .v a.toNat true false, .mk .d .g d.toNat false true]
  | .vperm _ d a b => [.mk .a .v a.toNat true false, .mk .b .v b.toNat true false, .mk .d .v d.toNat false true]
  | .vslide _ d a b _ => [.mk .a .v a.toNat true false, .mk .b .v b.toNat true false, .mk .d .v d.toNat false true]
  | .vredadd _ d a _ => [.mk .a .v a.toNat true false, .mk .d .g d.toNat false true]
  | .vredmax _ d a _ => [.mk .a .v a.toNat true false, .mk .d .g d.toNat false true]
  | .vredmin _ d a _ => [.mk .a .v a.toNat true false, .mk .d .g d.toNat false true]
  | .vscan _ d a _ => [.mk .a .v a.toNat true false, .mk .d .v d.toNat false true]
  | .vscanm _ d a _ => [.mk .a .v a.toNat true false, .mk .d .v d.toNat false true]
  | .vscanl _ d a b c => [.mk .a .v a.toNat true false, .mk .b .v b.toNat true false, .mk .c .g c.toNat true false, .mk .d .v d.toNat false true]
  | .mma _ d a b => [.mk .a .g a.toNat true false, .mk .b .g b.toNat true false, .mk .d .acc d.toNat false true]
  | .mzero _ d _ => [.mk .d .acc d.toNat false true]
  | .mld _ d a b k => [.mk .a .g a.toNat true false] ++ (if k = 1 then [.mk .b .g b.toNat true false] else []) ++ [.mk .d .acc d.toNat false true]
  | .mst _ d a _ => [.mk .a .g a.toNat true false, .mk .d .acc d.toNat true false]
  | .mcommit _ => []
  | .mwaitb _ d _ => [.mk .d .g d.toNat false true]
  | .mstat _ d b c => (if c = 1 then [.mk .b .acc b.toNat true false] else []) ++ [.mk .d .g d.toNat false true]
  | .cbld _ a b k => [.mk .a .g a.toNat true false] ++ (if k = 1 then [.mk .b .g b.toNat true false] else [])
  | .tableWalk _ _ => []
  | .replay _ _ => []
  | .faultAction _ _ => []
  | .deferredResultLand _ => []
  | .acceptanceReturn _ => []
  | .markerCommit _ => []
  | .storeAck _ => []
  | .clearance _ => []
  | .homeRequest _ => []
  | .invalidate _ _ => []
  | .recallWords _ _ => []
  | .recallAndDiscard _ _ => []
  | .forwardWord _ _ => []
  | .reservationGrant _ _ => []
  | .fillReply _ => []
  | .leaseExpiry _ _ => []
  | .bankOperation _ _ => []
  | .personalityChange _ _ => []
  | .link _ _ => []
  | .bankAluLineStep _ _ => []
  | .pinAccept _ _ => []
  | .matrixStepStart _ => []
  | .matrixStepEnd _ => []
  | .heldWriteProceed _ _ => []
  | .tileLoadDone _ => []
  | .cbldDone _ => []
  | .mxvAccept _ => []
  | .mxvEntryReserve _ => []
  | .qldDataArrive _ => []
  | .qdead _ => []
  | .rowStep _ _ => []
  | .copyEngineTurn _ => []
  | .traversalHop _ _ => []
  | .engineCompletion _ _ => []
  | .engineResume _ _ => []
  | .engineEnd _ _ => []
  | .slotWake _ => []
  | .messageInsert _ => []
  | .sendRetry _ => []
  | .sendAnswer _ => []
  | .travelDepart _ => []
  | .travelArrival _ => []
  | .travelReturn _ => []
  | .spawnArrival _ => []
  | .quantumExpiry _ _ => []
  | .berthTake _ => []
  | .berthPrefetchDone _ _ => []
  | .slotTakesRider _ _ => []
  | .frontEndPop => []
  | .batchHandout _ => []
  | .groupPlace _ => []
  | .gridComplete _ => []
  | .pilotElection => []
  | .dieFence _ _ => []
  | .dispatcherTimeout _ => []
  | .ctxkillComplete _ => []
  | .carveWrite _ _ => []
  | .ctxidWrite _ _ _ => []
  | .xinvWrite _ _ => []
  | .xinvComplete _ => []
  | .bpcfgWrite _ _ _ _ => []
  | .vpoolWrite _ _ => []
  | .srtWrite _ _ _ => []
  | .evacGo _ _ _ => []
  | .evacuationComplete _ => []
  | .fwdClear _ => []
  | .resumeThread _ => []
  | .endThread _ => []
  | .accessPortGo _ _ => []
  | .accessPortDone _ => []
  | .biasTableWrite _ _ => []
  | .rsync _ => []
  | .resyncRecordWritten => []
  | .hkill _ _ => []
  | .registerWrite _ _ _ => []
  | .powerOn => []
  | .cold _ => []
  | .warm _ => []
  | .bootDone _ _ => []
  | .refresh _ _ => []
  | .patrolScrub _ _ => []
  | .recalibration _ => []
  | .telemetrySample _ _ _ => []
  | .powerWindow _ => []
  | .coreIdle _ => []
  | .coreWake _ => []
  | .stackSelfRefresh _ => []
  | .linkRetraining _ _ => []
  | .flitResend _ => []
  | .noroute _ => []
  | .rd _ => []
  | .rdl _ => []
  | .wr _ => []
  | .wrd _ => []
  | .atm _ => []
  | .bka _ => []
  | .rds _ => []
  | .rdx _ => []
  | .wb _ => []
  | .snprsp _ => []
  | .agentTimeout _ => []
  | .data _ => []
  | .ack _ => []
  | .err _ => []
  | .parityError _ => []
/-- The marker bit of a word (R269); FMT, REP and NOP carry none. -/
def marked : Instr → Bool
  | .nop => false
  | .brk m _ => m
  | .trap m _ => m
  | .eret m => m
  | .rdsys m _ _ => m
  | .wrsys m _ _ => m
  | .susp m _ => m
  | .resm m _ => m
  | .rdslot m _ _ => m
  | .wrslot m _ _ => m
  | .ctxkill m _ => m
  | .fmt _ _ _ _ _ => false
  | .rep _ _ _ _ => false
  | .lui m _ _ => m
  | .add m _ _ _ => m
  | .sub m _ _ _ => m
  | .and m _ _ _ => m
  | .or m _ _ _ => m
  | .xor m _ _ _ => m
  | .andn m _ _ _ => m
  | .shl m _ _ _ => m
  | .shr m _ _ _ => m
  | .sra m _ _ _ => m
  | .min m _ _ _ => m
  | .max m _ _ _ => m
  | .minu m _ _ _ => m
  | .maxu m _ _ _ => m
  | .clz m _ _ => m
  | .ctz m _ _ => m
  | .popc m _ _ => m
  | .sext m _ _ _ => m
  | .addi m _ _ _ => m
  | .andi m _ _ _ => m
  | .ori m _ _ _ => m
  | .xori m _ _ _ => m
  | .shli m _ _ _ => m
  | .shri m _ _ _ => m
  | .srai m _ _ _ => m
  | .mul m _ _ _ => m
  | .mulh m _ _ _ => m
  | .mulhu m _ _ _ => m
  | .div m _ _ _ => m
  | .divu m _ _ _ => m
  | .rem m _ _ _ => m
  | .remu m _ _ _ => m
  | .fadd m _ _ _ _ => m
  | .fsub m _ _ _ _ => m
  | .fmul m _ _ _ _ => m
  | .fma m _ _ _ _ => m
  | .fdiv m _ _ _ _ => m
  | .fsqrt m _ _ _ => m
  | .fmin m _ _ _ _ => m
  | .fmax m _ _ _ _ => m
  | .fcmp m _ _ _ _ _ => m
  | .fcvt m _ _ _ _ => m
  | .cmp m _ _ _ _ _ => m
  | .cmpi m _ _ _ _ _ => m
  | .bt m _ _ => m
  | .bf m _ _ => m
  | .j m _ => m
  | .jal m _ _ => m
  | .jr m _ => m
  | .jalr m _ _ => m
  | .ld m _ _ _ _ _ => m
  | .st m _ _ _ _ _ => m
  | .ldv m _ _ _ _ => m
  | .stv m _ _ _ _ => m
  | .aadd m _ _ _ _ _ => m
  | .aand m _ _ _ _ _ => m
  | .aor m _ _ _ _ _ => m
  | .axor m _ _ _ _ _ => m
  | .amin m _ _ _ _ _ => m
  | .amax m _ _ _ _ _ => m
  | .aswp m _ _ _ _ _ => m
  | .acas m _ _ _ _ _ => m
  | .afadd m _ _ _ _ _ => m
  | .clean m _ _ => m
  | .inval m _ _ => m
  | .flush m _ _ => m
  | .pref m _ _ _ => m
  | .fenceAcq m _ => m
  | .fenceRel m _ => m
  | .fenceFull m _ => m
  | .bar m _ _ _ _ => m
  | .bara m _ _ _ _ => m
  | .barw m _ _ _ => m
  | .barx m _ _ _ _ => m
  | .barq m _ _ _ => m
  | .send m _ _ _ _ => m
  | .recv m _ => m
  | .waitm m => m
  | .mbput m _ _ _ _ => m
  | .mbget m _ _ _ _ => m
  | .chainSet m _ => m
  | .chainRel m _ => m
  | .chainAcq m _ => m
  | .spawn m _ _ _ => m
  | .yield m => m
  | .exit m => m
  | .trig m => m
  | .gwait m => m
  | .migrate m _ => m
  | .rqput m _ _ _ => m
  | .bpush m _ _ _ _ => m
  | .bpushn m _ _ _ _ _ => m
  | .bpop m _ _ _ _ => m
  | .bpeek m _ _ _ _ => m
  | .bmput m _ _ _ => m
  | .bmget m _ _ _ => m
  | .bmdel m _ _ _ => m
  | .bhput m _ _ => m
  | .bhpop m _ _ => m
  | .bhtop m _ _ => m
  | .bgadd m _ _ _ _ => m
  | .bgrd m _ _ _ => m
  | .bgclr m _ _ _ => m
  | .bpset m _ _ _ => m
  | .blink m _ _ _ => m
  | .bstat m _ _ => m
  | .bvadd m _ _ _ _ => m
  | .bvmul m _ _ _ _ => m
  | .bvfma m _ _ _ _ _ => m
  | .bvfill m _ _ _ => m
  | .bvcvt m _ _ _ => m
  | .bvsum m _ _ _ _ => m
  | .bvrmax m _ _ _ _ => m
  | .bsmx m _ _ => m
  | .rowcpy m _ _ _ => m
  | .rowset m _ _ => m
  | .rowand m _ _ _ => m
  | .rowor m _ _ _ => m
  | .rowxor m _ _ _ => m
  | .rownot m _ _ _ => m
  | .rowmaj m _ _ _ => m
  | .cpy m _ _ _ => m
  | .walk m _ _ _ => m
  | .mxv m _ _ _ => m
  | .qld m _ _ => m
  | .qst m _ _ => m
  | .vadd m _ _ _ _ => m
  | .vsub m _ _ _ _ => m
  | .vmul m _ _ _ _ => m
  | .vfma m _ _ _ _ _ => m
  | .vmin m _ _ _ _ => m
  | .vmax m _ _ _ _ => m
  | .vdiv m _ _ _ _ => m
  | .vabs m _ _ _ => m
  | .vneg m _ _ _ => m
  | .vsqrt m _ _ => m
  | .vrcp m _ _ => m
  | .vrsq m _ _ => m
  | .vexp2 m _ _ => m
  | .vlog2 m _ _ => m
  | .vcvt m _ _ _ => m
  | .vand m _ _ _ => m
  | .vor m _ _ _ => m
  | .vxor m _ _ _ => m
  | .vshl m _ _ _ => m
  | .vshr m _ _ _ => m
  | .vsra m _ _ _ => m
  | .vcmp m _ _ _ => m
  | .vsel m _ _ _ => m
  | .vbcast m _ _ => m
  | .vins m _ _ _ => m
  | .vext m _ _ _ => m
  | .vperm m _ _ _ => m
  | .vslide m _ _ _ _ => m
  | .vredadd m _ _ _ => m
  | .vredmax m _ _ _ => m
  | .vredmin m _ _ _ => m
  | .vscan m _ _ _ => m
  | .vscanm m _ _ _ => m
  | .vscanl m _ _ _ _ => m
  | .mma m _ _ _ => m
  | .mzero m _ _ => m
  | .mld m _ _ _ _ => m
  | .mst m _ _ _ => m
  | .mcommit m => m
  | .mwaitb m _ _ => m
  | .mstat m _ _ _ => m
  | .cbld m _ _ _ => m
  | .tableWalk _ _ => false
  | .replay _ _ => false
  | .faultAction _ _ => false
  | .deferredResultLand _ => false
  | .acceptanceReturn _ => false
  | .markerCommit _ => false
  | .storeAck _ => false
  | .clearance _ => false
  | .homeRequest _ => false
  | .invalidate _ _ => false
  | .recallWords _ _ => false
  | .recallAndDiscard _ _ => false
  | .forwardWord _ _ => false
  | .reservationGrant _ _ => false
  | .fillReply _ => false
  | .leaseExpiry _ _ => false
  | .bankOperation _ _ => false
  | .personalityChange _ _ => false
  | .link _ _ => false
  | .bankAluLineStep _ _ => false
  | .pinAccept _ _ => false
  | .matrixStepStart _ => false
  | .matrixStepEnd _ => false
  | .heldWriteProceed _ _ => false
  | .tileLoadDone _ => false
  | .cbldDone _ => false
  | .mxvAccept _ => false
  | .mxvEntryReserve _ => false
  | .qldDataArrive _ => false
  | .qdead _ => false
  | .rowStep _ _ => false
  | .copyEngineTurn _ => false
  | .traversalHop _ _ => false
  | .engineCompletion _ _ => false
  | .engineResume _ _ => false
  | .engineEnd _ _ => false
  | .slotWake _ => false
  | .messageInsert _ => false
  | .sendRetry _ => false
  | .sendAnswer _ => false
  | .travelDepart _ => false
  | .travelArrival _ => false
  | .travelReturn _ => false
  | .spawnArrival _ => false
  | .quantumExpiry _ _ => false
  | .berthTake _ => false
  | .berthPrefetchDone _ _ => false
  | .slotTakesRider _ _ => false
  | .frontEndPop => false
  | .batchHandout _ => false
  | .groupPlace _ => false
  | .gridComplete _ => false
  | .pilotElection => false
  | .dieFence _ _ => false
  | .dispatcherTimeout _ => false
  | .ctxkillComplete _ => false
  | .carveWrite _ _ => false
  | .ctxidWrite _ _ _ => false
  | .xinvWrite _ _ => false
  | .xinvComplete _ => false
  | .bpcfgWrite _ _ _ _ => false
  | .vpoolWrite _ _ => false
  | .srtWrite _ _ _ => false
  | .evacGo _ _ _ => false
  | .evacuationComplete _ => false
  | .fwdClear _ => false
  | .resumeThread _ => false
  | .endThread _ => false
  | .accessPortGo _ _ => false
  | .accessPortDone _ => false
  | .biasTableWrite _ _ => false
  | .rsync _ => false
  | .resyncRecordWritten => false
  | .hkill _ _ => false
  | .registerWrite _ _ _ => false
  | .powerOn => false
  | .cold _ => false
  | .warm _ => false
  | .bootDone _ _ => false
  | .refresh _ _ => false
  | .patrolScrub _ _ => false
  | .recalibration _ => false
  | .telemetrySample _ _ _ => false
  | .powerWindow _ => false
  | .coreIdle _ => false
  | .coreWake _ => false
  | .stackSelfRefresh _ => false
  | .linkRetraining _ _ => false
  | .flitResend _ => false
  | .noroute _ => false
  | .rd _ => false
  | .rdl _ => false
  | .wr _ => false
  | .wrd _ => false
  | .atm _ => false
  | .bka _ => false
  | .rds _ => false
  | .rdx _ => false
  | .wb _ => false
  | .snprsp _ => false
  | .agentTimeout _ => false
  | .data _ => false
  | .ack _ => false
  | .err _ => false
  | .parityError _ => false

/-- The major opcode of a word (R279); 64 for an event. -/
def major : Instr → Nat
  | .nop => 0
  | .brk _ _ => 0
  | .trap _ _ => 0
  | .eret _ => 0
  | .rdsys _ _ _ => 0
  | .wrsys _ _ _ => 0
  | .susp _ _ => 0
  | .resm _ _ => 0
  | .rdslot _ _ _ => 0
  | .wrslot _ _ _ => 0
  | .ctxkill _ _ => 0
  | .fmt _ _ _ _ _ => 1
  | .rep _ _ _ _ => 2
  | .lui _ _ _ => 3
  | .add _ _ _ _ => 4
  | .sub _ _ _ _ => 4
  | .and _ _ _ _ => 4
  | .or _ _ _ _ => 4
  | .xor _ _ _ _ => 4
  | .andn _ _ _ _ => 4
  | .shl _ _ _ _ => 4
  | .shr _ _ _ _ => 4
  | .sra _ _ _ _ => 4
  | .min _ _ _ _ => 4
  | .max _ _ _ _ => 4
  | .minu _ _ _ _ => 4
  | .maxu _ _ _ _ => 4
  | .clz _ _ _ => 4
  | .ctz _ _ _ => 4
  | .popc _ _ _ => 4
  | .sext _ _ _ _ => 4
  | .addi _ _ _ _ => 5
  | .andi _ _ _ _ => 6
  | .ori _ _ _ _ => 7
  | .xori _ _ _ _ => 8
  | .shli _ _ _ _ => 9
  | .shri _ _ _ _ => 9
  | .srai _ _ _ _ => 9
  | .mul _ _ _ _ => 10
  | .mulh _ _ _ _ => 10
  | .mulhu _ _ _ _ => 10
  | .div _ _ _ _ => 10
  | .divu _ _ _ _ => 10
  | .rem _ _ _ _ => 10
  | .remu _ _ _ _ => 10
  | .fadd _ _ _ _ _ => 11
  | .fsub _ _ _ _ _ => 11
  | .fmul _ _ _ _ _ => 11
  | .fma _ _ _ _ _ => 11
  | .fdiv _ _ _ _ _ => 11
  | .fsqrt _ _ _ _ => 11
  | .fmin _ _ _ _ _ => 11
  | .fmax _ _ _ _ _ => 11
  | .fcmp _ _ _ _ _ _ => 11
  | .fcvt _ _ _ _ _ => 11
  | .cmp _ _ _ _ _ _ => 12
  | .cmpi _ _ _ _ _ _ => 13
  | .bt _ _ _ => 14
  | .bf _ _ _ => 14
  | .j _ _ => 15
  | .jal _ _ _ => 16
  | .jr _ _ => 17
  | .jalr _ _ _ => 17
  | .ld _ _ _ _ _ _ => 18
  | .st _ _ _ _ _ _ => 19
  | .ldv _ _ _ _ _ => 20
  | .stv _ _ _ _ _ => 21
  | .aadd _ _ _ _ _ _ => 22
  | .aand _ _ _ _ _ _ => 22
  | .aor _ _ _ _ _ _ => 22
  | .axor _ _ _ _ _ _ => 22
  | .amin _ _ _ _ _ _ => 22
  | .amax _ _ _ _ _ _ => 22
  | .aswp _ _ _ _ _ _ => 22
  | .acas _ _ _ _ _ _ => 22
  | .afadd _ _ _ _ _ _ => 22
  | .clean _ _ _ => 23
  | .inval _ _ _ => 23
  | .flush _ _ _ => 23
  | .pref _ _ _ _ => 23
  | .fenceAcq _ _ => 24
  | .fenceRel _ _ => 24
  | .fenceFull _ _ => 24
  | .bar _ _ _ _ _ => 25
  | .bara _ _ _ _ _ => 25
  | .barw _ _ _ _ => 25
  | .barx _ _ _ _ _ => 25
  | .barq _ _ _ _ => 25
  | .send _ _ _ _ _ => 26
  | .recv _ _ => 26
  | .waitm _ => 26
  | .mbput _ _ _ _ _ => 26
  | .mbget _ _ _ _ _ => 26
  | .chainSet _ _ => 26
  | .chainRel _ _ => 26
  | .chainAcq _ _ => 26
  | .spawn _ _ _ _ => 27
  | .yield _ => 27
  | .exit _ => 27
  | .trig _ => 27
  | .gwait _ => 27
  | .migrate _ _ => 27
  | .rqput _ _ _ _ => 27
  | .bpush _ _ _ _ _ => 28
  | .bpushn _ _ _ _ _ _ => 28
  | .bpop _ _ _ _ _ => 28
  | .bpeek _ _ _ _ _ => 28
  | .bmput _ _ _ _ => 28
  | .bmget _ _ _ _ => 28
  | .bmdel _ _ _ _ => 28
  | .bhput _ _ _ => 28
  | .bhpop _ _ _ => 28
  | .bhtop _ _ _ => 28
  | .bgadd _ _ _ _ _ => 28
  | .bgrd _ _ _ _ => 28
  | .bgclr _ _ _ _ => 28
  | .bpset _ _ _ _ => 28
  | .blink _ _ _ _ => 28
  | .bstat _ _ _ => 28
  | .bvadd _ _ _ _ _ => 29
  | .bvmul _ _ _ _ _ => 29
  | .bvfma _ _ _ _ _ _ => 29
  | .bvfill _ _ _ _ => 29
  | .bvcvt _ _ _ _ => 29
  | .bvsum _ _ _ _ _ => 29
  | .bvrmax _ _ _ _ _ => 29
  | .bsmx _ _ _ => 29
  | .rowcpy _ _ _ _ => 30
  | .rowset _ _ _ => 30
  | .rowand _ _ _ _ => 30
  | .rowor _ _ _ _ => 30
  | .rowxor _ _ _ _ => 30
  | .rownot _ _ _ _ => 30
  | .rowmaj _ _ _ _ => 30
  | .cpy _ _ _ _ => 31
  | .walk _ _ _ _ => 31
  | .mxv _ _ _ _ => 31
  | .qld _ _ _ => 31
  | .qst _ _ _ => 31
  | .vadd _ _ _ _ _ => 32
  | .vsub _ _ _ _ _ => 32
  | .vmul _ _ _ _ _ => 32
  | .vfma _ _ _ _ _ _ => 32
  | .vmin _ _ _ _ _ => 32
  | .vmax _ _ _ _ _ => 32
  | .vdiv _ _ _ _ _ => 32
  | .vabs _ _ _ _ => 32
  | .vneg _ _ _ _ => 32
  | .vsqrt _ _ _ => 33
  | .vrcp _ _ _ => 33
  | .vrsq _ _ _ => 33
  | .vexp2 _ _ _ => 33
  | .vlog2 _ _ _ => 33
  | .vcvt _ _ _ _ => 33
  | .vand _ _ _ _ => 34
  | .vor _ _ _ _ => 34
  | .vxor _ _ _ _ => 34
  | .vshl _ _ _ _ => 34
  | .vshr _ _ _ _ => 34
  | .vsra _ _ _ _ => 34
  | .vcmp _ _ _ _ => 35
  | .vsel _ _ _ _ => 35
  | .vbcast _ _ _ => 35
  | .vins _ _ _ _ => 35
  | .vext _ _ _ _ => 35
  | .vperm _ _ _ _ => 35
  | .vslide _ _ _ _ _ => 35
  | .vredadd _ _ _ _ => 36
  | .vredmax _ _ _ _ => 36
  | .vredmin _ _ _ _ => 36
  | .vscan _ _ _ _ => 36
  | .vscanm _ _ _ _ => 36
  | .vscanl _ _ _ _ _ => 36
  | .mma _ _ _ _ => 37
  | .mzero _ _ _ => 37
  | .mld _ _ _ _ _ => 37
  | .mst _ _ _ _ => 37
  | .mcommit _ => 37
  | .mwaitb _ _ _ => 37
  | .mstat _ _ _ _ => 37
  | .cbld _ _ _ _ => 37
  | .tableWalk _ _ => 64
  | .replay _ _ => 64
  | .faultAction _ _ => 64
  | .deferredResultLand _ => 64
  | .acceptanceReturn _ => 64
  | .markerCommit _ => 64
  | .storeAck _ => 64
  | .clearance _ => 64
  | .homeRequest _ => 64
  | .invalidate _ _ => 64
  | .recallWords _ _ => 64
  | .recallAndDiscard _ _ => 64
  | .forwardWord _ _ => 64
  | .reservationGrant _ _ => 64
  | .fillReply _ => 64
  | .leaseExpiry _ _ => 64
  | .bankOperation _ _ => 64
  | .personalityChange _ _ => 64
  | .link _ _ => 64
  | .bankAluLineStep _ _ => 64
  | .pinAccept _ _ => 64
  | .matrixStepStart _ => 64
  | .matrixStepEnd _ => 64
  | .heldWriteProceed _ _ => 64
  | .tileLoadDone _ => 64
  | .cbldDone _ => 64
  | .mxvAccept _ => 64
  | .mxvEntryReserve _ => 64
  | .qldDataArrive _ => 64
  | .qdead _ => 64
  | .rowStep _ _ => 64
  | .copyEngineTurn _ => 64
  | .traversalHop _ _ => 64
  | .engineCompletion _ _ => 64
  | .engineResume _ _ => 64
  | .engineEnd _ _ => 64
  | .slotWake _ => 64
  | .messageInsert _ => 64
  | .sendRetry _ => 64
  | .sendAnswer _ => 64
  | .travelDepart _ => 64
  | .travelArrival _ => 64
  | .travelReturn _ => 64
  | .spawnArrival _ => 64
  | .quantumExpiry _ _ => 64
  | .berthTake _ => 64
  | .berthPrefetchDone _ _ => 64
  | .slotTakesRider _ _ => 64
  | .frontEndPop => 64
  | .batchHandout _ => 64
  | .groupPlace _ => 64
  | .gridComplete _ => 64
  | .pilotElection => 64
  | .dieFence _ _ => 64
  | .dispatcherTimeout _ => 64
  | .ctxkillComplete _ => 64
  | .carveWrite _ _ => 64
  | .ctxidWrite _ _ _ => 64
  | .xinvWrite _ _ => 64
  | .xinvComplete _ => 64
  | .bpcfgWrite _ _ _ _ => 64
  | .vpoolWrite _ _ => 64
  | .srtWrite _ _ _ => 64
  | .evacGo _ _ _ => 64
  | .evacuationComplete _ => 64
  | .fwdClear _ => 64
  | .resumeThread _ => 64
  | .endThread _ => 64
  | .accessPortGo _ _ => 64
  | .accessPortDone _ => 64
  | .biasTableWrite _ _ => 64
  | .rsync _ => 64
  | .resyncRecordWritten => 64
  | .hkill _ _ => 64
  | .registerWrite _ _ _ => 64
  | .powerOn => 64
  | .cold _ => 64
  | .warm _ => 64
  | .bootDone _ _ => 64
  | .refresh _ _ => 64
  | .patrolScrub _ _ => 64
  | .recalibration _ => 64
  | .telemetrySample _ _ _ => 64
  | .powerWindow _ => 64
  | .coreIdle _ => 64
  | .coreWake _ => 64
  | .stackSelfRefresh _ => 64
  | .linkRetraining _ _ => 64
  | .flitResend _ => 64
  | .noroute _ => 64
  | .rd _ => 64
  | .rdl _ => 64
  | .wr _ => 64
  | .wrd _ => 64
  | .atm _ => 64
  | .bka _ => 64
  | .rds _ => 64
  | .rdx _ => 64
  | .wb _ => 64
  | .snprsp _ => 64
  | .agentTimeout _ => 64
  | .data _ => 64
  | .ack _ => 64
  | .err _ => 64
  | .parityError _ => 64

/-! ### Prefixes (R282-R286) -/

/-- The fields of an FMT word. -/
structure Fmt where
  fa   : Nat
  fb   : Nat
  fd   : Nat
  base : Nat
  scl  : Nat
  deriving DecidableEq, Repr

/-- The FMT fields of the descriptor; all zero without one. -/
def fmtOf (d : Descriptor) : Fmt :=
  let w := d.fmt.toNat
  { fa := field w 24 20, fb := field w 19 15, fd := field w 14 10, base := field w 9 5, scl := field w 1 0 }

/-- COUNT and the strides of a REP word (R283). -/
def repCount (w : IWord) : Nat := field w.toNat 24 17
def repStride (w : IWord) : OperandField → Int
  | .d => signed 5 (field w.toNat 16 12)
  | .a => signed 5 (field w.toNat 11 7)
  | .b => signed 5 (field w.toNat 6 2)
  | .c => 0

/-- A word is a valid FMT, or REP, prefix word (R278). -/
def isFmtWord (w : IWord) : Bool := match decode w with
  | .ok (.fmt a b d e c) => (Instr.fmt a b d e c).wf
  | _ => false
def isRepWord (w : IWord) : Bool := match decode w with
  | .ok (.rep _ _ _ _) => true
  | _ => false

/-- The number of an operand in iteration i (R283). -/
def stepped (d : Descriptor) (i : Nat) (f : OperandField) (n : Nat) : Int :=
  if d.rep = 0 then n else (n : Int) + i * repStride d.rep f

/-- The number of a field's register in the present iteration of a thread's unit. -/
def regNum (th : Thread) (f : OperandField) (n : Nat) : Nat := (stepped th.desc th.ss.repc.toNat f n).toNat

/-- A register number exists in its file for the thread that issues (R112, R113, R285). In the arithmetic thread v16-v29
do not exist, 30 is vlq, only a source, and 31 is vsq, only a destination; a stride carries no number there (`carried`). -/
def regExists (t : ThreadRef) (o : Operand) (carried : Bool) (n : Int) : Bool :=
  match o.file with
  | .g => decide (0 ≤ n ∧ n ≤ 31)
  | .v => if isArith t then decide (0 ≤ n ∧ n ≤ 15) || (!carried && ((n == 30 && !o.dst) || (n == 31 && !o.src)))
          else if isAddr t then false else decide (0 ≤ n ∧ n ≤ 31)
  | .acc => isDeck t && decide (0 ≤ n ∧ n ≤ 15)
  | .q => decide (0 ≤ n ∧ n ≤ 15)
  | .mb => decide (0 ≤ n ∧ n ≤ 7)

/-- Iteration k of a unit names another register in a field than the unit's word does (R113, R283). -/
def carries (d : Descriptor) (k : Nat) (f : OperandField) : Bool := d.rep != 0 && k != 0 && repStride d.rep f != 0

/-- The iterations whose registers are checked: with COUNT = 0 the instruction is decoded as it stands (R284, R285). -/
def iterations (d : Descriptor) : List Nat := if d.rep = 0 then [0] else List.range (max 1 (repCount d.rep))

/-- A field that the instruction does not use as a register takes no stride (R283). -/
def stridesUsed (i : Instr) (w : IWord) : Bool :=
  [OperandField.d, .a, .b].all fun f => repStride w f == 0 || (operands i).any fun o => o.fld == f

/-- The instructions that may stand under REP (R286). -/
def repeatable : Instr → Bool
  | .cmp _ _ k _ _ _ => k == 0
  | .cmpi _ _ k _ _ _ => k == 0
  | .cpy _ _ _ _ | .walk _ _ _ _ | .mxv _ _ _ _ => false
  | .mcommit _ | .mwaitb _ _ _ | .mstat _ _ _ _ | .cbld _ _ _ _ => false
  | i => [0x03, 0x04, 0x05, 0x06, 0x07, 0x08, 0x09, 0x0A, 0x0B, 0x12, 0x13, 0x14, 0x15, 0x16, 0x17, 0x1C, 0x1D, 0x1F, 0x20,
          0x21, 0x22, 0x23, 0x24, 0x25].contains (major i)

/-- Memory formats of a vector access or QLD: codes 0-11 (R337). -/
def memFormat (c : Nat) : Bool := decide (c ≤ 11)

/-- Formats that a lane operand of an FP32, or INT32, instruction accepts (R388). -/
def fpLaneFormat (c : Nat) : Bool := decide (c ≤ 5)
def intLaneFormat (c : Nat) : Bool := c == 0 || c == 10 || (decide (6 ≤ c) && decide (c ≤ 9))

/-- Register number d of a unit's word is vsq: only in the arithmetic thread (R113, R404). -/
def namesVsq (t : ThreadRef) (d : Reg) : Bool := isArith t && d == 31

/-- It is vsq in every iteration (R388, R404). -/
def staysVsq (t : ThreadRef) (x : Descriptor) (d : Reg) : Bool :=
  namesVsq t d && (iterations x).all fun k => !carries x k .d

/-- An FMT on an instruction marked F: FA, and FB where it has a b operand, of the lane type; FD only for vsq, a narrow
format of the lane type (R388, R404). -/
def laneFmt (int : Bool) (two vsq : Bool) (f : Fmt) : Bool :=
  let ok := fun c => if int then intLaneFormat c else fpLaneFormat c
  f.base == 0 && f.scl == 0 && ok f.fa && (if two then ok f.fb else f.fb == 0) &&
    (f.fd == 0 || (vsq && (if int then decide (6 ≤ f.fd ∧ f.fd ≤ 9) else decide (2 ≤ f.fd ∧ f.fd ≤ 5))))

/-- The width of a VCVT side, 32, 16 or 8 bits; none for a code that R393 does not list. -/
def cvtWidth (c : Nat) : Option Nat :=
  if c = 0 ∨ c = 1 ∨ c = 10 ∨ c = 11 then some 32
  else if c = 2 ∨ c = 3 ∨ c = 8 ∨ c = 9 then some 16
  else if c = 4 ∨ c = 5 ∨ c = 6 ∨ c = 7 then some 8 else none

/-- VCVT's prefix (R393, R404). -/
def cvtFmt (f : Fmt) (p : Nat) (vsq : Bool) : Bool :=
  f.fb == 0 && f.base == 0 && f.scl == 0 &&
  match cvtWidth f.fa, cvtWidth f.fd with
  | some x, some y =>
    (x == 32 || y == 32) && decide (p < 32 / min x y) && (!(vsq && y != 32) || p == 0)
  | _, _ => false

/-- The pairs of MMA: accepted scaling on A and B as (optional or required on B, optional on A) (R408). -/
def mmaFmt (f : Fmt) : Bool :=
  let fa := if f.fa = 0 then 3 else f.fa
  let fb := if f.fb = 0 then 3 else f.fb
  f.fd == 0 && (f.scl != 0 || f.base == 0) &&
  (if (fa = 2 ∨ fa = 3) ∧ (fb = 2 ∨ fb = 3) then f.scl == 0
   else if (fa = 4 ∨ fa = 5) ∧ (fb = 4 ∨ fb = 5) then true
   else if (fa = 6 ∨ fa = 7) ∧ (fb = 6 ∨ fb = 7) then f.scl == 0
   else if fa = 3 ∧ fb = 15 then f.scl == 2
   else if (fa = 4 ∨ fa = 5) ∧ fb = 15 then f.scl == 2 || f.scl == 3
   else false)

/-- MXV's prefix (R379). -/
def mxvFmt (f : Fmt) : Bool :=
  f.fd == 0 && f.base == 0 && f.scl == 0 &&
  ((f.fa == 4 && f.fb == 4) || (f.fa == 5 && f.fb == 5) || (f.fa == 3 && f.fb == 3) ||
   (f.fa == 15 && (f.fb == 3 || f.fb == 4 || f.fb == 5)))

/-- Whether the instruction may stand, in a thread, in a unit with these prefixes, as far as FMT goes (R281, R282). -/
def fmtAccepted (t : ThreadRef) (x : Descriptor) (i : Instr) : Bool :=
  let present := x.fmt != 0
  let f := fmtOf x
  match i with
  | .fcvt _ _ _ _ p =>
    !present || (decide (1 ≤ f.fa ∧ f.fa ≤ 14) && p == 0 && f.fb == 0 && f.fd == 0 && f.base == 0 && f.scl == 0)
  | .ldv _ _ _ _ _ | .stv _ _ _ _ _ | .qld _ _ _ =>
    !present || (f.fa == 0 && f.fb == 0 && f.base == 0 && f.scl == 0 && memFormat f.fd)
  | .mma _ _ _ _ => if present then mmaFmt f else true
  | .mst _ _ _ _ =>
    !present || (f.fa == 0 && f.fb == 0 && f.base == 0 && f.scl == 0 && (f.fd == 2 || f.fd == 3))
  | .mxv _ _ _ _ => present && mxvFmt f
  | .vcvt _ d _ p => present && cvtFmt f p.toNat (namesVsq t d)
  | .vadd _ d _ _ ty | .vsub _ d _ _ ty | .vmul _ d _ _ ty | .vmin _ d _ _ ty | .vmax _ d _ _ ty | .vdiv _ d _ _ ty
  | .vfma _ d _ _ _ ty => !present || laneFmt (ty == 1) true (staysVsq t x d) f
  | .vabs _ d _ ty | .vneg _ d _ ty | .vscan _ d _ ty | .vscanm _ d _ ty => !present || laneFmt (ty == 1) false (staysVsq t x d) f
  | .vsqrt _ d _ | .vrcp _ d _ | .vrsq _ d _ | .vexp2 _ d _ | .vlog2 _ d _ => !present || laneFmt false false (staysVsq t x d) f
  | .vredadd _ _ _ ty | .vredmax _ _ _ ty | .vredmin _ _ _ ty => !present || laneFmt (ty == 1) false false f
  | .vcmp _ _ _ c => !present || laneFmt (decide (16 ≤ c.toNat)) true false f
  | .vscanl _ d _ _ _ => !present || laneFmt false true (staysVsq t x d) f
  | _ => !present

/-- The system registers whose read right is U (R318). -/
def sysUserReadable (n : BitVec 10) : Bool := decide (n.toNat ≤ 4)

/-- The kinds of thread that may issue an instruction (R112, R298, R336, R343, R347, R349, R356, R361, R404, R407). -/
def threadMay (i : Instr) (t : ThreadRef) : Bool :=
  if isDeck t then
    match i with
    | .cpy _ _ _ _ | .walk _ _ _ _ | .mxv _ _ _ _ | .qld _ _ _ | .qst _ _ _ => false
    | i => major i != 0x1E && major i < 64
  else if isAddr t then
    match i with
    | .rdsys _ _ n => sysUserReadable n
    | .wrsys _ _ n => n == 0
    | .chainSet _ _ | .chainRel _ _ | .chainAcq _ _ => false
    | i => [0x01, 0x02, 0x03, 0x04, 0x05, 0x06, 0x07, 0x08, 0x09, 0x0A, 0x0B, 0x0C, 0x0D, 0x0E, 0x0F, 0x10, 0x11, 0x12, 0x13,
            0x16, 0x18, 0x1A, 0x1B, 0x1E, 0x1F].contains (major i)
  else
    match i with
    | .rdsys _ _ n => sysUserReadable n
    | .wrsys _ _ n => n == 0
    | .mbput _ _ _ _ _ | .mbget _ _ _ _ _ | .exit _ => true
    | .vins _ d _ _ => d != 31
    | i => [0x01, 0x02, 0x03, 0x04, 0x05, 0x06, 0x07, 0x08, 0x09, 0x0A, 0x0B, 0x0C, 0x0D, 0x0E, 0x0F, 0x10, 0x11, 0x20, 0x21,
            0x22, 0x23, 0x24].contains (major i)

/-- An instruction whose operands anchor its rider: a v register, an accumulator, vlq or vsq, or CBLD (R194). -/
def anchors (i : Instr) : Bool :=
  match i with
  | .cbld _ _ _ _ => true
  | i => (operands i).any fun o => o.file == .v || o.file == .acc

/-- The g28 operands that the unit reads, each a pop under UP, in the order a, b, c, d (R197). BASE of an FMT is read
after them. -/
def chainPops (th : Thread) (i : Instr) : Nat :=
  if th.ss.up then
    ((operands i).filter fun o => o.src && o.file == .g && regNum th o.fld o.num == 28).length
      + (if (fmtOf th.desc).scl != 0 && (fmtOf th.desc).base == 28 then 1 else 0)
  else 0

/-- The vlq operands of the unit (R115). DEDUCED, log entry 23. -/
def vlqPops (t : ThreadRef) (th : Thread) (i : Instr) : Nat :=
  if isArith t then
    ((operands i).filter fun o => o.src && o.file == .v && regNum th o.fld o.num == 30).length
  else 0

/-- A g result for g29 under DN is pushed downstream (R197). -/
def chainPush (th : Thread) (i : Instr) : Bool :=
  th.ss.dn && (operands i).any fun o => o.dst && o.file == .g && regNum th o.fld o.num == 29

/-- The result goes to vsq (R116). -/
def vsqPush (t : ThreadRef) (th : Thread) (i : Instr) : Bool :=
  isArith t && (operands i).any fun o => o.dst && o.file == .v && regNum th o.fld o.num == 31

/-- Bound registers in the wrong role: g28 as a destination under UP, g29 as a source under DN (R197), in iteration
i of a unit. -/
def chainMisuse (th : Thread) (d : Descriptor) (k : Nat) (i : Instr) : Bool :=
  ((operands i).any fun o => o.file == .g &&
    ((th.ss.up && o.dst && stepped d k o.fld o.num == 28) || (th.ss.dn && o.src && stepped d k o.fld o.num == 29))) ||
    (th.ss.dn && (fmtOf d).scl != 0 && (fmtOf d).base == 29)

/-- A unit raises ILL at decode (R280-R286): the instruction's own limits, the issuing thread, the prefixes, and the
registers of every iteration. -/
def unitLegal (t : ThreadRef) (th : Thread) (d : Descriptor) (i : Instr) : Bool :=
  i.wf && threadMay i t && fmtAccepted t d i &&
  (d.rep == 0 || (repeatable i && stridesUsed i d.rep)) &&
  (iterations d).all (fun k =>
    (operands i).all (fun o => regExists t o (carries d k o.fld) (stepped d k o.fld o.num)) && !chainMisuse th d k i &&
    match i with
    | .acas _ x _ _ _ _ => stepped d k .d x.toNat % 2 == 0
    | _ => true)

/-- A descriptor that resumption finds is valid: valid prefix words, and no REPC without a REP (R287). -/
def descValid (th : Thread) : Bool :=
  (th.desc.fmt == 0 || isFmtWord th.desc.fmt) && (th.desc.rep == 0 || isRepWord th.desc.rep) &&
    (th.desc.rep != 0 || th.ss.repc == 0)

end Sys2Proof.Machine
end

