-- ==== Sys2Proof/Machine/Issue.lean ====
section
/-! DEFINITION. Issuing a unit: what every instruction word shares (R280-R297). A meaning says what its instruction does;
`unit` decides whether the unit may issue, parks its thread at markers and bindings, faults it precisely, and completes
the iteration. -/

namespace Sys2Proof.Machine

/-- What the body of an instruction comes to. -/
inductive Res where
  | done (s : State)                      -- performed; on to the next iteration or unit
  | jump (s : State) (pc : Nat)           -- performed; the next unit is at pc
  | park (w : Park) (s : State)           -- waits: the unit issues again when its thread is READY
  | fault (cls : FaultClass) (cause detail : Nat) (addr : Option Nat)  -- a precise fault: nothing is performed
  | wait (w : Park) (s : State)           -- performed; the thread then waits before its next unit
  | left (s : State)                      -- performed; the rider has left its slot, or is about to
  | gone (s : State)                      -- not issued: the thread waits, departs or is suspended at the unit; s is final
  deriving DecidableEq, Repr

/-- The words of the unit at pc, by its descriptor (R281, R287). -/
def unitWords (d : Descriptor) : Nat := 1 + b01 (d.fmt != 0) + b01 (d.rep != 0)

/-- The address of the next unit (R316). -/
def nextUnit (th : Thread) : Nat := (th.pc.toNat + 4 * unitWords th.desc) % 2 ^ 64

/-- Instructions that complete the marker steps of R292 whatever their S bit: the system group (R314), acquire and full
fences (R163), BARW (R352), SEND (R357), CHAIN (R360), EXIT (R204) and YIELD (R329). -/
def alwaysMarks : Instr → Bool
  | .fenceAcq _ _ | .fenceFull _ _ | .barw _ _ _ _ | .send _ _ _ _ _ | .chainSet _ _ | .chainRel _ _ | .chainAcq _ _
  | .exit _ | .yield _ => true
  | i => major i == 0

/-- Deferred-result instructions (R290). -/
def deferred (i : Instr) : Bool :=
  match i with
  | .ld _ _ _ _ _ _ | .ldv _ _ _ _ _ | .mxv _ _ _ _ => true
  | i => major i == 0x16 || major i == 0x1C || major i == 0x1D

/-- The unit must park at a marker before it issues: a marker with results outstanding (R292), once for a repeated
instruction, or the 9th deferred result of a segment (R293). -/
def atMarker (th : Thread) (i : Instr) : Bool :=
  !th.outs.isEmpty &&
    (((marked i || alwaysMarks i) && (th.ss.repc == 0)) || (deferred i && decide (8 ≤ landings th)))

/-- The thread's quantum counter runs: one counter for each slot (R224). A count from 1 to 0 is noted, and the slot
suspends before its next unit. DEDUCED, log entry 52. -/
def countIssue (s : State) (t : ThreadRef) : State :=
  modCore s t.core fun k =>
    let q := aget 0 k.qntm t.slot
    if q = 0 then k
    else
      let k := { k with qntm := aset 0 k.qntm t.slot (q - 1) }
      if q = 1 then { k with qexp := k.qexp ++ [(t.slot, tid t)] } else k

/-- The slot's counter has just expired (R224). -/
def expired (s : State) (t : ThreadRef) : Bool := (coreAt s t.core).qexp.any fun e => e.1 == t.slot

/-- Issue of a deck slot moves the round-robin pointer (R225). DEDUCED, log entry 52. -/
def noteIssue (s : State) (t : ThreadRef) : State :=
  if isDeck t then modCore s t.core fun k => { k with rr := t.slot } else s

/-- The pops of an instruction leave the inbound queue, unless they have left it already (R197). -/
def popChain (s : State) (n : Nat) : State :=
  if !(me s).popped.isEmpty then modMe s fun th => { th with popped := [] }
  else if n = 0 then s else modCore s s.cur.core fun k => { k with chain := k.chain.drop n }

/-- A unit that has issued and waits keeps the entries that it popped (R197). DEDUCED, log entry 23. -/
def latchPops (s : State) (n : Nat) : State :=
  if n = 0 || !(me s).popped.isEmpty then s else takeEntries s s.cur n

/-- The oldest entry, popped for CHAIN.acq (R197, R360). -/
def popOne (s : State) : Option (Word × State) :=
  let s := if (me s).popped.isEmpty && mayPop s s.cur 1 then takeEntries s s.cur 1 else s
  match (me s).popped with
  | v :: _ => some (v, modMe s fun th => { th with popped := [] })
  | [] => none

/-- The popped load-queue entries' flags join the thread's (R114), and the entries leave. -/
def popLoads (s : State) (n : Nat) : State :=
  if n = 0 then s
  else
    let es := (myCore s).ldq.take n
    let s := modCore s s.cur.core fun k => { k with ldq := k.ldq.drop n }
    modMe s fun th => es.foldl (fun th e => orFlags th e.flags) th

/-- The iteration is complete: the next iteration, or the next unit with PP and REPC zero (R283, R287). -/
def advance (th : Thread) : Thread :=
  let k := th.ss.repc.toNat + 1
  if th.desc.rep != 0 && decide (k < repCount th.desc.rep) then
    { th with ss := { th.ss with repc := BitVec.ofNat 8 k } }
  else
    { th with pc := word (nextUnit th), ss := { th.ss with pp := false, repc := 0 },
              desc := { fmt := 0, rep := 0 } }

/-- The unit is complete and the next one is at pc: branches and their like, which are never repeated. -/
def goTo (th : Thread) (pc : Nat) : Thread :=
  { th with pc := word pc, ss := { th.ss with pp := false, repc := 0 }, desc := { fmt := 0, rep := 0 } }

/-- A suspension asked for inside a unit takes effect (R322). DEDUCED, log entry 25. -/
def suspendAsked (th : Thread) : Thread := if th.suspReq then { th with susp := true, suspReq := false } else th

/-- The results that the registers of an instruction await (R175). -/
def awaited (th : Thread) (i : Instr) : List Nat :=
  (th.outs.filter fun o => !o.done && (operands i).any fun p =>
    p.src && ((o.file == .g && p.file == .g) || (o.file == .v && p.file == .v)) && regNum th p.fld p.num == o.reg).map (·.id)

/-- The accesses that an instruction began, but for loads, wait for the results that its registers await (R175). -/
def holdStores (before s : State) (ids : List Nat) : State :=
  if ids.isEmpty then s
  else { s with inflight := s.inflight.map fun a =>
    if !(before.inflight.any fun x => x.id == a.id) && a.kind != .load then { a with after := ids } else a }

/-- The register that an access instruction increments at its issue, with its value before (R382, R383). -/
def incremented (th : Thread) (i : Instr) : Option (Nat × Word) :=
  match i with
  | .qld _ a 1 | .qst _ a 1 => some (regNum th .a a.toNat, rdG th (regNum th .a a.toNat))
  | _ => none

/-- The unit as it stood before it issued, for a failure in precise mode (R296). DEDUCED, log entry 51. -/
def backOf (s : State) (i : Instr) : Back :=
  let th := me s
  { pc := th.pc, repc := th.ss.repc, pp := th.ss.pp, desc := th.desc,
    popped := if th.popped.isEmpty then (myCore s).chain.take (chainPops th i) else th.popped,
    loads := (myCore s).ldq.take (vlqPops s.cur th i), inc := incremented th i }

/-- What follows an issued instruction: its queue pops, its count, the anchor, the next unit or iteration, and in
precise mode the implicit marker after an access (R194, R197, R224, R296). -/
def complete (i : Instr) (before s : State) (next : Thread → Thread) : State :=
  let t := s.cur
  let th0 := me before
  let s := popLoads (popChain (holdStores before s (awaited th0 i)) (chainPops th0 i)) (vlqPops t th0 i)
  let s := countIssue (noteIssue s t) t
  let s := modMe s fun th => suspendAsked <| next { th with claim := false, ss := { th.ss with anch := th.ss.anch || anchors i } }
  if th0.ss.prx && decide ((me s).outs.length > th0.outs.length) && (me s).run == .ready then
    modMe s fun th => { th with run := .parked .marker, back := some (backOf before i) }
  else s

/-- Two accesses of one thread. A deck rider that resumes in another slot is the same thread. -/
def sameThread (x a : Access) : Bool :=
  x.rid == a.rid && (x.t == a.t || (isDeck x.t && isDeck a.t && ctxAsid x.ctx == ctxAsid a.ctx && ctxNs x.ctx == ctxNs a.ctx))

/-- A release fence. -/
def isFence : AccKind → Bool
  | .fence _ => true
  | _ => false

/-- What a rider named by its RID and context did in a slot is its thread's own in the slot where it is now: a deck rider that has
yielded, or was evicted, and resumes in another slot is the same thread. -/
def isOf (s : State) (t : ThreadRef) (slot : ThreadRef) (rid : BitVec 32) (ctx : Word) : Bool :=
  let w := (coreAt s t.core).ctxid
  rid == (threadAt s t).rid && (slot == t || (isDeck slot && isDeck t && ctxAsid ctx == ctxAsid w && ctxNs ctx == ctxNs w))

/-- An access of the thread. -/
def ofThread (s : State) (t : ThreadRef) (a : Access) : Bool := isOf s t a.t a.rid a.ctx

/-- ORDSC (R155, R274): 0 none; 1-5 acquire, 6-10 release, 11-15 both, each at core, quad, die, package or pod. -/
def ordAcq (o : Nat) : Bool := decide (1 ≤ o ∧ o ≤ 5) || decide (11 ≤ o)
def ordRel (o : Nat) : Bool := decide (6 ≤ o)
def ordScope (o : Nat) : Nat := (o - 1) % 5

/-- A release fence whose conditions do not hold yet, a release atomic that has not left, and an acquire atomic whose value has not
landed hold back every later access of their thread (R162, R163, R165). -/
def holdsLater (a : Access) : Bool :=
  match a.kind with
  | .fence _ => true
  | .atomic =>
    match a.stage with
    | .coal | .checked => a.ordsc != 0
    | .acked | .done => false
    | _ => ordAcq a.ordsc
  | _ => false

/-- Something that a thread issued before a name holds its later accesses back: a release fence that is open, or an ordering atomic
(R162, R163, R165). -/
def fenceOpen (s : State) (t : ThreadRef) (before : Nat) : Bool :=
  s.inflight.any fun a => holdsLater a && decide (a.id < before) && ofThread s t a

/-- A pop needs its entries: chain entries present (R197), load-queue entries reserved, and arrived (R115); a push
its room, and no open release fence (R162). -/
def popsMissing (s : State) (th : Thread) (i : Instr) : Option Park :=
  let n := if th.popped.isEmpty then chainPops th i else 0
  let m := vlqPops s.cur th i
  if n ≠ 0 ∧ !mayPop s s.cur n then some (.chainPop n)
  else if (myCore s).ldq.length < m ∨ !((myCore s).ldq.take m).all (fun e => e.ready) then some (.pops m)
  else if chainPush th i && !deferred i && !mayPush s s.cur then some .chainPush
  else if chainPush th i && fenceOpen s s.cur s.nextId then some .fences
  else if vsqPush s.cur th i && decide (16 ≤ (myCore s).stq.length) then some .storeQueue
  else none

/-- A thread waits: PARKED on one condition (R183). -/
def park (s : State) (w : Park) : State := modMe s fun th => suspendAsked { th with run := .parked w }

/-- What a quantum counter's expiry does to a thread of its slot: it is suspended where it stands, but a rider that departs stays at its
access, and a quay thread goes on to its unit boundary. DEDUCED, log entry 25. -/
def expireThread (t : ThreadRef) (th : Thread) : Thread :=
  match th.run with
  | .free => th
  | .departing _ => suspendThread th
  | _ => if t.slot = 7 then suspendThread th else { th with susp := true }

/-- The rider's slot counter counts an instruction with which the rider leaves its slot. Where that takes the counter to 0 in a slot now
FREE, QUANTUM names the rider that left and its next unit, and the other quay thread is suspended (R224, R298). DEDUCED, log entry 52. -/
def countLeaving (before s : State) : State :=
  let t := before.cur
  let s := noteIssue s t
  if (threadAt s t).run != .free then countIssue s t
  else
    let q := aget 0 (coreAt s t.core).qntm t.slot
    if q = 0 then s
    else
      let s := modCore s t.core fun k => { k with qntm := aset 0 k.qntm t.slot (q - 1) }
      if q ≠ 1 then s
      else
        let s := (slotThreads t).foldl (fun s x => keepSuspended (modThread s x (expireThread x)) x) s
        sendEvent s t.core 0x50 t.slot (me before).rid (word (nextUnit (me before)))

/-- The outcome of a body, applied. -/
def settle (i : Instr) (s : State) : Res → State
  | .done s' => complete i s s' advance
  | .jump s' pc => complete i s s' fun th => goTo th pc
  | .park w s' => park (latchPops s' (chainPops (me s) i)) w
  | .wait w s' => park (complete i s s' advance) w
  | .left s' => countLeaving s s'
  | .fault cls cause detail addr => preciseFault s cls cause detail addr
  | .gone s' => s'

/-- An instruction that pops a poisoned load-queue entry freezes the arithmetic thread precisely: its pops stand and
nothing else happens (R115). -/
def popsPoison (s : State) (n : Nat) : Bool := ((myCore s).ldq.take n).any fun e => e.poison

/-- Issue one unit, or one iteration of it, of the current thread. A thread that may not issue does nothing. DEDUCED, log entry 52. -/
def unit (i : Instr) (body : State → Res) (s : State) : State :=
  let th := me s
  if !canIssue th || expired s s.cur then s
  else if !unitLegal s.cur th th.desc i then preciseFault s .ill 0 0 none
  else if th.desc.rep != 0 && decide (repCount th.desc.rep ≤ th.ss.repc.toNat) then
    modMe s fun th => suspendAsked (goTo th (nextUnit th))
  else if atMarker th i then park s .marker
  else if 32 ≤ unaccepted th then park s .unaccepted
  else
    match popsMissing s th i with
    | some w => park s w
    | none =>
      let m := vlqPops s.cur th i
      if popsPoison s m then
        if th.outs.isEmpty then preciseFault (modCore s s.cur.core fun k => { k with ldq := k.ldq.drop m }) .poison 0 0 none
        else park s .marker
      else settle i s (body s)

/-- The place of a g28 operand among the pops of its instruction (R197). DEDUCED, log entry 23. -/
def popIndex (th : Thread) (i : Instr) (f : OperandField) (n : Nat) : Nat :=
  ((operands i).takeWhile fun o => !(o.fld == f && o.num == n && o.file == .g)).countP
    fun o => o.src && o.file == .g && regNum th o.fld o.num == 28

/-- The value of a g source operand: its register, stepped, or under UP the entry that g28 pops (R197, R283, R291).
DEDUCED, log entry 23. -/
def srcG (s : State) (i : Instr) (f : OperandField) (n : Nat) : Word :=
  let th := me s
  let r := regNum th f n
  if th.ss.up && r == 28 then (if th.popped.isEmpty then (myCore s).chain else th.popped).getD (popIndex th i f n) 0 else rdG th r

/-- The place of a vlq operand among the pops (R115). -/
def loadIndex (th : Thread) (i : Instr) (f : OperandField) (n : Nat) : Nat :=
  ((operands i).takeWhile fun o => !(o.fld == f && o.num == n && o.file == .v)).countP
    fun o => o.src && o.file == .v && regNum th o.fld o.num == 30

/-- The value of a v source operand; vlq pops in the arithmetic thread (R113, R115). -/
def srcV (s : State) (i : Instr) (f : OperandField) (n : Nat) : Line :=
  let th := me s
  let r := regNum th f n
  if isArith s.cur && r == 30 then ((myCore s).ldq.getD (loadIndex th i f n) ⟨0, false, 0, 0, false⟩).data else rdV th r

/-- The register of a destination field in the present iteration. -/
def dstNum (s : State) (f : OperandField) (n : Nat) : Nat := regNum (me s) f n

/-- A g result at issue (R291); the field is d unless said otherwise. -/
def putG (s : State) (d : Reg) (v : Word) : State := writeG s (dstNum s .d d.toNat) v

/-- A predicate result at issue. -/
def putQ (s : State) (p : Nat) (b : Bool) : State := writeQ s (dstNum s .d p) b

end Sys2Proof.Machine
end

