-- ==== Sys2Proof/Machine/Translate.lean ====
section
/-! DEFINITION. Translation (R21-R40): the page-table walk, the checks of R29, the translation buffers, and the coalescing
table. -/

namespace Sys2Proof.Machine

/-- The kinds of access that need permissions (R28). -/
structure Need where
  rd : Bool
  wr : Bool
  ex : Bool
  deriving DecidableEq, Repr

def Need.load : Need := ⟨true, false, false⟩
def Need.store : Need := ⟨false, true, false⟩
def Need.both : Need := ⟨true, true, false⟩
def Need.fetch : Need := ⟨false, false, true⟩
def Need.none_ : Need := ⟨false, false, false⟩

/-! ### Entries (R25, R26) -/

/-- The page size of a leaf at a level, as a power of two (R23). -/
def pageBits (level : Nat) : Nat :=
  match level with
  | 1 => 32 | 2 => 26 | 3 => 21 | _ => 16

/-- The index of a virtual address at a level (R23). -/
def levelIndex (va level : Nat) : Nat :=
  match level with
  | 0 => field va 55 44 | 1 => field va 43 32 | 2 => field va 31 26 | 3 => field va 25 21 | _ => field va 20 16

/-- The size in bytes, and alignment, of the table of a level (R23). -/
def tableSize (level : Nat) : Nat :=
  match level with
  | 0 => 65536 | 1 => 32768 | 2 => 512 | _ => 256

/-- Reserved bits of an entry: 59:56 always; 7:2 of a pointer; 15:14 of a leaf (R25, R26). -/
def reservedSet (e : Nat) : Bool :=
  field e 59 56 != 0 || (if bit e 1 then field e 15 14 != 0 else field e 7 2 != 0)

/-- How a walk ends: a leaf with its level and the address of its entry, or a cause of R37. -/
inductive Walked where
  | leaf (e : Nat) (level loc : Nat)
  | fail (cause : Nat)
  deriving DecidableEq, Repr

/-- The walk of R24 from a table at a level, `fuel` levels deep. Each entry is read at its home, which recalls owned
words, by `rd`, which answers with a cause where the read fails; a poisoned entry fails with RESERVED (R446). -/
def walkFrom (rd : Nat → Except Nat Nat) (va : Nat) : (fuel level table : Nat) → Walked
  | 0, _, _ => .fail 3
  | fuel + 1, level, table =>
    let loc := table + levelIndex va level * 8
    match rd loc with
    | .error c => .fail c
    | .ok e =>
      if !bit e 0 then .fail 1
      else if reservedSet e then .fail 5
      else if bit e 1 then
        if level = 0 then .fail 2
        else
          let base := field e 55 16 * 65536
          if base % 2 ^ pageBits level ≠ 0 then .fail 4
          else if !inOneWindow base (2 ^ pageBits level) then .fail 6
          else .leaf e level loc
      else if level = 4 then .fail 3
      else
        let next := field e 55 8 * 256
        if next % tableSize (level + 1) ≠ 0 then .fail 4
        else if !isDram next then .fail 6
        else walkFrom rd va fuel (level + 1) next

/-- The walk from the root (R22, R24). -/
def walkTables (rd : Nat → Except Nat Nat) (root va : Nat) : Walked :=
  let table := root * 65536
  if !isDram table then .fail 6 else walkFrom rd va 5 0 table

/-- The addresses of the entries that a walk reads, in order. -/
def walkLocs (rd : Nat → Except Nat Nat) (va : Nat) : (fuel level table : Nat) → List Nat
  | 0, _, _ => []
  | fuel + 1, level, table =>
    let loc := table + levelIndex va level * 8
    match rd loc with
    | .error _ => [loc]
    | .ok e =>
      let next := field e 55 8 * 256
      if !bit e 0 || reservedSet e || bit e 1 || level == 4 || next % tableSize (level + 1) != 0 || !isDram next then [loc]
      else loc :: walkLocs rd va fuel (level + 1) next

/-- The physical address of va under a leaf (R23). -/
def leafPa (l : Leaf) (va : Nat) : Nat :=
  let base := field l.entry.toNat 55 16 * 65536
  base + va % l.size

/-- A leaf matches an address under an ASID (R32). -/
def leafMatches (l : Leaf) (asid : BitVec 16) (va : Nat) : Bool :=
  (l.asid == asid || bit l.entry.toNat 7) && l.vbase == va / l.size * l.size

/-! ### Looking up (R32) -/

/-- A leaf in the core's buffer, or in its quad's. -/
def lookupLeaf (s : State) (core : Nat) (asid : BitVec 16) (va : Nat) : Option Leaf :=
  match (coreAt s core).tlb.find? fun l => leafMatches l asid va with
  | some l => some l
  | none => (quadAt s (quadOf core)).tlb.find? fun l => leafMatches l asid va

/-- A list with one more entry, at most n: a free choice is dropped (R32 gives no replacement rule). -/
def bounded {α : Type} (n c : Nat) (l : List α) (x : α) : List α :=
  if l.length < n then x :: l else x :: l.eraseIdx (c % l.length)

/-- A walker installs a leaf in the core's buffer and its quad's. -/
def installLeaf (s : State) (core : Nat) (l : Leaf) : State :=
  let c := Config.choice s.stepNo
  let same := fun x : Leaf => x.vbase == l.vbase && x.asid == l.asid && x.size == l.size
  let s := modCore s core fun k => { k with tlb := bounded 128 c (k.tlb.filter fun x => !same x) l }
  modQuad s (quadOf core) fun q => { q with tlb := bounded 2048 c (q.tlb.filter fun x => !same x) l }

/-- Every buffer drops the leaves that a test selects, within a set of cores and quads (R30, R33). -/
def dropLeaves (s : State) (inCore inQuad : Nat → Bool) (sel : Leaf → Bool) : State :=
  { s with
    cores := (s.cores.map fun e => if inCore e.1 then (e.1, { e.2 with tlb := e.2.tlb.filter fun l => !sel l }) else e).filter
      (fun e => e.2 != Core.reset)
    quads := (s.quads.map fun e => if inQuad e.1 then (e.1, { e.2 with tlb := e.2.tlb.filter fun l => !sel l }) else e).filter
      (fun e => e.2 != Quad.reset) }

/-! ### Checks (R27-R29) -/

/-- The policy bit of PMASK that a policy needs: `.go` needs that of `.own` (R27). -/
def policyAllowed (pmask pol : Nat) : Bool := if pol = 4 then bit pmask 0 else bit pmask pol

/-- The first failed check of R29 after the walk, as a cause of R37; 0 when all pass. -/
def checkLeaf (e : Nat) (base : Nat) (ctx : Word) (priv : BitVec 2) (need : Need) (pol : Nat) (anyPol : Bool) : Nat :=
  if ctxNs ctx && !bit e 6 then 12
  else
    let w := windowKind (window base)
    let pol := if pol = 6 then (if w = 2 then 5 else 1) else pol   -- 6: `.bk` in a bank, `.wt` elsewhere (R220, R328)
    if w = 3 ∧ priv ≠ 2 then 15
    else if priv = 0 ∧ !bit e 5 then 11
    else if need.rd && !bit e 2 then 8
    else if need.wr && !bit e 3 then 9
    else if need.ex && !bit e 4 then 10
    else if anyPol then (if need.ex && w != 0 && w != 1 then 13 else 0)
    else
      match w with
      | 0 | 1 => if pol = 5 then 13 else if policyAllowed (field e 13 10) pol then 0 else 13
      | 2 => if pol = 4 ∨ pol = 5 then 0 else 13
      | 3 => if pol = 1 then 0 else 13
      | _ => if pol = 1 ∨ pol = 2 then (if policyAllowed (field e 13 10) pol then 0 else 13) else 13

/-- What translating an access comes to. -/
inductive Translated where
  | ok (pa page : Nat)
  | miss
  | dirty (pa : Nat) (l : Leaf) -- a store through a buffered leaf whose DTY is 0 (R30)
  | fail (cause : Nat)
  deriving DecidableEq, Repr

/-- Translate and check an access that is not to the device region (R21, R29). Whatever needs WR counts as a store for DTY: stores,
atomics, INVAL, and bank operations that write (R30). DEDUCED, log entry 66. -/
def translate (s : State) (core : Nat) (ctx : Word) (priv : BitVec 2) (va : Nat) (need : Need) (pol : Nat) (anyPol : Bool) :
    Translated :=
  if va / 2 ^ 56 ≠ 0 then .fail 7
  else
    match lookupLeaf s core (ctxAsid ctx) va with
    | none => .miss
    | some l =>
      let pa := leafPa l va
      let c := checkLeaf l.entry.toNat pa ctx priv need pol anyPol
      if c ≠ 0 then .fail c
      else if need.wr && !bit l.entry.toNat 9 then .dirty pa l
      else .ok pa l.vbase

/-! ### The coalescing table (R35-R40) -/

/-- The key of an entry: ASID, page and, for a failed check, the cause (R35). -/
def coalKey (e : Coal) (asid : BitVec 16) (vpn cause : Nat) : Bool :=
  e.asid == asid && e.vpn == vpn && (if cause = 0 then e.miss else !e.miss && e.cause == cause)

def coalFind (s : State) (die : Nat) (asid : BitVec 16) (vpn cause : Nat) : Option Coal :=
  (dieAt s die).coal.find? fun e => coalKey e asid vpn cause

/-- The lowest free index of a die's table (DESIGN CHOICE, log entry 10). -/
def coalFree (d : Die) : Nat :=
  ((List.range (d.coal.length + 1)).find? fun i => d.coal.all fun e => e.index != i).getD d.coal.length

/-- Word 1 of a translation-fault message, which offset 0 of the entry also reads (R38, R39). -/
def coalWord (die : Nat) (e : Coal) : Word :=
  word (min e.waiters.length 8191 * 2 ^ 51 + e.slot * 2 ^ 48 + e.core * 2 ^ 38 + e.kind * 2 ^ 36 + e.cause * 2 ^ 32
    + die * 2 ^ 30 + e.index * 2 ^ 16 + e.asid.toNat)

/-- One translation-fault message for a failed entry (R37, R38). -/
def tellFault (s : State) (die : Nat) (e : Coal) : State :=
  let w := coalWord die e
  let s := toSupervisor s die (ctxNs e.ctx) (word (0x10 * 2 ^ 56 + e.va % 2 ^ 56)) w
  modDie s die fun d => { d with coal := d.coal.map fun x => if x.index == e.index then { x with sent := some w } else x }

/-- A waiter joins an entry; a buffered leaf without DTY that it brings is the walker's to set while the entry still walks (R30, R35). -/
def joined (e : Coal) (w : Waiter) (leaf : Option Leaf) : Coal :=
  { e with waiters := e.waiters ++ [w], leaf := if e.walking then e.leaf <|> leaf else e.leaf }

/-- A miss (cause 0) or a failed check joins its entry, or makes one; a failed check is told at once. A full table
keeps the new entry waiting (R35, R36, R37). A store that found a buffered leaf without DTY brings the leaf (R30). DESIGN CHOICE, log
entry 10. -/
def coalesceAt (s : State) (die : Nat) (t : ThreadRef) (ctx : Word) (va cause kind : Nat) (w : Waiter) (leaf : Option Leaf) : State :=
  let asid := ctxAsid ctx
  let vpn := va / 2 ^ 16 % 2 ^ 40
  match coalFind s die asid vpn cause with
  | some e =>
    modDie s die fun d =>
      { d with coal := d.coal.map fun x => if x.index == e.index then joined x w leaf else x }
  | none =>
    let d := dieAt s die
    let e : Coal :=
      { index := coalFree d, asid := asid, ctx := ctx, vpn := vpn, miss := cause == 0, cause := cause, kind := kind, va := va, core := t.core,
        slot := if t.slot < 8 then t.slot else 0, waiters := [w], sent := none, walking := cause == 0,
        leaf := leaf }
    if d.coal.length < 4096 then
      let s := modDie s die fun d => { d with coal := d.coal ++ [e] }
      if cause = 0 then s else tellFault s die e
    else
      modDie s die fun d =>
        match d.coalWait.find? fun x => coalKey x asid vpn cause with
        | some _ =>
          { d with coalWait := d.coalWait.map fun x =>
                     if coalKey x asid vpn cause then joined x w leaf else x }
        | none => { d with coalWait := d.coalWait ++ [e] }

/-- An access joins the table of its own die. -/
def coalesce (s : State) (t : ThreadRef) (ctx : Word) (va cause kind : Nat) (w : Waiter) (leaf : Option Leaf) : State :=
  coalesceAt s (dieOf t.core) t ctx va cause kind w leaf

/-- An entry leaves its table, and the first of those that wait for room enters it (R36). -/
def coalRemove (s : State) (die index : Nat) : State :=
  let s := modDie s die fun d => { d with coal := d.coal.filter fun e => e.index != index }
  let d := dieAt s die
  match d.coalWait with
  | e :: rest =>
    if d.coal.length < 4096 then
      let e := { e with index := coalFree d }
      let s := modDie s die fun d => { d with coal := d.coal ++ [e], coalWait := rest }
      if e.cause = 0 then s else tellFault s die e
    else s
  | [] => s

/-- A waiter of a kind waits in a die's table, or for room in it. -/
def tableHas (s : State) (die : Nat) (sel : Waiter → Bool) : Bool :=
  (dieAt s die).coal.any (fun e => e.waiters.any sel) || (dieAt s die).coalWait.any fun e => e.waiters.any sel

/-- The thread's fetch waits in the table of its die. -/
def fetchWaits (s : State) (t : ThreadRef) : Bool := tableHas s (dieOf t.core) fun w => w == .fetch t

/-- An engine command waits in the table of its unit's die. -/
def engineWaits (s : State) (core cmd : Nat) : Bool :=
  tableHas s (dieOf core) fun w => match w with
    | .engine c n _ _ => c == core && n == cmd
    | _ => false

end Sys2Proof.Machine
end

