-- ==== Sys2Proof/Machine/Coherence.lean ====
section
/-! DEFINITION. Copies, homes and directories (R43-R56, R133-R150): the lines of L1 and L2, what a home does for a
request, and what a die does with a home's messages. Write-backs, surrenders and evictions from a die to a home are made
in the act that causes them (DESIGN CHOICE, log entry 12); requests, replies and messages travel and are acts of their own. -/

namespace Sys2Proof.Machine

def L2Line.reset : L2Line :=
  { st := .inv, data := 0, own := 0, owners := [], miss := 0, dmask := 0, ddata := 0, dns := 0, fill := 0, len := 0,
    poison := false, old := false }

def l2At (s : State) (die pa : Nat) : L2Line := aget L2Line.reset (dieAt s die).l2 (pa / 64)
def setL2 (s : State) (die pa : Nat) (l : L2Line) : State :=
  modDie s die fun d => { d with l2 := aset L2Line.reset d.l2 (pa / 64) l }

def l1At (s : State) (core pa : Nat) : Option L1Line := ((coreAt s core).l1.find? fun e => e.1 == pa / 64).map (·.2)
def dropL1 (s : State) (core pa : Nat) : State := modCore s core fun k => { k with l1 := adel k.l1 (pa / 64) }
def setL1 (s : State) (core pa : Nat) (l : L1Line) : State := modCore s core fun k => { k with l1 := aput k.l1 (pa / 64) l }

/-- The cores of a die whose L1 holds a copy of a line that a test selects. -/
def l1Holders (s : State) (die pa : Nat) (sel : Nat → L1Line → Bool) : List Nat :=
  (s.cores.filter fun e => dieOf e.1 == die && e.2.l1.any fun x => x.1 == pa / 64 && sel e.1 x.2).map (·.1)

/-- The owned words of an L1 copy are written back to the L2 line, with a poison mark (R44, R446). -/
def backL1 (s : State) (core pa : Nat) : State :=
  match l1At s core pa with
  | some c =>
    if c.st == .owned then
      let l := l2At s (dieOf core) pa
      setL2 s (dieOf core) pa { l with data := overlay (maskOfWords (c.own &&& l.own)) c.data l.data, poison := l.poison || c.poison }
    else s
  | none => s

/-- A copy is evicted from an L1: its owned words go to the L2 first (R44). -/
def evictL1 (s : State) (core pa : Nat) : State := dropL1 (backL1 s core pa) core pa

/-- The L1 copies of a line in the cores of a die that a test selects are dropped. -/
def dropL1s (s : State) (die pa : Nat) (sel : Nat → L1Line → Bool) : State :=
  (l1Holders s die pa sel).foldl (fun s c => evictL1 s c pa) s

/-- Every L1 copy in state O on a die has its words in the L2 line. -/
def gatherL1 (s : State) (die pa : Nat) : State :=
  (l1Holders s die pa fun _ x => x.st == .owned).foldl (fun s c => backL1 s c pa) s

/-! ### The LLC and the DRAM array (R51, R54, R446) -/

def llcAt (s : State) (line : Nat) : Option LlcLine := (s.llc.find? fun e => e.1 == line).map (·.2)
def setLlc (s : State) (line : Nat) (l : LlcLine) : State := { s with llc := aput s.llc line l }
def dropLlc (s : State) (line : Nat) : State := { s with llc := adel s.llc line }

/-- A line as its home has it: the LLC line, or the DRAM array's. -/
def homeData (s : State) (line : Nat) : Line :=
  match llcAt s line with
  | some l => l.data
  | none => rdLine s.dram (64 * line)

def linePoison (s : State) (line : Nat) : Bool :=
  match llcAt s line with
  | some l => l.bad
  | none => s.dramBad.contains line

/-- Bytes of a line written in the DRAM array: a write of all 64 B clears a poison mark, a partial one leaves it (R446). -/
def writeArray (s : State) (line : Nat) (mask : BitVec 64) (d : Line) : State :=
  { s with dram := wrMasked s.dram (64 * line) 64 mask.toNat d.toNat
           dramBad := if mask = BitVec.allOnes 64 then sdel s.dramBad line else s.dramBad }

/-- Bytes of a line written at its home: into the LLC line, which is modified then (R51, R446). -/
def writeHome (s : State) (line : Nat) (mask : BitVec 64) (d : Line) : State :=
  match llcAt s line with
  | some l =>
    if mask = 0 then s
    else setLlc s line ⟨overlay mask d l.data, true, l.bad && mask != BitVec.allOnes 64⟩
  | none => writeArray s line mask d

def poisonHome (s : State) (line : Nat) : State :=
  match llcAt s line with
  | some l => setLlc s line { l with bad := true }
  | none => { s with dramBad := sins s.dramBad line }

/-- A modified LLC line is written to DRAM and stays; a poison mark goes there with it, that of a line which is not modified too: only a
write of all 64 B clears it (R54, R106, R446, R463). -/
def cleanLlc (s : State) (line : Nat) : State :=
  match llcAt s line with
  | some l =>
    let s := if l.dirty then writeArray (setLlc s line { l with dirty := false }) line (BitVec.allOnes 64) l.data else s
    if l.bad then { s with dramBad := sins s.dramBad line } else s
  | none => s

/-- The LLC fetches a line from DRAM; its directory entry starts at zero (R51, R52). -/
def fetchLlc (s : State) (line : Nat) : State :=
  setLlc s line ⟨rdLine s.dram (64 * line), false, s.dramBad.contains line⟩

/-- The other lines of a line's set: pch and w[15:6] (R51). -/
def llcMates (s : State) (line : Nat) : List Nat :=
  (s.llc.filter fun e => e.1 != line && e.1 / 2 ^ 24 == line / 2 ^ 24 && e.1 % 1024 == line % 1024).map (·.1)

/-- A line's eviction has been asked for and has not ended. -/
def evicting (s : State) (line : Nat) : Bool :=
  let h := homeAt s line
  h.queue.any (fun r => r.kind == .evict) || (match h.act with
    | some r => r.kind == .evict
    | none => false)

/-- What a home does for itself, as an entry of its queue. -/
def homeOwn (line : Nat) (k : ReqKind) (seq : Nat) : HomeReq :=
  ⟨0, ⟨0, 14, 0⟩, 4, 0, 0x10000000000 + 64 * line, 0, k, false, none, false, seq, false⟩

/-- The eviction of a line joins its home's queue: it is served like a request, so that nothing is in progress (R54, R149).
DESIGN CHOICE, log entry 12. -/
def askEvict (s : State) (line : Nat) : State :=
  let (seq, s) := fresh s
  modHome s line fun h =>
    { h with queue := h.queue ++ [homeOwn line .evict seq] }

/-- A line is in the LLC, or enters it: one of its set of 16 ways that is full is evicted first, by a free choice (R51, R54).
DESIGN CHOICE, log entry 9. -/
def enterLlc (s : State) (line : Nat) : Bool × State :=
  if (llcAt s line).isSome then (true, s)
  else
    let mates := llcMates s line
    if mates.length < 16 then (true, fetchLlc s line)
    else if mates.any (evicting s) then (false, s)
    else
      match mates[Config.choice s.stepNo % mates.length]? with
      | some m => (false, askEvict s m)
      | none => (false, s)

/-! ### Replies and deferred bytes on their way (R142, R145, R148) -/

/-- The reply of an access on its way to a die for a line under an address. -/
def replyTo (die pa : Nat) (a : Access) : Option Reply :=
  match a.stage with
  | .reply r => if dieOf a.t.core == die && lineAddr a.pa == pa then some r else none
  | _ => none

/-- Words of a line that replies under way will bring to a die. -/
def grantedTo (s : State) (die pa : Nat) : BitVec 16 :=
  s.inflight.foldl (fun w a => match replyTo die pa a with
    | some r => w ||| r.grant
    | none => w) 0

/-- A tracked copy of the line is under way to a die, under either alias. -/
def sharedTo (s : State) (die line : Nat) : Bool :=
  s.inflight.any fun a => (aliasesOf line).any fun pa => match replyTo die pa a with
    | some r => r.share
    | none => false

/-- Bytes that a die writes back to a home reach the replies that the home has sent before: each is as if read after them. -/
def refreshReplies (s : State) (line : Nat) (mask : BitVec 64) (d : Line) (bad : Bool) : State :=
  { s with inflight := s.inflight.map fun a =>
      match a.stage with
      | .reply r =>
        if homeLine a.pa == line && isDram a.pa then { a with stage := .reply { r with data := overlay mask d r.data, bad := r.bad || bad } }
        else a
      | _ => a }

/-- A deferred write of a die that waits at a home. -/
def deferredOf (die pa : Nat) (r : HomeReq) : Option (BitVec 64 × Line) :=
  match r.kind with
  | .deferred m d => if r.die == die && r.pa == pa then some (m, d) else none
  | _ => none

/-- Marked bytes of a die are on their way to the home (R446). -/
def transitBad (s : State) (die pa : Nat) (mask : BitVec 64) : Bool :=
  isDram pa && (homeAt s (homeLine pa)).queue.any fun r => r.bad && match deferredOf die pa r with
    | some (m, _) => (m &&& mask) != 0
    | none => false

/-- A line with the deferred bytes of a die that are on their way to the home (R142, R143). -/
def inTransit (s : State) (die pa : Nat) (d : Line) : Line :=
  if isDram pa then
    (homeAt s (homeLine pa)).queue.foldl (fun d r => match deferredOf die pa r with
      | some (m, x) => overlay m x d
      | none => d) d
  else d

/-- Words of a die whose values are newer than its deferred bytes under way take those bytes' place: the write-back will not
overwrite them (R149). -/
def trimDeferred (s : State) (die pa : Nat) (words : BitVec 16) : State :=
  modHome s (homeLine pa) fun h => { h with queue := h.queue.map fun r => match deferredOf die pa r with
    | some (m, x) => { r with kind := .deferred (m &&& ~~~maskOfWords words) x }
    | none => r }

/-! ### Owned words (R50, R53, R148) -/

/-- Owned words leave a die's line; with write-back they reach the home. The line becomes I when none remain.
DESIGN CHOICE, log entry 12. -/
def releaseWords (s : State) (die pa : Nat) (words : BitVec 16) (writeBack : Bool) : State :=
  let s := gatherL1 s die pa
  let l := l2At s die pa
  let w := l.own &&& words
  if w = 0 then s
  else
    let line := homeLine pa
    let s := if writeBack then
        let s := refreshReplies (trimDeferred (writeHome s line (maskOfWords w) l.data) die pa w) line (maskOfWords w) l.data l.poison
        if l.poison then poisonHome s line else s
      else s
    let own := l.own &&& ~~~w
    let l := { l with own := own, owners := l.owners.filter (fun e => own.getLsbD e.1), st := if own = 0 then .inv else l.st }
    let s := setL2 s die pa (if own = 0 ∧ l.dmask = 0 then L2Line.reset else l)
    let s := dropL1s s die pa fun _ _ => true
    -- words that a reply under way brings to the die stay its own
    let gone := w &&& ~~~grantedTo s die pa
    modHome s line fun h => { h with own := h.own &&& ~~~gone }

/-- The home recalls words at once, from the lines of both aliases of their die; a fenced die answers with the home's own
data, and the line is poisoned (R53, R56, R443). DESIGN CHOICE, log entry 12. DEDUCED, log entry 31. -/
def recallNow (s : State) (line : Nat) (words : BitVec 16) (writeBack : Bool) : State :=
  let h := homeAt s line
  if h.own &&& words = 0 then s
  else if (dieAt s h.odie).fenced then
    poisonHome (modHome s line fun h => { h with own := h.own &&& ~~~words }) line
  else (aliasesOf line).foldl (fun s pa => releaseWords s h.odie pa words writeBack) s

/-- A die still holds an S copy of a line under either alias. -/
def holdsShared (s : State) (die line : Nat) : Bool :=
  (aliasesOf line).any fun pa => (l2At s die pa).st == .shared

/-- The base copy of a line goes; deferred bytes stay, with a poison mark (R446). L1 copies go with it. -/
def dropBase (s : State) (die pa : Nat) : State :=
  let l := l2At s die pa
  let s := setL2 s die pa (if l.dmask = 0 then L2Line.reset
    else { L2Line.reset with dmask := l.dmask, ddata := l.ddata, dns := l.dns, poison := l.poison })
  dropL1s s die pa fun _ _ => true

/-- The home invalidates every tracked sharer at once (R54, R106). -/
def invalidateNow (s : State) (line : Nat) : State :=
  let h := homeAt s line
  let s := (List.range 4).foldl (fun s d =>
    if h.shr.getLsbD d then
      (aliasesOf line).foldl (fun s pa => if (l2At s d pa).st == .shared then dropBase s d pa else s) s
    else s) s
  modHome s line fun h => { h with shr := 0 }

/-- The home is free for the next request of a line: no acknowledgement of an earlier one is awaited, and no reply of the
line is on its way (R149; DESIGN CHOICE, log entry 12). -/
def homeFree (s : State) (line : Nat) : Bool :=
  (homeAt s line).act.isNone && s.clears.all (fun c => !c.wi || homeLine c.pa != line) &&
    s.inflight.all fun a => match a.stage with
      | .reply _ => homeLine a.pa != line || !isDram a.pa
      | _ => true

/-- The value at the home of a line: owned words as their die holds them. -/
def homeValue (s : State) (line : Nat) : Line :=
  let h := homeAt s line
  if h.own = 0 then homeData s line
  else (aliasesOf line).foldl (fun d pa =>
    let l := l2At s h.odie pa
    if l.st == .owned then overlay (maskOfWords l.own) l.data d else d) (homeData s line)

/-! ### Writes at the home (R147, R164) -/

/-- A message to a die. -/
def sendDie (s : State) (die line : Nat) (k : HomeMsgKind) (op : Nat) : State :=
  let (seq, s) := fresh s
  modDie s die fun d => { d with inbox := d.inbox ++ [⟨line, k, op, seq⟩] }

/-- A die no longer holds an S copy: the home clears its SHR bit, unless a tracked copy is under way to it (R147, R148). -/
def clearShare (s : State) (die line : Nat) : State :=
  if sharedTo s die line then s
  else modHome s line fun h => { h with shr := BitVec.ofNat 4 (h.shr.toNat - b01 (h.shr.getLsbD die) * 2 ^ die) }

/-- The home applies bytes from a die and sends the invalidations of R147; it answers with their number. `op` names the
write for their acknowledgements. -/
def applyWrite (s : State) (die pa : Nat) (mask : BitVec 64) (d : Line) (op : Nat) : Nat × State :=
  let line := homeLine pa
  let h := homeAt s line
  let s := writeHome s line mask d
  let others := (List.range 4).filter fun x => x != die && h.shr.getLsbD x && !(dieAt s x).fenced
  let s := others.foldl (fun s x => sendDie s x line .invalidate op) s
  if decide (die < 4) && h.shr.getLsbD die then (others.length + 1, sendDie s die line (.aliasCopy pa) op)
  else (others.length, s)

/-- A surrender: the owned words of a die's line go home, which invalidates the other sharers (R145, R147). DEDUCED, log entry 31. -/
def surrender (s : State) (die pa : Nat) : State :=
  if (l2At s die pa).own = 0 then s
  else
    let (op, s) := fresh (releaseWords s die pa (BitVec.allOnes 16) true)
    (applyWrite s die pa 0 0 op).2

/-- A write whose invalidations are counted until its clearance (R164); `wi` writes are acknowledged only then. -/
def oweClearance (s : State) (id : Nat) (t : ThreadRef) (acks die pa op : Nat) (wi : Bool) : State :=
  let a := s.inflight.find? fun a => a.id == id
  { s with clears := s.clears ++ [⟨id, t, acks, die, pa, (a.map (·.gid)).getD 0, op, wi, (a.map (·.rid)).getD 0, (a.map (·.ctx)).getD 0⟩] }

/-! ### Packets (R449) -/

/-- A packet of this package with every field zero but those that the caller sets. DESIGN CHOICE, log entry 30. -/
def packet (s : State) (opc : BitVec 8) (dst : BitVec 16) (ns : Bool) (tag : BitVec 16) (addr : Nat) : Packet :=
  { opc := opc, dst := dst, src := s.nid, ns := ns, size := 0, ndata := 0, hostn := false, tag := tag,
    addr := BitVec.ofNat 56 addr, mask := BitVec.allOnes 64, pol := 0, aop := 0, ordsc := 0, stat := 0, snp := 0,
    keep := false, zeros := true, opd0 := 0, opd1 := 0, flits := [] }

def sendPacket (s : State) (p : Packet) : State := { s with sent := s.sent ++ [p] }

/-- A response packet to a request; the fields that it has no use for are zero. DESIGN CHOICE, log entry 30. -/
def respond (s : State) (p : Packet) (opc : BitVec 8) (stat : Nat) (v : Word) (flits : List Line) : State :=
  let q := packet s opc p.src p.ns p.tag 0
  sendPacket s { q with stat := BitVec.ofNat 3 stat, opd0 := v, flits := flits, ndata := BitVec.ofNat 3 flits.length,
                        size := p.size }

/-- DESIGN CHOICE, log entry 30. DEDUCED, log entry 55. -/
def respondErr (s : State) (p : Packet) (stat : Nat) : State := respond s p 0x83 stat 0 []

/-- The entry of the node table for a peer address (R19). -/
def nodeOf (s : State) (pa : Nat) : Node := aget Node.reset s.nodes (peerNode pa)

/-- A write-back of deferred bytes to a peer (R142, R156, R450). -/
def sendWrd (s : State) (pa id : Nat) (ns : Bool) (mask : BitVec 64) (d : Line) : State :=
  let p := packet s 0x04 (nodeOf s pa).node ns (BitVec.ofNat 16 id) (peerOff pa)
  sendPacket s { p with size := 4, ndata := 1, mask := mask, pol := 2, flits := [d] }

/-! ### Deferred bytes (R141-R143) -/

/-- An access with every field at nothing but its name, thread and kind. -/
def Access.blank (id : Nat) (t : ThreadRef) (k : AccKind) : Access :=
  { id := id, t := t, kind := k, stage := .checked, va := 0, pa := 0, n := 0, pol := 0, data := 0, mask := 0, aop := 0,
    ordsc := 0, y := 0, fmt := 0, value := 0, flags := 0, bst := none, poison := false, fail := none, cmd := none,
    lines := [], pas := [], got := 0, gid := 0, ctx := 0, priv := 0, rnd := 0, rid := 0, leaf := 0, sackd := false, waits := [],
    scalar := false, whole := false, tag := 0, after := [], prx := false, asked := 0 }

/-- Nobody, for a write-back that no thread asked for. -/
def nobody (die : Nat) : ThreadRef := ⟨256 * die, 15, 0⟩

/-- Deferred bytes join the L1 copies of their die, as they join the L2 copy (R142, R446). -/
def mergeL1s (s : State) (die pa : Nat) (m : BitVec 64) (d : Line) (bad : Bool) : State :=
  (l1Holders s die pa fun _ x => x.st == .leased || x.st == .shared).foldl (fun s c =>
    match l1At s c pa with
    | some x => setL1 s c pa { x with data := overlay m d x.data, poison := x.poison || bad }
    | none => s) s

/-- A line is in host bias (R460). -/
def hostBias (s : State) (line : Nat) : Bool := s.bias.contains (blwToIw (64 * line) / 65536)

/-- Bytes of a line leave for their home, in the world of their writers and with a poison mark (R142, R446, R449). -/
def sendBytes (s : State) (die core pa : Nat) (t : ThreadRef) (ns : Bool) (m : BitVec 64) (d : Line) (bad : Bool) : State :=
  if m = 0 then s
  else
    let (id, s) := fresh s
    let (seq, s) := fresh s
    let a := { Access.blank id t .writeBack with
      pa := pa, data := d, mask := m, gid := (threadAt s t).gid, ctx := (coreAt s t.core).ctxid,
      stage := if isDram pa then .atHome else .atPeer }
    let s := { s with inflight := s.inflight ++ [a] }
    let req : HomeReq :=
      ⟨id, t, die, core, pa, wordsOfMask m, .deferred m d, ns, none, bad, seq, hostBias s (homeLine pa)⟩
    if isDram pa then modHome s (homeLine pa) fun h => { h with queue := h.queue ++ [req] }
    else sendWrd s pa id ns m d

/-- The deferred bytes of a line leave for the home: they merge into the copies and the mask clears, and write-backs carry them, those
of secure and those of non-secure writers apart (R142, R446, R449). -/
def flushDeferred (s : State) (die core pa : Nat) (t : ThreadRef) : State :=
  let l := l2At s die pa
  if l.dmask = 0 then s
  else
    let data := if l.st == .leased || l.st == .shared then overlay l.dmask l.ddata l.data else l.data
    let l' := { l with data := data, dmask := 0, ddata := 0, dns := 0 }
    let s := mergeL1s (setL2 s die pa (if l.st == .inv then L2Line.reset else l')) die pa l.dmask l.ddata l.poison
    let s := sendBytes s die core pa t false (l.dmask &&& ~~~l.dns) l.ddata l.poison
    sendBytes s die core pa t true (l.dmask &&& l.dns) l.ddata l.poison

/-- Write-backs that have been made since names were given up to one. -/
def backsSince (s : State) (id : Nat) : List Nat := (s.inflight.filter fun a => a.kind == .writeBack && id ≤ a.id).map (·.id)

/-- Lines leave a die for their homes with their deferred bytes (R142). -/
def flushLines (s : State) (core : Nat) (lines : List Nat) (t : ThreadRef) : State :=
  lines.foldl (fun s pa => flushDeferred s (dieOf core) core pa t) s

/-- The mark of a value under the die's deferred bytes: a mark of the line is one of them (R446). -/
def markOver (s : State) (die pa : Nat) (bad : Bool) : Bool :=
  let l := l2At s die pa
  bad || (l.poison && l.dmask != 0) || transitBad s die pa (BitVec.allOnes 64)

/-- The die's deferred bytes laid over a value (R143). -/
def layOver (s : State) (die pa : Nat) (d : Line) : Line :=
  let l := l2At s die pa
  if l.dmask = 0 then d else overlay l.dmask l.ddata d

/-! ### Eviction and installation (R44, R47, R49) -/

/-- An L2 line is evicted: its L1 copies go, an S line tells the home, owned words and deferred bytes are written
back (R49, R148). DEDUCED, log entry 31. -/
def evictL2 (s : State) (die pa : Nat) : State :=
  let s := flushDeferred s die (256 * die) pa (nobody die)
  let l := l2At s die pa
  let s := dropBase (surrender s die pa) die pa
  let line := homeLine pa
  if l.st == .shared && isDram pa && !holdsShared s die line then clearShare s die line else s

/-- Room for a line in its slice and set of 16 ways: a free choice among the others is evicted (R48, R49).
DESIGN CHOICE, log entry 9. -/
def makeRoomL2 (s : State) (die pa : Nat) : State :=
  let same := (dieAt s die).l2.filter fun e =>
    e.1 != pa / 64 && l2Slice (64 * e.1) == l2Slice pa && l2Set (64 * e.1) == l2Set pa
  if same.length < 16 then s
  else
    match same[Config.choice s.stepNo % same.length]? with
    | some e => evictL2 s die (64 * e.1)
    | none => s

/-- The active members of a quad's victim pool, in ascending core order (R46, R47). -/
def poolMembers (s : State) (quad : Nat) : List Nat :=
  let q := quadAt s quad
  (List.range 4).filterMap fun i =>
    let c := 4 * quad + i
    if q.members.getLsbD i && decide (1 ≤ (coreAt s c).carveK) then some c else none

/-- The copies of a core's L1 in the set of a line, but for the line's own. -/
def l1Mates (k : Core) (line : Nat) : List (Nat × L1Line) := k.l1.filter fun e => e.1 != line && e.1 % 1024 == line % 1024

/-- The lowest way of K that no copy of the set holds. -/
def freeWay (k : Core) (line : Nat) : Option Nat :=
  (List.range k.carveK).find? fun w => (l1Mates k line).all fun e => e.2.way != w

/-- A line takes a way of its set in an L1: its own, a free one, or that of a copy which a free choice displaces (R43).
DESIGN CHOICE, log entry 9. -/
def wayFor (s : State) (core line choice : Nat) : Option (Nat × Option (Nat × L1Line)) :=
  let k := coreAt s core
  match l1At s core (64 * line) with
  | some x => some (x.way, none)
  | none =>
    match freeWay k line with
    | some w => some (w, none)
    | none =>
      let mates := l1Mates k line
      match mates[choice % mates.length]? with
      | some e => some (e.2.way, some e)
      | none => none

/-- An evicted copy enters the pool when it is S or O, was not pooled before, and its core is an active member of a pool of two or
more; what it displaces there goes to the L2 (R47). -/
def poolVictim (s : State) (core : Nat) (e : Nat × L1Line) : State :=
  let pool := poolMembers s (quadOf core)
  let others := pool.filter fun c => c != core
  let s' := evictL1 s core (64 * e.1)
  if (e.2.st == .shared || e.2.st == .owned) && e.2.victim.isNone && pool.contains core && !others.isEmpty then
    let c := others.getD (e.1 % 1024 % others.length) core
    match wayFor s' c e.1 (Config.choice (s.stepNo + 1)) with
    | some (w, x) =>
      let s' := match x with
        | some x => evictL1 s' c (64 * x.1)
        | none => s'
      setL1 s' c (64 * e.1) { e.2 with victim := some core, way := w }
    | none => s'
  else s'

/-- An L1 copy is installed in a set of K ways (R43, R47). -/
def installL1 (s : State) (core pa : Nat) (l : L1Line) : State :=
  match wayFor s core (pa / 64) (Config.choice s.stepNo) with
  | some (w, e) =>
    let s := match e with
      | some e => poolVictim s core e
      | none => s
    setL1 s core pa { l with way := w }
  | none => s

/-- The words of a line that a core owns enter its L1 (R44, R50). -/
def holdOwned (s : State) (core pa : Nat) : State :=
  let l := l2At s (dieOf core) pa
  let w := (List.range 16).foldl (fun (w : BitVec 16) j =>
    if l.own.getLsbD j && aget 1024 l.owners j == core then w ||| BitVec.ofNat 16 (2 ^ j) else w) 0
  if w = 0 then s else installL1 s core pa ⟨.owned, w, l.data, 0, s.now, l.poison, none, 0, false⟩

/-- A leased copy is live for a load of a core: younger than the core's LEN and its own, and filled since the rider
arrived (R138). -/
def liveCopy (s : State) (core : Nat) (arrival fill len : Nat) : Bool :=
  decide (s.now - fill < (coreAt s core).lease.toNat) && decide (s.now - fill < len) && decide (arrival ≤ fill)

/-- An L1 copy is live for a load of its core, when it was filled since the rider arrived: an S copy; a leased one while it is younger
than the core's LEN and the L2 copy that includes it has not run out (R44, R138). -/
def liveL1 (s : State) (core arrival : Nat) (c : L1Line) (l : L2Line) : Bool :=
  decide (arrival ≤ c.fill) && (c.st == .shared || (c.st == .leased && decide (s.now - c.fill < (coreAt s core).lease.toNat) &&
    (l.st != .leased || decide (s.now - l.fill < l.len))))

/-! ### Home messages at a die (R148) -/

/-- The base state after a die has applied a home's message, with the acknowledgement at the home. -/
def takeMsg (s : State) (die : Nat) (m : HomeMsg) : State :=
  match m.kind with
  | .invalidate =>
    let s := (aliasesOf m.line).foldl (fun s pa => if (l2At s die pa).st == .shared then dropBase s die pa else s) s
    clearShare s die m.line
  | .aliasCopy pa =>
    let o := otherAlias pa
    let s := if (l2At s die o).st == .shared then dropBase s die o else s
    if holdsShared s die m.line then s
    else clearShare s die m.line
  | .recall w => (aliasesOf m.line).foldl (fun s pa => releaseWords s die pa w true) s
  | .discard w =>
    let s := (aliasesOf m.line).foldl (fun s pa =>
      let s := releaseWords s die pa w false
      if (l2At s die pa).st == .shared then dropBase s die pa else s) s
    clearShare s die m.line

/-- The acknowledgement of a message reaches whoever waits for it: the home's request or row step (op 0), or the write
that is owed a clearance. DESIGN CHOICE, log entry 12. -/
def acknowledge (s : State) (m : HomeMsg) : State :=
  if m.op = 0 then modHome s m.line fun h => { h with acks := h.acks - 1 }
  else { s with clears := s.clears.map fun c => if c.op == m.op then { c with acks := c.acks - 1 } else c }

end Sys2Proof.Machine
end

