-- ==== Sys2Proof/Machine/Homes.lean ====
section
/-! DEFINITION. What a home checks before it serves (R457, R458, R461), the snoop of the host's agent (R452), surrenders
(R145, R147), and requests that are served in one act: fetches, walkers and engines. -/

namespace Sys2Proof.Machine

/-! ### World regions (R457, R458) -/

/-- A region register that matches a BLW offset: its NS, HR and HW bits. -/
def regionAt (s : State) (b : Nat) : Option (Bool × Bool × Bool) :=
  let r := (stackAt s (stackOf b)).regions
  let u := field b 35 16
  (List.range 16).findSome? fun j =>
    let w0 := (aget 0 r (2 * j)).toNat
    let w1 := (aget 0 r (2 * j + 1)).toNat
    if bit w0 63 && decide (field w0 19 0 ≤ u) && decide (u ≤ field w1 19 0) then some (bit w0 62, bit w0 61, bit w0 60)
    else none

/-- A line lies in a secure range; a byte that no register matches is non-secure. -/
def secureLine (s : State) (line : Nat) : Bool :=
  match regionAt s (64 * line) with
  | some (ns, _, _) => !ns
  | none => false

/-- A host may read, or write, a line. -/
def hostMay (s : State) (line : Nat) (write : Bool) : Bool :=
  match regionAt s (64 * line) with
  | some (_, hr, hw) => if write then hw else hr
  | none => false

/-! ### Bias and snoops (R452, R460, R461) -/

/-- The home asks the host's coherence agent. SNP 1 for requests that take ownership or write. -/
def sendSnoop (s : State) (line : Nat) (who : Asker) (excl ns : Bool) : State :=
  let (id, s) := fresh s
  let tag := BitVec.ofNat 16 id
  let p := packet s 0x10 (aget Node.reset s.nodes s.agent.toNat).node ns tag (blwToIw (64 * line))
  modHome (sendPacket s { p with size := 4, snp := if excl then 1 else 0 }) line fun h =>
    { h with snoop := some ⟨tag, who, excl⟩, asking := h.asking.erase who }

/-- An answer of the agent has served its purpose. -/
def answerUsed (s : State) (line : Nat) (who : Asker) : State :=
  if (homeAt s line).snooped.any fun x => x.1 == who then
    modHome s line fun h => { h with snooped := h.snooped.filter fun x => x.1 != who }
  else s

/-- The answers that an asker has had for the lines of an act have served their purpose. -/
def answersUsed (s : State) (lines : List Nat) (who : Asker) : State := lines.foldl (fun s l => answerUsed s l who) s

/-- One that stands in no queue waits behind the snoop outstanding. -/
def waitAsking (s : State) (line : Nat) (who : Asker) : State :=
  match who with
  | .req _ => s
  | _ =>
    if (homeAt s line).asking.contains who then s else modHome s line fun h => { h with asking := h.asking ++ [who] }

/-- Whether a device request may be served now. -/
inductive Ready where
  | yes (s : State)
  | wait (s : State)
  | fail (s : State) (cls : FaultClass) (cause : Nat)
  deriving DecidableEq, Repr

/-- Host bias: the agent must have answered this very request, by a snoop of its kind; one snoop at a time is outstanding for a line, others
wait behind it, and a request that waits for it when the bias flips is completed under host bias (R452, R461, R463). The answer stands
until it is used, or until the host takes the line again. -/
def biasReady (s : State) (line : Nat) (who : Asker) (excl ns bias : Bool) : Ready :=
  let h := homeAt s line
  if h.unanswered.contains who then .fail (modHome s line fun h => { h with unanswered := h.unanswered.erase who }) .xlat 14
  else if h.snooped.contains (who, excl) then .yes s
  else if h.snoop.isSome then .wait (waitAsking s line who)
  else if bias then .wait (sendSnoop s line who excl ns) else .yes s

/-- A request ends the self-refresh of its stack (R490). -/
def wakeStack (s : State) (line : Nat) : State :=
  if (stackAt s (stackOf (64 * line))).refresh then modStack s (stackOf (64 * line)) fun q => { q with refresh := false } else s

/-- A device request that reads the array itself: the world check, a free home, the bias (R458, R149, R461). -/
def homeTurn (s : State) (line : Nat) (who : Asker) (excl ns : Bool) : Ready :=
  let s := wakeStack s line
  if ns && secureLine s line then .fail s .world 12
  else if !homeFree s line then .wait s
  else biasReady s line who excl ns (hostBias s line)

/-- A device request that is served in one act: the world check, a free home with the line in its LLC, the bias (R458, R149, R51,
R461). -/
def homeReady (s : State) (line : Nat) (who : Asker) (excl ns : Bool) : Ready :=
  let s := wakeStack s line
  if ns && secureLine s line then .fail s .world 12
  else if !homeFree s line then .wait s
  else
    match enterLlc s line with
    | (false, s) => .wait s
    | (true, s) => biasReady s line who excl ns (hostBias s line)

/-! ### Writes that one act performs -/

/-- The bytes of a store reach the copies that its die holds under the same alias, and a store of all 64 B clears their poison mark;
its S and O copies in the L1s of the other cores go (R144, R164, R446). -/
def storeIntoCopies (s : State) (die core pa : Nat) (mask : BitVec 64) (d : Line) : State :=
  let s := gatherL1 s die pa
  let l := l2At s die pa
  let keeps := mask != BitVec.allOnes 64
  let s :=
    if l.st == .leased || l.st == .shared then setL2 s die pa { l with data := overlay mask d l.data, poison := l.poison && keeps }
    else if l.st == .owned then
      setL2 s die pa { l with data := overlay (mask &&& maskOfWords l.own) d l.data, poison := l.poison && keeps }
    else s
  let s := match l1At s core pa with
    | some c =>
      let m := if c.st == .owned then mask &&& maskOfWords c.own else mask
      setL1 s core pa { c with data := overlay m d c.data, poison := c.poison && keeps }
    | none => s
  dropL1s s die pa fun c x => c != core && x.st != .leased

/-- A write by an engine, as a `.wi` store: owned words are recalled and sharers invalidated, then the bytes are in DRAM
(R128). DESIGN CHOICE, log entry 12. -/
def engineWrite (s : State) (line : Nat) (mask : BitVec 64) (d : Line) : State :=
  writeHome (invalidateNow (recallNow s line (wordsOfMask mask) true) line) line mask d

/-- A read by an engine or a walker, as a `.wt` load: the words it touches are recalled (R31, R128). DESIGN CHOICE, log entry 12. -/
def engineRead (s : State) (line : Nat) (words : BitVec 16) : Line × State :=
  let s := recallNow s line words true
  (homeData s line, s)

end Sys2Proof.Machine
end

