-- ==== Sys2Proof/Machine/Copies.lean ====
section
/-! DEFINITION. The copies of a die (R44-R50, R138, R143-R145, R160): owned words that move between its cores, copies that a reply fills or
renews, and what a read finds in the L1 and the L2. -/

namespace Sys2Proof.Machine

/-- The words of a line move to a core of the die that owns them (R50); what the L1s of the others held of them is in the L2. -/
def moveWords (s : State) (die core pa : Nat) (words : BitVec 16) : State :=
  let s := dropL1s (gatherL1 s die pa) die pa fun c x => c != core && (x.st != .owned || (x.own &&& words) != 0)
  let l := l2At s die pa
  setL2 s die pa { l with owners := (List.range 16).foldl (fun o j => if words.getLsbD j then aput o j core else o) l.owners }

/-- Every word is owned by the die under this address. -/
def dieOwns (s : State) (die pa : Nat) (words : BitVec 16) : Bool :=
  let l := l2At s die pa
  l.st == .owned && (l.own &&& words) == words

/-- Words of a line that a reader's die does not get with the line: another owner holds them, or the die under the other alias (R52, R56).
They are no part of a copy that the reply fills. DEDUCED, log entry 62. -/
def ownedElsewhere (s : State) (line die pa : Nat) : BitVec 16 :=
  let h := homeAt s line
  h.own &&& ~~~(if h.odie = die then (l2At s die pa).own else 0)

/-- A leased copy that is not live for a core counts as none, and is dropped (R145). -/
def dropDead (s : State) (core arrival pa : Nat) : State :=
  let l := l2At s (dieOf core) pa
  if l.st == .leased && !liveCopy s core arrival l.fill l.len then dropBase s (dieOf core) pa else s

/-- The reply to a read replaces the data of the copies of its core and its die (R160); deferred bytes under way to the home lie over
it (R142). -/
def refreshCopies (s : State) (die core pa : Nat) (r : Reply) : State :=
  let d := inTransit s die pa r.data
  let bad := markOver s die pa r.bad
  let l := l2At s die pa
  let s := if l.st == .leased || l.st == .shared then setL2 s die pa { l with data := d, miss := r.miss, poison := bad, old := false } else s
  match l1At s core pa with
  | some c => if c.st == .owned then s else setL1 s core pa { c with data := d, miss := r.miss, poison := bad, old := false }
  | none => s

/-- What a read delivers of a line of its die's: deferred bytes under way, owned words and deferred bytes lie over it (R143, R145). -/
def readOver (s : State) (die pa : Nat) (d : Line) : Line :=
  let d := inTransit s die pa d
  let l := l2At s die pa
  layOver s die pa (if l.st == .owned then overlay (maskOfWords l.own) l.data d else d)

/-- The mark of what a read delivers: that of the reply, of deferred bytes, or of owned words that lie over it (R446). -/
def readBad (s : State) (die pa : Nat) (bad : Bool) : Bool :=
  let l := l2At s die pa
  markOver s die pa bad || (l.st == .owned && l.poison)

/-- The reply fills a copy of a line of which the die owns no word: leased, or tracked; a tracked copy that is there stays tracked
(R138, R144). The L1 takes it too, when asked. -/
def fillCopy (s : State) (die core pa : Nat) (st : LineState) (r : Reply) (l1 : Bool) : State :=
  if (l2At s die pa).st == .owned then s
  else
    let s := makeRoomL2 s die pa
    let l := l2At s die pa
    let st := if l.st == .shared then .shared else st
    let d := inTransit s die pa r.data
    let bad := markOver s die pa r.bad
    let len := if st == .shared then 0 else (coreAt s core).lease.toNat
    let s := setL2 s die pa { l with st := st, data := d, miss := r.miss, fill := s.now, len := len, poison := bad, old := false }
    if l1 then installL1 s core pa ⟨st, 0, d, r.miss, s.now, bad, none, 0, false⟩ else s

/-- A leased copy is filled (R138). -/
def fillLeased (s : State) (die core pa : Nat) (r : Reply) (l1 : Bool) : State := fillCopy s die core pa .leased r l1

/-- A tracked copy is filled, where the home has recorded the die. -/
def fillShared (s : State) (die core pa : Nat) (r : Reply) (l1 : Bool) : State :=
  if r.share then fillCopy s die core pa .shared r l1 else refreshCopies s die core pa r

/-- A line found in the L2 enters the L1; a pooled copy of it moves there, with the words that it holds (R44, R47). A core without an
L1 probes no pool. DESIGN CHOICE, log entry 12. -/
def fillL1 (s : State) (core pa : Nat) : State :=
  let pool := poolMembers s (quadOf core)
  let pooled := if pool.contains core then pool.filter fun c => c != core && match l1At s c pa with
      | some x => x.victim.isSome
      | none => false
    else []
  let words := pooled.foldl (fun w c => match l1At s c pa with
    | some x => w ||| x.own
    | none => w) 0
  let s := pooled.foldl (fun s c => evictL1 s c pa) s
  let l := l2At s (dieOf core) pa
  if l.st == .owned then (if words = 0 then s else holdOwned (moveWords s (dieOf core) core pa words) core pa)
  else installL1 s core pa ⟨l.st, 0, l.data, l.miss, l.fill, l.poison, none, 0, l.old⟩

/-- A copy that a load of some words hits: in its core's L1, else in its die's L2 (R138, R145); only a tracked one, when so asked. An address
thread hits no copy that is older than a QST of the line (R117, R168). -/
def hitCopy (s : State) (t : ThreadRef) (pa : Nat) (words : BitVec 16) (tracked : Bool) : Option (Line × Bool × State) :=
  let core := t.core
  let arrival := (threadAt s t).arrival
  let l := l2At s (dieOf core) pa
  let has := fun (m : BitVec 16) => (m &&& words) == 0
  let fits := fun (old : Bool) => !old || !isAddr t
  let inL2 :=
    if fits l.old && has l.miss && ((l.st == .shared && decide (arrival ≤ l.fill)) || (!tracked && l.st == .leased && liveCopy s core arrival l.fill l.len))
    then some (layOver s (dieOf core) pa l.data, l.poison, fillL1 s core pa)
    else none
  match l1At s core pa with
  | some c =>
    if fits c.old && has c.miss && (c.st == .shared || !tracked) && liveL1 s core arrival c l then some (layOver s (dieOf core) pa c.data, markOver s (dieOf core) pa c.poison, s)
    else inL2
  | none => inL2

/-- The owned words of a die that an access touches; the core's L1 takes a copy, unless the access keeps none (R59). -/
def hitOwned (s : State) (core pa : Nat) (keep : Bool) : Line × Bool × State :=
  let s := gatherL1 s (dieOf core) pa
  let s := if keep then fillL1 s core pa else s
  let l := l2At s (dieOf core) pa
  (l.data, l.poison, s)

end Sys2Proof.Machine
end

