-- ==== Sys2Proof/Machine/Fetch.lean ====
section
/-! DEFINITION. Instruction fetch (R309, R497), the units that a false compare annuls (R288, R289, R498), and which
instruction a READY thread issues next (R281, R287). -/

namespace Sys2Proof.Machine

/-- What fetching one word comes to. -/
inductive Fetched where
  | word (w : IWord) (s : State)
  | wait (s : State)              -- the fetch has joined a coalescing entry (R309)
  | later (s : State)             -- the home cannot serve it yet: the thread tries again
  | fault (s : State) (cls : FaultClass) (cause addr : Nat)  -- precise: POLICY in the device region (R497), POISON (R446), the home's refusals
  deriving DecidableEq, Repr

/-- What a read of a line in one act comes to. -/
inductive ReadNow where
  | got (v : Line) (poison : Bool) (s : State)
  | later (s : State)
  | fail (s : State) (cls : FaultClass) (cause : Nat)
  deriving DecidableEq, Repr

/-- The value of a line as a `.si` load of a core reads it: owned words of the die, a live leased or a tracked copy; otherwise the home,
whose answer fills a leased copy, or at LEN 0 renews the copies that are there (R143, R145, R497). DEDUCED, log entry 23. -/
def readAsSi (s : State) (t : ThreadRef) (pa : Nat) : ReadNow :=
  let core := t.core
  let die := dieOf core
  let p := lineAddr pa
  let line := homeLine p
  let arr := (threadAt s t).arrival
  let words := wordsTouched (pa % 64) 4
  let leases := (coreAt s core).lease != 0
  let found :=
    if dieOwns s die p words then some (hitOwned s core p leases) else if leases then hitCopy s t p words false else none
  match found with
  | some (d, bad, s) => .got d bad s
  | none =>
    match homeReady (dropDead s core arr p) line (.fetch t (threadAt s t).rid) false (ctxNs (coreAt s core).ctxid) with
    | .wait s => .later s
    | .fail s c k => .fail s c k
    | .yes s =>
      let s := recallNow (answerUsed s line (.fetch t (threadAt s t).rid)) line (words &&& ownedElsewhere s line die p) true
      let r : Reply := ⟨homeData s line, ownedElsewhere s line die p, 0, false, linePoison s line, 0⟩
      let s := if leases then fillLeased s die core p r true else refreshCopies s die core p r
      .got (readOver s die p r.data) (readBad s die p r.bad) s

/-- Fetch the word at a virtual address for the current thread. DEDUCED, log entries 23, 24. -/
def fetchWord (s : State) (va : Nat) : Fetched :=
  let t := s.cur
  let th := me s
  if va < 2 ^ 56 ∧ inDeviceRegion va then .fault s .policy 13 va
  else
    let ctx := (myCore s).ctxid
    let wait := fun (cause : Nat) =>
      Fetched.wait (modThread (coalesce s t ctx va cause 3 (.fetch t) none) t fun th =>
        { th with run := .parked (.fetch va) })
    match translate s t.core ctx th.ss.priv va Need.fetch 0 true with
    | .miss => wait 0
    | .fail c => wait c
    | .dirty pa _ | .ok pa _ =>
      match readAsSi s t pa with
      | .later s' => .later s'
      | .fail s' c k => .fault s' c k va
      | .got v bad s' => if bad then .fault s' .poison 0 va else .word (BitVec.ofNat 32 (lineBytes v (pa % 64) 4)) s'

/-- The boundary of an annulled unit: an FMT, then a REP, in that order, then the first word that cannot continue, whatever
it holds (R288); S bits are ignored (R289). `stage` 0: nothing yet; 1: an FMT; 2: a REP. -/
def unitEnd (s : State) : (fuel stage va : Nat) → Fetched × Nat
  | 0, _, va => (.word 0 s, va)
  | fuel + 1, stage, va =>
    match fetchWord s va with
    | .word w s' =>
      let m := bits w 25 6
      if m = 1 ∧ stage = 0 then unitEnd s' fuel 1 ((va + 4) % 2 ^ 64)
      else if m = 2 ∧ stage ≤ 1 then unitEnd s' fuel 2 ((va + 4) % 2 ^ 64)
      else (.word w s', (va + 4) % 2 ^ 64)
    | r => (r, va)

/-- Annul k units from pc on: the thread at the unit after them with SKP 0; or parked, or frozen precisely, at the first
word of the unit being decoded with SKP the number still to be annulled, that unit included (R288, R498). A suspension that was
asked for takes effect after the last of them (R289). -/
def annul (s : State) : (k pc : Nat) → State
  | 0, pc => modMe s fun th => suspendAsked { goTo th pc with ss := { (goTo th pc).ss with skp := 0 } }
  | k + 1, pc =>
    let at_ := fun (s : State) =>
      modMe s fun th =>
        { goTo th pc with ss := { (goTo th pc).ss with skp := BitVec.ofNat 2 (k + 1) }, susp := false, suspReq := th.suspReq || th.susp }
    match unitEnd s 3 0 pc with
    | (.word _ s', next) => annul s' k next
    | (.wait s', _) | (.later s', _) => at_ s'
    | (.fault s' c k a, _) => preciseFault (at_ s') c k 0 (some a)

/-- Without PP the prefix descriptor and REPC mean nothing (R186, R287). -/
def dropStale (th : Thread) : Thread := { th with desc := ⟨0, 0⟩, ss := { th.ss with repc := 0 } }

/-- What a READY thread's next act is. -/
inductive Next where
  | exec (i : Instr) (s : State)
  | state (s : State)
  deriving DecidableEq, Repr

/-- The next unit, or the next word of the unit being issued: annulments left over (R498), a descriptor that is not valid
(R287), the fetch, and a word that is no instruction (R280). -/
def nextAct (s : State) : Next :=
  if !canIssue (me s) then .state s
  else
  let s := if (me s).ss.pp || ((me s).desc == ⟨0, 0⟩ && (me s).ss.repc == 0) then s else modMe s dropStale
  let th := me s
  match th.prog with
  | .faulted f => .state (takeFault (modMe s fun th => { th with prog := .none }) s.cur f)
  | _ =>
  if th.ss.skp != 0 then .state (annul s th.ss.skp.toNat th.pc.toNat)
  else if expired s s.cur then .state s
  else if th.ss.priv = 3 then .state (preciseFault s .ill 0 0 none)
  else if th.ss.pp && !descValid th then .state (preciseFault s .ill 0 0 none)
  else
    let skip := if th.ss.pp then b01 (th.desc.fmt != 0) + b01 (th.desc.rep != 0) else 0
    match fetchWord s ((th.pc.toNat + 4 * skip) % 2 ^ 64) with
    | .wait s' | .later s' => .state s'
    | .fault s' c k a => .state (preciseFault s' c k 0 (some a))
    | .word w s' =>
      match decode w with
      | .ok i => .exec i s'
      | .error _ => .state (preciseFault s' .ill 0 0 none)

/-- A READY thread whose turn does something: one whose quantum has run out only ends its skip window or freezes (R224, R289). -/
def canTurn (s : State) (t : ThreadRef) : Bool :=
  let th := threadAt s t
  canIssue th && (!expired s t || th.ss.skp != 0 || match th.prog with
    | .faulted _ => true
    | _ => false)

/-- The deck slot that a core selects: the first READY one after the slot that issued last, with wrap (R206, R225). -/
def selectedDeck (s : State) (core : Nat) : Option Nat :=
  ((List.range 7).map fun k => ((coreAt s core).rr + 1 + k) % 7).find? fun n => canTurn s ⟨core, n, 0⟩

/-- A thread has its turn: a selected deck slot, or a quay thread, which issues on its own; none of a core whose clock is gated (R112, R225,
R490). -/
def hasTurn (s : State) (t : ThreadRef) : Bool :=
  !(coreAt s t.core).idle && if isDeck t then t.th == 0 && selectedDeck s t.core == some t.slot else canTurn s t

/-- The legality of the unit that begins with prefixes d0 and whose next word lies at va: every prefix and the instruction
are decoded before the first word issues (R280, R281). The result says whether the unit is legal and marked. -/
inductive UnitCheck where
  | ok (marked : Bool) (s : State)
  | ill (s : State)
  | stop (r : Fetched)
  deriving DecidableEq, Repr

def checkUnit (s : State) : (fuel : Nat) → (d : Descriptor) → (va : Nat) → UnitCheck
  | 0, _, _ => .ill s
  | fuel + 1, d, va =>
    match fetchWord s va with
    | .word w s' =>
      match decode w with
      | .ok (.rep _ _ _ _) => if d.rep = 0 then checkUnit s' fuel { d with rep := w } ((va + 4) % 2 ^ 64) else .ill s'
      | .ok (.fmt _ _ _ _ _) => .ill s'
      | .ok i => if unitLegal s'.cur (me s') d i then .ok (marked i || alwaysMarks i) s' else .ill s'
      | .error _ => .ill s'
    | r => .stop r

/-- Issue of a prefix word: the unit is checked whole; a marked unit's marker comes before its first word; then the prefix
enters the descriptor and counts one (R281, R287, R292, R224). -/
def issuePrefix (isRep : Bool) (w : IWord) (s : State) : State :=
  let th := me s
  if !canIssue th || expired s s.cur then s
  else
    let d := if isRep then { th.desc with rep := w } else { th.desc with fmt := w }
    let good := if isRep then th.desc.rep == 0 else th.desc.fmt == 0 && th.desc.rep == 0
    let skip := b01 (d.fmt != 0) + b01 (d.rep != 0)
    if !good then preciseFault s .ill 0 0 none
    else
      match checkUnit s 2 d ((th.pc.toNat + 4 * skip) % 2 ^ 64) with
      | .stop (.wait s') | .stop (.later s') => s'
      | .stop (.fault s' c k a) => preciseFault s' c k 0 (some a)
      | .stop (.word _ s') => s'
      | .ill s' => preciseFault s' .ill 0 0 none
      | .ok m s' =>
        if m && !th.ss.pp && !th.outs.isEmpty then park s' .marker
        else if 32 ≤ unaccepted th then park s' .unaccepted
        else
          let s' := countIssue (noteIssue s' s'.cur) s'.cur
          modMe s' fun th => { th with desc := d, ss := { th.ss with pp := true } }

end Sys2Proof.Machine
end

