-- ==== Sys2Proof/Machine/Flags.lean ====
section
/-! DEFINITION. Conditions and flags: the integer conditions of compares (R276, R305, R397), the branch predicates (R306), and
the five floating-point exception flags (R186, R239). -/

namespace Sys2Proof.Machine

/-- What a step of the package answers. -/
abbrev Answer := Host.Outcome State Fault Refusal

/-- COND of a compare: 0 EQ, 1 NE, 2 LT, 3 GE, 4 LTU, 5 GEU (R276, R305). -/
def condition {n : Nat} (c : Nat) (x y : BitVec n) : Bool :=
  match c with
  | 0 => x == y
  | 1 => x != y
  | 2 => x.slt y
  | 3 => !x.slt y
  | 4 => x.ult y
  | _ => !x.ult y

/-- The sticky flags in record word 1, bits 58:54: NV, DZ, OF, UF, NX (R186). -/
def flagNV : BitVec 5 := 16
def flagDZ : BitVec 5 := 8
def flagOF : BitVec 5 := 4
def flagUF : BitVec 5 := 2
def flagNX : BitVec 5 := 1

/-- A flag, or none. -/
def flagIf (b : Bool) (f : BitVec 5) : BitVec 5 := if b then f else 0

end Sys2Proof.Machine
end

