-- ==== Sys2Proof/Machine/Registers.lean ====
section
/-! DEFINITION. The per-core and per-quad registers (R18, R41-R47, R60, R61, R137, R241, R320, R406, R440, R442): what each
reads as and what a write of it does, shared by WRSYS and the control window. -/

namespace Sys2Proof.Machine

/-! ### The end of a write that performs a change -/

/-- A write that performed a change has ended: its writer goes on, or its store is acknowledged (R18, R45, R61). -/
def finishWrite (s : State) (w : BankSrc) : State :=
  match w with
  | .writer t id => modThread s t fun th => if th.prog == .asked id then { th with prog := .none } else th
  | .access id => stageAccess s id .acked
  | .host p => respond s p 0x82 0 0 []
  | _ => s

/-! ### Banks as registers show them (R60, R64) -/

/-- A bank serves its core's L1 (R41). -/
def servesL1 (s : State) (core bank : Nat) : Bool := decide (bank < (coreAt s core).carveK)

/-- The composite of a bank, head first; the bank alone otherwise (R60). -/
def compositeOf (s : State) (core bank : Nat) : List (Nat × Nat) :=
  let b := bankAt s core bank
  if b.comp.isEmpty then [(core, bank)] else b.comp

/-- BPCFG as it reads; a bank that serves the L1 reads as at reset (R60, R61). -/
def bpcfgWord (s : State) (core bank : Nat) : Word :=
  if servesL1 s core bank then word (core * 2 ^ 36 + bank * 2 ^ 32)
  else
    let b := bankAt s core bank
    let c := compositeOf s core bank
    let h := c.headD (core, bank)
    word (b01 b.ns * 2 ^ 63 + b.group.toNat * 2 ^ 47 + b01 b.busy * 2 ^ 46 + h.1 * 2 ^ 36 + h.2 * 2 ^ 32
      + (c.length - 1) * 2 ^ 28 + b.p.sh.toNat * 2 ^ 22 + b.p.log.toNat * 2 ^ 18 + b.p.cap.toNat * 2 ^ 5
      + b.p.esz.toNat * 2 ^ 3 + b.p.pers.toNat)

/-- The parameters that a BPCFG or personality-change word names (R60, R365). -/
def paramsOfWord (w : Word) : Params :=
  let n := w.toNat
  { pers := BitVec.ofNat 3 (field n 2 0), esz := BitVec.ofNat 2 (field n 4 3), cap := BitVec.ofNat 13 (field n 17 5),
    log := BitVec.ofNat 4 (field n 21 18), sh := BitVec.ofNat 6 (field n 27 22) }

/-- A request of no thread, for register writes and the dispatcher. -/
def agentReq (src : BankSrc) (core bank : Nat) (cmd : BankCmd) : BankReq :=
  { src := src, cmd := cmd, t := ⟨0, 0, 0⟩, gid := 0, ns := false, priv := 2, host := false, fwd := true,
    addr := bankOff core bank 0, came := 0, bad := false }

/-- Where a slot's operation stands among those that arrive in its cycle: by core, then slot (R67); others have no place of their own. -/
def arrivalRank (q : BankReq) : Option Nat :=
  match q.src with
  | .access _ | .writer _ _ | .step _ _ => some (16 * q.t.core + q.t.slot)
  | .host _ | .agent | .front => none

/-- An arrival takes its place behind what came in earlier cycles, and among the slots' operations of its own cycle (R67). -/
def insertArrival (l : List BankReq) (q : BankReq) : List BankReq :=
  let n := (l.reverse.takeWhile fun x => x.came == q.came && match arrivalRank x, arrivalRank q with
    | some i, some j => decide (j < i)
    | _, _ => false).length
  l.take (l.length - n) ++ q :: l.drop (l.length - n)

/-- An operation enters a bank's input queue (R67). -/
def enqueueBank (s : State) (core bank : Nat) (r : BankReq) : State :=
  modBank s core bank fun b => { b with queue := insertArrival b.queue r }

/-- An arrival waits in the network before a bank (R45, R58). -/
def holdArrival (s : State) (core bank : Nat) (r : BankReq) : State :=
  modBank s core bank fun b => { b with net := insertArrival b.net r }

/-- A bank whose role a CARVE change is changing (R45). -/
def roleChanging (s : State) (core bank : Nat) : Bool :=
  match (coreAt s core).carveBusy with
  | some (k, _) => decide ((coreAt s core).carveK ≤ bank ∧ bank < k)
  | none => false

/-- No arrival is accepted now: the input queue of 32 entries is full, or the bank's role is changing (R45, R58). -/
def holdsArrivals (s : State) (core bank : Nat) : Bool :=
  roleChanging s core bank || decide (32 ≤ (bankAt s core bank).queue.length)

/-- An arrival waits: behind others that wait, or because none is accepted now. -/
def mustWait (s : State) (core bank : Nat) : Bool := holdsArrivals s core bank || !(bankAt s core bank).net.isEmpty

/-! ### CARVE (R41-R45) -/

def carveWord (k : Core) : Word := word (b01 k.carveRef * 2 ^ 15 + b01 k.carveBusy.isSome * 2 ^ 14 + k.carveK)

/-- The lines that stand in the ways, which are banks, from K up leave an L1: owned words go to the L2, and pooled copies go too (R45,
step 3). -/
def trimL1 (s : State) (core k : Nat) : State :=
  ((coreAt s core).l1.filter fun e => decide (k ≤ e.2.way)).foldl (fun s e => evictL1 s core (64 * e.1)) s

/-- The bytes of a bank set to zero, without poison. -/
def clearBankBytes (s : State) (core bank : Nat) : State :=
  let o := bankOff core bank 0
  { s with sram := zeroRange s.sram o 65536
           sramBad := s.sramBad.filter fun x => decide (64 * x < o ∨ o + 65536 ≤ 64 * x) }

/-- A bank as it stands after it changed its role: an array of zeros with BPCFG at its reset value (R45). The requests
that arrived meanwhile stay in its queue. -/
def freshBank (s : State) (core bank : Nat) : State :=
  clearBankBytes (modBank s core bank fun b => { Bank.reset with queue := b.queue, net := b.net }) core bank

/-- Steps 3-5 of R45 for a change whose entering banks are done: the new K, and the writer goes on. -/
def endCarve (s : State) (core newK : Nat) (w : BankSrc) : State :=
  let old := (coreAt s core).carveK
  let s := if newK < old then trimL1 s core newK else s
  let s := (List.range 16).foldl (fun s b =>
    if (decide (old ≤ b) && decide (b < newK)) || (decide (newK ≤ b) && decide (b < old)) then freshBank s core b else s) s
  finishWrite (modCore s core fun k => { k with carveK := newK, carveBusy := none, carveRef := false }) w

/-- A write of CARVE that finds no change in progress (R42, R45). -/
def carveApply (s : State) (core : Nat) (v : Nat) (w : BankSrc) : State :=
  let k := v % 32
  let old := (coreAt s core).carveK
  if 16 < k then finishWrite (modCore s core fun c => { c with carveRef := true }) w
  else if k = old then finishWrite (modCore s core fun c => { c with carveRef := false }) w
  else if k < old then endCarve s core k w
  else
    let s := modCore s core fun c => { c with carveBusy := some (k, w), carveRef := false }
    (List.range 16).foldl (fun s b =>
      if decide (old ≤ b) && decide (b < k) then enqueueBank s core b { agentReq .agent core b (.change 0) with came := s.now } else s) s

/-- A write of CARVE; while a change is in progress its writer waits (R45). -/
def carveWrite (s : State) (core : Nat) (v : Nat) (w : BankSrc) : State :=
  if (coreAt s core).carveBusy.isSome then modCore s core fun c => { c with carveWait := c.carveWait ++ [(v, w)] }
  else carveApply s core v w

/-- The writes that waited are applied as fresh writes, up to the first that starts a change. -/
def carveNext (s : State) (core : Nat) : (fuel : Nat) → State
  | 0 => s
  | n + 1 =>
    let k := coreAt s core
    match k.carveBusy, k.carveWait with
    | none, (v, w) :: rest => carveNext (carveApply (modCore s core fun c => { c with carveWait := rest }) core v w) core n
    | _, _ => s

/-- All banks that enter the L1 have finished their change: the CARVE change ends (R45). -/
def carveDone (s : State) (core : Nat) : State :=
  let k := coreAt s core
  match k.carveBusy with
  | none => s
  | some (n, w) =>
    let ready := (List.range 16).all fun b =>
      !(decide (k.carveK ≤ b) && decide (b < n)) ||
        match (aget Bank.reset k.banks b).chg with
        | some c => c.carve && c.mode == 3
        | none => false
    if ready then carveNext (endCarve s core n w) core (k.carveWait.length) else s

/-! ### CTXID (R18, R22, R405) -/

/-- A write of CTXID; a new value sets the tiles and the codebook table to zero bytes, not the tiles' records of steps, and ends a killed context's discarding
(R405, R444). -/
def ctxidSet (s : State) (core : Nat) (v : Word) : State :=
  let v := word (field v.toNat 63 24 * 2 ^ 24 + v.toNat % 2 ^ 17)
  modCore s core fun k =>
    if k.ctxid = v then { k with killed := false }
    else
      { k with
        ctxid := v, killed := false, book := [], cbtV := false, cbtOwner := 0
        tiles := (List.range 16).foldl (fun ts n => aset Tile.reset ts n { aget Tile.reset ts n with data := [], owner := 0 }) k.tiles }

/-- The world of the agents of a core: core 0 of quad 0 of each die is its non-secure supervisor's and core 1 the secure one's, whatever
context they hold; the riders of another core are of the world of their context (R22, R428, R456). -/
def agentNs (s : State) (core : Nat) : Bool :=
  match core % 256 with
  | 0 => true
  | 1 => false
  | _ => ctxNs (coreAt s core).ctxid

/-- A non-secure agent may not replace a secure CTXID nor write one; reset leaves NS 0 (R18). -/
def ctxidAllowed (s : State) (core : Nat) (ns : Bool) (v : Word) : Bool :=
  !ns || (ctxNs (coreAt s core).ctxid && ctxNs v)

/-! ### BPCFG (R61) -/

/-- A write of BPCFG: ignored while the bank serves the L1; otherwise it takes its turn at the bank. `ns` says that NS
takes the written value. -/
def bpcfgWrite (s : State) (core bank : Nat) (v : Word) (ns : Bool) (w : BankSrc) : State :=
  let q := { agentReq w core bank (.config v (!ns)) with came := s.now, t := (match w with
    | .writer t _ => t
    | _ => ⟨0, 0, 0⟩) }
  if servesL1 s core bank then finishWrite s w
  else if mustWait s core bank then holdArrival s core bank q
  else enqueueBank s core bank q

/-! ### VPOOL (R46, R47) -/

def vpoolWord (s : State) (quad : Nat) : Word :=
  let q := quadAt s quad
  let act := (List.range 4).foldl (fun a i =>
    a + (if q.members.getLsbD i && decide (1 ≤ (coreAt s (4 * quad + i)).carveK) then 2 ^ i else 0)) 0
  word (act * 16 + q.members.toNat)

/-- A VPOOL write has the victim lines held for a core that it removes written back to the L2, and drops them (R47). -/
def vpoolSet (s : State) (quad : Nat) (v : Nat) : State :=
  let old := (quadAt s quad).members
  let new := BitVec.ofNat 4 v
  let gone := fun (c : Nat) => c / 4 == quad && old.getLsbD (c % 4) && !new.getLsbD (c % 4)
  let s := modQuad s quad fun q => { q with members := new }
  (List.range 4).foldl (fun s i =>
    let lines := (coreAt s (4 * quad + i)).l1.filter fun e => e.2.victim.any gone
    lines.foldl (fun s e => evictL1 s (4 * quad + i) (64 * e.1)) s) s

/-! ### The saved-rider table (R223, R320) -/

/-- A RID is in the table. -/
def srtHolds (k : Core) (rid : BitVec 32) : Bool := rid != 0 && k.srt.any fun e => e.2 == rid

/-- A write of one entry: removing a RID clears its pending WAKE; inserting one while a message for it waits sends WAKE,
unless one is pending. -/
def srtSet (s : State) (core n : Nat) (v : Word) : State :=
  let new : BitVec 32 := v.extractLsb' 0 32
  let old := aget 0 (coreAt s core).srt n
  let s := modCore s core fun k => { k with srt := aset 0 k.srt n new }
  let s := modCore s core fun k => if srtHolds k old then k else { k with wake := k.wake.filter fun r => r != old }
  let k := coreAt s core
  if new != 0 && !k.wake.contains new && k.msgs.any (fun m => m.tag == new) then
    sendEvent (modCore s core fun k => { k with wake := k.wake ++ [new] }) core 0x51 0 new (word new.toNat)
  else s

/-! ### The block of R18 -/

def cbtWord (k : Core) : Word := word (b01 k.cbtV * 2 ^ 32 + k.cbtOwner.toNat)
def evacWord (k : Core) : Word := word (k.evSt.toNat * 2 ^ 14 + k.evWhy.toNat * 2 ^ 11 + k.evTarget.toNat)
def fwdWord (k : Core) : Word := word (b01 k.fwdV * 2 ^ 63 + k.fwdTarget.toNat)
def tvecOf (v : Word) : Word := word (field v.toNat 55 12 * 2 ^ 12 + v.toNat % 2)

/-- A register of a core's block at an offset (R18). -/
def coreRegRead (s : State) (core off : Nat) : Word :=
  let k := coreAt s core
  if off = 0x00 then carveWord k
  else if off = 0x08 then word k.lease.toNat
  else if off = 0x10 then k.seed
  else if off = 0x18 then k.ctxid
  else if off = 0x20 then cbtWord k
  else if off = 0x28 then k.tvec
  else if off = 0x40 then evacWord k
  else if off = 0x48 then fwdWord k
  else if 0x100 ≤ off ∧ off < 0x180 then bpcfgWord s core ((off - 0x100) / 8)
  else if 0x200 ≤ off ∧ off < 0x300 then word (aget 0 k.srt ((off - 0x200) / 8)).toNat
  else 0

/-- The registers of the block whose write is only the write of a field: LEASE, SEED, CBT, TVEC (R18). -/
def coreRegSet (s : State) (core off : Nat) (v : Word) : State :=
  modCore s core fun k =>
    if off = 0x08 then { k with lease := v.extractLsb' 0 32 }
    else if off = 0x10 then { k with seed := v }
    else if off = 0x20 then { k with cbtOwner := v.extractLsb' 0 32 }
    else if off = 0x28 then { k with tvec := tvecOf v }
    else k

end Sys2Proof.Machine
end

