-- ==== Sys2Proof/Machine/Access.lean ====
section
/-! DEFINITION. Accesses to memory from their issue on (R133-R136, R160-R164, R190, R294, R295, R333-R342): what an instruction asks
for, its translation, its place among the thread's accesses, and how it fails. The acts that carry it further are
events. -/

namespace Sys2Proof.Machine

/-- The R37 cause that a precise POLICY fault reports (R429). DEDUCED, log entry 21. -/
def policyFault (ea : Nat) : Res := .fault .policy 13 0 (some ea)

/-- A late failure: its class from its cause. -/
def Fail.ofCause (c va : Nat) : Fail := { cls := causeClass c, cause := c, addr := va % 2 ^ 56, detail := 0 }

/-- A failure found at a bank. WORLD has its cause; the owner check has none of its own (R15, R429). DEDUCED, log entry 21. -/
def bankFail (cls : FaultClass) (va : Nat) : Fail :=
  { cls := cls, cause := if cls == .world then 12 else 0, addr := va % 2 ^ 56, detail := 0 }

/-! ### Failing (R295) -/

/-- The access reads as a load does, or writes as a store does: the access port's included. -/
def isLoad (k : AccKind) : Bool := k == .load || k == .port 0 || k == .port 2
def isStore (k : AccKind) : Bool := k == .store || k == .port 1

/-- The access is an MST. -/
def storesTile : AccKind → Bool
  | .tileStore _ => true
  | _ => false

/-- The tile of a transfer (R433). -/
def tileOf : AccKind → Nat
  | .tileLoad n | .tileStore n => n
  | _ => 0

/-- A store no longer counts for the rider that issued it (R136). -/
def ackStore (s : State) (a : Access) : State := if (threadAt s a.t).rid == a.rid then subSack s a.t else s

/-- The acceptance record under which a late failure of an access without a landing entry is kept. -/
def lateKind : AccKind → Option OutKind
  | .store => some .store
  | .tileLoad _ | .tileStore _ | .bookLoad => some .tile
  | .qld => some .qld
  | .qst => some .qst
  | .range fn _ _ => if fn = 3 then none else some .cacheRange
  | .spawnRead => some .other
  | .load | .atomic | .bank | .writeBack | .port _ | .fence _ => none

/-- An access of the port has ended (R432). -/
def portEnds (s : State) (t : ThreadRef) (cls cause : Nat) : State :=
  modThread s t fun th =>
    { th with port := { th.port with busy := false, done := true, cls := BitVec.ofNat 4 cls, cause := BitVec.ofNat 4 cause } }

/-- The access is a PREF. -/
def prefetches : AccKind → Bool
  | .range 3 _ _ => true
  | _ => false

/-- A PREF skips a line, or has ended with its last (R344). -/
def skipPrefetch (s : State) (a : Access) : State :=
  match a.kind with
  | .range fn line last =>
    if last ≤ line then dropAccess s a.id
    else modAccess s a.id fun x => { x with kind := .range fn (line + 1) last, va := x.va + 64, stage := .checked }
  | _ => s

/-- The name of a berth's loads, and of the input copy that a rider in a slot makes again: no thread, but accesses in flight have
one (R220). -/
def loadRef (core n : Nat) : ThreadRef := ⟨core, 10, n⟩

/-- The access is a berth's, not a thread's. -/
def forBerth (a : Access) : Bool := a.t.slot == 10

/-- An access fails whose rider is gone: a QLD's entry is filled with poisoned data, an MXV gives its command up (R382, R434). -/
def forsake (s : State) (a : Access) : State :=
  modCore (dropAccess s a.id) a.t.core fun k =>
    { k with
      ldq := if a.kind == .qld then k.ldq.map fun e => if e.id == a.id then { e with ready := true, poison := true } else e else k.ldq
      cmds := if a.kind == .bank then k.cmds.filter fun c => c.2.all fun c => c.id != a.id else k.cmds }

/-- A late check fails: the access is not performed, its entry or acceptance carries the failure, and a store no longer counts;
a failure found after the acceptance returned is reported at the thread's next marker all the same (R294, R295, R452).
DEDUCED, log entries 19, 51. -/
def failAccess (s : State) (id : Nat) (f : Fail) : State :=
  match accessAt s id with
  | none => s
  | some a =>
    if prefetches a.kind then skipPrefetch s a
    else
    let s := modAccess s id fun a => { a with stage := .done, fail := some f, sackd := false }
    let s := if a.sackd then ackStore s a else s
    let s := match a.kind with
      | .tileLoad n => modTile s a.t.core n fun x => { x with pend := x.pend - 1 }
      | .bookLoad => modCore s a.t.core fun k => { k with bookLoad := none }
      | .port _ => if (threadAt s a.t).rid == a.rid then portEnds s a.t (classCode f.cls) f.cause else s
      | _ => s
    match (threadAt s a.t).outs.find? fun o => o.id == id with
    | some o =>
      if holdsEntry o.kind then landOut s a.t id 0 none 0 (some f) else acceptOut s a.t id none (some f)
    | none =>
      match lateKind a.kind with
      | some k =>
        if (threadAt s a.t).rid == a.rid then
          insertOut s a.t
            { Out.blank id k with done := true, fail := some f, addr := a.va % 2 ^ 56, tile := tileOf a.kind, late := true }
        else forsake s a
      | none => if forBerth a then s else forsake s a

/-! ### Translation of an access (R29, R35, R135) -/

/-- The permissions that an access needs (R28). A plain load through a leaf that maps a bank which pops needs WR too, which is
found at the bank; the leaf's permissions are then checked there. -/
def needOf (a : Access) : Need :=
  match a.kind with
  | .load | .spawnRead | .tileLoad _ | .bookLoad | .qld => Need.load
  | .store | .tileStore _ | .qst => Need.store
  | .port k => if k = 1 then Need.store else if k = 2 then Need.fetch else Need.load
  | .atomic => Need.both
  | .range fn _ _ => if fn = 1 then Need.store else Need.load
  | .writeBack | .fence _ => Need.none_
  | .bank =>
    match a.cmd with
    | some (.peek _ _) | some (.mapGet _) | some .heapTop | some (.histRead _) | some .stat => Need.load
    | some (.pop _ _) | some (.mapDel _) | some .heapPop => Need.both
    | some (.alu c) =>
      if c.fn = 5 ∨ c.fn = 6 then Need.load else if c.fn = 3 then Need.store else Need.both
    | _ => Need.store

/-- KIND of R38: a cache range, a release fence and a write-back count as stores, and a bank operation by the permissions that it needs.
DEDUCED, log entry 66. -/
def kindOf (a : Access) : Nat :=
  match a.kind with
  | .load | .tileLoad _ | .bookLoad | .qld | .spawnRead => 0
  | .store | .tileStore _ | .qst | .range _ _ _ | .writeBack | .fence _ => 1
  | .atomic => 2
  | .port k => if k = 2 then 3 else k
  | .bank => if (needOf a).wr then (if (needOf a).rd then 2 else 1) else 0

/-- Accesses whose policy is no matter of PMASK: cache ranges (R344). -/
def anyPolicy (a : Access) : Bool :=
  match a.kind with
  | .range _ _ _ => true
  | .port k => k == 2
  | _ => false

/-- What its window does not accept of an access that passed the leaf's checks (R17, R135, R342, R422): a cause, or 0. -/
def windowRefuses (a : Access) (pa : Nat) : Nat :=
  match window pa with
  | .control _ =>
    match a.kind with
    | .load | .store | .port _ => if a.scalar && a.n == 8 then 0 else 13
    | .range _ _ _ => 0
    | _ => 13
  | .bank _ =>
    match a.kind with
    | .tileLoad _ | .tileStore _ | .bookLoad => 13
    | _ => 0
  | .peer =>
    match a.kind with
    | .tileLoad _ | .tileStore _ | .bookLoad | .spawnRead | .qld | .qst => 13
    | _ => 0
  | _ => 0

/-- A popping plain load needs WR as well as RD on the leaf of its bank (R28, R76); it is no store, and DTY stays as it is (R30).
DEDUCED, log entry 66. -/
def popsThroughLeaf (s : State) (a : Access) (pa : Nat) : Bool :=
  match window pa with
  | .bank o =>
    let b := bankOf o
    match a.kind with
    | .load => [1, 2, 4].contains (bankAt s b.1 b.2).p.pers.toNat
    | _ => false
  | _ => false

/-- A `.go` access that stays: to a bank as `.bk`, to DRAM as `.own` (R190, R194). Code 6 stands for the reads of records: to
a bank as `.bk`, to DRAM as `.wt` (R220, R328). -/
def settledPol (pol pa : Nat) : Nat :=
  match window pa with
  | .bank _ => if pol = 4 ∨ pol = 6 then 5 else pol
  | _ => if pol = 4 then 0 else if pol = 6 then 1 else pol

/-- The access passed its checks: its physical address and its policy are known. -/
def checkedAt (s : State) (id pa page : Nat) : State :=
  modAccess s id fun a => { a with stage := .checked, pa := pa, leaf := page, pol := settledPol a.pol pa }

/-- Translate an access, or let it wait in a coalescing entry (R29, R35). A bank region is not translated (R14). A store
through a leaf whose DTY is 0 waits for a walk, which sets it (R30). A PREF translates its lines as it asks for them. -/
def translateAccess (s : State) (id : Nat) : State :=
  match accessAt s id with
  | none => s
  | some a =>
    let join := fun (cause : Nat) (l : Option Leaf) =>
      coalesce (stageAccess s id .coal) a.t a.ctx (a.va % 2 ^ 56) cause (kindOf a) (.access id) l
    let wait := fun (cause : Nat) => join cause none
    if prefetches a.kind then stageAccess s id .checked
    else if 2 ^ 56 ≤ a.va then wait 7
    else if inDeviceRegion a.va then
      match deviceBank a.t.core a.va with
      | some o => checkedAt s id (0x20000000000 + o) 0
      | none => wait 7
    else
      let need := needOf a
      match translate s a.t.core a.ctx a.priv a.va need a.pol (anyPolicy a) with
      | .miss => wait 0
      | .dirty _ l => join 0 (some l)
      | .fail c => wait c
      | .ok pa page =>
        let c := windowRefuses a pa
        if c ≠ 0 then wait c
        else if popsThroughLeaf s a pa then
          match translate s a.t.core a.ctx a.priv a.va { need with wr := true } a.pol false with
          | .ok _ _ | .dirty _ _ => checkedAt s id pa page
          | .fail c => wait c
          | .miss => wait 0
        else checkedAt s id pa page

/-- An access begins: it joins the accesses in flight, its thread's results and, for a store, the counter, and is
translated (R136, R290, R294). -/
def launchAccess (s : State) (a : Access) (o : Out) : State :=
  let s := { s with inflight := s.inflight ++ [a] }
  let s := addOut s a.t o
  let s := if a.sackd then addSack s a.t else s
  translateAccess s a.id

/-- The access fields that come from its thread at issue. -/
def accessOf (s : State) (id : Nat) (k : AccKind) : Access :=
  let th := me s
  { Access.blank id s.cur k with
    gid := th.gid, ctx := (myCore s).ctxid, priv := th.ss.priv, rnd := th.ss.rnd, rid := th.rid, prx := th.ss.prx }

/-! ### Travel (R190, R194) -/

/-- The rider travels for a `.go` access: unanchored and roaming, a scalar access not under REP; once its packet has been returned
it performs the access in place (R193). DEDUCED, log entry 59. -/
def travels (s : State) (vector : Bool) : Bool :=
  let th := me s
  isDeck s.cur && !th.stuck && !th.ss.anch && th.ss.roam && th.desc.rep == 0 && !vector

/-- The core that owns a physical address (R5, R13, R135). -/
def ownerCore (pa : Nat) : Option Nat :=
  match window pa with
  | .bank o => some (o / 2 ^ 20 % 1024)
  | _ => (dramOff pa).map coreOfDram

/-- What a `.go` access of a travelling rider comes to: its owner, or a wait of its unit for a translation. -/
inductive GoPlace where
  | core (c : Nat)
  | wait (s : State)
  deriving DecidableEq, Repr

/-- The precise checks of a travelling access (R190, step 1). A translation that fails or misses keeps the unit waiting at its
pc, as a fetch waits; DTY is for the access itself to set (R30). DEDUCED, log entry 59. -/
def goPlace (s : State) (va : Nat) (need : Need) (kind : Nat) : GoPlace :=
  let t := s.cur
  let wait := fun (cause : Nat) =>
    GoPlace.wait (modThread (coalesce s t (myCore s).ctxid (va % 2 ^ 56) cause kind (.fetch t) none) t fun th =>
      { th with run := .parked (.fetch va) })
  if 2 ^ 56 ≤ va then wait 7
  else if inDeviceRegion va then
    match deviceBank t.core va with
    | some o => .core (o / 2 ^ 20 % 1024)
    | none => wait 7
  else
    match translate s t.core (myCore s).ctxid (me s).ss.priv va need 4 false with
    | .miss => wait 0
    | .fail c => wait c
    | .ok pa _ | .dirty pa _ =>
      match ownerCore pa with
      | some c => .core c
      | none => wait 13

def setStay (s : State) (b : Bool) : State := modMe s fun th => { th with ss := { th.ss with stay := b } }

/-- Begin an access of the current unit: the bank-region policy check (R135), travel (R190), or the access itself. -/
def beginAccess (s : State) (a : Access) (o : Out) (vector : Bool) : Res :=
  if decide (a.va < 2 ^ 56) && inDeviceRegion a.va && (deviceBank s.cur.core a.va).isSome && a.pol != 4 && a.pol != 5 then
    policyFault a.va
  else if a.pol = 4 then
    if travels s vector then
      match goPlace s a.va (needOf a) (kindOf a) with
      | .wait s' => .gone s'
      | .core c =>
        -- a core that has been evacuated forwards its accesses (R192, R442)
        let c := forwarded s c
        if c = s.cur.core then .done (launchAccess (setStay s false) a o)
        else .gone (withdraw (modMe s fun th => { th with run := .departing (.go c) }) s.cur)
    else .done (launchAccess (modMe (setStay s true) fun th => { th with stuck := false }) a o)
  else .done (launchAccess s a o)

/-! ### The order of a thread's accesses (R98, R160) -/

/-- The access has read its value or applied its bytes, or never will. -/
def performed (a : Access) : Bool :=
  match a.stage with
  | .landing | .done | .acked => true
  | _ => false

/-- Bytes that an access touches: n from a physical address on, or from a virtual one while the translation is not known; of at most 64
bytes those where the mask has ones. -/
structure Place where
  known : Bool
  start : Nat
  n     : Nat
  mask  : Nat
  deriving DecidableEq, Repr

/-- The physical address of a virtual one, as its core's buffers have it now. -/
def physOf (s : State) (core : Nat) (ctx : Word) (priv : BitVec 2) (va : Nat) : Option Nat :=
  if 2 ^ 56 ≤ va then none
  else if inDeviceRegion va then (deviceBank core va).map (0x20000000000 + ·)
  else
    match translate s core ctx priv va Need.none_ 0 true with
    | .ok pa _ | .dirty pa _ => some pa
    | _ => none

/-- n bytes from a virtual address on, inside one page. -/
def placeAt (s : State) (a : Access) (va n : Nat) : Place :=
  match physOf s a.t.core a.ctx a.priv va with
  | some pa => ⟨true, pa, n, ones n⟩
  | none => ⟨false, va, n, ones n⟩

/-- The lines of a cache range that lie in one page. -/
def rangePage (s : State) (a : Access) (line last p : Nat) : Place :=
  let l := max line (1024 * p)
  let m := min last (1024 * p + 1023)
  placeAt s a (64 * l) (64 * (m + 1 - l))

/-- The bytes of a vector access whose lanes are enabled (R338); of others all. -/
def laneBytes (a : Access) : Nat :=
  match a.kind with
  | .store => a.mask.toNat
  | .load => if a.scalar || a.whole then ones a.n else byteMask (a.n / 16) 16 a.mask.toNat
  | _ => ones a.n

/-- What an access touches, line by line or page by page. -/
def accPlaces (s : State) (a : Access) : List Place :=
  let first : Place := if a.stage == .coal then ⟨false, a.va, a.n, laneBytes a⟩ else ⟨true, a.pa, a.n, laneBytes a⟩
  match a.kind with
  | .range _ line last => (List.range (last / 1024 + 1 - line / 1024)).map fun i => rangePage s a line last (line / 1024 + i)
  | .spawnRead => first :: (List.range (4 - a.got)).map fun i => placeAt s a (a.va + 64 * (i + 1)) 64
  | .tileLoad _ | .tileStore _ | .bookLoad =>
    if a.pas.isEmpty then [⟨false, a.va, 1024, ones 1024⟩] else a.pas.map fun p => ⟨true, p, 64, ones 64⟩
  | _ => [first]

/-- The whole lines of a place. -/
def Place.lines (p : Place) : Place :=
  let n := (p.start + p.n + 63) / 64 * 64 - p.start / 64 * 64
  ⟨p.known, p.start / 64 * 64, n, ones n⟩

/-- Two places have a common byte. While a physical address is not known, the offsets within 64 KiB pages decide. -/
def placesMeet (p q : Place) : Bool :=
  let both := p.known && q.known
  let d := if both then q.start - p.start else (q.start + 65536 - p.start % 65536) % 65536
  let e := if both then p.start - q.start else (65536 - d) % 65536
  let bytes := fun (x y k : Nat) => 64 < p.n || 64 < q.n || (x / 2 ^ k) &&& y != 0
  if both && decide (p.start > q.start) then decide (e < q.n) && bytes q.mask p.mask e
  else (decide (d < p.n) && bytes p.mask q.mask d) || (!both && decide (e < q.n) && bytes q.mask p.mask e)

/-- Two accesses of a thread may touch a common byte through one physical address, or for a quay address thread a common line (R117, R160,
R161). -/
def mayMeet (s : State) (a b : Access) : Bool :=
  let lines := !isDeck a.t && a.t.th == 0
  (accPlaces s a).any fun p => (accPlaces s b).any fun q => if lines then placesMeet p.lines q.lines else placesMeet p q

/-- Both may reach one bank: bank accesses keep their thread's order there (R67, R98). -/
def mayShareBank (a b : Access) : Bool :=
  let bk := fun (x : Access) => decide (4 ≤ x.pol)
  bk a && bk b && (a.stage == .coal || b.stage == .coal ||
    (a.pa - 0x20000000000) / 65536 == (b.pa - 0x20000000000) / 65536)

/-- A pin request of a matrix step that its thread issued before an access, to a bank that the access may reach, has not been
sent yet (R412). -/
def pinsAhead (s : State) (a : Access) : Bool :=
  decide (4 ≤ a.pol) && isDeck a.t && (coreAt s a.t.core).mq.any fun m =>
    m.rid == a.rid && !m.sent && decide (m.id < a.id) &&
      m.want.any fun w => a.stage == .coal || (a.pa - 0x20000000000) / 65536 == 16 * a.t.core + w.1

/-- A result that a store's address or data register awaits has not landed (R175). -/
def awaitsResult (s : State) (a : Access) : Bool :=
  (threadAt s a.t).outs.any fun o => a.after.contains o.id && !o.done

/-- An older access to the same line of the same node has not left yet: a thread's requests there leave in issue order (R448). -/
def peerBehind (s : State) (x a : Access) : Bool :=
  windowKind (window a.pa) == 4 && match x.stage with
    | .coal => x.va / 64 % 1024 == a.va / 64 % 1024
    | .checked => windowKind (window x.pa) == 4 && peerOff x.pa / 64 == peerOff a.pa / 64 && (nodeOf s x.pa).node == (nodeOf s a.pa).node
    | _ => false

/-- An older access of the same thread, in whatever slot it was made, holds this one back (R98, R160-R163, R175, R448). -/
def heldBack (s : State) (a : Access) : Bool :=
  !prefetches a.kind && (pinsAhead s a || awaitsResult s a ||
  s.inflight.any fun x => decide (x.id < a.id) && sameThread x a && (holdsLater x ||
    (!performed x && x.kind != .writeBack && !prefetches x.kind &&
      (mayShareBank x a || peerBehind s x a || (!(decide (4 ≤ x.pol) && decide (4 ≤ a.pol)) && mayMeet s x a)))))

/-! ### Releases (R142, R162, R164) -/

/-- A store's line joins its thread's record of deferred lines; with 64 there, the oldest is written back first (R141). The line of a
rider that has left its slot is written back at once, its record being gone, as a write of its context (R142, R444, R445). DEDUCED, log entry 20. -/
def recordDeferred (s : State) (a : Access) (pa : Nat) : State :=
  let t := a.t
  let th := threadAt s t
  if th.rid ≠ a.rid then
    let since := s.nextId
    let s := flushDeferred s (dieOf t.core) t.core pa t
    let ids := backsSince s since
    { s with inflight := s.inflight.map fun x =>
        if ids.contains x.id then { x with gid := a.gid, rid := a.rid, ctx := a.ctx }
        else if isFence x.kind && sameThread x a then { x with waits := x.waits ++ ids } else x }
  else if th.dlines.contains pa then s
  else
    let s := if th.dlines.length < 64 then s
      else
        match th.dlines with
        | [] => s
        | old :: rest =>
          let since := s.nextId
          let s := flushDeferred s (dieOf t.core) t.core old t
          modThread s t fun th => { th with dlines := rest, wbs := th.wbs ++ backsSince s since }
    modThread s t fun th => { th with dlines := th.dlines ++ [pa] }

/-- A release at package or pod scope begins: every deferred line of the record is written back, and the thread waits for
those write-backs and for those of the same lines that are under way (R142). DEDUCED, log entries 15, 20. -/
def beginRelease (s : State) (t : ThreadRef) (scope : Nat) : State :=
  if scope < 3 then s
  else
    let die := dieOf t.core
    let lines := (threadAt s t).dlines
    let s := lines.foldl (fun s pa => flushDeferred s die t.core pa t) s
    let ids := (s.inflight.filter fun a => a.kind == .writeBack && dieOf a.t.core == die && lines.contains (lineAddr a.pa)).map (·.id)
    let cs := (s.clears.filter fun c => c.die == die && lines.contains (lineAddr c.pa)).map (·.id)
    modThread s t fun th => { th with dlines := [], wbs := th.wbs ++ ids ++ cs }

/-- A write-back has been acknowledged and its clearance has arrived. -/
def writtenBack (s : State) (id : Nat) : Bool := s.inflight.all (fun a => a.id != id) && s.clears.all fun c => c.id != id

/-- The access reads a value. -/
def reads (k : AccKind) : Bool :=
  match k with
  | .store | .tileStore _ | .qst | .writeBack | .range _ _ _ | .fence _ => false
  | _ => true

/-- The matrix steps that the thread issued before a name have read their operands: a step reads when its last pin request is accepted
(R412). -/
def stepsRead (s : State) (t : ThreadRef) (before : Nat) : Bool :=
  (coreAt s t.core).mq.all fun m =>
    !isDeck t || m.rid != (threadAt s t).rid || !decide (m.id < before) || m.want.isEmpty

/-- Earlier loads, atomics and other reads of the thread have read their values (R162, condition 1). -/
def readsDone (s : State) (t : ThreadRef) : Bool :=
  (s.inflight.all fun a => !ofThread s t a || performed a || !reads a.kind) && stepsRead s t s.nextId

/-- The reads that the thread issued before a name have returned their values, those that hold no result register too (R163). -/
def readsReturned (s : State) (t : ThreadRef) (before : Nat) : Bool :=
  (s.inflight.all fun a => !ofThread s t a || !decide (a.id < before) || !reads a.kind ||
    match a.stage with
    | .acked | .done => true
    | _ => false) && stepsRead s t before

/-- Conditions 2 and 3 of R162 at a scope: 0 core, 1 quad, 2 die, 3 package, 4 pod. What the rider stored in a slot that it has left
counts as well. -/
def storesReleased (s : State) (t : ThreadRef) (scope : Nat) : Bool :=
  let th := threadAt s t
  th.sack == 0 && s.inflight.all (fun a => !(a.sackd && ofThread s t a)) && (decide (scope < 3) ||
    (th.wbs.all (writtenBack s) && s.clears.all fun c => !isOf s t c.t c.rid c.ctx))

/-- All conditions of R162. DEDUCED, log entry 15. -/
def released (s : State) (t : ThreadRef) (scope : Nat) : Bool :=
  readsDone s t && storesReleased s t scope && !fenceOpen s t s.nextId

/-- A unit that is a release waits until the conditions hold; then it acts. The wait is a park of the unit (DEDUCED, log entry 15). -/
def withRelease (s : State) (scope : Nat) (k : State → Res) : Res :=
  let s := beginRelease s s.cur scope
  if released s s.cur scope then
    k (modMe s fun th => { th with wbs := if scope < 3 then th.wbs else [] })
  else .park (.release scope) s

/-- A release fence: later accesses are held back until its conditions hold, and its thread goes on (R162). DEDUCED, log entry 15. -/
def openFence (s : State) (scope : Nat) : State :=
  let s := beginRelease s s.cur scope
  if released s s.cur scope then s
  else
    let (id, s) := fresh s
    { s with inflight := s.inflight ++ [{ accessOf s id (.fence scope) with waits := if scope < 3 then [] else (me s).wbs }] }

/-- The drops of an acquire at a scope (R140). -/
def acquireDrops (s : State) (t : ThreadRef) (scope : Nat) : State :=
  let s := if scope = 0 then s else modCore s t.core fun k => { k with l1 := k.l1.filter fun e => e.2.st != .leased }
  if scope < 3 then s
  else
    let die := dieOf t.core
    -- a leased L2 line goes with every L1 copy of its die (R44)
    let lines := (dieAt s die).l2.filter fun e => e.2.st == .leased
    lines.foldl (fun s e => dropBase s die (64 * e.1)) s

end Sys2Proof.Machine
end

