-- ==== Sys2Proof/Machine/Float.lean ====
section
/-! DEFINITION. Floating point (R226-R242, R246, R247, R311, R390, R392): the formats, exact arithmetic on dyadic numbers, one
rounding at the end, conversions between every pair of formats, and the special functions. -/

namespace Sys2Proof.Machine

/-! ### Formats (R226, R227, R229) -/

/-- A floating-point layout: exponent and fraction bits, whether its NaNs are all quiet (FP8), whether it lacks
infinities (E4M3). -/
structure FloatFmt where
  eb    : Nat
  fb    : Nat
  fp8   : Bool
  noInf : Bool
  deriving DecidableEq, Repr

def fmt64 : FloatFmt := ⟨11, 52, false, false⟩
def fmt32 : FloatFmt := ⟨8, 23, false, false⟩
def fmt16 : FloatFmt := ⟨5, 10, false, false⟩
def fmtB16 : FloatFmt := ⟨8, 7, false, false⟩
def fmtE4 : FloatFmt := ⟨4, 3, true, true⟩
def fmtE5 : FloatFmt := ⟨5, 2, true, false⟩

/-- The floating-point format of a code of R229. -/
def floatOf (c : Nat) : Option FloatFmt :=
  match c with
  | 1 => some fmt32 | 2 => some fmt16 | 3 => some fmtB16 | 4 => some fmtE4 | 5 => some fmtE5 | 14 => some fmt64
  | _ => none

/-- The integer format of a code: signed or not, and its width. -/
def intOf (c : Nat) : Option (Bool × Nat) :=
  match c with
  | 6 => some (true, 8) | 7 => some (false, 8) | 8 => some (true, 16) | 9 => some (false, 16)
  | 10 => some (true, 32) | 11 => some (false, 32) | 12 => some (true, 64) | 13 => some (false, 64)
  | _ => none

/-- The width in bits of a format code (R229); 16 for CB8, 8 for E8M0. -/
def codeBits (c : Nat) : Nat :=
  match c with
  | 1 | 10 | 11 => 32
  | 2 | 3 | 8 | 9 | 15 => 16
  | 4 | 5 | 6 | 7 | 16 => 8
  | 12 | 13 | 14 => 64
  | _ => 32

def FloatFmt.bits (f : FloatFmt) : Nat := 1 + f.eb + f.fb
def FloatFmt.bias (f : FloatFmt) : Nat := 2 ^ (f.eb - 1) - 1
/-- The all-ones exponent. -/
def FloatFmt.emax (f : FloatFmt) : Nat := 2 ^ f.eb - 1
/-- The code of the largest finite magnitude. -/
def FloatFmt.top (f : FloatFmt) : Nat := if f.noInf then f.emax * 2 ^ f.fb + (2 ^ f.fb - 2) else f.emax * 2 ^ f.fb - 1
def FloatFmt.inf (f : FloatFmt) : Nat := f.emax * 2 ^ f.fb
/-- The canonical NaN (R226). -/
def FloatFmt.nan (f : FloatFmt) : Nat :=
  if f.noInf then 2 ^ (f.eb + f.fb) - 1 else f.emax * 2 ^ f.fb + 2 ^ (f.fb - 1)
def FloatFmt.sign (f : FloatFmt) (neg : Bool) : Nat := if neg then 2 ^ (f.eb + f.fb) else 0

/-- A value: NaN (signalling or quiet), infinity, or a sign with m × 2^e exactly. -/
inductive Fp where
  | nan (sig : Bool)
  | inf (neg : Bool)
  | fin (neg : Bool) (m : Nat) (e : Int)
  deriving DecidableEq, Repr

/-- The value of a code (R226, R227). -/
def FloatFmt.read (f : FloatFmt) (v : Nat) : Fp :=
  let neg := bit v (f.eb + f.fb)
  let e := v / 2 ^ f.fb % 2 ^ f.eb
  let m := v % 2 ^ f.fb
  if f.noInf then
    if e = f.emax ∧ m = 2 ^ f.fb - 1 then .nan false
    else if e = 0 then .fin neg m (1 - f.bias - f.fb) else .fin neg (m + 2 ^ f.fb) (e - f.bias - f.fb)
  else if e = f.emax then
    if m = 0 then .inf neg else .nan (!f.fp8 && !bit m (f.fb - 1))
  else if e = 0 then .fin neg m (1 - f.bias - f.fb)
  else .fin neg (m + 2 ^ f.fb) (e - f.bias - f.fb)

/-! ### Rounding (R234, R236, R242) -/

/-- A rounding rule: a mode of R234, or the stochastic rule of R242 with its r. -/
inductive Rounding where
  | rne | rtz | rdn | rup
  | stoch (r : Nat)
  deriving DecidableEq, Repr

def roundingOf (rnd : BitVec 2) : Rounding :=
  if rnd = 0 then .rne else if rnd = 1 then .rtz else if rnd = 2 then .rdn else .rup

/-- Whether a truncated magnitude q, with rem below it out of 2^k, moves one place away from zero. -/
def movesUp (r : Rounding) (neg : Bool) (q rem k : Nat) : Bool :=
  match r with
  | .rne => decide (2 * rem > 2 ^ k) || (2 * rem == 2 ^ k && rem != 0 && q % 2 == 1)
  | .rtz => false
  | .rdn => neg && rem != 0
  | .rup => !neg && rem != 0
  | .stoch r => decide (2 ^ 16 ≤ rem * 2 ^ 16 / 2 ^ k + r)

/-- m × 2^e in units of 2^qe, rounded: the magnitude and whether anything was discarded. -/
def roundTo (r : Rounding) (neg : Bool) (m : Nat) (e qe : Int) : Nat × Bool :=
  let k := (qe - e).toNat
  if qe ≤ e then (m * 2 ^ (e - qe).toNat, false)
  else
    let q := m / 2 ^ k
    let rem := m % 2 ^ k
    (if movesUp r neg q rem k then q + 1 else q, rem != 0)

/-- The number of bits of m. -/
def bitLen (m : Nat) : Nat := if m = 0 then 0 else Nat.log2 m + 1

/-- Overflow under R236. -/
def overflow (f : FloatFmt) (r : Rounding) (neg : Bool) : Nat × BitVec 5 :=
  let toTop := f.noInf || match r with
    | .rtz => true
    | .rdn => !neg
    | .rup => neg
    | _ => false
  (f.sign neg + (if toTop then f.top else f.inf), flagOF ||| flagNX)

/-- A sign and a non-negative dyadic m × 2^e rounded to a format, with the flags of R236. -/
def packFinite (f : FloatFmt) (r : Rounding) (neg : Bool) (m : Nat) (e : Int) : Nat × BitVec 5 :=
  if m = 0 then (f.sign neg, 0)
  else
    let emin : Int := 1 - f.bias
    let top : Int := e + bitLen m - 1
    let qe := max (top - f.fb) (emin - f.fb)
    let (q, inexact) := roundTo r neg m e qe
    let code := (qe - (emin - f.fb)).toNat * 2 ^ f.fb + q
    if f.top < code then overflow f r neg
    else
      let tiny := decide (top < emin) &&
        !((roundTo r neg m e (top - f.fb)).1 == 2 ^ (f.fb + 1) && top == emin - 1)
      (f.sign neg + code, flagIf inexact flagNX ||| flagIf (inexact && tiny) flagUF)

/-- A value rounded to a format; a NaN becomes the canonical one, an infinity toward E4M3 overflows (R228, R236). -/
def pack (f : FloatFmt) (r : Rounding) : Fp → Nat × BitVec 5
  | .nan _ => (f.nan, 0)
  | .inf neg => if f.noInf then (f.sign neg + f.top, flagOF ||| flagNX) else (f.sign neg + f.inf, 0)
  | .fin neg m e => packFinite f r neg m e

/-! ### Exact arithmetic (R228, R311) -/

def Fp.isNan : Fp → Bool
  | .nan _ => true
  | _ => false
def Fp.isSig : Fp → Bool
  | .nan s => s
  | _ => false
def Fp.isZero : Fp → Bool
  | .fin _ m _ => m == 0
  | _ => false
def Fp.neg? : Fp → Bool
  | .nan _ => false
  | .inf n => n
  | .fin n _ _ => n
def Fp.negate : Fp → Fp
  | .nan s => .nan s
  | .inf n => .inf (!n)
  | .fin n m e => .fin (!n) m e

/-- An exact result and the flags raised on the way. -/
abbrev Exact := Fp × BitVec 5

/-- A finite value as an integer in units of 2^u, for u at or below its exponent. -/
def scaled (neg : Bool) (m : Nat) (e u : Int) : Int :=
  let x : Int := m * 2 ^ (e - u).toNat
  if neg then -x else x

/-- The exact sum; a zero sum of opposite signs is +0, or −0 toward −∞ (R311). -/
def addX (r : Rounding) (x y : Fp) : Exact :=
  let sig := flagIf (x.isSig || y.isSig) flagNV
  match x, y with
  | .nan _, _ | _, .nan _ => (.nan false, sig)
  | .inf a, .inf b => if a = b then (.inf a, 0) else (.nan false, flagNV)
  | .inf a, _ => (.inf a, 0)
  | _, .inf b => (.inf b, 0)
  | .fin n1 m1 e1, .fin n2 m2 e2 =>
    let u := min e1 e2
    let t := scaled n1 m1 e1 u + scaled n2 m2 e2 u
    if t = 0 then (.fin (if m1 = 0 ∧ m2 = 0 ∧ n1 = n2 then n1 else r == .rdn) 0 u, 0)
    else (.fin (decide (t < 0)) t.natAbs u, 0)

/-- The exact product. -/
def mulX (x y : Fp) : Exact :=
  let sig := flagIf (x.isSig || y.isSig) flagNV
  match x, y with
  | .nan _, _ | _, .nan _ => (.nan false, sig)
  | .inf a, .inf b => (.inf (a != b), 0)
  | .inf a, .fin b m _ => if m = 0 then (.nan false, flagNV) else (.inf (a != b), 0)
  | .fin a m _, .inf b => if m = 0 then (.nan false, flagNV) else (.inf (a != b), 0)
  | .fin a m1 e1, .fin b m2 e2 => (.fin (a != b) (m1 * m2) (e1 + e2), 0)

/-- a quotient or root cut off below: a non-zero remainder counts as half a place. -/
def cut (neg : Bool) (q : Nat) (e : Int) (rest : Bool) : Fp :=
  if rest then .fin neg (2 * q + 1) (e - 1) else .fin neg q e

/-- The quotient, to at least 60 bits and the knowledge whether it is exact (R311). -/
def divX (x y : Fp) : Exact :=
  let sig := flagIf (x.isSig || y.isSig) flagNV
  match x, y with
  | .nan _, _ | _, .nan _ => (.nan false, sig)
  | .inf _, .inf _ => (.nan false, flagNV)
  | .inf a, .fin b _ _ => (.inf (a != b), 0)
  | .fin a _ _, .inf b => (.fin (a != b) 0 0, 0)
  | .fin a m1 e1, .fin b m2 e2 =>
    if m2 = 0 then if m1 = 0 then (.nan false, flagNV) else (.inf (a != b), flagDZ)
    else if m1 = 0 then (.fin (a != b) 0 0, 0)
    else
      let k := bitLen m2 + 60
      let n := m1 * 2 ^ k
      (cut (a != b) (n / m2) (e1 - e2 - k) (n % m2 != 0), 0)

/-- The integer square root of x, found bit by bit from bit n − 1 down. -/
def isqrt (x : Nat) : (n acc : Nat) → Nat
  | 0, acc => acc
  | n + 1, acc =>
    let c := acc + 2 ^ n
    isqrt x n (if c * c ≤ x then c else acc)

def natSqrt (x : Nat) : Nat := isqrt x (bitLen x / 2 + 1) 0

/-- The square root of a positive dyadic, as `divX` gives a quotient. -/
def sqrtPos (m : Nat) (e : Int) : Fp :=
  let odd := e % 2 == 1
  let m := if odd then 2 * m else m
  let e := if odd then e - 1 else e
  let n := m * 2 ^ 140
  let q := natSqrt n
  cut false q (e / 2 - 70) (q * q != n)

/-- Square root (R311, R392). -/
def sqrtX (x : Fp) : Exact :=
  match x with
  | .nan s => (.nan false, flagIf s flagNV)
  | .inf n => if n then (.nan false, flagNV) else (.inf false, 0)
  | .fin n m e => if m = 0 then (.fin n 0 0, 0) else if n then (.nan false, flagNV) else (sqrtPos m e, 0)

/-- 1/x (R392). -/
def rcpX (x : Fp) : Exact := divX (.fin false 1 0) x

/-- 1/√x (R392). -/
def rsqX (x : Fp) : Exact :=
  match x with
  | .nan s => (.nan false, flagIf s flagNV)
  | .inf n => if n then (.nan false, flagNV) else (.fin false 0 0, 0)
  | .fin n m e =>
    if m = 0 then (.inf n, flagDZ)
    else if n then (.nan false, flagNV)
    else
      let odd := e % 2 == 1
      let m := if odd then 2 * m else m
      let e := if odd then e - 1 else e
      let k := bitLen m + 60
      let q := natSqrt (2 ^ (2 * k) / m)
      (cut false q (-(e / 2) - k) (q * q * m != 2 ^ (2 * k)), 0)

/-! ### Powers and logarithms of two (R392)

Fixed-point series with 448 fraction bits, cut off below. The exact value is irrational wherever the result is not
listed as exact, so it is never a rounding boundary. -/

def fixBits : Nat := 448

/-- z + z³/3 + z⁵/5 + … for a fixed-point z; n terms. -/
def atanhSum (z2 : Nat) : (n k p : Nat) → Nat
  | 0, _, _ => 0
  | n + 1, k, p => p / k + atanhSum z2 n (k + 2) (p * z2 / 2 ^ fixBits)

/-- ln of y / 2^448 for y from 2^448 to 2^449: 2 atanh((y − 1)/(y + 1)). -/
def lnFix (y : Nat) : Nat :=
  let one := 2 ^ fixBits
  let z := (y - one) * one / (y + one)
  2 * atanhSum (z * z / one) 145 1 z

/-- ln 2. -/
def ln2Fix : Nat := lnFix (2 * 2 ^ fixBits)

/-- 1 + t + t²/2 + … for a fixed-point t; n terms. -/
def expSum (t : Nat) : (n k p : Nat) → Nat
  | 0, _, _ => 0
  | n + 1, k, p => p + expSum t n (k + 1) (p * t / 2 ^ fixBits / k)

/-- 2^f for a fraction f of 2^448. -/
def exp2Fix (f : Nat) : Nat := expSum (f * ln2Fix / 2 ^ fixBits) 95 1 (2 ^ fixBits)

/-- 2^x for a finite x (R392, R94). -/
def exp2Fin (neg : Bool) (m : Nat) (e : Int) : Fp :=
  if m = 0 then .fin false 1 0
  else if (12 : Int) < e + bitLen m then (if neg then .fin false 1 (-5000) else .fin false 1 5000)
  else
    -- |x| < 2^12: x in units of 2^-448 (bits below 2^-448 only mark the result as inexact)
    let sh := (-e).toNat - fixBits
    let t : Int := if -(fixBits : Int) ≤ e then scaled neg m e (-(fixBits : Int))
      else if neg then -((m / 2 ^ sh : Nat) : Int) else (m / 2 ^ sh : Nat)
    let n := t / 2 ^ fixBits
    let f := (t % 2 ^ fixBits).toNat
    if f = 0 ∧ -(fixBits : Int) ≤ e then .fin false 1 n
    else cut false (exp2Fix f) (n - fixBits) true

def exp2X (x : Fp) : Exact :=
  match x with
  | .nan s => (.nan false, flagIf s flagNV)
  | .inf n => (if n then .fin false 0 0 else .inf false, 0)
  | .fin n m e => (exp2Fin n m e, 0)

/-- log₂ x (R392). -/
def log2X (x : Fp) : Exact :=
  match x with
  | .nan s => (.nan false, flagIf s flagNV)
  | .inf n => if n then (.nan false, flagNV) else (.inf false, 0)
  | .fin n m e =>
    if m = 0 then (.inf true, flagDZ)
    else if n then (.nan false, flagNV)
    else
      let b := bitLen m - 1
      let k : Int := e + b
      if m = 2 ^ b then (.fin (decide (k < 0)) k.natAbs 0, 0)
      else
        let y := m * 2 ^ fixBits / 2 ^ b
        let fr := lnFix y * 2 ^ fixBits / ln2Fix
        let t : Int := k * 2 ^ fixBits + fr
        (if t < 0 then cut true (t.natAbs - 1) (-(fixBits : Int)) true else cut false t.natAbs (-(fixBits : Int)) true, 0)

/-! ### Operations on codes of one format -/

/-- An exact result rounded, with all flags. -/
def finish (f : FloatFmt) (r : Rounding) (x : Exact) : Nat × BitVec 5 :=
  let p := pack f r x.1
  (p.1, x.2 ||| p.2)

def fpAdd (f : FloatFmt) (r : Rounding) (a b : Nat) : Nat × BitVec 5 := finish f r (addX r (f.read a) (f.read b))
def fpSub (f : FloatFmt) (r : Rounding) (a b : Nat) : Nat × BitVec 5 := finish f r (addX r (f.read a) (f.read b).negate)
def fpMul (f : FloatFmt) (r : Rounding) (a b : Nat) : Nat × BitVec 5 := finish f r (mulX (f.read a) (f.read b))
def fpDiv (f : FloatFmt) (r : Rounding) (a b : Nat) : Nat × BitVec 5 := finish f r (divX (f.read a) (f.read b))
def fpSqrt (f : FloatFmt) (r : Rounding) (a : Nat) : Nat × BitVec 5 := finish f r (sqrtX (f.read a))

/-- a × b + c, rounded once (R311). -/
def fpFma (f : FloatFmt) (r : Rounding) (a b c : Nat) : Nat × BitVec 5 :=
  let p := mulX (f.read a) (f.read b)
  let s := addX r p.1 (f.read c)
  finish f r (s.1, p.2 ||| s.2)

/-- A key that orders codes that are no NaN; +0 lies above −0 (R311). -/
def orderKey (f : FloatFmt) (v : Nat) : Int :=
  let m := v % 2 ^ (f.eb + f.fb)
  if bit v (f.eb + f.fb) then -(m : Int) - 1 else m

/-- Minimum or maximum: the canonical NaN with any NaN operand, NV only for a signalling one (R92, R311, R390). -/
def fpMinMax (f : FloatFmt) (big : Bool) (a b : Nat) : Nat × BitVec 5 :=
  let x := f.read a
  let y := f.read b
  if x.isNan || y.isNan then (f.nan, flagIf (x.isSig || y.isSig) flagNV)
  else (if big == decide (orderKey f a < orderKey f b) then b % 2 ^ f.bits else a % 2 ^ f.bits, 0)

/-- The relations of two values: less, equal, unordered. -/
def fpLess (f : FloatFmt) (a b : Nat) : Bool :=
  let x := f.read a
  let y := f.read b
  !x.isNan && !y.isNan && !(x.isZero && y.isZero) && decide (orderKey f a < orderKey f b)
def fpEqual (f : FloatFmt) (a b : Nat) : Bool :=
  let x := f.read a
  let y := f.read b
  !x.isNan && !y.isNan && ((x.isZero && y.isZero) || decide (orderKey f a = orderKey f b))
def fpUnordered (f : FloatFmt) (a b : Nat) : Bool := (f.read a).isNan || (f.read b).isNan

/-- A comparison with its flag: 0 eq, 1 ne, 2 lt, 3 le, 4 un; lt and le are signalling (R312). -/
def fpCompare (f : FloatFmt) (c a b : Nat) : Bool × BitVec 5 :=
  let sig := (f.read a).isSig || (f.read b).isSig
  let nan := fpUnordered f a b
  match c with
  | 0 => (fpEqual f a b, flagIf sig flagNV)
  | 1 => (!fpEqual f a b, flagIf sig flagNV)
  | 2 => (fpLess f a b, flagIf nan flagNV)
  | 3 => (fpLess f a b || fpEqual f a b, flagIf nan flagNV)
  | _ => (nan, flagIf sig flagNV)

/-! ### Conversions (R230, R236-R238) -/

/-- The value of an integer code. -/
def intValue (f : Bool × Nat) (v : Nat) : Int := if f.1 then signed f.2 v else (v % 2 ^ f.2 : Nat)

/-- The ends of an integer format. -/
def intLow (f : Bool × Nat) : Int := if f.1 then -(2 : Int) ^ (f.2 - 1) else 0
def intHigh (f : Bool × Nat) : Int := if f.1 then (2 : Int) ^ (f.2 - 1) - 1 else (2 : Int) ^ f.2 - 1

/-- An integer saturated to a format, as a code (R230). -/
def saturate (f : Bool × Nat) (i : Int) : Nat := (max (intLow f) (min (intHigh f) i) % 2 ^ f.2).toNat

/-- Floating point to floating point (R236). -/
def floatToFloat (src dst : FloatFmt) (r : Rounding) (v : Nat) : Nat × BitVec 5 :=
  match src.read v with
  | .nan sig => (dst.nan, flagIf (sig || (dst.fp8 && src != dst)) flagNV)
  | .inf neg => if src = dst then (v % 2 ^ src.bits, 0) else pack dst r (.inf neg)
  | .fin neg m e => if src = dst then (v % 2 ^ src.bits, 0) else packFinite dst r neg m e

/-- Floating point to integer (R237). -/
def floatToInt (src : FloatFmt) (dst : Bool × Nat) (r : Rounding) (v : Nat) : Nat × BitVec 5 :=
  match src.read v with
  | .nan _ => (0, flagNV)
  | .inf neg => (saturate dst (if neg then intLow dst else intHigh dst), flagNV)
  | .fin neg m e =>
    let (q, inexact) := roundTo r neg m e 0
    let i : Int := if neg then -(q : Int) else q
    if i < intLow dst ∨ intHigh dst < i then (saturate dst i, flagNV)
    else (saturate dst i, flagIf inexact flagNX)

/-- Integer to floating point (R238). -/
def intToFloat (src : Bool × Nat) (dst : FloatFmt) (r : Rounding) (v : Nat) : Nat × BitVec 5 :=
  let i := intValue src v
  packFinite dst r (decide (i < 0)) i.natAbs 0

/-- A conversion between two codes of R229 (1-14). -/
def convert (src dst : Nat) (r : Rounding) (v : Nat) : Nat × BitVec 5 :=
  match floatOf src, floatOf dst, intOf src, intOf dst with
  | some f, some g, _, _ => floatToFloat f g r v
  | some f, none, _, some g => floatToInt f g r v
  | none, some g, some f, _ => intToFloat f g r v
  | none, none, some f, some g => (saturate g (intValue f v), 0)
  | _, _, _, _ => (v, 0)

/-- A narrow code widened to FP32, or to INT32 (R388). -/
def widen (int : Bool) (c v : Nat) : Nat × BitVec 5 :=
  if c = 0 then (v % 2 ^ 32, 0) else convert c (if int then 10 else 1) .rne v

/-! ### FP32 operations that other parts use -/

def add32 (r : Rounding) (a b : Nat) : Nat × BitVec 5 := fpAdd fmt32 r a b
def mul32 (r : Rounding) (a b : Nat) : Nat × BitVec 5 := fpMul fmt32 r a b
def fma32 (r : Rounding) (a b c : Nat) : Nat × BitVec 5 := fpFma fmt32 r a b c
def max32 (a b : Nat) : Nat × BitVec 5 := fpMinMax fmt32 true a b

/-- The value 2^(e − 127) of an E8M0 scale; 0xFF is a NaN (R231). -/
def scaleOf (v : Nat) : Fp := if v % 256 = 255 then .nan true else .fin false 1 ((v % 256 : Nat) - 127)

end Sys2Proof.Machine
end

