-- ==== Sys2Proof/Machine/MemInstr.lean ====
section
/-! DEFINITION. Loads, stores, atomics and cache ranges (R332-R346), up to the moment they leave their unit. -/

namespace Sys2Proof.Machine

/-- The record of a result for a register: its kind, file, register and address; under a DN binding g29 is pushed when it
commits (R197, R433). -/
def outFor (s : State) (id : Nat) (k : OutKind) (f : RegFile) (reg ea : Nat) : Out :=
  { Out.blank id k with file := f, reg := reg, addr := ea % 2 ^ 56,
                        chain := (f == .g) && (reg == 29) && (me s).ss.dn }

/-- The record of an acceptance without a register (R294). -/
def outPlain (id : Nat) (k : OutKind) (ea : Nat) : Out := { Out.blank id k with addr := ea % 2 ^ 56 }

/-- The effective address of format M (R274). -/
def effective (s : State) (i : Instr) (a : Reg) (o : BitVec 10) (size : Nat) : Nat :=
  (srcG s i .a a.toNat + sext64 o * word size).toNat

/-- LD (R333). -/
def execLd (m : Mark) (d a : Reg) (p : BitVec 3) (z : BitVec 2) (o : BitVec 10) (s : State) : Answer :=
  let i := Instr.ld m d a p z o
  .next (unit i (fun s =>
    let size := 2 ^ z.toNat
    let ea := effective s i a o size
    if ea % size ≠ 0 then .fault .align 0 0 (some ea)
    else
      let (id, s) := fresh s
      beginAccess s { accessOf s id .load with va := ea, n := size, pol := p.toNat, scalar := true }
        (outFor s id .ld .g (dstNum s .d d.toNat) ea) false) s)

/-- ST (R333). -/
def execSt (m : Mark) (d a : Reg) (p : BitVec 3) (z : BitVec 2) (o : BitVec 10) (s : State) : Answer :=
  let i := Instr.st m d a p z o
  .next (unit i (fun s =>
    let size := 2 ^ z.toNat
    let ea := effective s i a o size
    if ea % size ≠ 0 then .fault .align 0 0 (some ea)
    else
      let v := (srcG s i .d d.toNat).toNat % 2 ^ (8 * size)
      let (id, s) := fresh s
      beginAccess s
        { accessOf s id .store with
            va := ea, n := size, pol := p.toNat, scalar := true, data := BitVec.ofNat 512 v,
            mask := BitVec.ofNat 64 (ones size), sackd := true }
        (outPlain id .store ea) false) s)

/-! ### Vector formats (R337) -/

/-- Bytes of one element in memory. -/
def memBytes (fd : Nat) : Nat := codeBits fd / 8

/-- A lane from its memory element, with flags: raw, widened to FP32, or extended to INT32. -/
def laneOfMem (fd v : Nat) : Nat × BitVec 5 :=
  if 2 ≤ fd ∧ fd ≤ 5 then convert fd 1 .rne v
  else if 6 ≤ fd ∧ fd ≤ 9 then convert fd 10 .rne v else (v % 2 ^ 32, 0)

/-- A memory element from its lane. -/
def memOfLane (fd : Nat) (r : Rounding) (v : Nat) : Nat × BitVec 5 :=
  if 2 ≤ fd ∧ fd ≤ 5 then convert 1 fd r v
  else if 6 ≤ fd ∧ fd ≤ 9 then convert 10 fd r v else (v % 2 ^ 32, 0)

/-- The flags of the enabled elements of a list. -/
def flagsOf (lm : Nat) (l : List (Nat × BitVec 5)) : BitVec 5 :=
  (l.zipIdx.foldl (fun f e => if bit lm e.2 then f ||| e.1.2 else f) 0)

/-- The 16 lanes of F bytes of memory (R338). -/
def lanesOfMem (fd lm bytes : Nat) : Line × BitVec 5 :=
  let l := (elems (8 * memBytes fd) 16 bytes).map (laneOfMem fd)
  (BitVec.ofNat 512 (packElems 32 (l.map (·.1))), flagsOf lm l)

/-- The F bytes of 16 lanes, their byte mask and the flags of the enabled ones (R338). -/
def memOfLanes (fd lm : Nat) (r : Rounding) (v : Line) : Nat × Nat × BitVec 5 :=
  let l := (elems 32 16 v.toNat).map (memOfLane fd r)
  (packElems (8 * memBytes fd) (l.map (·.1)), byteMask (memBytes fd) 16 lm, flagsOf lm l)

/-- LDV (R338). -/
def execLdv (m : Mark) (d a : Reg) (p : BitVec 3) (o : BitVec 10) (s : State) : Answer :=
  let i := Instr.ldv m d a p o
  .next (unit i (fun s =>
    let fd := (fmtOf (me s).desc).fd
    let f := 16 * memBytes fd
    let ea := effective s i a o 64
    if ea % f ≠ 0 then .fault .align 0 0 (some ea)
    else
      let lm := laneMask (me s)
      let (id, s) := fresh s
      beginAccess s
        { accessOf s id .load with
            va := ea, n := f, pol := p.toNat, fmt := fd, mask := BitVec.ofNat 64 lm,
            whole := (me s).desc.fmt == 0 && lm == 0xFFFF }
        { outFor s id .ldv .v (dstNum s .d d.toNat) ea with lanes := BitVec.ofNat 16 lm } true) s)

/-- STV: the narrowing and its flags are made at issue (R338). -/
def execStv (m : Mark) (d a : Reg) (p : BitVec 3) (o : BitVec 10) (s : State) : Answer :=
  let i := Instr.stv m d a p o
  .next (unit i (fun s =>
    let fd := (fmtOf (me s).desc).fd
    let f := 16 * memBytes fd
    let ea := effective s i a o 64
    if ea % f ≠ 0 then .fault .align 0 0 (some ea)
    else
      let (bytes, mask, fl) := memOfLanes fd (laneMask (me s)) (roundingOf (me s).ss.rnd) (srcV s i .d d.toNat)
      let (id, s) := fresh (modMe s fun th => orFlags th fl)
      beginAccess s
        { accessOf s id .store with
            va := ea, n := f, pol := p.toNat, fmt := fd, data := BitVec.ofNat 512 bytes, mask := BitVec.ofNat 64 mask,
            sackd := true, whole := (me s).desc.fmt == 0 && laneMask (me s) == 0xFFFF }
        (outPlain id .store ea) true) s)

/-! ### Atomics (R340-R342) -/

/-- The new value of an atomic on n bytes, and its flags; none for a compare-and-swap that fails (R341). -/
def atomicNew (op n : Nat) (r : Rounding) (old x y : Nat) : Option Nat × BitVec 5 :=
  let w := 8 * n
  match op with
  | 0 => (some ((old + x) % 2 ^ w), 0)
  | 1 => (some (old &&& x), 0)
  | 2 => (some (old ||| x), 0)
  | 3 => (some (old ^^^ x), 0)
  | 4 => (some (if signed w x < signed w old then x else old), 0)
  | 5 => (some (if signed w old < signed w x then x else old), 0)
  | 6 => (some x, 0)
  | 7 => (if old = x then some y else none, 0)
  | _ =>
    let r := fpAdd (if n = 4 then fmt32 else fmt64) r old x
    (some r.1, r.2)

/-- An atomic leaves its unit. A release form at package or pod scope sends its thread's deferred lines on their way
(R155). -/
def atomicUnit (i : Instr) (op : Nat) (d a : Reg) (p : BitVec 3) (z : BitVec 1) (o : BitVec 4) (s : State) : Answer :=
  .next (unit i (fun s =>
    let size := if z = 0 then 4 else 8
    let ea := (srcG s i .a a.toNat).toNat
    if ea % size ≠ 0 then .fault .align 0 0 (some ea)
    else
      let x := (srcG s i .d d.toNat).toNat % 2 ^ (8 * size)
      let y := if op = 7 then (srcG s i .d (d.toNat + 1)).toNat % 2 ^ (8 * size) else 0
      let (id, s) := fresh s
      let s' := if ordRel o.toNat then beginRelease s s.cur (ordScope o.toNat) else s
      beginAccess s'
        { accessOf s id .atomic with
            va := ea, n := size, pol := p.toNat, aop := op, ordsc := o.toNat, data := BitVec.ofNat 512 x, y := word y,
            mask := BitVec.ofNat 64 (ones size), sackd := true }
        (outFor s id .atomic .g (dstNum s .d d.toNat) ea) false) s)

/-- AADD (R341). -/
def execAadd (m : Mark) (d a : Reg) (p : BitVec 3) (z : BitVec 1) (o : BitVec 4) (s : State) : Answer :=
  atomicUnit (.aadd m d a p z o) 0 d a p z o s

/-- AAND (R341). -/
def execAand (m : Mark) (d a : Reg) (p : BitVec 3) (z : BitVec 1) (o : BitVec 4) (s : State) : Answer :=
  atomicUnit (.aand m d a p z o) 1 d a p z o s

/-- AOR (R341). -/
def execAor (m : Mark) (d a : Reg) (p : BitVec 3) (z : BitVec 1) (o : BitVec 4) (s : State) : Answer :=
  atomicUnit (.aor m d a p z o) 2 d a p z o s

/-- AXOR (R341). -/
def execAxor (m : Mark) (d a : Reg) (p : BitVec 3) (z : BitVec 1) (o : BitVec 4) (s : State) : Answer :=
  atomicUnit (.axor m d a p z o) 3 d a p z o s

/-- AMIN (R341). -/
def execAmin (m : Mark) (d a : Reg) (p : BitVec 3) (z : BitVec 1) (o : BitVec 4) (s : State) : Answer :=
  atomicUnit (.amin m d a p z o) 4 d a p z o s

/-- AMAX (R341). -/
def execAmax (m : Mark) (d a : Reg) (p : BitVec 3) (z : BitVec 1) (o : BitVec 4) (s : State) : Answer :=
  atomicUnit (.amax m d a p z o) 5 d a p z o s

/-- ASWP (R341). -/
def execAswp (m : Mark) (d a : Reg) (p : BitVec 3) (z : BitVec 1) (o : BitVec 4) (s : State) : Answer :=
  atomicUnit (.aswp m d a p z o) 6 d a p z o s

/-- ACAS (R341). -/
def execAcas (m : Mark) (d a : Reg) (p : BitVec 3) (z : BitVec 1) (o : BitVec 4) (s : State) : Answer :=
  atomicUnit (.acas m d a p z o) 7 d a p z o s

/-- AFADD (R341). -/
def execAfadd (m : Mark) (d a : Reg) (p : BitVec 3) (z : BitVec 1) (o : BitVec 4) (s : State) : Answer :=
  atomicUnit (.afadd m d a p z o) 8 d a p z o s

/-! ### Cache ranges (R343-R346) -/

/-- CLEAN, INVAL or FLUSH over the lines of g[a] to g[a] + g[b] − 1; its acceptance returns when every page has been
checked (R344, R345). -/
def rangeUnit (i : Instr) (fn : Nat) (a b : Reg) (s : State) : Answer :=
  .next (unit i (fun s =>
    let base := (srcG s i .a a.toNat).toNat
    let len := (srcG s i .b b.toNat).toNat
    if 2 ^ 32 < len then .fault .ill 0 0 none
    else if len = 0 then .done s
    else
      let (id, s) := fresh s
      .done (launchAccess s
        { accessOf s id (.range fn (base / 64) ((base + len - 1) / 64)) with
            va := base / 64 * 64, n := 64, pol := 0, sackd := true }
        (outPlain id .cacheRange base))) s)

/-- CLEAN (R344). -/
def execClean (m : Mark) (a b : Reg) (s : State) : Answer := rangeUnit (.clean m a b) 0 a b s

/-- INVAL (R344). -/
def execInval (m : Mark) (a b : Reg) (s : State) : Answer := rangeUnit (.inval m a b) 1 a b s

/-- FLUSH (R344). -/
def execFlush (m : Mark) (a b : Reg) (s : State) : Answer := rangeUnit (.flush m a b) 2 a b s

/-- PREF: it fills the L2 line by line, never faults, returns no acceptance and counts nothing (R344). -/
def execPref (m : Mark) (d a b : Reg) (s : State) : Answer :=
  let i := Instr.pref m d a b
  .next (unit i (fun s =>
    let base := (srcG s i .a a.toNat).toNat
    let len := (srcG s i .b b.toNat).toNat
    if 2 ^ 32 < len then .fault .ill 0 0 none
    else if len = 0 then .done s
    else
      let (id, s) := fresh s
      let a := { accessOf s id (.range 3 (base / 64) ((base + len - 1) / 64)) with
                   va := base / 64 * 64, n := 64, pol := d.toNat }
      .done { s with inflight := s.inflight ++ [a] }) s)

end Sys2Proof.Machine
end

