-- ==== Sys2Proof/Machine/Slots.lean ====
section
/-! DEFINITION. Slots as others see them (R183, R186, R321-R325): states, suspension, record words, eviction, and the end of a
rider (R201, R203, R204, R405, R416). -/

namespace Sys2Proof.Machine

/-! ### States (R183, R324) -/

/-- Slot state: 0 FREE, 1 READY, 2 PARKED, 3 SUSPENDED, 4 FROZEN, 5 DEPARTING. -/
def stateCode (th : Thread) : Nat :=
  match th.run with
  | .free => 0
  | .ready => if th.froz then 4 else if th.susp then 3 else 1
  | .parked _ => if th.froz then 4 else if th.susp then 3 else 2
  | .departing _ => if th.froz then 4 else if th.susp then 3 else 5

/-- DEDUCED, log entry 25. -/
def suspendSlot (s : State) (t : ThreadRef) : State := (slotThreads t).foldl (fun s t => keepSuspended (modThread s t suspendThread) t) s

/-- RDSLOT and WRSLOT first suspend a READY, PARKED or DEPARTING target; a FROZEN one is left as it is (R323). -/
def stopSlot (s : State) (t : ThreadRef) : State :=
  (slotThreads t).foldl (fun s t =>
    if (threadAt s t).froz then s else keepSuspended (modThread s t suspendThread) t) s

/-- RESM: a SUSPENDED thread returns to what it was; others are unchanged (R322). -/
def resumeThread (th : Thread) : Thread := if th.susp && !th.froz then { th with susp := false } else th

def resumeSlot (s : State) (t : ThreadRef) : State := (slotThreads t).foldl (fun s t => modThread s t resumeThread) s

/-- SUSPENDED, FROZEN or FREE, with neither uncommitted results nor unreturned acceptances (R323). -/
def settledThread (th : Thread) : Bool := (th.susp || th.froz || th.run == .free) && th.outs.isEmpty

def settledSlot (s : State) (t : ThreadRef) : Bool := (slotThreads t).all fun x => settledThread (threadAt s x)

/-- A thread may move in an evacuation: settled, or FROZEN with nothing on its way (R441). -/
def evacThreadReady (th : Thread) : Bool := settledThread th || (th.froz && th.outs.all fun o => o.done)

/-- A slot is SUSPENDED: each of its threads that holds a rider (R325). -/
def suspendedSlot (s : State) (t : ThreadRef) : Bool :=
  (slotThreads t).all fun x => (threadAt s x).run == .free || ((threadAt s x).susp && !(threadAt s x).froz)

/-! ### Record words (R186) -/

/-- Word k of the rider record, as the hardware holds it. DEDUCED, log entry 24. -/
def recordWord (th : Thread) (k : Nat) : Word :=
  if k = 0 then word (field th.pc.toNat 55 2 * 4)
  else if k = 1 then statusWord th
  else if k ≤ 32 then rdG th (k - 1)
  else if k = 33 then descWord th
  else if k = 34 then word (th.gid.toNat * 2 ^ 32 + th.rid.toNat)
  else if k = 35 then th.vsave
  else if k = 36 then th.asave else 0

/-- An address field of a record: bits 55:6. -/
def saveAddr (v : Word) : Word := word (field v.toNat 55 6 * 64)

/-- A write of record word k by a requester of a privilege, under the limits of selector 1 (R324). -/
def setRecordWord (th : Thread) (k : Nat) (v : Word) (priv : BitVec 2) : Thread :=
  if k = 0 then { th with pc := word (field v.toNat 55 2 * 4), prog := .none, back := none, stuck := false }
  else if k = 1 then
    let x := statusOfWord v
    let old := th.ss
    let p := if x.priv = 3 ∨ priv.toNat < x.priv.toNat then old.priv else x.priv
    { th with pw := BitVec.ofNat 32 v.toNat,
              ss := { x with priv := p, ns := old.ns, anch := old.anch, up := old.up, dn := old.dn, roam := old.roam } }
  else if k ≤ 32 then wrG th (k - 1) v
  else if k = 33 then { th with desc := { fmt := v.extractLsb' 0 32, rep := v.extractLsb' 32 32 } }
  else if k = 35 then { th with vsave := saveAddr v }
  else th

/-- A write of a record word: a new pc abandons the unit that waited, which has then popped nothing (R197). -/
def writeRecordWord (s : State) (t : ThreadRef) (k : Nat) (v : Word) (priv : BitVec 2) : State :=
  let s := if k = 0 then giveBack s t else s
  setThread s t (setRecordWord (threadAt s t) k v priv)

/-! ### The end of a rider -/

/-- The deferred lines of a thread's record leave for their homes (R205, R434, R444). -/
def writeBackLines (s : State) (t : ThreadRef) : State :=
  modThread (flushLines s t.core (threadAt s t).dlines t) t fun th => { th with dlines := [] }

/-- The groups of a grid after a member ended (R203, R205): the counts of its group, the group gone with its last rider, and
the grid's counts. -/
def memberEnds (s : State) (grid index : Nat) (trig : Bool) : State :=
  match s.groups.find? fun g => g.grid == grid && g.index == index with
  | none => s
  | some g =>
    let g' := { g with live := g.live - 1, untrig := if trig then g.untrig else g.untrig - 1 }
    let groups := s.groups.filterMap fun (x : Sys2Proof.Machine.Group) =>
      if x.grid == grid && x.index == index then (if g'.live = 0 then none else some g') else some x
    let grids := s.grids.map fun (d : Grid) =>
      if d.key == grid then
        { d with ended := if g'.live = 0 then d.ended + 1 else d.ended,
                 trigd := if g'.untrig = 0 then sins d.trigd index else d.trigd }
      else d
    { s with groups := groups, grids := grids }

/-- A member is triggered (R203). -/
def memberTriggers (s : State) (grid index : Nat) : State :=
  match s.groups.find? fun g => g.grid == grid && g.index == index with
  | none => s
  | some g =>
    let g' := { g with untrig := g.untrig - 1 }
    let groups := s.groups.map fun (x : Sys2Proof.Machine.Group) => if x.grid == grid && x.index == index then g' else x
    let grids := s.grids.map fun (d : Grid) =>
      if d.key == grid && g'.untrig == 0 then { d with trigd := sins d.trigd index } else d
    { s with groups := groups, grids := grids }

/-- The messages of a RID leave the queues of every core, and later arrivals for it are discarded (R201). -/
def dropMessages (s : State) (rid : BitVec 32) : State :=
  { s with
    cores := (s.cores.map fun e => (e.1, { e.2 with msgs := e.2.msgs.filter fun m => m.tag != rid })).filter fun e => e.2 != Core.reset
    ended := sins s.ended rid.toNat }

/-- Tiles and the table that a RID owns, on whatever core, take owner 0 and keep their contents (R405). -/
def disown (k : Core) (rid : BitVec 32) : Core :=
  { k with tiles := (k.tiles.map fun e => (e.1, if e.2.owner == rid then { e.2 with owner := 0 } else e.2)).filter
             (fun e => e.2 != Tile.reset),
           cbtOwner := if k.cbtOwner == rid then 0 else k.cbtOwner }

/-- A rider whose input copy failed ends, or leaves its slot: the other riders of its group run with the input as far as it was
copied (R220). -/
def copyEnds (s : State) (th : Thread) : State :=
  match th.run, th.group with
  | .parked (.copy _), some (g, i) =>
    { s with groups := s.groups.map fun (x : Sys2Proof.Machine.Group) =>
        if x.grid == g && x.index == i then { x with input := false } else x }
  | _, _ => s

/-- The rider of a thread's context is at its end: trigger and completion, messages, tiles and the kernel slot. -/
def accountEnd (s : State) (core : Nat) (th : Thread) : State :=
  let s := copyEnds s th
  let s := match th.group with
    | some (g, i) => memberEnds s g i th.trig
    | none => s
  let s := dropMessages s th.rid
  let s := modCore s core fun k => { k with kernel := if k.kernel == some th.rid then none else k.kernel }
  { s with cores := (s.cores.map fun e => (e.1, disown e.2 th.rid)).filter fun e => e.2 != Core.reset }

/-- A thread ends: a quay rider ends when both its threads have; a deck rider at once. The slot becomes FREE (R204). -/
def endRider (s : State) (t : ThreadRef) : State :=
  let th := threadAt s t
  if t.slot = 7 then
    let other := threadAt s ⟨t.core, 7, 1 - t.th⟩
    let s := if isAddr t && th.trig then modThread s ⟨t.core, 7, 1⟩ fun o => { o with trig := true } else s
    let s := if other.run == .free then accountEnd s t.core (threadAt s t) else s
    freeSlot s t
  else freeSlot (accountEnd s t.core th) t

/-! ### Eviction (R325) -/

/-- The deferred lines of a thread with an open release fence are written back, and its fences wait for that (R142, R162). -/
def closeFences (s : State) (t : ThreadRef) : State :=
  if !fenceOpen s t s.nextId then s
  else
    let rid := (threadAt s t).rid
    let s := beginRelease s t 3
    let ids := (threadAt s t).wbs
    { s with inflight := s.inflight.map fun a => if isFence a.kind && a.t == t && a.rid == rid then { a with waits := a.waits ++ ids } else a }

/-- The vector registers of an anchored rider are stored at its save area, line by line, on behalf of the issuer. -/
def storeVectors (s : State) (th : Thread) (n : Nat) : State :=
  if th.vsave = 0 then s
  else
    (List.range n).foldl (fun s r =>
      let (id, s) := fresh s
      let a := { accessOf s id .store with
        va := th.vsave.toNat + 64 * r, n := 64, pol := 4, data := rdV th r, mask := BitVec.allOnes 64, sackd := true }
      launchAccess s a (outPlain id .store (th.vsave.toNat + 64 * r))) s

/-- The rider is SAVED: it stays a member of its group, and its deferred lines stay its own (R141, R184, R188).
DEDUCED, log entry 20. -/
def saveRider (s : State) (core : Nat) (th : Thread) : State :=
  let w := (coreAt s core).ctxid
  let x : Saved := ⟨th.rid, ctxNs w, ctxAsid w, th.group, th.index, th.trig, th.dlines, core, th.arrival, th.wbs⟩
  { s with saved := s.saved ++ [x] }

/-- A slot's rider is evicted: vectors stored, the slot FREE; its messages stay, and its context is where the kernel has put it. A release
fence of the rider that is open has its lines first (R142, R162). A quay rider counts as ended (R325, R499). -/
def evictSlot (s : State) (t : ThreadRef) : State :=
  let s := giveBack s t
  if t.slot = 7 then
    let a : ThreadRef := ⟨t.core, 7, 0⟩
    let x : ThreadRef := ⟨t.core, 7, 1⟩
    let tha := threadAt s a
    let thx := threadAt s x
    let s := if thx.run == .free then s else storeVectors s thx 16
    let s := writeBackLines (writeBackLines s a) x
    let s := accountEnd s t.core (if tha.run == .free then thx else tha)
    setThread (setThread (withdraw (withdraw s a) x) a Thread.reset) x Thread.reset
  else
    let th := threadAt s t
    let s := if th.ss.anch then storeVectors s th 32 else s
    let s := closeFences s t
    let th := threadAt s t
    freeSlot (saveRider (copyEnds s th) t.core th) t

end Sys2Proof.Machine
end

