-- ==== Sys2Proof/Machine/BankInstr.lean ====
section
/-! DEFINITION. Bank structure (R362-R369) and bank ALU (R370-R373) instructions, up to the moment they leave their unit. -/

namespace Sys2Proof.Machine

/-- A bank instruction leaves its unit as a `.bk` access that carries its command; its status, and a value, come back in one
landing entry (R362, R367, R372). -/
def bankUnit (i : Instr) (a : Reg) (cmd : State → BankCmd) (kind : OutKind) (file : RegFile) (d : Reg) (store : Bool)
    (s : State) : Answer :=
  .next (unit i (fun s =>
    let ea := (srcG s i .a a.toNat).toNat
    let reg := if file == .none then 0 else dstNum s .d d.toNat
    let (id, s) := fresh s
    beginAccess s { accessOf s id .bank with va := ea, n := 1, pol := 5, cmd := some (cmd s), sackd := store }
      (outFor s id kind file reg ea) false) s)

/-- Bytes of an element size code (R60). -/
def elemBytes (z : Nat) : Nat := 8 * 2 ^ z

/-- Element k of a push: the 8 bytes of a g register, or the low bytes of a v register (R364). -/
def pushElem (s : State) (i : Instr) (d : Reg) (z : Nat) (v : BitVec 1) (k : Nat) : Line :=
  if v = 0 then BitVec.ofNat 512 (srcG s i .d (d.toNat + k)).toNat
  else BitVec.ofNat 512 ((srcV s i .d (d.toNat + k)).toNat % 2 ^ (8 * elemBytes z))

def elemRegs (v : BitVec 1) : RegFile := if v = 0 then .g else .v

/-- BPUSH (R68, R363). -/
def execBpush (m : Mark) (d a : Reg) (z : BitVec 2) (v : BitVec 1) (s : State) : Answer :=
  let i := Instr.bpush m d a z v
  bankUnit i a (fun s => .push (v == 1) z.toNat [pushElem s i d z.toNat v 0]) .struct .none d true s

/-- BPUSHN: CNT + 1 elements as one operation (R68, R363). -/
def execBpushn (m : Mark) (d a : Reg) (n : BitVec 2) (z : BitVec 2) (v : BitVec 1) (s : State) : Answer :=
  let i := Instr.bpushn m d a n z v
  bankUnit i a (fun s => .push (v == 1) z.toNat ((List.range (n.toNat + 1)).map (pushElem s i d z.toNat v))) .struct .none d
    true s

/-- BPOP (R68, R363). -/
def execBpop (m : Mark) (d a : Reg) (z : BitVec 2) (v : BitVec 1) (s : State) : Answer :=
  bankUnit (.bpop m d a z v) a (fun _ => .pop (v == 1) z.toNat) .struct (elemRegs v) d true s

/-- BPEEK (R68, R363). -/
def execBpeek (m : Mark) (d a : Reg) (z : BitVec 2) (v : BitVec 1) (s : State) : Answer :=
  bankUnit (.bpeek m d a z v) a (fun _ => .peek (v == 1) z.toNat) .struct (elemRegs v) d false s

/-- BMPUT (R70). -/
def execBmput (m : Mark) (d a b : Reg) (s : State) : Answer :=
  let i := Instr.bmput m d a b
  bankUnit i a (fun s => .mapPut (srcG s i .b b.toNat) (srcG s i .d d.toNat)) .struct .none d true s

/-- BMGET (R70). -/
def execBmget (m : Mark) (d a b : Reg) (s : State) : Answer :=
  let i := Instr.bmget m d a b
  bankUnit i a (fun s => .mapGet (srcG s i .b b.toNat)) .struct .g d false s

/-- BMDEL (R71). -/
def execBmdel (m : Mark) (d a b : Reg) (s : State) : Answer :=
  let i := Instr.bmdel m d a b
  bankUnit i a (fun s => .mapDel (srcG s i .b b.toNat)) .struct .g d true s

/-- BHPUT (R72). -/
def execBhput (m : Mark) (d a : Reg) (s : State) : Answer :=
  let i := Instr.bhput m d a
  bankUnit i a (fun s => .heapPut (srcG s i .d d.toNat)) .struct .none d true s

/-- BHPOP (R72). -/
def execBhpop (m : Mark) (d a : Reg) (s : State) : Answer :=
  bankUnit (.bhpop m d a) a (fun _ => .heapPop) .struct .g d true s

/-- BHTOP (R72). -/
def execBhtop (m : Mark) (d a : Reg) (s : State) : Answer :=
  bankUnit (.bhtop m d a) a (fun _ => .heapTop) .struct .g d false s

/-- BGADD; with ONE the count is 1 (R74, R363). -/
def execBgadd (m : Mark) (d a b : Reg) (o : BitVec 1) (s : State) : Answer :=
  let i := Instr.bgadd m d a b o
  bankUnit i a (fun s =>
    .histAdd (srcG s i .d d.toNat) (if o = 1 then 1 else (srcG s i .b b.toNat).extractLsb' 0 32)) .struct .none d true s

/-- BGRD (R74). -/
def execBgrd (m : Mark) (d a b : Reg) (s : State) : Answer :=
  let i := Instr.bgrd m d a b
  bankUnit i a (fun s => .histRead (srcG s i .b b.toNat)) .struct .g d false s

/-- BGCLR, of one bin or of all (R74). -/
def execBgclr (m : Mark) (a b : Reg) (l : BitVec 1) (s : State) : Answer :=
  let i := Instr.bgclr m a b l
  bankUnit i a (fun s => if l = 1 then .histClearAll else .histClear (srcG s i .b b.toNat)) .struct .none 0 true s

/-- BPSET (R365). -/
def execBpset (m : Mark) (d a b : Reg) (s : State) : Answer :=
  let i := Instr.bpset m d a b
  bankUnit i a (fun s => .change (srcG s i .b b.toNat)) .struct .g d true s

/-- BLINK (R366). -/
def execBlink (m : Mark) (a b : Reg) (c : BitVec 4) (s : State) : Answer :=
  let i := Instr.blink m a b c
  bankUnit i a (fun s => .link ((lanes (srcV s i .b b.toNat)).take c.toNat)) .struct .none 0 true s

/-- BSTAT (R64). -/
def execBstat (m : Mark) (d a : Reg) (s : State) : Answer :=
  bankUnit (.bstat m d a) a (fun _ => .stat) .struct .g d false s

/-! ### Bank ALU commands (R370-R372) -/

/-- A command from its count word; the region offset comes from the bank address, and R371's limits on it are checked at
the bank. A non-zero bit that the command does not use makes it bad. -/
def aluOf (s : State) (fn : Nat) (int sr : Bool) (count : Word) (vec : Line) (sc : Word) : AluCmd :=
  let w := count.toNat
  let used := 0x7FF + (if fn = 4 then 2 ^ 40 + 31 * 2 ^ 32 else 0) + (if fn = 7 then 65535 * 2 ^ 16 else 0)
  { fn := fn, int := int, sr := sr, off := 0, n := w % 2048, bad := w &&& used != w, nf := field w 36 32,
    wide := bit w 40, st := field w 31 16, vec := vec, sc := sc.extractLsb' 0 32, rnd := (me s).ss.rnd,
    seed := (myCore s).seed }

/-- BVADD (R91, R370). -/
def execBvadd (m : Mark) (a b c : Reg) (t : BitVec 1) (s : State) : Answer :=
  let i := Instr.bvadd m a b c t
  bankUnit i a (fun s => .alu (aluOf s 0 (t == 1) (false) (srcG s i .b b.toNat) (srcV s i .c c.toNat) (0))) .bankAlu .none 0 true s

/-- BVMUL (R91, R370). -/
def execBvmul (m : Mark) (d a b : Reg) (t : BitVec 1) (s : State) : Answer :=
  let i := Instr.bvmul m d a b t
  bankUnit i a (fun s => .alu (aluOf s 1 (t == 1) (false) (srcG s i .b b.toNat) (0) (srcG s i .d d.toNat))) .bankAlu .none 0 true s

/-- BVFMA (R91, R370). -/
def execBvfma (m : Mark) (d a b c : Reg) (t : BitVec 1) (s : State) : Answer :=
  let i := Instr.bvfma m d a b c t
  bankUnit i a (fun s => .alu (aluOf s 2 (t == 1) (false) (srcG s i .b b.toNat) (srcV s i .c c.toNat) (srcG s i .d d.toNat))) .bankAlu .none 0 true s

/-- BVFILL (R91, R370). -/
def execBvfill (m : Mark) (a b c : Reg) (s : State) : Answer :=
  let i := Instr.bvfill m a b c
  bankUnit i a (fun s => .alu (aluOf s 3 (false) (false) (srcG s i .b b.toNat) (srcV s i .c c.toNat) (0))) .bankAlu .none 0 true s

/-- BVCVT (R91, R370). -/
def execBvcvt (m : Mark) (a b : Reg) (r : BitVec 1) (s : State) : Answer :=
  let i := Instr.bvcvt m a b r
  bankUnit i a (fun s => .alu (aluOf s 4 (false) (r == 1) (srcG s i .b b.toNat) (0) (0))) .bankAlu .none 0 true s

/-- BVSUM (R91, R370). -/
def execBvsum (m : Mark) (d a b : Reg) (t : BitVec 1) (s : State) : Answer :=
  let i := Instr.bvsum m d a b t
  bankUnit i a (fun s => .alu (aluOf s 5 (t == 1) (false) (srcG s i .b b.toNat) (0) (0))) .bankAlu .v d true s

/-- BVRMAX (R91, R370). -/
def execBvrmax (m : Mark) (d a b : Reg) (t : BitVec 1) (s : State) : Answer :=
  let i := Instr.bvrmax m d a b t
  bankUnit i a (fun s => .alu (aluOf s 6 (t == 1) (false) (srcG s i .b b.toNat) (0) (0))) .bankAlu .v d true s

/-- BSMX (R91, R370). -/
def execBsmx (m : Mark) (a b : Reg) (s : State) : Answer :=
  let i := Instr.bsmx m a b
  bankUnit i a (fun s => .alu (aluOf s 7 (false) (false) (srcG s i .b b.toNat) (0) (0))) .bankAlu .none 0 true s

end Sys2Proof.Machine
end

