-- ==== Sys2Proof/Machine/MatrixQueue.lean ====
section
/-! DEFINITION. The matrix queue as others see it (R89, R412-R420): pins, batches, the end, the failure and the cancelling of
a step. -/

namespace Sys2Proof.Machine

def stepAt (s : State) (core id : Nat) : Option MStep := (coreAt s core).mq.find? fun m => m.id == id
def modStep (s : State) (core id : Nat) (f : MStep → MStep) : State :=
  modCore s core fun k => { k with mq := k.mq.map fun m => if m.id == id then f m else m }

/-- The bytes of a B row of a step (R408, R410). -/
def mmaRowB (fa fb : Nat) : Nat := if fb = 15 then (if fa = 3 then 12 else 24) else 96

/-! ### Pins (R89) -/

def pinCount (s : State) (core bank line : Nat) : Nat := aget 0 (bankAt s core bank).pin line

def addPin (s : State) (core bank line : Nat) : State :=
  modBank s core bank fun b => { b with pin := aset 0 b.pin line (aget 0 b.pin line + 1) }

def subPin (s : State) (core : Nat) (bl : Nat × Nat) : State :=
  modBank s core bl.1 fun b => { b with pin := aset 0 b.pin bl.2 (aget 0 b.pin bl.2 - 1) }

/-- The pins of a step drop. -/
def dropPins (s : State) (core : Nat) (m : MStep) : State :=
  modStep (m.pins.foldl (fun s p => subPin s core p) s) core m.id fun m => { m with pins := [] }

/-- A line of the bank window (a bank-window offset divided by 64) is pinned. -/
def pinnedLine (s : State) (l : Nat) : Bool := pinCount s (l / 16384) (l / 1024 % 16) (l % 1024) != 0

/-! ### Batches (R415) -/

/-- The thread that issued a step, while its slot still has the step's batch: a rider that has left the slot and come back has not (R416). -/
def stepThread (s : State) (core : Nat) (m : MStep) : Option ThreadRef :=
  let t : ThreadRef := ⟨core, m.slot, 0⟩
  let th := threadAt s t
  if th.rid == m.rid && th.run != .free && th.mx.batches.any (fun b => b.uid == m.bid) then some t else none

/-- A complete batch leaves the list, and its flags join SS (R415, R240). -/
def settleBatches (th : Thread) : Thread :=
  let done := fun (b : Batch) => b.closed && b.live == 0
  let fl := (th.mx.batches.filter done).foldl (fun f b => f ||| b.flags) (0 : BitVec 5)
  orFlags { th with mx := { th.mx with batches := th.mx.batches.filter fun b => !done b } } fl

/-- A step of a batch ends, with its flags. -/
def batchStepEnds (s : State) (core : Nat) (m : MStep) (fl : BitVec 5) : State :=
  match stepThread s core m with
  | none => s
  | some t => modThread s t fun th => settleBatches
      { th with mx := { th.mx with batches := th.mx.batches.map fun b =>
          if b.uid == m.bid then { b with live := b.live - 1, flags := b.flags ||| fl } else b } }

/-- A step leaves the queue: its pins drop, its pin requests go, its tile and batch count one less, and its acceptance, if it
has not returned, returns. DEDUCED, log entry 29. -/
def removeStep (s : State) (core : Nat) (m : MStep) (fl : BitVec 5) (fail : Option Fail) : State :=
  let s := dropPins s core m
  let s := m.want.foldl (fun s p => modBank s core p.1 fun b =>
    { b with queue := b.queue.filter fun r => r.src != .step core m.id }) s
  let s := modCore s core fun k => { k with mq := k.mq.filter fun x => x.id != m.id }
  let s := modTile s core m.tile fun x => { x with pend := x.pend - 1 }
  let s := acceptOut s ⟨core, m.slot, 0⟩ m.id none fail
  batchStepEnds s core m fl

/-- A step fails: the tile and the status word record it, and every later step of the batch is cancelled (R418, R419).
DEDUCED, log entry 29. -/
def failStep (s : State) (core : Nat) (m : MStep) (stat : Nat) : State :=
  let s := modTile s core m.tile fun x =>
    { x with status := BitVec.ofNat 2 stat, batch := BitVec.ofNat 8 m.batch, step := BitVec.ofNat 16 m.index }
  let s := match stepThread s core m with
    | none => s
    | some t => modThread s t fun th =>
        let mx := if th.mx.fstat = 0 then
            { th.mx with fstat := BitVec.ofNat 2 stat, fstep := BitVec.ofNat 16 m.index, fbatch := BitVec.ofNat 8 m.batch,
                         ftile := BitVec.ofNat 4 m.tile }
          else th.mx
        { th with mx := { mx with batches := mx.batches.map fun b => if b.uid == m.bid then { b with failed := true } else b } }
  let later := (coreAt s core).mq.filter fun x =>
    x.bid == m.bid && decide (m.id < x.id)
  let s := later.foldl (fun s x => removeStep s core x 0 none) s
  removeStep s core m 0 none

end Sys2Proof.Machine
end

