-- ==== Sys2Proof/Machine/Banks.lean ====
section
/-! DEFINITION. Operations that a bank performs at once (R62-R76, R82-R84): queues, stacks, maps, heaps, histograms, plain
accesses. An operation is worked out as a plan over the bank storage before anything changes, so that a pinned line can
hold it and a poisoned line can stop it. -/

namespace Sys2Proof.Machine

/-! ### Parameters (R62) -/

def paramsOk (p : Params) : Bool :=
  let e := p.esz.toNat
  let c := p.cap.toNat
  let l := p.log.toNat
  let h := p.sh.toNat
  match p.pers.toNat with
  | 0 => e == 0 && c == 0 && l == 0 && h == 0
  | 1 | 2 => l == 0 && h == 0 && decide (c < 65536 / elemBytes e)
  | 3 => e == 0 && h == 0 && decide (4 ≤ l) && decide (l ≤ 12) && decide (c < 2 ^ l)
  | 4 => e == 0 && l == 0 && h == 0
  | 5 => e == 0 && c == 0 && decide (l ≤ 14)
  | _ => false

/-- Effective capacity (R62). -/
def capacityOf (p : Params) : Nat :=
  let c := p.cap.toNat
  match p.pers.toNat with
  | 1 | 2 => if c = 0 then 65536 / elemBytes p.esz.toNat else c
  | 3 => if c = 0 then 2 ^ p.log.toNat - 1 else c
  | 4 => if c = 0 then 8192 else c
  | 5 => 2 ^ p.log.toNat
  | _ => 0

/-! ### Plans -/

/-- An operation worked out: the storage after it, the lines read, the bytes written by line, the metadata of the bank that
performs it, and what it returns. -/
structure Plan where
  mem    : Memory
  reads  : List Nat
  wrote  : Assoc (BitVec 64)
  bk     : Bank
  status : Option (BitVec 3)
  value  : Nat
  flags  : BitVec 5
  deriving DecidableEq, Repr

def Plan.start (s : State) (core bank : Nat) : Plan :=
  { mem := s.sram, reads := [], wrote := [], bk := bankAt s core bank, status := none, value := 0, flags := 0 }

/-- n bytes read at a bank-window offset, inside one line. -/
def Plan.read (w : Plan) (a n : Nat) : Nat × Plan := (rdNat w.mem a n, { w with reads := sins w.reads (a / 64) })

/-- n bytes written, where the mask has ones, inside one line. -/
def Plan.write (w : Plan) (a n : Nat) (mask v : Nat) : Plan :=
  let l := a / 64
  let m := BitVec.ofNat 64 (mask % 2 ^ n * 2 ^ (a % 64))
  { w with mem := wrMasked w.mem a n mask v, wrote := if m = 0 then w.wrote else aput w.wrote l (aget 0 w.wrote l ||| m) }

def Plan.put (w : Plan) (a n v : Nat) : Plan := w.write a n (ones n) v

/-- The operation ends with a status and a value. -/
def Plan.ends (w : Plan) (st : Nat) (v : Nat) : Plan := { w with status := some (BitVec.ofNat 3 st), value := v }

/-- Nothing is done: FULL, EMPTY, ABSENT, BUSY or BADOP. -/
def Plan.refuse (w : Plan) (st : Nat) : Plan := w.ends st 0

/-! ### Composites (R81-R83) -/

/-- The banks of a concatenation with their capacities, in logical order. -/
def placesOf (s : State) (core bank : Nat) : List (Nat × Nat × Nat) :=
  (compositeOf s core bank).map fun b => (b.1, b.2, capacityOf (bankAt s b.1 b.2).p)

def totalCap (ps : List (Nat × Nat × Nat)) : Nat := (ps.map fun p => p.2.2).sum

/-- The bank-window offset of a logical position (R82). -/
def placeAddr (size : Nat) : List (Nat × Nat × Nat) → Nat → Nat
  | [], _ => 0
  | (c, b, k) :: r, p => if p < k then bankOff c b (p * size) else placeAddr size r (p - k)

/-- h of a map key (R69). -/
def mapHash (k : Nat) : Nat := k * 0x9E3779B97F4A7C15 % 2 ^ 64

/-- The home slot of a key among 2^l slots. -/
def mapHome (l k : Nat) : Nat := mapHash k / 2 ^ (64 - l)

/-- The bank of a stripe of 2^m banks that holds a key (R83). -/
def mapStripe (l m k : Nat) : Nat := mapHash k / 2 ^ (64 - l - m) % 2 ^ m

/-- The composite bin of a value (R74, R83). -/
def histBin (p : Params) (n v : Nat) : Nat := v / 2 ^ p.sh.toNat % (n * 2 ^ p.log.toNat)

/-- The key or bin by which an operation finds its bank in a stripe. -/
def stripeKey (p : Params) (n : Nat) (cmd : BankCmd) : Option Nat :=
  if p.pers = 3 then
    match cmd with
    | .mapPut k _ | .mapGet k | .mapDel k => some (mapStripe p.log.toNat (Nat.log2 n) k.toNat)
    | .read off _ | .write off _ _ _ => some (mapStripe p.log.toNat (Nat.log2 n) (off / 8))
    | _ => none
  else
    match cmd with
    | .histAdd v _ => some (histBin p n v.toNat % n)
    | .histRead i | .histClear i => some (i.toNat % n)
    | .read off _ => some (off / 4 % n)
    | .write _ _ _ d => some (histBin p n d.toNat % n)
    | _ => none

/-- The bank at which an operation addressed to a bank is performed (R82, R83, R85). -/
def routeOf (s : State) (core bank : Nat) (cmd : BankCmd) : Nat × Nat :=
  let comp := compositeOf s core bank
  let p := (bankAt s core bank).p
  if comp.length ≤ 1 then (core, bank)
  else
    match cmd with
    | .stat | .launch | .link _ | .alu _ | .pin _ _ | .readLines _ _ | .writeLines _ _ | .vector _ _ | .atomic _ _ _ _ _ _ => (core, bank)
    | .change _ | .config _ _ => comp.headD (core, bank)   -- as BankEvents routes them, by the bank that they name
    | cmd =>
      if p.pers = 1 ∨ p.pers = 2 then comp.headD (core, bank)
      else
        match stripeKey p comp.length cmd with
        | some j => comp.getD j (core, bank)
        | none => (core, bank)

/-! ### Queues and stacks (R68) -/

def pushPlan (ps : List (Nat × Nat × Nat)) (size : Nat) (es : List Line) (w : Plan) : Plan :=
  let c := totalCap ps
  let n := w.bk.count
  if es.length = 0 ∨ 4 < es.length then w.refuse 5
  else if c < n + es.length then w.refuse 1
  else
    let pos := fun (i : Nat) => if w.bk.p.pers = 1 then (w.bk.head + n + i) % c else n + i
    let w := es.zipIdx.foldl (fun w e => w.put (placeAddr size ps (pos e.2)) size e.1.toNat) w
    { w with bk := { w.bk with count := n + es.length } }.ends 0 0

def popPlan (ps : List (Nat × Nat × Nat)) (size : Nat) (keep : Bool) (w : Plan) : Plan :=
  let c := totalCap ps
  let n := w.bk.count
  if n = 0 then w.refuse 2
  else
    let queue := w.bk.p.pers == 1
    let (v, w) := w.read (placeAddr size ps (if queue then w.bk.head else n - 1)) size
    let bk := if keep then w.bk
      else if queue then { w.bk with head := (w.bk.head + 1) % c, count := n - 1 } else { w.bk with count := n - 1 }
    { w with bk := bk }.ends 0 v

/-! ### Maps (R69-R71) -/

/-- The probe from slot i: the slot of the key, or the first empty one. -/
def mapProbe (base sl key : Nat) : (fuel i : Nat) → Plan → (Nat × Bool) × Plan
  | 0, i, w => ((i, false), w)
  | n + 1, i, w =>
    if !w.bk.occ.contains i then ((i, false), w)
    else
      let (k, w) := w.read (base + 16 * i) 8
      if k = key then ((i, true), w) else mapProbe base sl key n ((i + 1) % sl) w

/-- The backward shift of a deletion, with i empty and j the slot last read (R71). -/
def mapShift (base l : Nat) : (fuel i j : Nat) → Plan → Plan
  | 0, _, _, w => w
  | n + 1, i, j, w =>
    let j := (j + 1) % 2 ^ l
    if !w.bk.occ.contains j then w
    else
      let (k, w) := w.read (base + 16 * j) 8
      let t := mapHome l k
      let inside := (decide (i < j) && decide (i < t) && decide (t ≤ j)) || (decide (j < i) && (decide (i < t) || decide (t ≤ j)))
      if inside then mapShift base l n i j w
      else
        let (v, w) := w.read (base + 16 * j + 8) 8
        let w := (w.put (base + 16 * i) 8 k).put (base + 16 * i + 8) 8 v
        mapShift base l n j j { w with bk := { w.bk with occ := sdel (sins w.bk.occ i) j } }

def mapPutPlan (base : Nat) (k v : Nat) (w : Plan) : Plan :=
  let l := w.bk.p.log.toNat
  let ((i, found), w) := mapProbe base (2 ^ l) k (2 ^ l) (mapHome l k) w
  if found then (w.put (base + 16 * i + 8) 8 v).ends 0 0
  else if w.bk.count < capacityOf w.bk.p then
    let w := (w.put (base + 16 * i) 8 k).put (base + 16 * i + 8) 8 v
    { w with bk := { w.bk with occ := sins w.bk.occ i, count := w.bk.count + 1 } }.ends 0 0
  else w.refuse 1

def mapGetPlan (base : Nat) (k : Nat) (w : Plan) : Plan :=
  let l := w.bk.p.log.toNat
  let ((i, found), w) := mapProbe base (2 ^ l) k (2 ^ l) (mapHome l k) w
  if found then
    let (v, w) := w.read (base + 16 * i + 8) 8
    w.ends 0 v
  else w.refuse 3

def mapDelPlan (base : Nat) (k : Nat) (w : Plan) : Plan :=
  let l := w.bk.p.log.toNat
  let ((i, found), w) := mapProbe base (2 ^ l) k (2 ^ l) (mapHome l k) w
  if found then
    let (v, w) := w.read (base + 16 * i + 8) 8
    let w := { w with bk := { w.bk with occ := sdel w.bk.occ i, count := w.bk.count - 1 } }
    (mapShift base l (2 ^ l) i i w).ends 0 v
  else w.refuse 3

/-! ### Heaps (R72, R73) -/

/-- Entry i and its key. -/
def heapGet (base i : Nat) (w : Plan) : Nat × Plan := w.read (base + 8 * i) 8

def heapSwap (base i j : Nat) (w : Plan) : Plan :=
  let x := rdNat w.mem (base + 8 * i) 8
  let y := rdNat w.mem (base + 8 * j) 8
  (w.put (base + 8 * i) 8 y).put (base + 8 * j) 8 x

def siftUp (base : Nat) : (fuel i : Nat) → Plan → Plan
  | 0, _, w => w
  | n + 1, i, w =>
    if i = 0 then w
    else
      let p := (i - 1) / 2
      let (x, w) := heapGet base i w
      let (y, w) := heapGet base p w
      if x / 2 ^ 32 < y / 2 ^ 32 then siftUp base n p (heapSwap base i p w) else w

def siftDown (base count : Nat) : (fuel i : Nat) → Plan → Plan
  | 0, _, w => w
  | n + 1, i, w =>
    let c := 2 * i + 1
    if count ≤ c then w
    else
      let (l, w) := heapGet base c w
      let (r, w) := if c + 1 < count then heapGet base (c + 1) w else (l, w)
      let (c, k) := if c + 1 < count ∧ r / 2 ^ 32 < l / 2 ^ 32 then (c + 1, r) else (c, l)
      let (x, w) := heapGet base i w
      if k / 2 ^ 32 < x / 2 ^ 32 then siftDown base count n c (heapSwap base i c w) else w

def heapPutPlan (base e : Nat) (w : Plan) : Plan :=
  let n := w.bk.count
  if capacityOf w.bk.p ≤ n then w.refuse 1
  else
    let w := siftUp base 14 n (w.put (base + 8 * n) 8 e)
    { w with bk := { w.bk with count := n + 1 } }.ends 0 0

def heapPopPlan (base : Nat) (w : Plan) : Plan :=
  let n := w.bk.count
  if n = 0 then w.refuse 2
  else
    let (v, w) := heapGet base 0 w
    let w := { w with bk := { w.bk with count := n - 1 } }
    if n = 1 then w.ends 0 v
    else
      let (x, w) := heapGet base (n - 1) w
      (siftDown base (n - 1) 14 0 (w.put base 8 x)).ends 0 v

def heapTopPlan (base : Nat) (w : Plan) : Plan :=
  if w.bk.count = 0 then w.refuse 2
  else
    let (v, w) := heapGet base 0 w
    w.ends 0 v

/-! ### Histograms (R74, R83): `n` banks in the stripe, 1 when alone -/

def histAddPlan (base n v c : Nat) (w : Plan) : Plan :=
  let b := histBin w.bk.p n v / n
  let (x, w) := w.read (base + 4 * b) 4
  if x + c < 2 ^ 32 then (w.put (base + 4 * b) 4 (x + c)).ends 0 0 else (w.put (base + 4 * b) 4 (2 ^ 32 - 1)).ends 6 0

def histReadPlan (base n i : Nat) (w : Plan) : Plan :=
  if n * 2 ^ w.bk.p.log.toNat ≤ i then w.refuse 5
  else
    let (x, w) := w.read (base + 4 * (i / n)) 4
    w.ends 0 x

def histClearPlan (base n i : Nat) (w : Plan) : Plan :=
  if n * 2 ^ w.bk.p.log.toNat ≤ i then w.refuse 5 else (w.put (base + 4 * (i / n)) 4 0).ends 0 0

/-- Every bin of every bank of the composite. -/
def histClearAllPlan (s : State) (core bank : Nat) (w : Plan) : Plan :=
  let bytes := 4 * 2 ^ w.bk.p.log.toNat
  let clear := fun (w : Plan) (b : Nat × Nat) =>
    (List.range ((bytes + 63) / 64)).foldl (fun w i => w.put (bankOff b.1 b.2 (64 * i)) (min 64 bytes) 0) w
  ((compositeOf s core bank).foldl clear w).ends 0 0

/-! ### The state word (R64) -/

/-- The logical positions of the live elements of a queue or stack, oldest or lowest first. DEDUCED, log entry 27. -/
def livePositions (b : Bank) (cap : Nat) : List Nat :=
  (List.range b.count).map fun i => if b.p.pers = 1 then (b.head + i) % cap else i

/-- The bank of a concatenation in which a logical position lies. -/
def placeBank : List (Nat × Nat × Nat) → Nat → Nat × Nat
  | [], _ => (0, 0)
  | (c, b, k) :: r, p => if p < k then (c, b) else placeBank r (p - k)

/-- The positions of a concatenation before a bank. -/
def placesBefore : List (Nat × Nat × Nat) → Nat × Nat → Nat
  | [], _ => 0
  | (c, b, k) :: r, x => if x = (c, b) then 0 else k + placesBefore r x

/-- The elements of a concatenation that lie in a bank, oldest or lowest first, as positions within the bank. -/
def placesWithin (s : State) (core bank : Nat) : List Nat :=
  let ps := placesOf s core bank
  let h := (compositeOf s core bank).headD (core, bank)
  ((livePositions (bankAt s h.1 h.2) (totalCap ps)).filter fun p => placeBank ps p == (core, bank)).map
    fun p => p - placesBefore ps (core, bank)

/-- A member reports its own count, capacity and, for a queue, the position within it of its oldest element, 0 when it has none; the rule
gives HEAD no other meaning there (R64, R82). DESIGN CHOICE, log entry 27. -/
def stateWord (s : State) (core bank : Nat) : Word :=
  let b := bankAt s core bank
  let comp := compositeOf s core bank
  let n := comp.length
  let lidx := comp.idxOf (core, bank)
  let head := lidx == 0
  let pers := b.p.pers.toNat
  let members := comp.map fun x => bankAt s x.1 x.2
  let count :=
    if pers = 0 ∨ pers = 5 then 0
    else if head && pers == 3 then (members.map fun (m : Bank) => m.count).sum
    else if !head && pers != 3 then
      -- a member of a concatenation: the elements that lie in it
      (placesWithin s core bank).length
    else b.count
  let capn :=
    if pers = 0 then 0
    else if head && decide (1 < n) then (members.map fun (m : Bank) => capacityOf m.p).sum
    else capacityOf b.p
  word (pers * 2 ^ 61 + b01 b.busy * 2 ^ 60 + lidx * 2 ^ 56 + count * 2 ^ 40 + capn * 2 ^ 21 + (if pers ≠ 1 then 0 else if head then b.head else (placesWithin s core bank).headD 0) * 2 ^ 6)

/-! ### Plain accesses and the choice of the operation (R75, R76) -/

/-- An element size fits the bank; an element in v registers has no place in a map, heap or histogram (R364). -/
def elemFits (p : Params) (vec : Bool) (sz : Nat) : Bool := p.esz.toNat == sz && (vec == (sz != 0))

/-- The operation on an array, or the primary operation of the personality. -/
def plainPlan (s : State) (core bank : Nat) (cmd : BankCmd) (w : Plan) : Plan :=
  let base := bankOff core bank 0
  let ps := placesOf s core bank
  let p := w.bk.p
  let size := elemBytes p.esz.toNat
  let n := (compositeOf s core bank).length
  match p.pers.toNat, cmd with
  | 0, .read off k =>
    let (v, w) := w.read (base + off) k
    { w with value := v }
  | 0, .write off k m d => w.write (base + off) k m.toNat d.toNat
  | 1, .read _ k | 2, .read _ k => if k = size ∧ (k = 8 ∨ k = 64) then popPlan ps size false w else w.refuse 5
  | 1, .write _ k _ d | 2, .write _ k _ d => if k = size ∧ (k = 8 ∨ k = 64) then pushPlan ps size [d] w else w.refuse 5
  | 3, .read off k => if k = 8 then mapGetPlan base (off / 8) w else w.refuse 5
  | 3, .write off k _ d => if k = 8 then mapPutPlan base (off / 8) (d.toNat % 2 ^ 64) w else w.refuse 5
  | 4, .read _ k => if k = 8 then heapPopPlan base w else w.refuse 5
  | 4, .write _ k _ d => if k = 8 then heapPutPlan base (d.toNat % 2 ^ 64) w else w.refuse 5
  | _, .read off k => if k = 4 then histReadPlan base n (off / 4) w else w.refuse 5
  | _, .write _ k _ d => if k ≤ 8 then histAddPlan base n (d.toNat % 2 ^ 64) 1 w else w.refuse 5
  | _, _ => w.refuse 5

/-- An atomic at a bank: OK on an array, BADOP elsewhere (R342). -/
def atomicPlan (base off n op : Nat) (x y : Word) (rnd : BitVec 2) (w : Plan) : Plan :=
  if w.bk.p.pers ≠ 0 then w.refuse 5
  else
    let (old, w) := w.read (base + off) n
    let (new, fl) := atomicNew op n (roundingOf rnd) old x.toNat y.toNat
    let w := match new with
      | some v => w.put (base + off) n v
      | none => w
    { w with flags := fl }.ends 0 old

/-- Every operation that ends in one act, at the bank that performs it. -/
def planOf (s : State) (core bank : Nat) (cmd : BankCmd) : Plan :=
  let w := Plan.start s core bank
  let base := bankOff core bank 0
  let ps := placesOf s core bank
  let p := w.bk.p
  let size := elemBytes p.esz.toNat
  let n := (compositeOf s core bank).length
  let pers := p.pers.toNat
  match cmd with
  | .read _ _ | .write _ _ _ _ => plainPlan s core bank cmd w
  | .vread off n => if pers = 0 then plainPlan s core bank (.read off n) w else w.refuse 5
  | .vwrite off n m d => if pers = 0 then plainPlan s core bank (.write off n m d) w else w.refuse 5
  | .atomic off k op x y r => atomicPlan base off k op x y r w
  | .push vec sz es => if (pers = 1 ∨ pers = 2) ∧ elemFits p vec sz then pushPlan ps size es w else w.refuse 5
  | .pop vec sz => if (pers = 1 ∨ pers = 2) ∧ elemFits p vec sz then popPlan ps size false w else w.refuse 5
  | .peek vec sz => if (pers = 1 ∨ pers = 2) ∧ elemFits p vec sz then popPlan ps size true w else w.refuse 5
  | .mapPut k v => if pers = 3 then mapPutPlan base k.toNat v.toNat w else w.refuse 5
  | .mapGet k => if pers = 3 then mapGetPlan base k.toNat w else w.refuse 5
  | .mapDel k => if pers = 3 then mapDelPlan base k.toNat w else w.refuse 5
  | .heapPut e => if pers = 4 then heapPutPlan base e.toNat w else w.refuse 5
  | .heapPop => if pers = 4 then heapPopPlan base w else w.refuse 5
  | .heapTop => if pers = 4 then heapTopPlan base w else w.refuse 5
  | .histAdd v c => if pers = 5 then histAddPlan base n v.toNat c.toNat w else w.refuse 5
  | .histRead i => if pers = 5 then histReadPlan base n i.toNat w else w.refuse 5
  | .histClear i => if pers = 5 then histClearPlan base n i.toNat w else w.refuse 5
  | .histClearAll => if pers = 5 then histClearAllPlan s core bank w else w.refuse 5
  | .stat => w.ends 0 (stateWord s core bank).toNat
  | _ => w.refuse 5

/-- A written line's update counter rises by one, and a line written whole is poisoned no more (R88, R446). -/
def markWritten (s : State) (l : Nat) (m : BitVec 64) : State :=
  let s := modBank s (l / 16384) (l / 1024 % 16) fun b => { b with upd := aset 0 b.upd (l % 1024) (aget 0 b.upd (l % 1024) + 1) }
  if m = BitVec.allOnes 64 then { s with sramBad := sdel s.sramBad l } else s

/-- A plan is carried out at its bank. -/
def applyPlan (s : State) (core bank : Nat) (w : Plan) : State :=
  let s := modBank { s with sram := w.mem } core bank fun b =>
    { b with head := w.bk.head, count := w.bk.count, occ := w.bk.occ }
  w.wrote.foldl (fun s e => markWritten s e.1 e.2) s

/-- A pinned line holds the plan (R89, R413). -/
def planHeld (s : State) (w : Plan) : Bool := w.wrote.any fun e => pinnedLine s e.1

/-- A line that it reads is poisoned (R369, R446). DEDUCED, log entry 22. -/
def planPoisoned (s : State) (w : Plan) : Bool := w.reads.any fun l => s.sramBad.contains l

/-! ### The launch queue's facts (R208) -/

def isLaunchQueue (s : State) (core bank : Nat) : Bool := core == s.lqCore.toNat && bank == s.lqBank.toNat

/-- The facts that the controller keeps of the entries, after an operation changed their number. DEDUCED, log entry 47. -/
def noteFacts (old : Nat) (privileged : Bool) (b : Bank) : Bank :=
  if old < b.count then
    { b with facts := b.facts ++ (List.range (b.count - old)).map fun i => (i == 0, privileged) }
  else { b with facts := b.facts.drop (old - b.count) }

end Sys2Proof.Machine
end

