-- ==== Sys2Proof/Machine/BankAlu.lean ====
section
/-! DEFINITION. Bank ALU commands (R90-R99, R242, R371): the checks at the bank and the line steps. -/

namespace Sys2Proof.Machine

/-- The ratio of BVCVT (R95). -/
def cvtRatio (nf : Nat) : Nat := if nf = 2 ∨ nf = 3 then 2 else 4

/-- The limits of R90, R94, R95 and R371 on the count word and the region. -/
def aluOk (c : AluCmd) : Bool :=
  !c.bad && decide (1 ≤ c.n) && decide (c.n ≤ 1024) && c.off % 64 == 0 && decide (c.off + 64 * c.n ≤ 65536) &&
    (c.fn != 4 || (decide (2 ≤ c.nf) && decide (c.nf ≤ 5) && !(c.sr && c.wide) && c.n % cvtRatio c.nf == 0)) &&
    (c.fn != 7 || (c.st % 64 == 0 && (decide (c.st < c.off) || decide (c.off + 64 * c.n ≤ c.st))))

/-- What a line step does: the line it reads, and the line it writes, as line numbers in the bank. -/
structure LineStep where
  rd : Option Nat
  wr : Option Nat
  deriving DecidableEq, Repr

/-- Step number k of a command, and how many steps there are (R97). -/
def aluSteps (c : AluCmd) : Nat :=
  match c.fn with
  | 4 => c.n + c.n / cvtRatio c.nf
  | 7 => 2 * c.n + 1
  | _ => c.n

def aluStepAt (c : AluCmd) (k : Nat) : LineStep :=
  let l0 := c.off / 64
  let r := cvtRatio c.nf
  match c.fn with
  | 3 => ⟨none, some (l0 + k)⟩
  | 4 =>
    let g := k / (r + 1)
    let j := k % (r + 1)
    if !c.wide then if j < r then ⟨some (l0 + g * r + j), none⟩ else ⟨none, some (l0 + g)⟩
    else
      let g := c.n / r - 1 - g
      if j = 0 then ⟨some (l0 + g), none⟩ else ⟨none, some (l0 + g * r + (r - j))⟩
  | 5 | 6 => ⟨some (l0 + k), none⟩
  | 7 => if k < c.n then ⟨some (l0 + k), none⟩
    else if k < 2 * c.n then ⟨some (l0 + (k - c.n)), none⟩ else ⟨some (c.st / 64), some (c.st / 64)⟩
  | _ => ⟨some (l0 + k), some (l0 + k)⟩

/-- Results with the union of their flags. -/
def gather (l : List (Nat × BitVec 5)) : List Nat × BitVec 5 := (l.map (·.1), l.foldl (fun f x => f ||| x.2) 0)

/-- Element-wise add, multiply and fused multiply-add of two lines in a type (R91, R92). -/
def elemAdd (int : Bool) (r : Rounding) (x y : Nat) : Nat × BitVec 5 := if int then ((x + y) % 2 ^ 32, 0) else add32 r x y
def elemMul (int : Bool) (r : Rounding) (x y : Nat) : Nat × BitVec 5 := if int then (x * y % 2 ^ 32, 0) else mul32 r x y
def elemFma (int : Bool) (r : Rounding) (x y z : Nat) : Nat × BitVec 5 :=
  if int then ((x * y + z) % 2 ^ 32, 0) else fma32 r x y z
def elemMax (int : Bool) (x y : Nat) : Nat × BitVec 5 :=
  if int then (if signed 32 x < signed 32 y then y else x, 0) else max32 x y

/-- A NaN that is delivered as a result is the canonical one (R92): the one line of a reduction with n = 1, which no operation
rounds and which raises no flag. DEDUCED, log entry 26. -/
def quietNan (x : Nat) : Nat := if (fmt32.read x).isNan then fmt32.nan else x

/-- r of stochastic rounding for the element at bank-window address a (R242). -/
def stochR (a upd : Nat) (seed : Word) : Nat :=
  ((a ^^^ (upd % 256 * 2 ^ 48)) ^^^ seed.toNat) * 0x9E3779B97F4A7C15 % 2 ^ 64 / 2 ^ 48

/-- The maximum pass of BSMX over one line (R94). -/
def smxMax (m : Nat) (xs : List Nat) : Nat × BitVec 5 :=
  xs.foldl (fun a x => let y := max32 a.1 x; (y.1, a.2 ||| y.2)) (m, 0)

/-- m′ of BSMX is a finite value: the sum pass has terms (R94). -/
def smxSums (m : Nat) : Bool :=
  match fmt32.read m with
  | .fin _ _ _ => true
  | _ => false

/-- One term of the sum pass: exp2 of the exact difference. -/
def smxTerm (r : Rounding) (x m : Nat) : Nat × BitVec 5 :=
  let d := addX r (fmt32.read x) (fmt32.read m).negate
  let e := exp2X d.1
  finish fmt32 r (e.1, d.2 ||| e.2)

/-- s × 2^(m − m′), exact and rounded once; 0 when m = −∞ (R94). -/
def smxScale (r : Rounding) (sum m m' : Nat) : Nat × BitVec 5 :=
  match fmt32.read m with
  | .inf _ => (0, 0)
  | x =>
    let d := addX r x (fmt32.read m').negate
    let e := exp2X d.1
    -- a difference that is no integer makes the power inexact; the product is rounded once
    let p := mulX (fmt32.read sum) e.1
    finish fmt32 r (p.1, d.2 ||| e.2 ||| p.2)

/-- A line step worked out: the run after it and the line it writes. DEDUCED, log entry 26. -/
def aluLine (core bank : Nat) (u : AluRun) (line : Line) (upd : Nat) : AluRun × Option Line :=
  let c := u.c
  let r := roundingOf c.rnd
  let xs := elems 32 16 line.toNat
  let out := fun (l : List Nat × BitVec 5) => ({ u with flags := u.flags ||| l.2 }, some (BitVec.ofNat 512 (packElems 32 l.1)))
  let vec := elems 32 16 c.vec.toNat
  let sc := c.sc.toNat
  let pick := fun (l : List Nat) (f : BitVec 5) => ({ u with acc := l.map (BitVec.ofNat 32), flags := u.flags ||| f }, (none : Option Line))
  match c.fn with
  | 0 => out (gather ((xs.zip vec).map fun e => elemAdd c.int r e.1 e.2))
  | 1 => out (gather (xs.map fun x => elemMul c.int r x sc))
  | 2 => out (gather ((xs.zip vec).map fun e => elemFma c.int r e.1 sc e.2))
  | 3 => ({ u with flags := u.flags }, some c.vec)
  | 4 =>
    let ratio := cvtRatio c.nf
    let w := 32 / ratio
    let st := aluStepAt c u.step
    match st.rd with
    | some _ =>
      if c.wide then
        let l := gather ((elems w (16 * ratio) line.toNat).map fun x => convert c.nf 1 .rne x)
        ({ u with buf := l.1.map (BitVec.ofNat 32), flags := u.flags ||| l.2 }, none)
      else ({ u with buf := u.buf ++ xs.map (BitVec.ofNat 32) }, none)
    | none =>
      if c.wide then
        let n := u.buf.length
        ({ u with buf := u.buf.take (n - 16) }, some (BitVec.ofNat 512 (packElems 32 ((u.buf.drop (n - 16)).map BitVec.toNat))))
      else
        let a0 := 0x20000000000 + bankOff core bank 0 + 64 * (st.wr.getD 0)
        let l := gather (u.buf.zipIdx.map fun e =>
          let rd := if c.sr then Rounding.stoch (stochR (a0 + e.2 * (w / 8)) upd c.seed) else r
          convert 1 c.nf rd e.1.toNat)
        ({ u with buf := [], flags := u.flags ||| l.2 }, some (BitVec.ofNat 512 (packElems w l.1)))
  | 5 | 6 =>
    if u.step = 0 then pick (if c.n = 1 && !c.int then xs.map quietNan else xs) 0
    else
      let l := gather ((u.acc.zip xs).map fun e =>
        if c.fn = 5 then elemAdd c.int r e.1.toNat e.2 else elemMax c.int e.1.toNat e.2)
      pick l.1 l.2
  | _ =>
    if u.step < c.n then
      let x := smxMax u.m.toNat xs
      ({ u with m := BitVec.ofNat 32 x.1, flags := u.flags ||| x.2 }, none)
    else if u.step < 2 * c.n then
      let acc := if u.step = c.n then List.replicate 16 0 else u.acc.map BitVec.toNat
      if smxSums u.m.toNat then
        let l := gather ((acc.zip xs).map fun e =>
          let t := smxTerm r e.2 u.m.toNat
          let a := add32 r e.1 t.1
          (a.1, t.2 ||| a.2))
        pick l.1 l.2
      else pick acc 0
    else
      -- the state line: bytes 0-3 hold m, bytes 4-7 s
      let m := (u.buf.headD 0).toNat
      let sum := nth xs 1
      let m' := u.m.toNat
      let put := fun (x y : Nat) (f : BitVec 5) =>
        ({ u with flags := u.flags ||| f }, some (BitVec.ofNat 512 (packElems 32 (x :: y :: xs.drop 2))))
      match fmt32.read m' with
      | .nan _ => put fmt32.nan fmt32.nan flagNV
      | .inf neg => if neg then put m' sum 0 else put fmt32.nan fmt32.nan flagNV
      | _ =>
        let s0 := smxScale r sum m m'
        let s1 := u.acc.foldl (fun a x => let y := add32 r a.1 x.toNat; (y.1, a.2 ||| y.2)) s0
        put m' s1.1 s1.2

/-- What the next step of a command comes to. -/
inductive AluAct where
  | held                              -- the line it writes is pinned (R413)
  | poison (line : Nat)               -- the line it reads is poisoned (R99)
  | ran (s : State) (u : AluRun)
  deriving DecidableEq, Repr

/-- One line step (R97). The state line's m is read as the maximum pass begins. DEDUCED, log entry 26. -/
def aluStep (s : State) (core bank : Nat) (u : AluRun) : AluAct :=
  let st := aluStepAt u.c u.step
  let o := bankOff core bank 0
  let bad := fun (l : Nat) => s.sramBad.contains (o / 64 + l)
  let first := u.c.fn == 7 && u.step == 0
  match st.wr.filter fun l => pinCount s core bank l != 0 with
  | some _ => .held
  | none =>
    match st.rd.filter bad with
    | some l => .poison l
    | none =>
      if first && bad (u.c.st / 64) then .poison (u.c.st / 64)
      else
        let u := if first then
            let m : BitVec 32 := BitVec.ofNat 32 (rdNat s.sram (o + u.c.st) 4)
            { u with m := m, buf := [m] }
          else u
        let line := match st.rd with
          | some l => rdLine s.sram (o + 64 * l)
          | none => 0
        let upd := match st.wr with
          | some l => (aget 0 (bankAt s core bank).upd l).toNat
          | none => 0
        let (u', w) := aluLine core bank u line upd
        let s := match st.wr, w with
          | some l, some d =>
            markWritten { s with sram := wrNat s.sram (o + 64 * l) 64 d.toNat } (o / 64 + l) (BitVec.allOnes 64)
          | _, _ => s
        .ran s { u' with step := u.step + 1 }

end Sys2Proof.Machine
end

