-- ==== Sys2Proof/Machine/BankChange.lean ====
section
/-! DEFINITION. Personality changes and links (R77-R86, R365, R366): their checks and their effects. -/

namespace Sys2Proof.Machine

/-! ### Collecting and inserting elements (R79) -/

/-- An element: its bytes as a number, and how many. -/
abbrev Element := Nat × Nat

/-- Heap entries in the order of repeated pop-minimum. -/
def heapDrain (base : Nat) : (fuel : Nat) → Plan → List Element × Plan
  | 0, w => ([], w)
  | n + 1, w =>
    if w.bk.count = 0 then ([], w)
    else
      let w := heapPopPlan base w
      let (r, w') := heapDrain base n w
      ((w.value, 8) :: r, w')

/-- The elements that lie in a bank, in canonical order; for a bank of a concatenation those whose logical positions lie in
it, in logical order. The plan says which lines were read. -/
def collect (s : State) (core bank : Nat) : List Element × Plan :=
  let w := Plan.start s core bank
  let base := bankOff core bank 0
  let p := w.bk.p
  let size := elemBytes p.esz.toNat
  let readAll := fun (as : List Nat) (n : Nat) (w : Plan) =>
    as.foldl (fun (a : List Element × Plan) x => let (v, w) := a.2.read x n; (a.1 ++ [(v, n)], w)) ([], w)
  match p.pers.toNat with
  | 1 | 2 =>
    let ps := placesOf s core bank
    let h := (compositeOf s core bank).headD (core, bank)
    let mine := (livePositions (bankAt s h.1 h.2) (totalCap ps)).filter fun x => placeBank ps x == (core, bank)
    readAll (mine.map (placeAddr size ps)) size w
  | 3 => readAll (w.bk.occ.map fun i => base + 16 * i) 16 w
  | 4 => heapDrain base w.bk.count w
  | 5 =>
    let bins := List.range (2 ^ p.log.toNat)
    let (l, w) := readAll (bins.map fun i => base + 4 * i) 4 w
    ((bins.zip l).filterMap fun e => if e.2.1 = 0 then none else some (e.1 * 2 ^ 32 + e.2.1, 8), w)
  | _ => ([], w)

/-- One insert of the new personality; `at_` is the byte position of an array. -/
def insertOne (core bank : Nat) (at_ : Nat) (e : Element) (w : Plan) : Plan :=
  let base := bankOff core bank 0
  let p := w.bk.p
  let size := elemBytes p.esz.toNat
  let k := e.1 % 2 ^ 64
  match p.pers.toNat with
  | 1 | 2 => pushPlan [(core, bank, capacityOf p)] size [BitVec.ofNat 512 (e.1 % 2 ^ (8 * size))] w
  | 3 => mapPutPlan base k (e.1 / 2 ^ 64 % 2 ^ 64) w
  | 4 => heapPutPlan base k w
  | 5 => histAddPlan base 1 k 1 w
  | _ => if 65536 < at_ + e.2 then w.refuse 1 else (w.put (base + at_) e.2 e.1).ends 0 0

/-- Every element is offered in order: the plan, the number dropped, and whether a counter saturated. -/
def insertAll (core bank : Nat) : List Element → (at_ : Nat) → Plan → Plan × Nat × Bool
  | [], _, w => (w, 0, false)
  | e :: r, at_, w =>
    let w := insertOne core bank at_ e w
    let full := w.status == some 1
    let (w', d, sat) := insertAll core bank r (at_ + e.2) w
    (w', d + b01 full, sat || w.status == some 6)

/-! ### The modes (R78) -/

/-- New metadata: empty, alone, with parameters; owner and queue stay. -/
def emptyBank (p : Params) (b : Bank) : Bank :=
  { b with p := p, comp := [], head := 0, count := 0, occ := [], facts := [] }

/-- A bank receives a mode: 0 CLEAR, 1 KEEP, 2 CONVERT. Status and drop count of R77. -/
def applyMode (s : State) (core bank : Nat) (p : Params) (mode : Nat) (es : List Element) : State × Nat × Nat :=
  let s1 := modBank s core bank (emptyBank p)
  if mode = 1 then (s1, 0, 0)
  else
    let s1 := modBank (clearBankBytes s1 core bank) core bank fun b => { b with upd := [] }
    if mode = 0 then (s1, 0, 0)
    else
      let (w, d, sat) := insertAll core bank es 0 (Plan.start s1 core bank)
      let s2 := modBank { s1 with sram := w.mem } core bank fun b =>
        { b with head := w.bk.head, count := w.bk.count, occ := w.bk.occ }
      (s2, if d ≠ 0 then 1 else if sat then 6 else 0, d)

/-! ### A change and its effect on a composite (R77, R85) -/

/-- The remaining banks of a concatenation keep their order and hold the remaining elements from logical position 0. An element that came
from a poisoned line carries the mark to its new line (R446). -/
def repack (s : State) (rest : List (Nat × Nat)) (es : List (Element × Bool)) : State :=
  let h := rest.headD (0, 0)
  let s := rest.foldl (fun s b => modBank s b.1 b.2 fun x =>
    { x with comp := if rest.length ≤ 1 then [] else rest, head := 0, count := 0 }) s
  let size := elemBytes (bankAt s h.1 h.2).p.esz.toNat
  let ps := placesOf s h.1 h.2
  let w := es.zipIdx.foldl (fun w e => w.put (placeAddr size ps e.2) size e.1.1.1) (Plan.start s h.1 h.2)
  let s := w.wrote.foldl (fun s e => markWritten s e.1 e.2) { s with sram := w.mem }
  let s := es.zipIdx.foldl (fun s e =>
    if e.1.2 then { s with sramBad := sins s.sramBad (placeAddr size ps e.2 / 64) } else s) s
  modBank s h.1 h.2 fun b => { b with count := es.length }

/-- The elements of the other banks of a concatenation, in logical order, and whether their lines are poisoned. -/
def othersOf (s : State) (core bank : Nat) : List (Element × Bool) :=
  let size := elemBytes (bankAt s core bank).p.esz.toNat
  let ps := placesOf s core bank
  let h := (compositeOf s core bank).headD (core, bank)
  ((livePositions (bankAt s h.1 h.2) (totalCap ps)).filter fun x => placeBank ps x != (core, bank)).map
    fun x => ((rdNat s.sram (placeAddr size ps x) size, size), s.sramBad.contains (placeAddr size ps x / 64))

/-- The change of one bank, wherever it stands: status and drop count, BUSY cleared in its whole composite. -/
def changeNow (s : State) (core bank : Nat) (p : Params) (mode : Nat) : State × Nat × Nat :=
  let comp := compositeOf s core bank
  let old := (bankAt s core bank).p
  let es := (collect s core bank).1
  let others := othersOf s core bank
  let s := comp.foldl (fun s b => modBank s b.1 b.2 fun x => { x with busy := false }) s
  let rest := comp.filter fun b => b != (core, bank)
  let r := applyMode s core bank p mode es
  if rest.isEmpty then r
  else if comp.headD (core, bank) == (core, bank) then
    (rest.foldl (fun s b => modBank s b.1 b.2 (emptyBank Params.array)) r.1, r.2)
  else if old.pers = 1 ∨ old.pers = 2 then (repack r.1 rest others, r.2)
  else (rest.foldl (fun s b => modBank s b.1 b.2 fun x => { x with comp := [] }) r.1, r.2)

/-- A change that rebuilds its elements may not read a poisoned line: it then performs nothing. DEDUCED, log entry 22. -/
def changePoisoned (s : State) (core bank mode : Nat) : Bool :=
  let comp := compositeOf s core bank
  mode == 2 && planPoisoned s (collect s core bank).2 || (decide (1 < comp.length) && comp.any fun b =>
    ((bankAt s core bank).p.pers == 1 || (bankAt s core bank).p.pers == 2) && comp.headD b != (core, bank) &&
      planPoisoned s (collect s b.1 b.2).2)

/-- A BPSET word that R365 refuses. -/
def changeWordOk (w : Word) : Bool :=
  field w.toNat 63 30 == 0 && field w.toNat 29 28 != 3 && paramsOk (paramsOfWord w)

/-- BUSY is set at every bank of the composite, and the change is under way at the head. DEDUCED, log entry 28. -/
def beginChange (s : State) (core bank : Nat) (u : ChangeRun) : State :=
  let s := (compositeOf s core bank).foldl (fun s b => modBank s b.1 b.2 fun x => { x with busy := true }) s
  modBank s core bank fun b => { b with chg := some u }

/-- An operation that a bank of a stripe accepted before a change, sent on to the bank that performs it: it completes before the change
(R85). -/
def stripeOp (b : Bank) (q : BankReq) : Bool :=
  q.fwd && (b.p.pers == 3 || b.p.pers == 5) && match q.cmd with
    | .config _ _ | .change _ | .link _ => false
    | _ => true

/-- The requests that were accepted at the other banks before the change have completed, but for changes and BPCFG writes, which wait for
the end of BUSY; and so have a stripe's operations on their way to the head (R61, R77, R85). DEDUCED, log entry 28. -/
def othersDrained (s : State) (core bank : Nat) : Bool :=
  let waits := fun (q : BankReq) => match q.cmd with
    | .config _ _ | .change _ => true
    | _ => false
  (compositeOf s core bank).all fun b =>
    let k := bankAt s b.1 b.2
    if b == (core, bank) then k.queue.all (fun q => !stripeOp k q) && k.net.all fun q => !stripeOp k q
    else (k.queue.isEmpty || k.chg.isSome || (match k.queue with
      | q :: _ => waits q
      | [] => true)) && k.net.all fun q => !stripeOp k q

/-- A change from an array waits for the pins, unless it keeps the storage (R77, step 4). -/
def pinsAllow (s : State) (core bank mode : Nat) : Bool :=
  mode == 1 || (bankAt s core bank).p.pers != 0 || (bankAt s core bank).pin.isEmpty

/-! ### Links (R81, R366) -/

/-- The bank that a lane names. -/
def linkName (v : Lane) : Nat × Nat := (field v.toNat 13 4, field v.toNat 3 0)

/-- A malformed lane, a bank named twice, or the head named. -/
def linkNamesBad (core bank : Nat) (ls : List Lane) : Bool :=
  let ns := ls.map linkName
  ls.any (fun v => v.toNat / 2 ^ 14 != 0) || !ns.Nodup || ns.contains (core, bank)

/-- The conditions of R81 but for BUSY. -/
def linkOk (s : State) (core bank : Nat) (names : List (Nat × Nat)) : Bool :=
  let all := (core, bank) :: names
  let h := bankAt s core bank
  let n := all.length
  let each := fun (f : Bank → Bool) => all.all fun b => f (bankAt s b.1 b.2)
  all.all (fun b => dieOf b.1 == dieOf core && !servesL1 s b.1 b.2 && !roleChanging s b.1 b.2) &&
    each (fun b => b.comp.isEmpty && b.ns == h.ns && b.group == h.group && b.p.pers == h.p.pers) &&
    match h.p.pers.toNat with
    | 1 | 2 => decide (n ≤ 4) && each fun b => b.p.esz == h.p.esz && b.count == 0
    | 3 => [2, 4, 8, 16].contains n && each fun b => b.p.log == h.p.log && b.p.cap == h.p.cap && b.count == 0
    | 5 => [2, 4, 8, 16].contains n && each fun b => b.p.log == h.p.log && b.p.sh == h.p.sh
    | _ => false

/-- The link itself; the bins of a histogram are cleared. DEDUCED, log entry 27. -/
def linkNow (s : State) (core bank : Nat) (names : List (Nat × Nat)) : State :=
  let all := (core, bank) :: names
  let s := all.foldl (fun s b => modBank s b.1 b.2 fun x => { x with comp := all }) s
  if (bankAt s core bank).p.pers = 5 then
    let w := histClearAllPlan s core bank (Plan.start s core bank)
    w.wrote.foldl (fun s e => markWritten s e.1 e.2) { s with sram := w.mem }
  else s

end Sys2Proof.Machine
end

