-- ==== Sys2Proof/Machine/Records.lean ====
section
/-! DEFINITION. Riders from records (R186, R328, R219-R221): the context that a record in memory describes, and the departure of a
spawned rider. -/

namespace Sys2Proof.Machine

/-- Word k of a record that has been read line by line. -/
def lineWord (ls : List Line) (k : Nat) : Word := word (lineBytes (ls.getD (k / 8) 0) (8 * (k % 8)) 8)

/-- The registers g1-g31 of a record. -/
def recordRegs (ls : List Line) : Assoc Word :=
  (List.range 31).foldl (fun g k => aset 0 g (k + 1) (lineWord ls (k + 2))) []

/-- The rider that a SPAWN makes of a record: privilege no higher than its spawner's, a reserved one taken as user; the rider of a
placed launch is anchored (R194, R328). DEDUCED, log entry 43. -/
def spawnContext (ls : List Line) (gid : BitVec 16) (rid : BitVec 32) (ns : Bool) (priv : BitVec 2)
    (group : Option (Nat × Nat)) : Thread :=
  let w1 := lineWord ls 1
  let x := statusOfWord w1
  let p := if x.priv = 3 then 0 else x.priv
  { Thread.reset with
    run := .ready, pc := word (field (lineWord ls 0).toNat 55 2 * 4), pw := w1.extractLsb' 0 32,
    ss := { x with priv := if priv.toNat < p.toNat then priv else p, ns := ns, anch := !x.roam, stay := false, up := false, dn := false },
    g := recordRegs ls, desc := ⟨(lineWord ls 33).extractLsb' 0 32, (lineWord ls 33).extractLsb' 32 32⟩, gid := gid, rid := rid,
    vsave := saveAddr (lineWord ls 35), group := group }

/-- A rider that names the privilege or the fields that R186 forbids: the class that freezes its slot before its first issue. -/
def recordFault (ls : List Line) (rqp : BitVec 2) : Option FaultClass :=
  let w := fun k => (lineWord ls k).toNat
  let p := field (w 1) 63 62
  if p = 3 ∨ field (w 0) 63 56 ≠ 0 ∨ field (w 0) 1 0 ≠ 0 ∨ field (w 34) 63 48 ≠ 0 ∨ saveAddr (lineWord ls 35) ≠ lineWord ls 35 ∨
      saveAddr (lineWord ls 36) ≠ lineWord ls 36 then some .ill
  else if rqp.toNat < p then some .priv
  else none

/-- A spawned member counts for trigger and completion of its spawner's group, which is triggered no more (R188, R203). -/
def memberJoins (s : State) (group : Option (Nat × Nat)) : State :=
  match group with
  | none => s
  | some (g, i) =>
    { s with
      grids := s.grids.map fun (d : Grid) => if d.key == g then { d with trigd := d.trigd.filter fun x => x != i } else d
      groups := s.groups.map fun (x : Sys2Proof.Machine.Group) =>
        if x.grid == g && x.index == i then { x with live := x.live + 1, untrig := x.untrig + 1 } else x }

/-- The record of a SPAWN has been read: its acceptance returns, and the new rider is on its way (R328). -/
def spawnLeaves (s : State) (id : Nat) (ls : List Line) : State :=
  match s.spawns.find? (fun x => x.id == id), accessAt s id with
  | some x, some a =>
    let group := (threadAt s x.t).group
    let ctx := spawnContext ls a.gid x.rid (ctxNs a.ctx) a.priv group
    let s := memberJoins (acceptOut s x.t id none none) group
    dropAccess { s with
      spawns := s.spawns.filter fun y => y.id != id
      travels := s.travels ++ [⟨id, x.dst, x.t.core, ctxAsid a.ctx, ctxNs a.ctx, ctx, true, false, false⟩] } id
  | _, _ => s

end Sys2Proof.Machine
end

