-- ==== Sys2Proof/Machine/BankEvents.lean ====
section
/-! DEFINITION. A bank's input queue at work (R15, R67, R77, R81, R82, R97, R412, R413, R450): admission, replies, and the
events BANK_OPERATION, PERSONALITY_CHANGE, LINK, BANK_ALU_LINE_STEP, PIN_ACCEPT and HELD_WRITE_PROCEED. -/

namespace Sys2Proof.Machine

/-- What a bank operation returns. -/
structure BankResult where
  status : Option (BitVec 3)
  value  : Line
  lines  : List Line
  flags  : BitVec 5
  fail   : Option (FaultClass × Nat)    -- a fault and its DETAIL
  deriving DecidableEq, Repr

def BankResult.ofStatus (st : Nat) : BankResult := ⟨some (BitVec.ofNat 3 st), 0, [], 0, none⟩
def BankResult.ofFail (c : FaultClass) (detail : Nat) : BankResult := ⟨none, 0, [], 0, some (c, detail)⟩

/-! ### Replies -/

/-- The answer to a bank access from the fabric: the ACK of a BKA alone carries a status (R449, R450, R451). -/
def hostReply (s : State) (p : Packet) (cmd : BankCmd) (r : BankResult) : State :=
  match r.fail with
  | some (.world, _) => respondErr s p 3
  | some (.poison, _) => respondErr s p 4
  | some _ => respondErr s p 2
  | none =>
    match cmd with
    | .read _ n => if n = 64 then respond s p 0x81 0 0 [r.value] else respond s p 0x81 0 (word r.value.toNat) []
    | .atomic _ _ _ _ _ _ => respond s p 0x81 0 (word r.value.toNat) []
    | _ => respond s p 0x82 (if p.opc = 0x06 then (r.status.getD 0).toNat else 0) 0 []

/-- A line of a SPAWN's record has been read; the next one is translated and checked in its turn. -/
def gotRecordLine (s : State) (id : Nat) (v : Line) : State :=
  match accessAt s id with
  | none => s
  | some a =>
    if 5 ≤ a.got + 1 then spawnLeaves s id (a.lines ++ [v])
    else translateAccess (modAccess s id fun a => { a with lines := a.lines ++ [v], got := a.got + 1, va := a.va + 64, pol := 6 }) id

/-- The command slot of an engine command, by the command's name. -/
def cmdSlot (s : State) (core id : Nat) : Option Nat :=
  ((coreAt s core).cmds.find? fun e => match e.2 with
    | some c => c.id == id
    | none => false).map (·.1)

/-- The acceptance of an MXV at its vector's bank: with OK it holds its vector and its codebook and begins, or waits for a table that is
being loaded; otherwise it performs nothing (R131, R380, R423). -/
def startMxv (s : State) (t : ThreadRef) (id : Nat) (r : BankResult) : State :=
  match cmdSlot s t.core id with
  | none => s
  | some n =>
    match cmdAt s t.core n with
    | none => s
    | some c =>
      if r.status = some 0 then
        setCmd s t.core n (some { c with
          stage := .running, vec := r.lines, book := (coreAt s t.core).book
          phase := b01 (c.fa == 15 && (coreAt s t.core).bookLoad.isSome) })
      else setCmd s t.core n none

/-- The answer to a thread's access. A transfer that meets a change is offered again (R422). -/
def accessReply (s : State) (id : Nat) (r : BankResult) : State :=
  match accessAt s id with
  | none => s
  | some a =>
    match r.fail with
    | some (c, d) => failAccess s id { bankFail c a.va with detail := d }
    | none =>
      match a.kind with
      | .tileLoad _ | .bookLoad =>
        if r.status = some 4 then stageAccess s id .checked
        else modAccess (acceptOut s a.t id none none) id fun a => { a with lines := r.lines, stage := .landing }
      | .tileStore _ =>
        if r.status = some 4 then stageAccess s id .checked else stageAccess (acceptOut s a.t id none none) id .acked
      | .spawnRead => gotRecordLine s id r.value
      | .store => stageAccess (acceptOut s a.t id r.status none) id .acked
      | .bank =>
        let s := match a.cmd with
          | some (.vector _ _) => startMxv s a.t id r
          | _ => s
        modAccess s id fun a => { a with value := r.value, bst := r.status, flags := r.flags, stage := .landing }
      | _ => modAccess s id fun a => { a with value := r.value, bst := r.status, flags := r.flags, stage := .landing }

/-- Bytes of one operand of a step that stand in a line of a bank. -/
def operandHas (core bank line off n : Nat) : Bool :=
  decide (bankOff core bank (64 * line) + 64 > off) && decide (bankOff core bank (64 * line) < off + n)

/-- The address of a step's operand line as the instruction names it. -/
def pinVa (core : Nat) (m : MStep) (bank line : Nat) : Nat :=
  let va :=
    if operandHas core bank line m.aAddr 1536 then m.aVa
    else if operandHas core bank line m.bAddr (16 * mmaRowB m.fa m.fb) then m.bVa
    else m.sVa
  va / 65536 * 65536 + 64 * line

/-- A pin request ends: placed, failed under R418, or refused under R420. -/
def pinReply (s : State) (core id bank line : Nat) (r : BankResult) : State :=
  match stepAt s core id with
  | none => s
  | some m =>
    match r.fail, r.status with
    | some (c, _), _ => removeStep s core m 0 (some (bankFail c (pinVa core m bank line)))
    | none, some st => failStep s core m (if st = 4 then 2 else 3)
    | none, none =>
      let s := addPin s core bank line
      let want := m.want.erase (bank, line)
      let s := modStep s core id fun m => { m with want := want, pins := m.pins ++ [(bank, line)] }
      if want.isEmpty then acceptOut s ⟨core, m.slot, 0⟩ id none none else s

/-- The result of an operation goes to whoever waits for it. -/
def bankReply (s : State) (q : BankReq) (r : BankResult) : State :=
  match q.src with
  | .access id => accessReply s id r
  | .host p => hostReply s p q.cmd r
  | .step core id =>
    match q.cmd with
    | .pin _ line => pinReply s core id (q.addr / 65536 % 16) line r
    | _ => s
  | w => finishWrite s w

/-! ### Admission (R15, R67, R84) -/

/-- An operation that puts elements into a queue by pushing. -/
def isPush (s : State) (core bank : Nat) : BankCmd → Bool
  | .push _ _ _ => true
  | .write _ _ _ _ => (bankAt s core bank).p.pers == 1
  | _ => false

/-- The world and owner checks of R15 at the addressed bank, with the launch queue's rule of R208. -/
def ownerFails (s : State) (core bank : Nat) (q : BankReq) : Option FaultClass :=
  let b := bankAt s core bank
  if q.ns && !b.ns then some .world
  else if isLaunchQueue s core bank && !(isPush s core bank q.cmd) then if q.priv = 2 then none else some .perm
  else if isLaunchQueue s core bank && q.ns then none
  else if q.priv = 2 ∨ q.gid = b.group then none else some .perm

/-- DETAIL of a bank fault: the line number of a bank ALU command's first line (R99, R429). -/
def bankDetail (q : BankReq) : Nat :=
  match q.cmd with
  | .alu c => c.off / 64
  | _ => 0

/-- No operation before the next arrival can make an array bank anything else. -/
def staysArray (b : Bank) : Bool :=
  b.p.pers == 0 && b.chg.isNone && b.queue.all fun q => match q.cmd with
    | .change _ | .config _ _ | .link _ => false
    | _ => true

/-- A store that an array bank has accepted returns its acceptance at once: it performs no structure operation, whose status would come
with it (R76, R294). -/
def acceptStored (s : State) (core bank : Nat) (q : BankReq) : State :=
  match q.src with
  | .access id =>
    match accessAt s id with
    | some a => if a.kind == .store && staysArray (bankAt s core bank) then acceptOut s a.t id none none else s
    | none => s
  | _ => s

/-- A bank accepts an operation, or answers it at once: the L1, the world and the owner, a malformed link, BUSY (R15, R77, R81, R85). An
operation that a stripe accepted before its change is BUSY to nobody. DEDUCED, log entries 19, 28. -/
def acceptBank (s : State) (core bank : Nat) (q : BankReq) : State :=
  let b := bankAt s core bank
  let config := match q.cmd with
    | .config _ _ => true
    | _ => q.src == .agent
  if (dieAt s (dieOf core)).fenced || (servesL1 s core bank && !config) then bankReply s q (.ofFail .bankop (bankDetail q))
  else
    match if q.fwd then none else ownerFails s core bank q with
    | some c => bankReply s q (.ofFail c 0)
    | none =>
      let q := { q with addr := if q.fwd then q.addr else bankOff core bank 0 }
      let badLink := match q.cmd with
        | .link ls => linkNamesBad core bank ls
        | _ => false
      if badLink then bankReply s q (.ofStatus 5)
      else if b.busy && !config && !stripeOp b q then bankReply s q (.ofStatus 4)
      else enqueueBank (acceptStored s core bank q) core bank q

/-- The slots of the source of an evacuation are settled: new operations are held at its banks, and move with them (R441, steps 1-4). -/
def evacuating (s : State) (core : Nat) : Bool :=
  s.evacs.any (fun e => e.1 == core) && (coreAt s core).threads.all fun e => evacThreadReady e.2

/-- An operation reaches a bank, of the forwarding target where there is one: it is accepted, or waits before the bank while that accepts
none (R45, R58, R441, R442). -/
def admitBank (s : State) (core bank : Nat) (q : BankReq) : State :=
  let core := forwarded s core
  let q := { q with came := s.now }
  if mustWait s core bank || evacuating s core then holdArrival s core bank q else acceptBank s core bank q

/-- A request that a bank of the composite accepted before the role changed, on its way to the bank that performs it: a stripe's
operation, or a change. It completes before the bank leaves the scratch role (R45, step 2; R85). -/
def beforeRole (b : Bank) (q : BankReq) : Bool :=
  stripeOp b q || (q.fwd && match q.cmd with
    | .change _ => true
    | _ => false)

/-- The arrivals that wait are accepted in their order, as far as the bank takes them; while its role is changing, those that a bank of
its composite accepted before. -/
def acceptArrivals (core bank : Nat) : (fuel : Nat) → State → State
  | 0, s => s
  | n + 1, s =>
    let b := bankAt s core bank
    if evacuating s core || decide (32 ≤ b.queue.length) then s
    else
      match if roleChanging s core bank then b.net.find? (beforeRole b) else b.net.head? with
      | none => s
      | some q => acceptArrivals core bank n (acceptBank (modBank s core bank fun b => { b with net := b.net.erase q }) core bank q)

/-! ### Performing the head of the queue -/

/-- What becomes of the request at the head. -/
inductive BankAct where
  | held                                     -- it stays at the head
  | forward (core bank : Nat)                -- it goes to the bank that performs it
  | done (s : State) (r : BankResult)        -- performed
  | started (s : State)                      -- a change, a link or a command is under way
  deriving DecidableEq, Repr

/-- Lines of a plain transfer (R422). -/
def lineRange (core bank off n : Nat) : List Nat := (List.range n).map fun i => bankOff core bank off + 64 * i

/-- A BPCFG write as a fresh write (R61). -/
def configAct (s : State) (core bank : Nat) (q : BankReq) (w : Word) (keepNs : Bool) : BankAct :=
  let t := bankOf q.addr
  let p := paramsOfWord w
  if servesL1 s t.1 t.2 then .done s (.ofStatus 0)
  else if (bankAt s core bank).busy then .held
  else if !paramsOk p then .done s (.ofStatus 5)
  else if p = (bankAt s t.1 t.2).p then
    .done (modBank s t.1 t.2 fun b =>
      { b with group := w.extractLsb' 47 16, ns := if keepNs then b.ns else w.getLsbD 63 }) (.ofStatus 0)
  else .started (beginChange s core bank ⟨q, p, 0, [], false, false⟩)

/-- An atomic at an array whose line is pinned is held, whether or not it would write (R342). -/
def atomicPinned (s : State) (core bank : Nat) : BankCmd → Bool
  | .atomic off _ _ _ _ _ => (bankAt s core bank).p.pers == 0 && pinnedLine s ((bankOff core bank 0 + off) / 64)
  | _ => false

/-- The bank at which a request has its turn: changes and BPCFG writes at the head of the composite of the bank that they name, wherever
that stands by then (R61, R85). -/
def turnBank (s : State) (core bank : Nat) (q : BankReq) : Nat × Nat :=
  match q.cmd with
  | .change _ | .config _ _ => (compositeOf s (bankOf q.addr).1 (bankOf q.addr).2).headD (bankOf q.addr)
  | cmd => routeOf s core bank cmd

/-- Perform a request at the bank to which it has been routed. A change waits while the bank is BUSY with a link that names it, and so
does an atomic while its line is pinned (R81, R342). DEDUCED, log entry 28. -/
def bankPerform (s : State) (core bank : Nat) (q : BankReq) : BankAct :=
  let to_ := turnBank s core bank q
  if to_ ≠ (core, bank) then .forward to_.1 to_.2
  else
    match q.cmd with
    | .config w k => configAct s core bank q w k
    | .change w =>
      if (bankAt s core bank).busy then .held
      else if q.src = .agent then .started (beginChange s core bank ⟨q, Params.array, 0, [], false, true⟩)
      else if !changeWordOk w then .done s (.ofStatus 5)
      else .started (beginChange s core bank ⟨q, paramsOfWord w, field w.toNat 29 28, [], false, false⟩)
    | .link ls =>
      let names := ls.map linkName
      if linkNamesBad core bank ls then .done s (.ofStatus 5)
      else if (bankAt s core bank).busy || names.any fun b => (bankAt s b.1 b.2).busy then .done s (.ofStatus 4)
      else if !linkOk s core bank names then .done s (.ofStatus 5)
      else
        let s := names.foldl (fun s b => modBank s b.1 b.2 fun x => { x with busy := true }) s
        .started (beginChange s core bank ⟨q, Params.array, 0, names, true, false⟩)
    | .alu c =>
      if (bankAt s core bank).p.pers ≠ 0 ∨ !aluOk c then .done s (.ofStatus 5)
      else .started (modBank s core bank fun b => { b with alu := some ⟨q, c, 0, [], [], 0, 0⟩ })
    | .readLines off n =>
      let as := lineRange core bank off n
      if (bankAt s core bank).p.pers ≠ 0 then .done s (.ofFail .bankop 0)
      else if as.any fun a => s.sramBad.contains (a / 64) then .done s (.ofFail .poison 0)
      else .done s { BankResult.ofStatus 0 with lines := as.map (rdLine s.sram), status := none }
    | .writeLines off ls =>
      let as := lineRange core bank off ls.length
      if (bankAt s core bank).p.pers ≠ 0 then .done s (.ofFail .bankop 0)
      else if as.any fun a => pinnedLine s (a / 64) then .held
      else
        let s := (as.zip ls).foldl (fun s e =>
          markWritten { s with sram := wrNat s.sram e.1 64 e.2.toNat } (e.1 / 64) (BitVec.allOnes 64)) s
        .done s { BankResult.ofStatus 0 with status := none }
    | .vector off n =>
      let as := lineRange core bank off n
      if (bankAt s core bank).p.pers ≠ 0 then .done s (.ofStatus 5)
      else if as.any fun a => s.sramBad.contains (a / 64) then .done s (.ofFail .poison 0)
      else .done s { BankResult.ofStatus 0 with lines := as.map (rdLine s.sram) }
    | .pin _ line =>
      if (bankAt s core bank).p.pers ≠ 0 then .done s (.ofStatus 5)
      else .done s { BankResult.ofStatus 0 with value := BitVec.ofNat 512 line, status := none }
    | cmd =>
      let w := planOf s core bank cmd
      if planHeld s w || atomicPinned s core bank cmd then .held
      else if planPoisoned s w then .done s (.ofFail .poison 0)
      else
        let old := (bankAt s core bank).count
        let s := applyPlan s core bank w
        let s := if q.bad then { s with sramBad := w.wrote.foldl (fun l e => sins l e.1) s.sramBad } else s
        let s := if isLaunchQueue s core bank then modBank s core bank (noteFacts old (q.host || q.priv != 0)) else s
        .done s ⟨w.status, BitVec.ofNat 512 w.value, [], w.flags, none⟩

/-- A write to a line of the region of a BSMX in progress: it waits for the command's end (R97). So does a write to its state line, whose
m is read before the maximum pass and whose s in the last step: it comes after the step on that line. -/
def writesRegion (u : AluRun) (core bank : Nat) (q : BankReq) : Bool :=
  match q.cmd with
  | .write off _ _ _ | .vwrite off _ _ _ =>
    u.c.fn == 7 && decide (q.addr = bankOff core bank 0) &&
      (decide (u.c.off ≤ off ∧ off < u.c.off + 64 * u.c.n) || off / 64 == u.c.st / 64)
  | _ => false

/-- Between two steps of a bank ALU command, plain accesses and operand reads of other slots may pass (R97). -/
def passesAlu (u : AluRun) (core bank : Nat) (q : BankReq) : Bool :=
  q.t != u.req.t &&
    match q.cmd with
    | .read _ _ | .vread _ _ | .pin _ _ | .vector _ _ => true
    | .write _ _ _ _ | .vwrite _ _ _ _ => !writesRegion u core bank q
    | _ => false

/-- The request whose turn it is: the head of the queue. While a bank ALU command is in progress, loads and operand reads pass a BSMX's
held writes (R97), and while a stripe is changing, operations that it accepted before are performed (R85). DEDUCED, log entry 28. -/
def turnReq (s : State) (core bank : Nat) : Option BankReq :=
  let b := bankAt s core bank
  match b.chg, b.alu with
  | some u, _ => if u.isLink || decide (3 ≤ u.mode) then none else b.queue.find? (stripeOp b)
  | none, some u =>
    let held := b.queue.takeWhile fun q => writesRegion u core bank q && q.t != u.req.t
    match b.queue.drop held.length with
    | q :: _ => if passesAlu u core bank q && held.all (fun x => x.t != q.t) then some q else none
    | [] => none
  | none, none => b.queue.head?

/-- A bank of a composite that enters its core's L1 holds its further requests while its change waits at the head (R45,
R86). -/
def blockRole (s : State) (core bank : Nat) (q : BankReq) : State :=
  if q.src == .agent && q.cmd == .change 0 && roleChanging s core bank then
    modBank s core bank fun b => { b with chg := some ⟨q, Params.array, 4, [], false, true⟩ }
  else s

/-- CARVE's changes of banks that a bank no longer heads go back to the banks that they name (R45). -/
def sendBack (s : State) (core bank : Nat) : State :=
  let away := fun (q : BankReq) => q.src == .agent && q.cmd == .change 0 && bankOf q.addr != (core, bank) &&
    !(compositeOf s core bank).contains (bankOf q.addr)
  let qs := (bankAt s core bank).queue.filter away ++ (bankAt s core bank).net.filter away
  let s := modBank s core bank fun b => { b with queue := b.queue.filter fun q => !away q, net := b.net.filter fun q => !away q }
  qs.foldl (fun s q => modBank s (bankOf q.addr).1 (bankOf q.addr).2 fun b => { b with chg := none, queue := q :: b.queue }) s

/-- The kinds of request that have an event of their own: 1 a pin, 2 the vector of an MXV, 3 the front end's pop; 0 all others. -/
def turnKind (q : BankReq) : Nat :=
  match q.cmd with
  | .pin _ _ => 1
  | .vector _ _ => 2
  | .launch => 3
  | _ => 0

/-- A request has its turn: performed, sent on, or held where it is. `kind` says which kind is meant. It is performed after the cycle of
its arrival, when the order of that cycle's arrivals is known (R67). A core whose clock is gated wakes first (R490), and the source of an
evacuation keeps what it holds (R441). -/
def takeTurn (s : State) (core bank : Nat) (kind : Nat) : State :=
  let s := acceptArrivals core bank (bankAt s core bank).net.length s
  match turnReq s core bank with
  | none => s
  | some q =>
    if turnKind q != kind || decide (s.now ≤ q.came) || (coreAt s core).idle then s
    else
      let pop := fun (s : State) => modBank s core bank fun b => { b with queue := b.queue.erase q }
      if (dieAt s (dieOf core)).fenced || (servesL1 s core bank && (match q.cmd with
        | .config _ _ => false
        | _ => true)) then
        bankReply (pop s) q (.ofFail .bankop (bankDetail q))
      else
        match bankPerform s core bank q with
        | .held => s
        | .forward c k => admitBank (blockRole (pop s) core bank q) c k { q with fwd := true }
        | .done s' r => bankReply (pop s') q r
        | .started s' => pop s'

/-- BANK_OPERATION: a bank performs the request at the head of its queue (R67). -/
def execBankOperation (core bank : Nat) (s : State) : Answer := .next (takeTurn s core bank 0)

/-- PIN_ACCEPT: a pin request at the head is accepted (R412). -/
def execPinAccept (core bank : Nat) (s : State) : Answer := .next (takeTurn s core bank 1)

/-! ### Bank ALU steps (R97, R99) -/

/-- What a command that ends with a status delivers: BVSUM and BVRMAX their lanes (R96). -/
def aluValue (u : AluRun) : Line :=
  if u.c.fn = 5 ∨ u.c.fn = 6 then BitVec.ofNat 512 (packElems 32 (u.acc.map BitVec.toNat)) else 0

/-- The next line step of the command in progress; the command ends with its last step. -/
def aluTurn (s : State) (core bank : Nat) : State :=
  match (bankAt s core bank).alu with
  | none => s
  | some u =>
    let fin := fun (s : State) => modBank s core bank fun b => { b with alu := none }
    match aluStep s core bank u with
    | .held => s
    | .poison l => bankReply (fin s) u.req (.ofFail .poison l)
    | .ran s u' =>
      if u'.step = aluSteps u'.c then bankReply (fin s) u'.req ⟨some 0, aluValue u', [], u'.flags, none⟩
      else modBank s core bank fun b => { b with alu := some u' }

/-- BANK_ALU_LINE_STEP (R97). -/
def execBankAluLineStep (core bank : Nat) (s : State) : Answer := .next (aluTurn s core bank)

/-- The line step in turn writes a line: it may have been held. -/
def aluWrites (s : State) (core bank : Nat) : Bool :=
  match (bankAt s core bank).alu with
  | some u => (aluStepAt u.c u.step).wr.isSome
  | none => false

/-- HELD_WRITE_PROCEED: a held write, or a held line step, proceeds once the last pin on its line has dropped; while a line
is still pinned nothing happens (R413). -/
def execHeldWriteProceed (core bank : Nat) (s : State) : Answer :=
  .next (if aluWrites s core bank then aluTurn s core bank else takeTurn s core bank 0)

/-! ### Changes and links -/

/-- PERSONALITY_CHANGE: the mode is applied, the composite is as R85 says, BUSY clears, and the issuer has its answer; a bank
that enters an L1 waits for the end of the CARVE change (R45, R61, R77). -/
def execPersonalityChange (core bank : Nat) (s : State) : Answer :=
  .next (match (bankAt s core bank).chg with
    | none => s
    | some u =>
      let t := bankOf u.req.addr
      if u.isLink || decide (3 ≤ u.mode) || !othersDrained s core bank || !pinsAllow s t.1 t.2 u.mode then s
      else
        let fin := fun (s : State) => modBank s core bank fun b => { b with chg := none }
        if !u.carve && changePoisoned s t.1 t.2 u.mode then
          let s := (compositeOf s core bank).foldl (fun s b => modBank s b.1 b.2 fun x => { x with busy := false }) (fin s)
          bankReply s u.req (.ofFail .poison 0)
        else
          let (s, st, d) := changeNow (fin s) t.1 t.2 u.p u.mode
          let s := sendBack s core bank
          if u.carve then
            let s := modBank s t.1 t.2 fun b => { b with chg := some { u with mode := 3 } }
            carveDone s t.1
          else
            let s := match u.req.cmd with
              | .config w k => modBank s t.1 t.2 fun b =>
                  { b with group := w.extractLsb' 47 16, ns := if k then b.ns else w.getLsbD 63 }
              | _ => s
            bankReply s u.req { BankResult.ofStatus st with value := BitVec.ofNat 512 d })

/-- LINK: the conditions as they stand, and the link as one act (R81). -/
def execLink (core bank : Nat) (s : State) : Answer :=
  .next (match (bankAt s core bank).chg with
    | none => s
    | some u =>
      if !u.isLink then s
      else
        let s := ((core, bank) :: u.names).foldl (fun s b => modBank s b.1 b.2 fun x => { x with busy := false }) s
        let s := modBank s core bank fun b => { b with chg := none }
        if linkOk s core bank u.names then bankReply (linkNow s core bank u.names) u.req (.ofStatus 0)
        else bankReply s u.req (.ofStatus 5))

end Sys2Proof.Machine
end

