-- ==== Sys2Proof/Machine/Dot.lean ====
section
/-! DEFINITION. Exact sums of products with one rounding (R132, R231-R233, R235, R244, R411): what a matrix step and an MXV row
compute. -/

namespace Sys2Proof.Machine

/-- An infinity of a sign. -/
def Fp.isInf (neg : Bool) (x : Fp) : Bool := x == .inf neg

/-- A zero of negative sign. -/
def Fp.isNegZero : Fp → Bool
  | .fin n m _ => n && m == 0
  | _ => false

/-- The exponent of a finite term, or the bound so far. -/
def lowExp (u : Int) : Fp → Int
  | .fin _ _ e => min u e
  | _ => u

/-- A finite term in units of 2^u. -/
def termAt (u : Int) : Fp → Int
  | .fin n m e => scaled n m e u
  | _ => 0

/-- The exact sum of terms, with the special values of R411: NaN for a NaN term or both infinities; else an infinite term; a
zero sum is +0, but −0 under RDN or when every term is −0. -/
def sumTerms (r : Rounding) (l : List Fp) : Exact :=
  let pos := l.any (Fp.isInf false)
  let neg := l.any (Fp.isInf true)
  let fl := flagIf (l.any Fp.isSig || (pos && neg)) flagNV
  if l.any Fp.isNan || (pos && neg) then (.nan false, fl)
  else if pos then (.inf false, fl)
  else if neg then (.inf true, fl)
  else
    let u := l.foldl lowExp 0
    let t := l.foldl (fun a x => a + termAt u x) 0
    if t = 0 then (.fin (r == .rdn || l.all Fp.isNegZero) 0 u, fl) else (.fin (decide (t < 0)) t.natAbs u, fl)

/-- An accumulator plus exact products, rounded once to FP32, with the flags of the products. DEDUCED, log entry 33. -/
def dotRound (r : Rounding) (acc : Nat) (terms : List Exact) : Nat × BitVec 5 :=
  let x := sumTerms r (fmt32.read acc :: terms.map (·.1))
  let y := finish fmt32 r x
  (y.1, terms.foldl (fun f t => f ||| t.2) y.2)

/-- A product of two elements and their scales, exact; a NaN scale makes it a NaN and raises NV (R231). -/
def productX (a w sa sb : Fp) : Exact :=
  let p := mulX a w
  let q := mulX p.1 sa
  let t := mulX q.1 sb
  (t.1, p.2 ||| q.2 ||| t.2)

/-- No scale. -/
def Fp.one : Fp := .fin false 1 0

/-! ### The codebook (R232, R233) -/

/-- T[P][i]: 3 bits of the 24-bit entry. -/
def bookMagnitude (book : List Byte) (p i : Nat) : Nat := field (ofBytes ((book.drop (3 * p)).take 3)) (3 * i + 2) (3 * i)

/-- Element i of a CB8 code is negative. -/
def codeNegative (code i : Nat) : Bool :=
  if i = 7 then ((List.range 7).filter fun j => bit code (j + 1)).length % 2 == 1 else bit code (i + 1)

/-- The weight of element i of a code. A weight of 0 is +0. -/
def codeWeight (book : List Byte) (code i : Nat) : Fp :=
  let m := 2 * bookMagnitude book (field code 15 8) i + code % 2
  .fin (decide (m ≠ 0) && codeNegative code i) m (-2)

/-- The value of element k of a row of elements of a code of R229. -/
def rowElement (c row k : Nat) : Fp :=
  match floatOf c with
  | some f => f.read (row / 2 ^ (f.bits * k) % 2 ^ f.bits)
  | none => .nan false

/-- The value of weight k of a CB8 row, unscaled. -/
def rowCode (book : List Byte) (row k : Nat) : Fp := codeWeight book (row / 2 ^ (16 * (k / 8)) % 65536) (k % 8)

end Sys2Proof.Machine
end

