-- ==== Sys2Proof/Machine/Sync.lean ====
section
/-! DEFINITION. Fences (R347), barriers (R348-R355), messages (R357, R358), mailboxes (R359) and chains (R360). -/

namespace Sys2Proof.Machine

/-! ### Fences (R162, R163, R347) -/

/-- An acquire fence parks until the earlier reads have returned their values, those of queue loads and transfers too; then the drops
(R163). -/
def acquireFence (s : State) (scope : Nat) : Res :=
  if readsReturned s s.cur s.nextId then .done (acquireDrops s s.cur scope) else .park .reads s

/-- FENCE.acq (R163). -/
def execFenceAcq (m : Mark) (sc : BitVec 3) (s : State) : Answer :=
  .next (unit (.fenceAcq m sc) (fun s => acquireFence s sc.toNat) s)

/-- FENCE.rel: its slot goes on (R162). -/
def execFenceRel (m : Mark) (sc : BitVec 3) (s : State) : Answer :=
  .next (unit (.fenceRel m sc) (fun s => .done (openFence s sc.toNat)) s)

/-- FENCE.full: a release, then an acquire (R163). -/
def execFenceFull (m : Mark) (sc : BitVec 3) (s : State) : Answer :=
  .next (unit (.fenceFull m sc) (fun s => withRelease s sc.toNat fun s => acquireFence s sc.toNat) s)

/-- An act that no release fence may hold back: a message send or receive, a mailbox put or get (R162). -/
def pastFences (s : State) (k : State → Res) : Res := if fenceOpen s s.cur s.nextId then .park .fences s else k s

/-! ### Barriers (R348-R355) -/

/-- The object word of an operand: bits 63:5 must be zero (R349). -/
def barrierObj (v : Word) : Option Nat := if v.toNat < 32 then some v.toNat else none

/-- The grid of which the rider is a member. -/
def gridOf (s : State) (th : Thread) : Option Grid :=
  match th.group with
  | some (g, _) => s.grids.find? fun d => d.key == g
  | none => none

/-- The object may be used: core objects by placed riders; quad, die and package objects that the launch assigned; pod objects
that the host assigned to the context (R349, R464). -/
def barrierAssigned (s : State) (level obj : Nat) : Bool :=
  match level with
  | 0 => true
  | 4 =>
    let w := aget 0 s.pbar obj
    let ctx := (myCore s).ctxid
    w.getLsbD 63 && w.getLsbD 16 == ctxNs ctx && w.extractLsb' 0 16 == ctxAsid ctx
  | _ =>
    match gridOf s (me s) with
    | some d => (if level = 1 then d.qbar else if level = 2 then d.dbar else d.pbar).getLsbD obj
    | none => false

/-- The checks that every barrier instruction makes at issue; PERM has no R37 cause here (R349, R429). DEDUCED, log
entry 21. PERM comes before the ILL of an arrival word: DESIGN CHOICE, log entry 71. -/
def barrierCheck (s : State) (level : Nat) (w : Word) (k : Nat → Res) : Res :=
  match barrierObj w with
  | none => .fault .ill 0 0 none
  | some obj =>
    if level = 0 ∧ (me s).ss.roam then .fault .ill 0 0 none
    else if !barrierAssigned s level obj then .fault .perm 0 0 none
    else k obj

/-- A phase completes when its arrivals are in and no bytes are pending (R353). -/
def phaseDone (b : Barrier) : Barrier :=
  if b.npart != 0 && b.arrived == b.npart && b.pend == 0 then
    { b with phase := !b.phase, npart := 0, arrived := 0, err := false, hold := b.waiters != 0,
             wrote := [], left := if b.waiters = 0 then [] else b.wrote }
  else b

/-- An engine completion subtracts its bytes (R124, R354). The physical byte ranges that the command wrote stay with the
object for those who leave the phase (R127). -/
def subtractBytes (b : Barrier) (n : Nat) (rs : List (Nat × Nat)) : Barrier :=
  let b := { b with wrote := b.wrote ++ rs }
  phaseDone (if n ≤ b.pend then { b with pend := b.pend - n } else { b with pend := 0, err := true })

/-- The leased copies of the lines that hold bytes of given BLW address ranges go, in a core and in its die, under either alias
(R12, R127). DEDUCED, log entry 32. -/
def dropRanges (s : State) (core : Nat) (rs : List (Nat × Nat)) : State :=
  let hit := fun (line : Nat) =>
    match dramOff (64 * line) with
    | none => false
    | some o => rs.any fun r => decide (0x10000000000 + o < r.1 + r.2 ∧ r.1 < 0x10000000000 + o + 64)
  let s := modCore s core fun k => { k with l1 := k.l1.filter fun e => e.2.st != .leased || !hit e.1 }
  ((dieAt s (dieOf core)).l2.filter fun e => e.2.st == .leased && hit e.1).foldl
    (fun s e => dropBase s (dieOf core) (64 * e.1)) s

/-- The act of leaving a completed phase: the thread observes it, and drops what the phase's engine commands wrote; the acquire fence
follows (R127, R176, R352). -/
def leaveCompleted (s : State) (t : ThreadRef) (level obj : Nat) : State :=
  let b := barrierAt s t.core level obj
  let s := setBarrier s t.core level obj (observe b)
  let s := modThread s t fun th => { th with regs := th.regs.filter fun x => x.level != level }
  dropRanges s t.core b.left

/-- A thread that is parked at an object, neither suspended nor frozen: the predicate that its instruction names, when the phase in which
it arrived has completed. A stopped one leaves once it is resumed (R183). -/
def leavesNow (s : State) (t : ThreadRef) (level obj : Nat) : Option Nat :=
  let th := threadAt s t
  match th.run with
  | .parked (.barrier l o d) =>
    if !th.susp && !th.froz && l == level && o == obj && th.regs.any (fun r => r.level == level && r.obj == obj && (barrierAt s t.core level obj).phase != r.phase)
    then some d else none
  | _ => none

/-- A registered thread that is parked in BARW or BAR leaves: its instruction is complete, or waits in its acquire fence for the reads
before it (R163, R351, R353). -/
def leavesParked (s : State) (t : ThreadRef) (level obj : Nat) : State :=
  match leavesNow s t level obj with
  | none => s
  | some d =>
    let s1 := putQ { leaveCompleted s t level obj with cur := t } d true
    if !readsReturned s1 t s1.nextId then
      { modMe s1 (fun th => { th with prog := .leaving, run := .parked .reads }) with cur := s.cur }
    else
      let s2 := popChain (modMe (acquireDrops s1 t level) fun th => { th with prog := .none, run := .ready }) 0
      { modMe (countIssue s2 t) (fun th => suspendAsked (advance th)) with cur := s.cur }

/-- An object changes; where that completes its phase, every registered thread that is parked there leaves in the same act (R353). -/
def changeBarrier (s : State) (core level obj : Nat) (b : Barrier) : State :=
  let s := setBarrier s core level obj b
  (s.cores.flatMap fun e => e.2.threads.map fun x => ofTid e.1 x.1).foldl (fun s t => leavesParked s t level obj) s

/-- The registration of a thread at a level (R350). -/
def registrationAt (th : Thread) (level : Nat) : Option Registration := th.regs.find? fun r => r.level == level

/-- An arrival is refused (R351). -/
def arrivalRefused (b : Barrier) (th : Thread) (level : Nat) (nowait : Bool) : Bool :=
  b.hold || (b.npart != 0 && b.arrived == b.npart) || (!nowait && (registrationAt th level).isSome)

/-- The arrival itself, with its registration (R351). -/
def makeArrival (s : State) (level obj count : Nat) (nowait : Bool) : State :=
  let c := s.cur.core
  let b := barrierAt s c level obj
  let b' := { b with npart := if b.npart = 0 then count else b.npart, arrived := b.arrived + 1,
                     waiters := if nowait then b.waiters else b.waiters + 1 }
  let s := if nowait then s
    else modMe s fun th => { th with regs := th.regs ++ [⟨level, obj, b.phase⟩] }
  changeBarrier s c level obj (phaseDone b')

/-- The arrival word: a count of 1 to 65,535, NOWAIT, nothing else (R349). -/
def arrivalWord (v : Word) : Option (Nat × Bool) :=
  let n := v.toNat
  if field n 31 16 + field n 63 33 = 0 ∧ n % 65536 ≠ 0 then some (n % 65536, bit n 32) else none

/-- The acquire fence with which a thread leaves a phase (R163, R352). -/
def phaseFence (s : State) (level : Nat) : Res :=
  if readsReturned s s.cur s.nextId then .done (acquireDrops (modMe s fun th => { th with prog := .none }) s.cur level)
  else .park .reads s

/-- Leaving a phase: BARW's second half. A thread without the registration does not wait (R352). -/
def leavePhase (s : State) (level obj : Nat) (q : Nat) : Res :=
  if (me s).prog == .leaving then phaseFence s level
  else
    match (me s).regs.find? fun r => r.level == level && r.obj == obj with
    | none => phaseFence (putQ s q false) level
    | some r =>
      if (barrierAt s s.cur.core level obj).phase == r.phase then .park (.barrier level obj q) s
      else phaseFence (modMe (putQ (leaveCompleted s s.cur level obj) q true) fun th => { th with prog := .leaving }) level

/-- An arrival of BAR or BARA (R351). A BAR goes on as a BARW, marker steps included: it parks, and leaves in an act of its own even where
its arrival has completed the phase, so that HOLD may be seen until then (R351, R353, R485). DEDUCED, log entry 69. -/
def arrive (s : State) (level obj count q : Nat) (nowait wait : Bool) : Res :=
  if arrivalRefused (barrierAt s s.cur.core level obj) (me s) level nowait then .done (putQ s q false)
  else
    withRelease s level fun s =>
      let s := putQ (makeArrival s level obj count nowait) q true
      if !wait then .done s
      else
        let s := modMe s fun th => { th with prog := .arrived }
        .park (if (me s).outs.isEmpty then .barrier level obj q else .marker) s

/-- BAR (R351). -/
def execBar (m : Mark) (d a b : Reg) (sc : BitVec 3) (s : State) : Answer :=
  let i := Instr.bar m d a b sc
  .next (unit i (fun s =>
    barrierCheck s sc.toNat (srcG s i .a a.toNat) fun obj =>
      match arrivalWord (srcG s i .b b.toNat) with
      | none | some (_, true) => .fault .ill 0 0 none
      | some (n, false) =>
        if (me s).prog == .arrived || (me s).prog == .leaving then
          if (me s).outs.isEmpty then leavePhase s sc.toNat obj d.toNat else .park .marker s
        else arrive s sc.toNat obj n d.toNat false true) s)

/-- BARA (R351). -/
def execBara (m : Mark) (d a b : Reg) (sc : BitVec 3) (s : State) : Answer :=
  let i := Instr.bara m d a b sc
  .next (unit i (fun s =>
    barrierCheck s sc.toNat (srcG s i .a a.toNat) fun obj =>
      match arrivalWord (srcG s i .b b.toNat) with
      | none => .fault .ill 0 0 none
      | some (n, nowait) => arrive s sc.toNat obj n d.toNat nowait false) s)

/-- BARW (R352). -/
def execBarw (m : Mark) (d a : Reg) (sc : BitVec 3) (s : State) : Answer :=
  let i := Instr.barw m d a sc
  .next (unit i (fun s =>
    barrierCheck s sc.toNat (srcG s i .a a.toNat) fun obj => leavePhase s sc.toNat obj d.toNat) s)

/-- BARX (R354). -/
def execBarx (m : Mark) (d a b : Reg) (sc : BitVec 3) (s : State) : Answer :=
  let i := Instr.barx m d a b sc
  .next (unit i (fun s =>
    barrierCheck s sc.toNat (srcG s i .a a.toNat) fun obj =>
      let n := (srcG s i .b b.toNat).toNat
      if n = 0 ∨ 2 ^ 24 ≤ n then .fault .ill 0 0 none
      else
        let x := barrierAt s s.cur.core sc.toNat obj
        if x.hold || decide (2 ^ 24 ≤ x.pend + n) then .done (putQ s d.toNat false)
        else .done (putQ (setBarrier s s.cur.core sc.toNat obj { x with pend := x.pend + n }) d.toNat true)) s)

/-- The state word of an object (R355). -/
def barrierWord (b : Barrier) : Word :=
  word (b01 b.phase * 2 ^ 63 + b01 b.err * 2 ^ 62 + b01 b.hold * 2 ^ 61 + b.pend * 2 ^ 32 + b.npart * 2 ^ 16 + b.arrived)

/-- BARQ (R355). -/
def execBarq (m : Mark) (d a : Reg) (sc : BitVec 3) (s : State) : Answer :=
  let i := Instr.barq m d a sc
  .next (unit i (fun s =>
    barrierCheck s sc.toNat (srcG s i .a a.toNat) fun obj =>
      .done (putG s d (barrierWord (barrierAt s s.cur.core sc.toNat obj)))) s)

/-! ### Messages (R357, R358, R200) -/

/-- SEND: the offer, the wait for the answer, and the answer (R357). An answer of 3 is a FULL that the blocking form offers
again. -/
def execSend (m : Mark) (d a b : Reg) (md : BitVec 1) (s : State) : Answer :=
  let i := Instr.send m d a b md
  .next (unit i (fun s =>
    match (me s).prog with
    | .answered v => .done (putG (modMe s fun th => { th with prog := .none }) d (word v))
    | .asked _ => .park .answer s
    | _ =>
      let dst := (srcG s i .a a.toNat).toNat
      if field dst 63 42 ≠ 0 then .fault .ill 0 0 none
      else pastFences s fun s =>
        let msg : Msg := { Msg.plain (srcG s i .b b.toNat) (srcG s i .b (b.toNat + 1)) (BitVec.ofNat 32 dst) false with
          src := some s.cur, try_ := md == 1, ctx := (myCore s).ctxid, id := s.nextId }
        let s := modMe (fresh s).2 fun th => { th with prog := .asked msg.id }
        .park .answer (deliver s (field dst 41 32) msg)) s)

/-- A message for the executing rider waits. -/
def hasMessage (s : State) : Bool := (myCore s).msgs.any fun m => m.tag == (me s).rid

/-- RECV (R358). -/
def execRecv (m : Mark) (d : Reg) (s : State) : Answer :=
  let i := Instr.recv m d
  .next (unit i (fun s => pastFences s fun s =>
    let r := dstNum s .d d.toNat
    let give := fun (s : State) (x y : Word) (st : BitVec 3) =>
      modMe (writeG (writeG s r x) (r + 1) y) fun th => commitBst th st
    match (myCore s).msgs.find? fun m => m.tag == (me s).rid with
    | none => .done (give s 0 0 2)
    | some msg =>
      let s := modCore s s.cur.core fun k => { k with msgs := k.msgs.erase msg }
      .done (give (dropRanges s s.cur.core msg.lines) msg.w0 msg.w1 0)) s)

/-- WAITM (R200). -/
def execWaitm (m : Mark) (s : State) : Answer :=
  .next (unit (.waitm m) (fun s => if hasMessage s then .done s else .park .message s) s)

/-! ### Mailboxes (R119, R359) -/

/-- The threads that wait at a mailbox and may be served, in the order they parked (R119). -/
def mailWaiters (s : State) (core n : Nat) (put : Bool) : List Nat :=
  ((coreAt s core).mwait.filter fun w =>
    w.1 == n && w.2.1 == put &&
      let th := threadAt s (ofTid core w.2.2)
      (th.run == .parked (.mailbox n put) || th.run == .ready) && th.prog == .asked 0 && !th.susp && !th.froz).map (·.2.2)

/-- The mailbox can take a put, or give a value. -/
def mailFree (s : State) (core n : Nat) (put : Bool) : Bool := put != (coreAt s core).mfull.contains n

/-- It is the thread's turn: the mailbox is free for it and nobody parked before it. -/
def mailTurn (s : State) (t : ThreadRef) (n : Nat) (put : Bool) : Bool :=
  mailFree s t.core n put && ((mailWaiters s t.core n put).head?.getD (tid t) == tid t)

/-- The thread leaves the waiters. -/
def mailServed (s : State) (t : ThreadRef) : State :=
  modThread (modCore s t.core fun k => { k with mwait := k.mwait.filter fun w => w.2.2 != tid t }) t fun th =>
    { th with prog := .none }

/-- The thread joins the waiters, once. -/
def mailJoin (s : State) (t : ThreadRef) (n : Nat) (put : Bool) : State :=
  let s := modThread s t fun th => { th with prog := .asked 0 }
  modCore s t.core fun k => if k.mwait.any fun w => w.2.2 == tid t then k else { k with mwait := k.mwait ++ [(n, put, tid t)] }

/-- MBPUT: d is the mailbox, b the predicate of the `.try` form (R359). -/
def execMbput (m : Mark) (d a b : Reg) (md : BitVec 1) (s : State) : Answer :=
  let i := Instr.mbput m d a b md
  .next (unit i (fun s => pastFences s fun s =>
    let n := d.toNat
    let put := fun (s : State) => modCore (mailServed s s.cur) s.cur.core fun k =>
      { k with mbox := aset 0 k.mbox n (srcG s i .a a.toNat), mfull := sins k.mfull n }
    if mailTurn s s.cur n true then
      .done (if md = 1 then putQ (put s) b.toNat true else put s)
    else if md = 1 then .done (putQ s b.toNat false)
    else .park (.mailbox n true) (mailJoin s s.cur n true)) s)

/-- MBGET: a is the mailbox (R359). -/
def execMbget (m : Mark) (d a b : Reg) (md : BitVec 1) (s : State) : Answer :=
  let i := Instr.mbget m d a b md
  .next (unit i (fun s => pastFences s fun s =>
    let n := a.toNat
    let v := aget 0 (myCore s).mbox n
    let take := fun (s : State) => putG (modCore (mailServed s s.cur) s.cur.core fun k => { k with mfull := sdel k.mfull n }) d v
    if mailTurn s s.cur n false then
      .done (if md = 1 then putQ (take s) b.toNat true else take s)
    else if md = 1 then .done (putQ (putG s d 0) b.toNat false)
    else .park (.mailbox n false) (mailJoin s s.cur n false)) s)

/-! ### Chains (R360) -/

/-- CHAIN.set (R360). -/
def execChainSet (m : Mark) (a : Reg) (s : State) : Answer :=
  let i := Instr.chainSet m a
  .next (unit i (fun s =>
    let v := (srcG s i .a a.toNat).toNat
    let up := bit v 0
    let dn := bit v 1
    if 4 ≤ v ∨ ((up || dn) ∧ (me s).ss.roam) ∨ (dn ∧ s.cur.core % 256 = 255) then .fault .ill 0 0 none
    else .done (modMe s fun th => { th with ss := { th.ss with up := up, dn := dn, anch := th.ss.anch || up || dn } })) s)

/-- CHAIN.rel: a release at die scope, then a push (R360). -/
def execChainRel (m : Mark) (a : Reg) (s : State) : Answer :=
  let i := Instr.chainRel m a
  .next (unit i (fun s =>
    if !(me s).ss.dn then .fault .ill 0 0 none
    else
      let v := srcG s i .a a.toNat
      withRelease s 2 fun s =>
        let c := chainTarget s
        if !mayPush s s.cur then .park .chainPush s
        else .done (modCore s c fun k => { k with chain := k.chain ++ [v] })) s)

/-- CHAIN.acq: a pop, then an acquire fence at die scope, which waits for the reads before it (R163, R360). -/
def execChainAcq (m : Mark) (d : Reg) (s : State) : Answer :=
  let i := Instr.chainAcq m d
  .next (unit i (fun s =>
    if !(me s).ss.up || d == 28 then .fault .ill 0 0 none
    else
      if (me s).prog == .leaving then phaseFence s 2
      else
        match popOne s with
        | none => .park (.chainPop 1) s
        | some (v, s) => phaseFence (modMe (putG s d v) fun th => { th with prog := .leaving }) 2) s)

end Sys2Proof.Machine
end

