-- ==== Sys2Proof/Machine/Messages.lean ====
section
/-! DEFINITION. Message queues at work (R199-R202, R223, R357): insertion, answers and retries. -/

namespace Sys2Proof.Machine

/-- A core's queue has room: 64 entries for kernel events and fault messages, 60 in use for all others (R199).
DEDUCED, log entry 32. -/
def queueRoom (k : Core) (system : Bool) : Bool := decide (k.msgs.length < if system then 64 else 60)

/-- A message is inserted: one for an ended rider is discarded; one for a saved rider sends WAKE, unless one is pending
(R201, R223). -/
def insertMessage (s : State) (core : Nat) (m : Msg) : State :=
  if s.ended.contains m.tag.toNat then s
  else
    let s := modCore s core fun k => { k with msgs := k.msgs ++ [m], inserted := s.now }
    let k := coreAt s core
    if srtHolds k m.tag && !k.wake.contains m.tag then
      sendEvent (modCore s core fun k => { k with wake := k.wake ++ [m.tag] }) core 0x51 0 m.tag (word m.tag.toNat)
    else s

/-- The answer to a message's sender, if that still waits for this one. DEDUCED, log entry 32. -/
def answerSender (s : State) (m : Msg) (v : Nat) : State :=
  match m.src with
  | none => s
  | some t => modThread s t fun th =>
      if th.run == .parked .answer && th.prog == .asked m.id then { th with prog := .answered v } else th

/-- A message from the network interface: MISMATCH at a core of another context or of a fenced die, FULL when the queue is,
which a blocking SEND will offer again, or its insertion (R357, R443). -/
def takeSent (s : State) (core : Nat) (m : Msg) : State :=
  let k := coreAt s core
  if m.src.isSome && (k.ctxid != m.ctx || (dieAt s (dieOf core)).fenced) then answerSender s m 2
  else if !queueRoom k m.system then answerSender s m (if m.try_ then 1 else 3)
  else answerSender (insertMessage s core m) m 0

/-- MESSAGE_INSERT: the first event or fault message that waits in the core enters when there is room; otherwise the first
message in the network interface has its turn, once its cycle is over, so that all that arrive in one cycle are in order. One message is
inserted in a cycle (R199, R201). A core whose clock is gated wakes first (R490). -/
def execMessageInsert (core : Nat) (s : State) : Answer :=
  .next (
    let k := coreAt s core
    if k.idle || decide (s.now ≤ k.inserted) then s
    else
    match k.evq, k.ni.takeWhile fun m => decide (m.came < s.now) with
    | m :: rest, ni =>
      if queueRoom k true then insertMessage (modCore s core fun k => { k with evq := rest }) core m
      else
        match ni with
        | [] => s
        | x :: _ => takeSent (modCore s core fun k => { k with ni := k.ni.drop 1 }) core x
    | [], x :: _ => takeSent (modCore s core fun k => { k with ni := k.ni.drop 1 }) core x
    | [], [] => s)

/-- SEND_ANSWER: the answer reaches the sender, which issues its unit again to deliver it; a FULL of the blocking form is no
answer yet (R357). -/
def execSendAnswer (t : ThreadRef) (s : State) : Answer :=
  .next (match (threadAt s t).run, (threadAt s t).prog with
    | .parked .answer, .answered v => if v = 3 then s else modThread s t fun th => { th with run := .ready }
    | _, _ => s)

/-- SEND_RETRY: the blocking form offers its message again (R357). -/
def execSendRetry (t : ThreadRef) (s : State) : Answer :=
  .next (match (threadAt s t).run, (threadAt s t).prog with
    | .parked .answer, .answered 3 => modThread s t fun th => { th with run := .ready, prog := .none }
    | _, _ => s)

end Sys2Proof.Machine
end

