-- ==== Sys2Proof/Machine/System.lean ====
section
/-! DEFINITION. System instructions: NOP, breakpoints, traps (R314-R317), system registers (R318-R320), translation invalidation
(R33), and slot control (R321-R325). CTXKILL stands with the kill (Kill.lean). -/

namespace Sys2Proof.Machine

/-- NOP performs its marker steps and nothing else (R314). -/
def execNop (s : State) : Answer := .next (unit .nop (fun s => .done s) s)

/-- BRK freezes its slot precisely, with the code in the packet (R315). -/
def execBrk (m : Mark) (c : BitVec 10) (s : State) : Answer :=
  .next (unit (.brk m c) (fun _ => .fault .brk 0 c.toNat none) s)

/-- TRAP (R316). -/
def execTrap (m : Mark) (c : BitVec 8) (s : State) : Answer :=
  .next (unit (.trap m c) (fun s =>
    if !(myCore s).tvec.getLsbD 0 then .fault .priv 0 0 none
    else if (me s).ss.priv = 3 then .fault .ill 0 0 none
    else
      let r := takeTrap s (nextUnit (me s)) c.toNat
      .jump r.1 r.2) s)

/-- ERET (R317). -/
def execEret (m : Mark) (s : State) : Answer :=
  .next (unit (.eret m) (fun s =>
    let p := (me s).ss.priv
    let q := (rdG (me s) 24).toNat % 4
    if p = 0 then .fault .priv 0 0 none
    else if q = 3 then .fault .ill 0 0 none
    else if p.toNat < q then .fault .priv 0 0 none
    else
      let r := leaveTrap s
      .jump r.1 r.2) s)

/-! ### System registers (R318) -/

/-- The kernel slot or supervisor privilege: right KS (R318, R321). -/
def isKS (s : State) : Bool := isKernelSlot s s.cur || (me s).ss.priv == 2

/-- Rights of a register: 0 U, 1 K, 2 KS, 3 S, 4 none. -/
def mayRead (n : Nat) : Nat :=
  if n ≤ 4 then 0 else if n = 0x16 then 4 else if n = 0x15 ∨ 0x20 ≤ n then 2 else 1
def mayWrite (n : Nat) : Nat :=
  if n = 0 then 0
  else if n = 1 ∨ n = 2 ∨ n = 4 then 4
  else if n = 3 ∨ n = 0x10 ∨ n = 0x14 then 3
  else if n = 0x08 ∨ n = 0x15 ∨ 0x20 ≤ n then 2 else 1

/-- The issuer holds a right. -/
def holdsRight (s : State) (r : Nat) : Bool :=
  match r with
  | 0 | 4 => true
  | 1 => (me s).ss.priv != 0
  | 2 => isKS s
  | _ => (me s).ss.priv == 2

/-- The offset in the core's block of a system register's number (R18, R318). -/
def blockOffset (n : Nat) : Nat :=
  if n = 0x08 then 0x28
  else if n = 0x10 then 0x18
  else if n = 0x11 then 0x00
  else if n = 0x12 then 0x08
  else if n = 0x13 then 0x10
  else if n = 0x14 then 0x20
  else if n < 0x40 then 0x100 + 8 * (n - 0x20)
  else 0x200 + 8 * (n - 0x40)

/-- cid (R318). -/
def cidWord (t : ThreadRef) : Word := word (t.core + t.slot * 2 ^ 10 + b01 (isArith t) * 2 ^ 13)

/-- The value that RDSYS delivers. -/
def sysRead (s : State) (n : Nat) : Word :=
  let th := me s
  if n = 0 then statusWord th
  else if n = 1 then word (th.gid.toNat * 2 ^ 32 + th.rid.toNat)
  else if n = 2 then cidWord s.cur
  else if n = 3 then word s.now + (myCore s).cycleOff
  else if n = 4 then word (aget 0 (myCore s).qntm s.cur.slot).toNat
  else if n = 0x15 then vpoolWord s (quadOf s.cur.core)
  else if n = 0x16 then 0
  else coreRegRead s s.cur.core (blockOffset n)

/-- RDSYS (R318). -/
def execRdsys (m : Mark) (d : Reg) (n : BitVec 10) (s : State) : Answer :=
  .next (unit (.rdsys m d n) (fun s =>
    if !holdsRight s (mayRead n.toNat) then .fault .priv 0 0 none
    else .done (putG s d (sysRead s n.toNat))) s)

/-- A write of ss: pw, RND, flags and BST, and PRX above user privilege (R319). -/
def writeStatus (th : Thread) (v : Word) : Thread :=
  let x := statusOfWord v
  { th with pw := v.extractLsb' 0 32,
            ss := { th.ss with rnd := x.rnd, flags := x.flags, bst := x.bst,
                               prx := if th.ss.priv = 0 then th.ss.prx else x.prx } }

/-! ### XINV (R33) -/

/-- The leaves that a value of XINV names: by page, by ASID, all but global ones, all. -/
def xinvNames (v : Word) (l : Leaf) : Bool :=
  let n := v.toNat
  let glb := bit l.entry.toNat 7
  let same := l.asid.toNat == field n 23 8
  let page := field n 63 24 * 65536
  match n % 4 with
  | 0 => (same || glb) && decide (l.vbase ≤ page) && decide (page < l.vbase + l.size)
  | 1 => !glb && same
  | 2 => !glb
  | _ => true

/-- The cores and quads of its scope, for a writer on a core. -/
def xinvCores (v : Word) (core c : Nat) : Bool :=
  match field v.toNat 3 2 with
  | 0 => c == core | 1 => quadOf c == quadOf core | 2 => dieOf c == dieOf core | _ => true
def xinvQuads (v : Word) (core q : Nat) : Bool :=
  match field v.toNat 3 2 with
  | 0 | 1 => q == quadOf core | 2 => q / 64 == dieOf core | _ => true

/-- An access has translated one of its lines through a leaf: its own, or one of a transfer's (R422, R423). -/
def wentThrough (l : Leaf) (a : Access) : Bool :=
  (List.range (max 1 a.pas.length)).any fun i => leafMatches l (ctxAsid a.ctx) (a.va + 64 * i)

/-- The virtual addresses of a step's rows: the sources, then the destination. -/
def stepVas (c : Cmd) (i : Nat) : List Nat := (c.srcs ++ [c.d]).map fun a => (a.toNat + 1024 * i) % 2 ^ 64

/-- The steps of a command that have been sent and have not ended, in the sequencers and the copy engines. -/
def sentSteps (s : State) (core n : Nat) : List RowStep :=
  s.qdies.flatMap fun e =>
    (e.2.rows ++ e.2.turns.filterMap fun x => x.row).filter fun r => r.core == core && r.cmd == n

/-- A row step was translated through a leaf. -/
def stepThrough (s : State) (l : Leaf) (r : RowStep) : Bool :=
  match cmdAt s r.core r.cmd with
  | some c => (stepVas c r.step).any (leafMatches l (ctxAsid c.ctx))
  | none => false

/-- The drop of every matching leaf; the writer then waits for the accesses and row steps of the scope that translated through one of
them. A dropped leaf whose DTY a walker was to set is walked from the root instead (R34).
A walk is one act in this model, so none is ever in flight (DESIGN CHOICE, log entry 16). -/
def xinvBegin (s : State) (t : ThreadRef) (v : Word) : State :=
  let gone := (s.cores.filter fun e => xinvCores v t.core e.1).flatMap (fun e => e.2.tlb.filter (xinvNames v)) ++
    (s.quads.filter fun e => xinvQuads v t.core e.1).flatMap (fun e => e.2.tlb.filter (xinvNames v))
  let waits := (s.inflight.filter fun a =>
    xinvCores v t.core a.t.core && !performed a && a.stage != .coal && a.kind != .writeBack &&
      gone.any fun l => wentThrough l a).map (·.id)
  let rows := (s.qdies.flatMap fun e => e.2.rows ++ e.2.turns.filterMap fun x => x.row).filter fun r =>
    xinvCores v t.core r.core && gone.any fun l => stepThrough s l r
  let s := dropLeaves s (xinvCores v t.core) (xinvQuads v t.core) (xinvNames v)
  let forget := fun (e : Coal) => { e with leaf := e.leaf.filter fun l => !xinvNames v l }
  let s := (List.range 4).foldl (fun s d =>
    if d = dieOf t.core ∨ v.toNat / 4 % 4 = 3 then
      modDie s d fun x => { x with coal := x.coal.map forget, coalWait := x.coalWait.map forget }
    else s) s
  { s with xinvs := s.xinvs ++ [⟨t, v, waits, rows⟩] }

/-- The accesses that a write of XINV waits for have been performed. -/
def xinvReady (s : State) (x : Xinv) : Bool :=
  (x.waits.all fun id => match accessAt s id with
    | some a => performed a
    | none => true) && x.rows.all fun r => !(sentSteps s r.core r.cmd).contains r

/-! ### WRSYS -/

/-- A write that may take its time: the writer waits until it has ended. -/
def writeAndWait (s : State) (f : State → BankSrc → State) : Res :=
  let (id, s) := fresh s
  let s := f (modMe s fun th => { th with prog := .asked id }) (.writer s.cur id)
  if (me s).prog == .none then .done s else .wait .change s

/-- WRSYS (R318-R320). -/
def execWrsys (m : Mark) (d : Reg) (n : BitVec 10) (s : State) : Answer :=
  let i := Instr.wrsys m d n
  .next (unit i (fun s =>
    let k := n.toNat
    let v := srcG s i .d d.toNat
    let c := s.cur.core
    if !holdsRight s (mayWrite k) then .fault .priv 0 0 none
    else if mayWrite k = 4 then .done s
    else if k = 0 then .done (modMe s fun th => writeStatus th v)
    else if k = 3 then .done (modCore s c fun x => { x with cycleOff := v - word s.now })
    else if k = 0x10 then
      if !ctxidAllowed s c (agentNs s c) v then .fault .world 12 0 none else .done (ctxidSet s c v)
    else if k = 0x11 then writeAndWait s fun s w => carveWrite s c v.toNat w
    else if k = 0x15 then .done (vpoolSet s (quadOf c) v.toNat)
    else if k = 0x16 then .wait .xinv (xinvBegin s s.cur v)
    else if 0x20 ≤ k ∧ k < 0x40 then
      writeAndWait s fun s w => bpcfgWrite s c (k - 0x20) v (!agentNs s c) w
    else if 0x40 ≤ k then .done (srtSet s c (k - 0x40) v)
    else .done (coreRegSet s c (blockOffset k) v)) s)

/-! ### Slot control (R321-R325) -/

/-- The thread that an operand names, when its bits are legal and it is not the issuer (R321). -/
def namedSlot (s : State) (v : Nat) (sel : Bool) : Option ThreadRef :=
  let slot := v % 8
  let th := v / 8 % 2
  let t : ThreadRef := ⟨s.cur.core, slot, th⟩
  let rest := if sel then field v 7 4 + field v 63 16 else field v 63 4
  if rest ≠ 0 ∨ (slot ≠ 7 ∧ th = 1) ∨ t = s.cur then none else some t

/-- A selector exists (R324). -/
def selOk (sel : Nat) : Bool := decide (sel ≤ 35) || sel == 40 || sel == 41

/-- The privilege and operand checks of slot control, in this order. DEDUCED, log entry 25. -/
def slotControl (s : State) (v : Nat) (sel : Bool) (k : ThreadRef → Res) : Res :=
  if !isKS s then .fault .priv 0 0 none
  else
    match namedSlot s v sel with
    | none => .fault .ill 0 0 none
    | some t => if sel && !selOk (field v 15 8) then .fault .ill 0 0 none else k t

/-- SUSP (R322). -/
def execSusp (m : Mark) (a : Reg) (s : State) : Answer :=
  let i := Instr.susp m a
  .next (unit i (fun s => slotControl s (srcG s i .a a.toNat).toNat false fun t => .done (suspendSlot s t)) s)

/-- RESM (R322). -/
def execResm (m : Mark) (a : Reg) (s : State) : Answer :=
  let i := Instr.resm m a
  .next (unit i (fun s => slotControl s (srcG s i .a a.toNat).toNat false fun t => .done (resumeSlot s t)) s)

/-- The target is suspended first, and the unit waits until it is settled, both threads of slot 7 (R323). -/
def whenSettled (s : State) (t : ThreadRef) (k : State → Res) : Res :=
  let s := stopSlot s t
  if settledSlot s t then k s else .park (.settle t.slot t.th) s

/-- What RDSLOT reads (R324). -/
def slotRead (s : State) (t : ThreadRef) (sel : Nat) : Word :=
  let th := threadAt s t
  if th.run = .free then 0
  else if sel = 40 then word (aget 0 (coreAt s t.core).qntm t.slot).toNat
  else if sel = 41 then word (stateCode th)
  else recordWord th sel

/-- RDSLOT (R324). -/
def execRdslot (m : Mark) (d a : Reg) (s : State) : Answer :=
  let i := Instr.rdslot m d a
  .next (unit i (fun s =>
    let v := (srcG s i .a a.toNat).toNat
    slotControl s v true fun t =>
      whenSettled s t fun s => .done (putG s d (slotRead s t (field v 15 8)))) s)

/-- What WRSLOT writes (R324, R325). -/
def slotWrite (s : State) (t : ThreadRef) (sel : Nat) (v : Word) : State :=
  let th := threadAt s t
  if th.run = .free then s
  else if sel = 40 then modCore s t.core fun k => { k with qntm := aset 0 k.qntm t.slot (v.extractLsb' 0 32) }
  else if sel = 41 then if v = 0 ∧ suspendedSlot s t then evictSlot s t else s
  else writeRecordWord s t sel v (me s).ss.priv

/-- WRSLOT (R324). -/
def execWrslot (m : Mark) (d a : Reg) (s : State) : Answer :=
  let i := Instr.wrslot m d a
  .next (unit i (fun s =>
    let v := (srcG s i .a a.toNat).toNat
    let x := srcG s i .d d.toNat
    slotControl s v true fun t =>
      whenSettled s t fun s => .done (slotWrite s t (field v 15 8) x)) s)

end Sys2Proof.Machine
end

