-- ==== Sys2Proof/Machine/Walk.lean ====
section
/-! DEFINITION. Walkers and the coalescing table at work (R24, R30, R31, R35-R40): TABLE_WALK, REPLAY, FAULT; and the
translation of accesses that walk on their own. -/

namespace Sys2Proof.Machine

/-- A table entry as a walker reads it at its home: the cause where the read fails (R31, R446, R458). -/
def readEntry (s : State) (ns : Bool) (a : Nat) : Except Nat Nat :=
  match dramOff a with
  | none => .error 6
  | some o =>
    if ns && secureLine s (o / 64) then .error 12
    else if linePoison s (o / 64) then .error 5
    else .ok (lineBytes (homeValue s (o / 64)) (o % 64) 8)

/-- Every home that a walk reads at serves it, with its owned words recalled; or the first that does not. -/
def homesReady (s : State) (who : Asker) (ns : Bool) : List Nat → Ready
  | [] => .yes s
  | a :: r =>
    match dramOff a with
    | none => homesReady s who ns r
    | some o =>
      match homeReady s (o / 64) who false ns with
      | .yes s => homesReady (engineRead s (o / 64) (wordsTouched (o % 64) 8)).2 who ns r
      | x => x

/-- How a walk ends. -/
inductive WalkEnd where
  | later (s : State)
  | leaf (s : State) (l : Leaf)
  | fail (s : State) (cause : Nat)
  deriving DecidableEq, Repr

/-- An entry of 8 bytes written at its home by a walker's compare-and-swap (R30). -/
def writeEntry (s : State) (loc v : Nat) : State :=
  let o := (dramOff loc).getD 0
  engineWrite s (o / 64) (BitVec.ofNat 64 (255 * 2 ^ (o % 64))) (BitVec.ofNat 512 (v * 2 ^ (8 * (o % 64))))

/-- A walk: the entries as their homes have them once owned words are recalled (R31); ACC is set in the leaf, and DTY where `dirty` says
so of the entry, each by a compare-and-swap that the walk's one act cannot lose (R30; DESIGN CHOICE, log entry 16). -/
def walkNow (s : State) (who : Asker) (ctx : Word) (va : Nat) (dirty : Nat → Nat → Bool) : WalkEnd :=
  let ns := ctxNs ctx
  let locs := walkLocs (readEntry s ns) va 5 0 (ctxRoot ctx * 65536)
  if ns && locs.any fun a => secureLine s (homeLine a) then .fail s 12
  else
    match homesReady s who ns locs with
    | .wait s => .later s
    | .fail s _ c => .fail s c
    | .yes s =>
      let s := answersUsed s (locs.map homeLine) who
      match walkTables (readEntry s ns) (ctxRoot ctx) va with
      | .fail c => .fail s c
      | .leaf e level loc =>
        let size := 2 ^ pageBits level
        let base := va / size * size
        let raw : Leaf := ⟨ctxAsid ctx, base, size, word e, loc⟩
        let e1 := e ||| 2 ^ 8 ||| (if dirty e (leafPa raw va) then 2 ^ 9 else 0)
        .leaf (if e1 = e then s else writeEntry s loc e1) { raw with entry := word e1 }

/-- How the setting of DTY in a buffered leaf ends. -/
inductive DirtyEnd where
  | later (s : State)
  | leaf (s : State) (l : Leaf)
  | changed (s : State)
  deriving DecidableEq, Repr

/-- DTY of a buffered leaf: a compare-and-swap of the whole entry at its home against the buffered value; an entry that has changed, or
that can no longer be read, is no longer that leaf (R30). -/
def setDirty (s : State) (who : Asker) (ns : Bool) (l : Leaf) : DirtyEnd :=
  match homesReady s who ns [l.loc] with
  | .wait s => .later s
  | .fail s _ _ => .changed s
  | .yes s =>
    let s := answerUsed s (homeLine l.loc) who
    match readEntry s ns l.loc with
    | .ok e =>
      if e = l.entry.toNat then
        let e1 := e ||| 2 ^ 8 ||| 2 ^ 9
        .leaf (writeEntry s l.loc e1) { l with entry := word e1 }
      else .changed s
    | .error _ => .changed s

/-- The buffered copy of a leaf goes, from the buffers of a core and its quad (R30). -/
def discardLeaf (s : State) (core : Nat) (l : Leaf) : State :=
  dropLeaves s (fun c => c == core) (fun q => q == quadOf core) fun x => x.vbase == l.vbase && x.asid == l.asid && x.size == l.size

/-! ### Waiting accesses (R35, R39) -/

/-- A waiter replays: an access is translated again, a fetch finds its entry gone, an argument page goes on. -/
def replayWaiter (s : State) (w : Waiter) : State :=
  match w with
  | .access id => translateAccess s id
  | .fetch _ => s
  | .engine _ _ _ _ => s
  | .args gid => { s with grids := s.grids.map fun (g : Grid) => if g.key == gid then { g with argWait := false } else g }

/-- The core through whose buffers a waiter translates; arguments go through those of LQCORE (R209). -/
def waiterCore (s : State) : Waiter → Option Nat
  | .access id => (accessAt s id).map fun a => a.t.core
  | .fetch t => some t.core
  | .engine core _ _ _ => some core
  | .args _ => some s.lqCore.toNat

/-- A waiter that a walk has satisfied: the leaf is in its buffers, and it replays (R35). -/
def satisfyWaiter (l : Leaf) (s : State) (w : Waiter) : State :=
  let s := match waiterCore s w with
    | some c => if (coreAt s c).tlb.contains l && (quadAt s (quadOf c)).tlb.contains l then s else installLeaf s c l
    | none => s
  replayWaiter s w

/-- A miss entry is satisfied by a leaf: its page lies in it, under its ASID or globally (R35). -/
def leafCovers (l : Leaf) (e : Coal) : Bool := e.miss && leafMatches l e.asid (e.vpn * 65536)

/-- A store that waits in the entry and passes the checks of a leaf needs its DTY. -/
def entryStores (s : State) (e : Coal) (pte pa : Nat) : Bool :=
  e.waiters.any fun w =>
    match w with
    | .access id =>
      match accessAt s id with
      | some a => (needOf a).wr && checkLeaf pte pa a.ctx a.priv (needOf a) a.pol (anyPolicy a) == 0
      | none => false
    | .args key =>
      match s.grids.find? fun (g : Grid) => g.key == key with
      | some g => checkLeaf pte pa g.ctx g.priv Need.store 1 false == 0
      | none => false
    | .engine core cmd _ wr =>
      match cmdAt s core cmd with
      | some c => wr && checkLeaf pte pa c.ctx c.priv Need.store 7 true == 0
      | none => false
    | .fetch _ => false

/-- The entries that a leaf satisfies leave the table, and their waiters replay in the order in which they joined (R35, R36). -/
def satisfy (s : State) (die : Nat) (l : Leaf) (also : Nat) : State :=
  let es := (dieAt s die).coal.filter fun e => leafCovers l e || e.index == also
  let s := es.foldl (fun s e => coalRemove s die e.index) s
  es.foldl (fun s e => e.waiters.foldl (satisfyWaiter l) s) s

def coalAt (s : State) (die index : Nat) : Option Coal := (dieAt s die).coal.find? fun e => e.index == index
def modCoal (s : State) (die index : Nat) (f : Coal → Coal) : State :=
  modDie s die fun d => { d with coal := d.coal.map fun e => if e.index == index then f e else e }

/-- The entry has one of the 64 walkers of its die: they are taken in the order in which the entries came to need one (R35, R36). -/
def hasWalker (s : State) (die entry : Nat) : Bool :=
  (((dieAt s die).coal.filter fun e => e.walking).take 64).any fun e => e.index == entry

/-- A buffered leaf was no longer the entry in memory: its copies go, and the entry walks (R30). -/
def walkAgain (s : State) (die : Nat) (e : Coal) (l : Leaf) : State :=
  let cores := e.waiters.filterMap (waiterCore s)
  modCoal (cores.foldl (fun s c => discardLeaf s c l) s) die e.index fun e => { e with leaf := none }

/-- A PREF waits in the entry. -/
def waitsToPrefetch (s : State) : Waiter → Bool
  | .access id => match accessAt s id with
    | some a => prefetches a.kind
    | none => false
  | _ => false

/-- A waiter whose line is not fetched after all. -/
def skipWaiter (s : State) : Waiter → State
  | .access id => match accessAt s id with
    | some a => skipPrefetch s a
    | none => s
  | _ => s

/-- A walk has failed: the PREFs that wait for it skip their lines and leave, and the supervisor is told of the others (R28, R37). -/
def walkFails (s : State) (die : Nat) (e : Coal) (cause : Nat) : State :=
  let e' := { e with walking := false, cause := cause, waiters := e.waiters.filter fun w => !waitsToPrefetch s w }
  let skipped := fun (s : State) => (e.waiters.filter (waitsToPrefetch s)).foldl skipWaiter s
  if e'.waiters.isEmpty && !e.waiters.isEmpty then skipped (coalRemove s die e.index)
  else skipped (tellFault (modCoal s die e.index fun _ => e') die e')

/-- TABLE_WALK: the walk of an entry; it installs a leaf, or fails and tells the supervisor. Where a buffered leaf lacks DTY, the walker
sets it (R24, R30, R35, R36, R37, R38). DESIGN CHOICE, log entry 16. -/
def execTableWalk (die entry : Nat) (s : State) : Answer :=
  .next (match coalAt s die entry with
    | none => s
    | some e =>
      if !e.walking || !hasWalker s die entry then s
      else
        match e.leaf with
        | some l =>
          match setDirty s (.walk die entry) (ctxNs e.ctx) l with
          | .later s' => s'
          | .changed s' => walkAgain s' die e l
          | .leaf s' l' => satisfy (installLeaf s' e.core l') die l' entry
        | none =>
          match walkNow s (.walk die entry) e.ctx (e.vpn * 65536) (entryStores s e) with
          | .later s' => s'
          | .fail s' c => walkFails s' die e c
          | .leaf s' l => satisfy (installLeaf s' e.core l) die l entry)

/-- A failed entry is walked again, behind the others that wait for a walker. An ADDR entry has no tables to walk: the check fails
again, and the one new message is sent. An action for an entry that still walks does nothing (R39). DESIGN CHOICE, log entry 63. -/
def replayEntry (s : State) (die entry : Nat) : State :=
  match coalAt s die entry with
  | none => s
  | some e =>
    if e.walking then s
    else if e.cause = 7 then tellFault s die e
    else modDie s die fun d => { d with coal := (d.coal.filter fun x => x.index != entry) ++ [{ e with walking := true, leaf := none }] }

/-- REPLAY (R39). -/
def execReplay (die entry : Nat) (s : State) : Answer := .next (replayEntry s die entry)

/-! ### Engine faults (R437, R438) -/

def engineCode : CmdKind → Nat
  | .cpy => 0 | .row _ => 1 | .walk => 2 | .mxv => 3

/-- Word 0 of the engine-fault message, which the engine entry also shows (R437, R438). -/
def engineFaultWord (core n : Nat) (c : Cmd) (reason cause : Nat) : Word :=
  word (0x12 * 2 ^ 56 + engineCode c.kind * 2 ^ 54 + reason * 2 ^ 51 + cause * 2 ^ 47 + core / 64 * 2 ^ 43
    + core % 64 * 2 ^ 37 + n * 2 ^ 34 + b01 (ctxNs c.ctx) * 2 ^ 16 + (ctxAsid c.ctx).toNat)

/-- A command no longer stands in the order of its engine: its turn, its walk, its row steps that have been sent (R102, R128, R130). -/
def leaveEngine (s : State) (core n : Nat) : State :=
  { s with qdies := (s.qdies.map fun e => (e.1, { e.2 with
      turns := e.2.turns.filter fun x => !(x.core == core && x.cmd == n)
      rows := e.2.rows.filter fun x => !(x.core == core && x.cmd == n)
      walks := e.2.walks.filter fun x => x != (core, n) })).filter fun e => e.2 != Stack.reset }

/-- A command stops: it keeps its slot, and one message goes to the supervisor (R437). -/
def stopCommand (s : State) (core n : Nat) (c : Cmd) (reason cause va : Nat) : State :=
  let s := setCmd (leaveEngine s core n) core n (some { c with stage := .stopped reason cause (va % 2 ^ 56) })
  toSupervisor s (dieOf core) (ctxNs c.ctx) (engineFaultWord core n c reason cause) (word c.count)

/-! ### The end of an entry (R39) -/

/-- A waiter of an ended entry: its access fails, its thread freezes precisely, after the marker steps of what it has outstanding
(R297), its engine command stops, its grid's arguments are failed (R39, R211, R309, R437). -/
def failWaiter (e : Coal) (s : State) (w : Waiter) : State :=
  match w with
  | .access id =>
    match accessAt s id with
    | some a => failAccess s id (Fail.ofCause e.cause a.va)
    | none => s
  | .fetch t =>
    let th := threadAt s t
    match th.run with
    | .parked (.fetch va) =>
      if va / 65536 % 2 ^ 40 ≠ e.vpn then s
      else
        let f := FaultInfo.mk (some (causeClass e.cause)) e.cause true 0 0 false false va
        let s := giveBack s t
        if th.outs.isEmpty then takeFault (modThread s t fun th => { th with run := .ready }) t f
        else modThread s t fun th => { th with run := .parked .marker, prog := .faulted f }
    | _ => s
  | .engine core cmd va _ =>
    match cmdAt s core cmd with
    | some c => if c.stage = .running then stopCommand s core cmd c 0 e.cause va else s
    | none => s
  | .args gid => { s with grids := s.grids.map fun (g : Grid) => if g.key == gid then { g with argWait := false, argFail := true } else g }

/-- A failed entry ends, and every waiter with it; an entry that still walks is left alone (R39). DESIGN CHOICE, log entry 63. -/
def faultEntry (s : State) (die entry : Nat) : State :=
  match coalAt s die entry with
  | none => s
  | some e => if e.walking then s else e.waiters.foldl (failWaiter e) (coalRemove s die entry)

/-- FAULT (R39). -/
def execFaultAction (die entry : Nat) (s : State) : Answer := .next (faultEntry s die entry)

/-! ### Translation outside the table (R432, R437) -/

/-- Where an engine's address lies. -/
inductive EngAddr where
  | ok (s : State) (pa : Nat)
  | later (s : State)
  | fail (s : State) (cause : Nat)
  deriving DecidableEq, Repr

/-- Translate and check an address outside the table, for the access port: a miss walks at once, and so does a store through a
leaf whose DTY the compare-and-swap could not set (R30). The device region is for the caller to judge; policy 7 stands for no policy.
DEDUCED, log entry 32. -/
def engineAddr (s : State) (t : ThreadRef) (ctx : Word) (priv : BitVec 2) (va : Nat) (need : Need) (pol : Nat) : EngAddr :=
  let found := fun (s : State) (l : Leaf) =>
    let s := installLeaf s t.core l
    let c := checkLeaf l.entry.toNat (leafPa l va) ctx priv need pol (pol == 7)
    if c ≠ 0 then EngAddr.fail s c else .ok s (leafPa l va)
  let walk := fun (s : State) =>
    match walkNow s (.port t) ctx va (fun e pa => need.wr && checkLeaf e pa ctx priv need pol (pol == 7) == 0) with
    | .later s => EngAddr.later s
    | .fail s c => .fail s c
    | .leaf s l => found s l
  match translate s t.core ctx priv va need pol (pol == 7) with
  | .ok pa _ => .ok s pa
  | .fail c => .fail s c
  | .miss => walk s
  | .dirty _ l =>
    match setDirty s (.port t) (ctxNs ctx) l with
    | .later s => .later s
    | .leaf s l => found s l
    | .changed s => walk (discardLeaf s t.core l)

end Sys2Proof.Machine
end

