-- ==== Sys2Proof/Machine/Engines.lean ====
section
/-! DEFINITION. Engine commands (R100-R111, R122-R132, R374-R380, R437, R438): their issue, acceptance, work, stops and
completions. -/

namespace Sys2Proof.Machine

/-! ### The completion word (R374) -/

def compKind (w : Word) : Nat := field w.toNat 47 46
def compLevel (w : Word) : Nat := field w.toNat 45 44
def compObj (w : Word) : Nat := field w.toNat 43 39
def compRid (w : Word) : BitVec 32 := w.extractLsb' 0 32
def compTag (w : Word) : Nat := field w.toNat 63 48

/-- A completion word that raises ILL. -/
def compBad (w : Word) (walk : Bool) : Bool :=
  let ct := compKind w
  ct == 3 || field w.toNat 38 32 != 0 || (ct != 2 && (compLevel w != 0 || compObj w != 0)) ||
    (ct != 1 && compRid w != 0) || (ct == 1 && compRid w == 0) || (walk && ct == 2)

/-! ### Operand words -/

/-- A ROW operand word outside its limits (R375, R376). -/
def rowBad (fn : Nat) (w : Word) : Bool :=
  let n := w.toNat % 2 ^ 17
  n == 0 || decide (65536 < n) || field w.toNat 31 17 != 0 || field w.toNat 63 33 != 0 || (fn != 1 && bit w.toNat 32)

/-- A CPY length outside its limits (R377). DEDUCED, log entry 32. -/
def cpyBad (w : Word) : Bool := w == 0 || w.toNat % 64 != 0 || decide (2 ^ 40 ≤ w.toNat)

/-- Virtual ranges of one length that overlap (R128). -/
def rangesMeet (a b n : Nat) : Bool := decide (a < b + n) && decide (b < a + n)

/-- The fields of a WALK descriptor (R129). -/
def walkKind (w : Word) : Nat := field w.toNat 63 62
def walkLimit (w : Word) : Nat := field w.toNat 61 46
def walkShl (w : Word) : Nat := field w.toNat 45 40
def walkRs (w : Word) : Nat := field w.toNat 39 34
def walkNent (w : Word) : Nat := w.toNat % 2 ^ 34

/-- DEDUCED, log entry 21. -/
def walkBad (w : Word) : Bool :=
  walkLimit w == 0 ||
    match walkKind w with
    | 0 => walkShl w != 0 || walkRs w != 0 || walkNent w != 0
    | 1 => decide (40 < walkShl w) || walkRs w != 0 || walkNent w != 0
    | 2 => decide (20 < walkShl w) || decide (walkRs w < 6) || decide (20 < walkRs w) || walkNent w == 0
    | _ => true

/-! ### Issue (R122, R123, R374) -/

/-- The lowest free command slot of a unit. -/
def freeCommand (s : State) (core : Nat) : Option Nat := (List.range 8).find? fun n => (cmdAt s core n).isNone

/-- A command as its unit issues it. -/
def commandOf (s : State) (id : Nat) (kind : CmdKind) (d : Word) (srcs : List Word) (comp opw : Word) : Cmd :=
  let th := me s
  { id := id, kind := kind, d := d, srcs := srcs, comp := comp, opw := opw, stage := .waiting, count := 0, path := 0, result := 0,
    ptr := 0, phase := 0, pool := 0, ctx := (myCore s).ctxid, gid := th.gid, rid := th.rid, priv := th.ss.priv,
    rnd := th.ss.rnd, t := s.cur, fa := (fmtOf th.desc).fa, fb := (fmtOf th.desc).fb, vec := [], book := [], outs := [],
    flags := 0, bad := false, placed := 0, wrote := [], next := 0, ahead := [] }

/-- The issue of a CPY, WALK or row operation: the completion word, the barrier object, the alignment of the addresses named,
a free slot of the 8, and the release that the command waits for (R374). The order of the faults: DESIGN CHOICE, log entry 71. -/
def engineUnit (i : Instr) (kind : CmdKind) (al : Nat) (aligned : State → List Word) (d : State → Word)
    (srcs : State → List Word) (b : Reg) (s : State) : Answer :=
  .next (unit i (fun s =>
    let comp := srcG s i .b b.toNat
    let opw := srcG s i .b (b.toNat + 1)
    if compBad comp (kind == .walk) then .fault .ill 0 0 none
    else if compKind comp == 2 && !barrierAssigned s (compLevel comp) (compObj comp) then .fault .perm 0 0 none
    else
      match (aligned s).find? fun a => a.toNat % al != 0 with
      | some a => .fault .align 0 0 (some a.toNat)
      | none =>
        match freeCommand s s.cur.core with
        | none => .park .engineLimit s
        | some n =>
          let s' := beginRelease s s.cur 3
          let (id, s') := fresh s'
          let s' := setCmd s' s.cur.core n (some (commandOf s id kind (d s) (srcs s) comp opw))
          .done (addOut s' s.cur (outPlain id .engine (d s).toNat))) s)

/-- A row operation: fn as R375 lists them, and its source registers. -/
def rowUnit (i : Instr) (fn : Nat) (d : Reg) (srcs : List Nat) (b : Reg) (s : State) : Answer :=
  let dst := fun s => srcG s i .d d.toNat
  let src := fun s => srcs.map fun n => srcG s i .a n
  engineUnit i (.row fn) 1024 (fun s => dst s :: src s) dst src b s

/-- ROWCPY (R375, R376). -/
def execRowcpy (m : Mark) (d a b : Reg) (s : State) : Answer := rowUnit (.rowcpy m d a b) 0 d [a.toNat] b s

/-- ROWSET (R375, R376). -/
def execRowset (m : Mark) (d b : Reg) (s : State) : Answer := rowUnit (.rowset m d b) 1 d [] b s

/-- ROWAND (R375, R376). -/
def execRowand (m : Mark) (d a b : Reg) (s : State) : Answer := rowUnit (.rowand m d a b) 2 d [a.toNat, a.toNat + 1] b s

/-- ROWOR (R375, R376). -/
def execRowor (m : Mark) (d a b : Reg) (s : State) : Answer := rowUnit (.rowor m d a b) 3 d [a.toNat, a.toNat + 1] b s

/-- ROWXOR (R375, R376). -/
def execRowxor (m : Mark) (d a b : Reg) (s : State) : Answer := rowUnit (.rowxor m d a b) 4 d [a.toNat, a.toNat + 1] b s

/-- ROWNOT (R375, R376). -/
def execRownot (m : Mark) (d a b : Reg) (s : State) : Answer := rowUnit (.rownot m d a b) 5 d [a.toNat] b s

/-- ROWMAJ (R375, R376). -/
def execRowmaj (m : Mark) (d a b : Reg) (s : State) : Answer :=
  rowUnit (.rowmaj m d a b) 6 d [a.toNat, a.toNat + 1, a.toNat + 2] b s

/-- CPY (R377). -/
def execCpy (m : Mark) (d a b : Reg) (s : State) : Answer :=
  let i := Instr.cpy m d a b
  engineUnit i .cpy 64 (fun s => [srcG s i .d d.toNat, srcG s i .a a.toNat]) (fun s => srcG s i .d d.toNat)
    (fun s => [srcG s i .a a.toNat]) b s

/-- WALK (R378). -/
def execWalk (m : Mark) (d a b : Reg) (s : State) : Answer :=
  let i := Instr.walk m d a b
  engineUnit i .walk 8 (fun s => [srcG s i .d d.toNat]) (fun s => srcG s i .d d.toNat) (fun s => [srcG s i .a a.toNat]) b s

/-! ### MXV at issue (R379, R380) -/

/-- Rows, columns, the bytes of a row and of the vector (R131, R379). -/
def mxvRows (shape : Word) : Nat := shape.toNat % 2048
def mxvCols (shape : Word) : Nat := field shape.toNat 27 16
def mxvRowBytes (fa k : Nat) : Nat := if fa = 15 then k / 4 + k / 32 else if fa = 3 then 2 * k else k
def mxvVecBytes (fb k : Nat) : Nat := if fb = 3 then 2 * k else k

/-- A shape word within the limits of R131. -/
def mxvShapeOk (shape : Word) (fa : Nat) : Bool :=
  let m := mxvRows shape
  let k := mxvCols shape
  field shape.toNat 63 28 == 0 && field shape.toNat 15 11 == 0 && decide (1 ≤ m) && decide (m ≤ 1024) && k % 64 == 0 &&
    decide (64 ≤ k) && decide (k ≤ if fa = 15 then 3584 else if fa = 3 then 512 else 1024)

/-- The bank of the core and the offset at which a vector or block lies wholly; none is BANKOP (R380, R410). -/
def ownBankRange (core va n : Nat) : Option (Nat × Nat) :=
  if 2 ^ 56 ≤ va then none
  else
    match deviceBank core va with
    | none => none
    | some o =>
      let (c, b) := bankOf o
      if c = core ∧ o % 65536 + n ≤ 65536 then some (b, o % 65536) else none

/-- The MXV has failed at its bank: it is not accepted, and reserves nothing unless it is performed again (R114, R295). -/
def mxvFailed (s : State) (c : Cmd) : Bool := c.stage == .waiting && (accessAt s c.id).any fun a => a.fail.isSome

/-- An earlier MXV of the core's riders has entries to reserve: one that moved here in an evacuation works at its old unit (R114, R132, R441). -/
def mxvReserving (s : State) (core : Nat) : Bool :=
  s.cores.any fun x => x.2.cmds.any fun e => match e.2 with
    | some c => c.kind == .mxv && c.t.core == core && !mxvFailed s c
    | none => false

/-- MXV: its vector is a `.bk` access that its bank accepts once the command's release is done; its status lands in an entry
(R131, R379, R380). ALIGN comes before BANKOP: DESIGN CHOICE, log entry 71. -/
def execMxv (m : Mark) (d a b : Reg) (s : State) : Answer :=
  let i := Instr.mxv m d a b
  .next (unit i (fun s =>
    let f := fmtOf (me s).desc
    let base := srcG s i .a a.toNat
    let va := (srcG s i .b b.toNat).toNat
    let shape := srcG s i .d d.toNat
    let n := mxvVecBytes f.fb (mxvCols shape)
    if base.toNat % 1024 ≠ 0 then .fault .align 0 0 (some base.toNat)
    else if !mxvShapeOk shape f.fa ∨ va % 64 ≠ 0 then .fault .bankop 0 0 (some va)
    else
      match ownBankRange s.cur.core va n with
      | none => .fault .bankop 0 0 (some va)
      | some (_, off) =>
        if decide (16 ≤ (myCore s).ldq.length) || mxvReserving s s.cur.core then .park .loadQueue s
        else
          match freeCommand s s.cur.core with
          | none => .park .engineLimit s
          | some k =>
            let s' := beginRelease s s.cur 3
            let (id, s') := fresh s'
            let s' := setCmd s' s.cur.core k (some (commandOf s id .mxv shape [base] 0 0))
            .done (launchAccess s'
              { accessOf s' id .bank with va := va, n := n, pol := 5, cmd := some (.vector off ((n + 63) / 64)) }
              (outFor s' id .mxv .none 0 va))) s)

/-! ### Load and store queues at issue (R114, R116, R381-R383) -/

/-- QLD (R382). ALIGN is raised before the unit parks for an entry: DESIGN CHOICE, log entry 71. -/
def execQld (m : Mark) (a : Reg) (n : BitVec 1) (s : State) : Answer :=
  let i := Instr.qld m a n
  .next (unit i (fun s =>
    let fd := (fmtOf (me s).desc).fd
    let f := if (me s).desc.fmt = 0 then 64 else 16 * memBytes fd
    let ea := srcG s i .a a.toNat
    if ea.toNat % f ≠ 0 then .fault .align 0 0 (some ea.toNat)
    else if decide (16 ≤ (myCore s).ldq.length) || mxvReserving s s.cur.core then .park .loadQueue s
    else
      let (id, s) := fresh s
      let s := modCore s s.cur.core fun k => { k with ldq := k.ldq ++ [⟨id, false, 0, 0, false⟩] }
      let s := if n = 1 then writeG s (dstNum s .a a.toNat) (ea + word f) else s
      beginAccess s
        { accessOf s id .qld with va := ea.toNat, n := f, pol := 1, fmt := if (me s).desc.fmt = 0 then 0 else fd }
        (outPlain id .qld ea.toNat) true) s)

/-- QST (R383). -/
def execQst (m : Mark) (a : Reg) (n : BitVec 1) (s : State) : Answer :=
  let i := Instr.qst m a n
  .next (unit i (fun s =>
    let ea := srcG s i .a a.toNat
    match (myCore s).stq with
    | [] => .park .storeEmpty s
    | e :: rest =>
      if ea.toNat % e.len ≠ 0 then .fault .align 0 0 (some ea.toNat)
      else
        let (id, s) := fresh s
        let s := modCore s s.cur.core fun k => { k with stq := rest }
        let s := if n = 1 then writeG s (dstNum s .a a.toNat) (ea + word e.len) else s
        beginAccess s
          { accessOf s id .qst with
              va := ea.toNat, n := e.len, pol := 1, data := e.data, mask := BitVec.ofNat 64 (ones e.len), sackd := true }
          (outPlain id .qst ea.toNat) true) s)

/-! ### Stops and ends (R126, R437) -/

/-- A command has ended with a status; its completion is still to be sent. -/
def endCommand (s : State) (core n : Nat) (c : Cmd) (status result : Nat) : State :=
  setCmd (leaveEngine s core n) core n (some { c with stage := .finished status, result := result % 2 ^ 56 })

def keepCommand (s : State) (core n : Nat) (c : Cmd) : State := setCmd s core n (some c)

/-! ### Acceptance (R123, R294) -/

/-- An engine whose NS is 0 takes no command of a non-secure context (R458). DEDUCED, log entry 32. -/
def engineRefuses (s : State) (core : Nat) (c : Cmd) : Bool :=
  ctxNs c.ctx && !(stackAt s (core / 64)).engNs

/-- What a WALK wants next: a read of n bytes, or its end (R130). -/
inductive WalkWants where
  | read (a n : Nat)
  | ends (status result : Nat)
  deriving DecidableEq, Repr

def walkWants (c : Cmd) : WalkWants :=
  let start := c.d.toNat
  let key := (c.srcs.headD 0).toNat
  let p := c.ptr.toNat
  let follow : WalkWants :=
    if p = 0 then .ends 1 0 else if p % 16 ≠ 0 ∨ 2 ^ 56 ≤ p then .ends 3 0 else .read p 16
  match c.phase with
  | 0 =>
    match walkKind c.opw with
    | 2 => if walkNent c.opw ≤ key / 2 ^ walkShl c.opw then .ends 1 0 else .read start 8
    | _ =>
      let idx := if walkShl c.opw = 0 then 0 else key * 0x9E3779B97F4A7C15 % 2 ^ 64 / 2 ^ (64 - walkShl c.opw)
      .read ((start + 8 * idx) % 2 ^ 64) 8
  | 2 => .read ((start + 8 + 8 * (key / 2 ^ walkShl c.opw)) % 2 ^ 64) 8
  | _ => follow

/-- A walk stands in the order of its quay die's engine, behind those that came before it (R130). -/
def queueWalk (s : State) (core n : Nat) : State :=
  modStack s (core / 64) fun k => if k.walks.contains (core, n) then k else { k with walks := k.walks ++ [(core, n)] }

/-- A CPY has a turn of its quay die's copy engine (R128). -/
def queueCopy (s : State) (core n : Nat) : State :=
  modStack s (core / 64) fun k => { k with turns := k.turns ++ [⟨core, n, none⟩] }

/-- A WALK with nothing left to read ends at once. -/
def settleWalk (s : State) (core n : Nat) (c : Cmd) : State :=
  match walkWants c with
  | .ends st r => endCommand s core n c st r
  | .read _ _ => keepCommand s core n c

/-- The engine takes a command whose release is done: its operands are judged, and it begins (R294, R376, R377). Ranges that overlap end a
CPY with OVERLAP wherever they lie: DESIGN CHOICE, log entry 75. -/
def acceptCommand (s : State) (core n : Nat) : State :=
  match cmdAt s core n with
  | none => s
  | some c =>
    if c.stage ≠ .waiting ∨ c.kind = .mxv then s
    -- lines that earlier stores have deferred since the issue are written back first (R123, R165)
    else if (threadAt s c.t).rid = c.rid ∧ !(threadAt s c.t).dlines.isEmpty then beginRelease s c.t 3
    else if !storesReleased s c.t 3 || fenceOpen s c.t c.id then s
    else
      let s := acceptOut s c.t c.id none none
      let run := { c with stage := .running }
      match c.kind with
      | .row fn => if rowBad fn c.opw then endCommand s core n c 4 0 else keepCommand s core n run
      | .cpy =>
        if engineRefuses s core c || cpyBad c.opw then endCommand s core n c 4 0
        else if rangesMeet c.d.toNat (c.srcs.headD 0).toNat c.opw.toNat then endCommand s core n c 5 0
        else queueCopy (keepCommand s core n run) core n
      | .walk =>
        if engineRefuses s core c || walkBad c.opw then endCommand s core n c 4 0
        else settleWalk (queueWalk s core n) core n (if walkKind c.opw = 0 then { run with phase := 1, ptr := c.d } else run)
      | .mxv => s

/-! ### Addresses and lines of engines -/

/-- The context under which the copy and traversal engines work: an engine with NS = 1 performs every access as non-secure
(R458). -/
def engineCtx (s : State) (core : Nat) (c : Cmd) : Word :=
  if (stackAt s (core / 64)).engNs then c.ctx ||| 0x10000 else c.ctx

/-- PMASK of the leaf through which an address went permits a policy; 7 stands for none (R27). -/
def leafPermits (s : State) (core : Nat) (ctx : Word) (va pol : Nat) : Bool :=
  match lookupLeaf s core (ctxAsid ctx) va with
  | some l => pol == 7 || policyAllowed (field l.entry.toNat 13 10) pol
  | none => true

/-- An address of an engine command: a miss, a leaf without DTY and a failed check go through the coalescing table of the unit's die,
where the command waits (R35, R38); in the device region only the unassigned part fails as a translation (R14, R37). DEDUCED, log
entry 32. -/
def engineDram (s : State) (core n : Nat) (ctx : Word) (priv : BitVec 2) (va : Nat) (need : Need) (pol : Nat) : EngAddr :=
  let join := fun (cause : Nat) (l : Option Leaf) =>
    if engineWaits s core n then EngAddr.later s
    else .later (coalesce s ⟨core, 7, 0⟩ ctx (va % 2 ^ 56) cause 3 (.engine core n va need.wr) l)
  if va < 2 ^ 56 ∧ inDeviceRegion va then
    match deviceBank core va with
    | some o => .ok s (0x20000000000 + o)
    | none => join 7 none
  else
    match translate s core ctx priv va need 7 true with
    | .ok pa _ => if isDram pa && !leafPermits s core ctx va pol then join 13 none else .ok s pa
    | .miss => join 0 none
    | .dirty pa l => if isDram pa && !leafPermits s core ctx va pol then join 13 none else join 0 (some l)
    | .fail c => join c none

/-- Lines read in one act, whole. -/
inductive LinesRead where
  | got (s : State) (ls : List Line) (poison : Bool)
  | wait (s : State)
  | fail (s : State) (cause : Nat)
  deriving DecidableEq, Repr

def readLines (s : State) (who : Asker) (ns : Bool) : List Nat → LinesRead
  | [] => .got s [] false
  | l :: r =>
    match homeReady s l who false ns with
    | .wait s => .wait s
    | .fail s _ c => .fail s c
    | .yes s =>
      let x := engineRead s l (BitVec.allOnes 16)
      match readLines x.2 who ns r with
      | .got s ls p => .got s (x.1 :: ls) (p || linePoison s l)
      | y => y

/-- Lines read from the DRAM array by the row datapath: their owned words are recalled and modified LLC lines written to DRAM first (R106,
R132). -/
def readArray (s : State) (who : Asker) (ns : Bool) : List Nat → LinesRead
  | [] => .got s [] false
  | l :: r =>
    match homeTurn s l who false ns with
    | .wait s => .wait s
    | .fail s _ c => .fail s c
    | .yes s =>
      let s := cleanLlc (recallNow s l (BitVec.allOnes 16) true) l
      match readArray s who ns r with
      | .got s ls p => .got s (homeData s l :: ls) (p || linePoison s l)
      | y => y

/-! ### The copy engine (R128) -/

/-- What a part of a command's work comes to. -/
inductive Work where
  | done (s : State) (c : Cmd)
  | wait (s : State)
  | over_ (s : State)            -- stopped or ended: the state is final
  deriving DecidableEq, Repr

/-- One address of a granule: its line, or the end of the turn. -/
def granuleLine (s : State) (core n : Nat) (c : Cmd) (va : Nat) (need : Need) (pol : Nat) : State × Option Nat × Bool :=
  let ctx := engineCtx s core c
  match engineDram s core n ctx c.priv va need pol with
  | .later s => (s, none, true)
  | .fail s k => (stopCommand s core n c 0 k va, none, false)
  | .ok s pa =>
    if !isDram pa then
      (if c.count = 0 then endCommand s core n c 4 0 else stopCommand s core n c 0 13 va, none, false)
    else (s, some (homeLine pa), false)

/-- One 64 B granule: read at its home as a `.wt` load, written as a `.wi` store. DEDUCED, log entry 32. -/
def copyGranule (s : State) (core n : Nat) (c : Cmd) : Work :=
  let ns := ctxNs (engineCtx s core c)
  let src := ((c.srcs.headD 0).toNat + c.count) % 2 ^ 64
  let dst := (c.d.toNat + c.count) % 2 ^ 64
  match granuleLine s core n c src Need.load 1 with
  | (s, none, w) => if w then .wait s else .over_ s
  | (s, some l, _) =>
    match granuleLine s core n c dst Need.store 3 with
    | (s, none, w) => if w then .wait s else .over_ s
    | (s, some l', _) =>
      match readLines s (.engine c.id) ns [l] with
      | .wait s => .wait s
      | .fail s k => .over_ (stopCommand s core n c 0 k src)
      | .got s ls bad =>
        if bad then .over_ (stopCommand s core n c 1 0 src)
        else
          match homeReady s l' (.engine c.id) true ns with
          | .wait s => .wait s
          | .fail s _ k => .over_ (stopCommand s core n c 0 k dst)
          | .yes s =>
            let s := engineWrite (answersUsed s [l, l'] (.engine c.id)) l' (BitVec.allOnes 64) (ls.headD 0)
            let c := { c with count := c.count + 64, wrote := c.wrote ++ [(0x10000000000 + 64 * l', 64)] }
            if c.opw.toNat ≤ c.count then .over_ (endCommand s core n c 0 0) else .done (keepCommand s core n c) c

/-- The granules of a turn: up to the next multiple of 4 KiB. -/
def copyTurn (core n : Nat) : (fuel : Nat) → State → Cmd → State
  | 0, s, _ => s
  | k + 1, s, c =>
    match copyGranule s core n c with
    | .wait s | .over_ s => s
    | .done s c => if c.count % 4096 = 0 then s else copyTurn core n k s c

/-! ### Row operations (R100-R111) -/

/-- What the translation of a row step's addresses comes to. -/
inductive RowsAt where
  | ok (s : State) (rows : List Nat)
  | later (s : State)
  | outside (s : State) (va : Nat)      -- a row outside BLW (R101)
  deriving DecidableEq, Repr

/-- The rows of one step as BLW offsets. -/
def rowPlaces (s : State) (core n : Nat) (c : Cmd) : List (Nat × Need) → RowsAt
  | [] => .ok s []
  | (va, need) :: r =>
    match engineDram s core n c.ctx c.priv va need 7 with
    | .later s | .fail s _ => .later s
    | .ok s pa =>
      match window pa with
      | .blw b =>
        match rowPlaces s core n c r with
        | .ok s l => .ok s (b :: l)
        | x => x
      | _ => .outside s va

/-- The 16 home lines of a row. -/
def rowLines (b : Nat) : List Nat := (List.range 16).map fun i => b / 64 + i

/-- The path of a step by where its rows lie (R102). -/
def rowPath (bs : List Nat) : Nat :=
  let same := fun (k : Nat) => bs.all fun b => b / 2 ^ k == bs.headD 0 / 2 ^ k
  if same 20 then 0 else if same 30 then 1 else 2

/-- One line of the result of an operation (R100). -/
def rowValue (fn : Nat) (fill : Bool) (a b c : Line) : Line :=
  match fn with
  | 0 => a
  | 1 => if fill then BitVec.allOnes 512 else 0
  | 2 => a &&& b
  | 3 => a ||| b
  | 4 => a ^^^ b
  | 5 => ~~~a
  | _ => (a &&& b) ||| (b &&& c) ||| (a &&& c)

/-- A home serves nothing, and nothing waits at it, so that a row step may take its lines (R106, R108). -/
def lineQuiet (s : State) (l : Nat) : Bool := homeFree s l && (homeAt s l).queue.isEmpty

/-- The source lines of a row step: owned words recalled, modified LLC lines written to DRAM (R106). -/
def readRow (s : State) (b : Nat) : List Line × State :=
  (rowLines b).foldl (fun (a : List Line × State) l =>
    let s := cleanLlc (recallNow a.2 l (BitVec.allOnes 16) true) l
    (a.1 ++ [homeData s l], s)) ([], s)

/-- The destination lines of a row step: sharers invalidated, owned words recalled and discarded, the LLC lines dropped, and the row
written (R106). -/
def writeRow (s : State) (ls : List Nat) (vs : List Line) : State :=
  (ls.zip vs).foldl (fun s e =>
    writeArray (dropLlc (recallNow (invalidateNow s e.1) e.1 (BitVec.allOnes 16) false) e.1) e.1 (BitVec.allOnes 64) e.2) s

def dstRow (r : RowStep) : Nat := r.rows.getLastD 0

/-- Two steps of one command that may not be in flight together: one writes a row that the other reads or writes (R102). -/
def stepsMeet (a b : RowStep) : Bool := b.rows.contains (dstRow a) || a.rows.contains (dstRow b)

/-- Rows that a command has still to send begin here: steps that were performed before an earlier one stopped are not made again. -/
def nextRow (ahead : List Nat) : (fuel i : Nat) → Nat
  | 0, i => i
  | k + 1, i => if ahead.contains i then nextRow ahead k (i + 1) else i

/-- A row command sends its next step, in ascending order, to the sequencer of the destination's pch, or a FALLBACK copy to the copy
engine of the destination's quay die; a step that meets one in flight waits for it (R102, R128). A failing address is judged once the
earlier steps have ended, so that the command stops before that step alone (R101, R437). -/
def sendRow (s : State) (core n : Nat) (c : Cmd) (fn : Nat) : State :=
  let i := nextRow c.ahead (c.ahead.length + 1) c.next
  let sent := sentSteps s core n
  if c.opw.toNat % 2 ^ 17 ≤ i ∨ c.stage ≠ .running then s
  else
    let vas := stepVas c i
    let needs := (List.range vas.length).map fun k => if k + 1 = vas.length then Need.store else Need.load
    match rowPlaces s core n c (vas.zip needs) with
    | .later s' => if sent.isEmpty then s' else s
    | .outside s' va => if sent.isEmpty then stopCommand s' core n c 2 0 va else s
    | .ok s bs =>
      let r : RowStep := ⟨core, n, c.id, i, bs⟩
      if sent.any (stepsMeet r) then s
      else
        let s := keepCommand s core n { c with next := i + 1 }
        modStack s (stackOf (dstRow r)) fun k =>
          if fn = 0 ∧ rowPath bs = 2 then { k with turns := k.turns ++ [⟨core, n, some r⟩] } else { k with rows := k.rows ++ [r] }

/-- Why a sent step stops its command: reason, cause and address. World and bias are judged at the homes, an uncorrectable error as the
sources are read (R103, R111, R458). -/
def rowStops (s : State) (c : Cmd) (r : RowStep) : Option (Nat × Nat × Nat) :=
  let vas := stepVas c r.step
  let bad := fun (rows : List Nat) (f : Nat → Bool) => ((rows.zip vas).find? fun e => (rowLines e.1).any f).map (·.2)
  let sources := r.rows.take (r.rows.length - 1)
  match bad r.rows fun l => ctxNs c.ctx && secureLine s l with
  | some va => some (0, 12, va)
  | none =>
    match bad r.rows (hostBias s) with
    | some va => some (4, 0, va)
    | none =>
      ((sources.zip vas).find? fun e => (rowLines e.1).any (linePoison (readRow s e.1).2)).map fun e => (1, 0, e.2)

/-- A sent step may be performed: its homes are quiet, or it stops its command and no earlier step of that is in flight. -/
def rowReady (s : State) (r : RowStep) : Bool :=
  match cmdAt s r.core r.cmd with
  | none => true
  | some c =>
    c.id != r.id || ((r.rows.flatMap rowLines).all (lineQuiet s) &&
      ((rowStops s c r).isNone || (sentSteps s r.core r.cmd).all fun x => r.step ≤ x.step))

/-- A sent step is performed, as one act, or stops its command (R100, R102, R103, R106). -/
def rowStepNow (s : State) (r : RowStep) : State :=
  match cmdAt s r.core r.cmd with
  | none => s
  | some c =>
    match c.kind with
    | .row fn =>
      if c.id ≠ r.id then s
      else
        let s := r.rows.foldl (fun s b => wakeStack s (b / 64)) s
        match rowStops s c r with
        | some (reason, cause, va) => stopCommand s r.core r.cmd { c with next := r.step } reason cause va
        | none =>
          let sources := r.rows.take (r.rows.length - 1)
          let x := sources.foldl (fun (a : State × List (List Line)) b =>
            let y := readRow a.1 b
            (y.2, a.2 ++ [y.1])) (s, [])
          let at_ := fun (k j : Nat) => (x.2.getD k []).getD j 0
          let vs := (List.range 16).map fun j => rowValue fn (bit c.opw.toNat 32) (at_ 0 j) (at_ 1 j) (at_ 2 j)
          let s := writeRow x.1 (rowLines (dstRow r)) vs
          let c := { c with count := c.count + 1, path := max c.path (rowPath r.rows), ahead := sins c.ahead r.step,
                            wrote := c.wrote ++ [(0x10000000000 + dstRow r, 1024)] }
          if c.opw.toNat % 2 ^ 17 ≤ c.count then endCommand s r.core r.cmd c 0 0 else keepCommand s r.core r.cmd c
    | _ => s

/-- The steps of a command that stand first for their DRAM banks at a quay die's sequencers (R102, R105). -/
def firstForBank (k : Stack) (core n : Nat) : List RowStep :=
  k.rows.filter fun r => r.core == core && r.cmd == n && (k.rows.find? fun x => dstRow x / 2 ^ 26 == dstRow r / 2 ^ 26) == some r

/-- A sequencer performs a step of a command that is first for its DRAM bank; the choice among those that may be performed is free
(R102). DESIGN CHOICE, log entry 1. -/
def rowTurn (s : State) (core n : Nat) : State :=
  let rs := (s.qdies.flatMap fun e => firstForBank e.2 core n).filter (rowReady s)
  match rs[Config.choice s.stepNo % rs.length]? with
  | none => s
  | some r =>
    let s := modStack s (stackOf (dstRow r)) fun k => { k with rows := k.rows.erase r }
    rowStepNow s r

/-- ROW_STEP: a row command sends its next step, and one of its steps is performed (R102). DEDUCED, log entry 5. -/
def execRowStep (core cmd : Nat) (s : State) : Answer :=
  .next (match cmdAt s core cmd with
    | none => s
    | some c =>
      match c.kind with
      | .row fn => rowTurn (sendRow s core cmd c fn) core cmd
      | _ => s)

/-- A command's turn of the copy engine: it copies 4 KiB; one that meets a busy home keeps its turn, and one that goes on takes the
next behind the others (R128). -/
def copyCommandTurn (s : State) (stack : Nat) (x : Turn) (rest : List Turn) : State :=
  let gone := fun (s : State) => modStack s stack fun k => { k with turns := k.turns.erase x }
  match cmdAt s x.core x.cmd with
  | none => gone s
  | some c =>
    if c.stage ≠ .running ∨ c.kind ≠ .cpy then gone s
    else
      let s := copyTurn x.core x.cmd 64 s c
      match cmdAt s x.core x.cmd with
      | some c' =>
        if c'.stage ≠ .running then gone s
        else if c'.count % 4096 = 0 ∧ c'.count ≠ c.count then modStack s stack fun k => { k with turns := rest ++ [x] }
        else s
      | none => gone s

/-- COPY_ENGINE_TURN: the work whose turn it is, a CPY's 4 KiB or a FALLBACK row copy (R102, R128). -/
def execCopyEngineTurn (stack : Nat) (s : State) : Answer :=
  .next (match (stackAt s stack).turns with
    | [] => s
    | x :: rest =>
      match x.row with
      | some r =>
        if rowReady s r then rowStepNow (modStack s stack fun k => { k with turns := rest }) r else s
      | none => copyCommandTurn s stack x rest)

/-! ### The traversal engine (R129, R130) -/

/-- The walk is one of the 32 that run at its quay die: the further ones wait in arrival order (R130). -/
def walkRuns (s : State) (core n : Nat) : Bool := ((stackAt s (core / 64)).walks.take 32).contains (core, n)

/-- What a read does to a walk. -/
def walkGot (s : State) (core n : Nat) (c : Cmd) (a v : Nat) : State :=
  let key := (c.srcs.headD 0).toNat
  let c := { c with count := c.count + 1 }
  match c.phase with
  | 0 =>
    if walkKind c.opw = 2 then settleWalk s core n { c with phase := 2, pool := word v }
    else settleWalk s core n { c with phase := 1, ptr := word v }
  | 2 =>
    if field v 62 40 ≠ 0 then endCommand s core n c 3 0
    else if !bit v 63 then endCommand s core n c 1 0
    else
      let b := walkShl c.opw
      let rs := walkRs c.opw
      endCommand s core n c 0 (c.pool.toNat + v % 2 ^ 40 * 2 ^ (b + rs) + key % 2 ^ b * 2 ^ rs)
  | _ => if v / 2 ^ 64 = key then endCommand s core n c 0 a else settleWalk s core n { c with ptr := word v }

/-- TRAVERSAL_HOP: one read of a walk, or its end at its limit (R130). -/
def execTraversalHop (core cmd : Nat) (s : State) : Answer :=
  .next (match cmdAt s core cmd with
    | none => s
    | some c =>
      if c.stage ≠ .running ∨ c.kind ≠ .walk ∨ !walkRuns s core cmd then s
      else
        match walkWants c with
        | .ends st r => endCommand s core cmd c st r
        | .read a n =>
          if walkLimit c.opw ≤ c.count then endCommand s core cmd c 2 a
          else
            let ctx := engineCtx s core c
            match engineDram s core cmd ctx c.priv a Need.load 1 with
            | .later s => s
            | .fail s k => stopCommand s core cmd c 0 k a
            | .ok s pa =>
              if !isDram pa then stopCommand s core cmd c 0 13 a
              else
                match readLines s (.engine c.id) (ctxNs ctx) [homeLine pa] with
                | .wait s => s
                | .fail s k => stopCommand s core cmd c 0 k a
                | .got s ls bad =>
                  if bad then stopCommand s core cmd c 1 0 a
                  else walkGot (answerUsed s (homeLine pa) (.engine c.id)) core cmd c a (lineBytes (ls.headD 0) (pa % 64) n))

/-! ### Matrix-vector (R131, R132) -/

/-- The output of a row (R132). -/
def mxvRow (c : Cmd) (row : Nat) : Nat × BitVec 5 :=
  let k := mxvCols c.d
  let r := roundingOf c.rnd
  let vec := packElems 512 (c.vec.map BitVec.toNat)
  let term := fun (j : Nat) =>
    let x := rowElement c.fb vec j
    if c.fa = 15 then productX x (rowCode c.book row j) (scaleOf (row / 2 ^ (8 * (k / 4 + j / 32)))) Fp.one
    else productX x (rowElement c.fa row j) Fp.one Fp.one
  (List.range (k / 64)).foldl (fun (a : Nat × BitVec 5) t =>
    let y := dotRound r a.1 ((List.range 64).map fun j => term (64 * t + j))
    (y.1, a.2 ||| y.2)) (0, 0)

/-- One row of an MXV. An uncorrectable error stops it, and poisons the entry that holds the row's output (R132, R380,
R437). DEDUCED, log entry 22. -/
def mxvOneRow (s : State) (core n : Nat) (c : Cmd) : Work :=
  let va := ((c.srcs.headD 0).toNat + 1024 * c.count) % 2 ^ 64
  let bytes := mxvRowBytes c.fa (mxvCols c.d)
  match engineDram s core n c.ctx c.priv va Need.load 7 with
  | .later s => .wait s
  | .fail s k => .over_ (stopCommand s core n c 0 k va)
  | .ok s pa =>
    let ls := (List.range ((bytes + 63) / 64)).map fun i => homeLine (pa + 64 * i)
    if !isDram pa || ls.any (fun l => coreOfDram (64 * l) != core) then .over_ (stopCommand s core n c 3 0 va)
    else
      match readArray s (.engine c.id) (ctxNs c.ctx) ls with
      | .wait s => .wait s
      | .fail s k => .over_ (stopCommand s core n c 0 k va)
      | .got s vs bad =>
        if bad then .over_ (stopCommand s core n { c with bad := true } 1 0 va)
        else
          let y := mxvRow c (packElems 512 (vs.map BitVec.toNat) % 2 ^ (8 * bytes))
          let c := { c with count := c.count + 1, outs := c.outs ++ [BitVec.ofNat 32 y.1], flags := c.flags ||| y.2 }
          .done (keepCommand (answersUsed s ls (.engine c.id)) core n c) c

/-- The rows of the entry being filled. -/
def mxvEntryRows (core n rows : Nat) : (fuel : Nat) → State → Cmd → Work
  | 0, s, c => .done s c
  | k + 1, s, c =>
    if 16 ≤ c.outs.length ∨ rows ≤ c.count then .done s c
    else
      match mxvOneRow s core n c with
      | .done s c => mxvEntryRows core n rows k s c
      | x => x

/-- The next entry of an MXV is reserved and holds its outputs; with the last, the command is complete. The flags of the entry's rows join
the rider's here, or are lost with the rider (R132, R240): DESIGN CHOICE, log entry 74. -/
def mxvPlace (s : State) (core n : Nat) (c : Cmd) (poison : Bool) : State :=
  let data : Line := BitVec.ofNat 512 (packElems 32 (c.outs.map BitVec.toNat))
  let s := modCore s c.t.core fun k => { k with ldq := k.ldq ++ [⟨c.id, true, data, 0, poison || c.bad⟩] }
  let s := if (threadAt s c.t).rid == c.rid then modThread s c.t fun th => orFlags th c.flags else s
  let c := { c with placed := c.placed + 1, outs := [], flags := 0, bad := false }
  setCmd s core n (if (mxvRows c.d + 15) / 16 ≤ c.placed then none else some c)

/-- The MXV of a core that has entries to reserve: there is at most one. -/
def mxvSlot (s : State) (core : Nat) : Option Nat :=
  (List.range 8).find? fun n => match cmdAt s core n with
    | some c => c.kind == .mxv
    | none => false

/-- MXV_ENTRY_RESERVE: the rows of the next entry are computed and the entry is reserved, when one is free; an MXV that was
ended reserves poisoned entries (R132, R438). DEDUCED, log entry 22. -/
def execMxvEntryReserve (core : Nat) (s : State) : Answer :=
  .next (match mxvSlot s core with
    | none => s
    | some n =>
      match cmdAt s core n with
      | none => s
      | some c =>
        if 16 ≤ (coreAt s c.t.core).ldq.length then s
        else
          match c.stage with
          | .running =>
            -- a table that was loading when it was accepted is read once it is there (R423)
            if c.phase = 1 ∧ (coreAt s c.t.core).bookLoad.isSome then s
            else
            let c := if c.phase = 1 then { c with phase := 0, book := (coreAt s c.t.core).book } else c
            match mxvEntryRows core n (mxvRows c.d) 16 s c with
            | .wait s | .over_ s => s
            | .done s c => mxvPlace s core n c false
          | .finished _ => mxvPlace s core n { c with outs := [] } true
          | _ => s)

/-- MXV_ACCEPT: the vector's bank accepts an MXV (R131, R380). -/
def execMxvAccept (core : Nat) (s : State) : Answer :=
  .next (match (List.range 16).find? fun b => match turnReq s core b with
      | some q => turnKind q == 2
      | none => false with
    | none => s
    | some b => takeTurn s core b 2)

/-! ### Completion (R124-R127) -/

/-- COUNT of the completion, and the bytes that a barrier completion subtracts: those written, or all of them after END. -/
def completionBytes (c : Cmd) (status : Nat) : Nat :=
  match c.kind with
  | .cpy => if status = 6 then c.opw.toNat else c.count
  | .row _ => 1024 * (if status = 6 then c.opw.toNat % 2 ^ 17 else c.count)
  | _ => 0

/-- The completion message (R125). -/
def completionMessage (c : Cmd) (status : Nat) : Msg :=
  let type := match c.kind with
    | .cpy => 0x20
    | .row _ => 0x21
    | _ => 0x22
  { Msg.plain (word (type * 2 ^ 56 + c.result))
      (word (status * 2 ^ 60 + c.path * 2 ^ 58 + compTag c.comp * 2 ^ 40 + c.count % 2 ^ 40))
      (if compKind c.comp = 1 then compRid c.comp else c.rid) false with engine := true, lines := c.wrote }

/-- ENGINE_COMPLETION: the completion of an ended command is sent, and its slot is free. A message that finds its queue full is
held (R124). It comes behind messages of earlier cycles, and before those of its own (R199). -/
def execEngineCompletion (core cmd : Nat) (s : State) : Answer :=
  .next (match cmdAt s core cmd with
    | none => s
    | some c =>
      match c.stage, c.kind with
      | .finished _, .mxv => s
      | .finished st, _ =>
        let dst := forwarded s core
        if compKind c.comp = 2 then
          let b := barrierAt s dst (compLevel c.comp) (compObj c.comp)
          setCmd (changeBarrier s dst (compLevel c.comp) (compObj c.comp) (subtractBytes b (completionBytes c st) c.wrote)) core cmd none
        else if queueRoom (coreAt s dst) false && decide ((coreAt s dst).inserted < s.now) &&
            (coreAt s dst).ni.all fun m => decide (s.now ≤ m.came) then
          setCmd (insertMessage s dst (completionMessage c st)) core cmd none
        else s
      | _, _ => s)

/-- A stopped command goes on from where it stopped. -/
def resumeCommand (s : State) (core cmd : Nat) : State :=
  match cmdAt s core cmd with
  | none => s
  | some c =>
    match c.stage with
    | .stopped _ _ _ =>
      let s := keepCommand s core cmd { c with stage := .running }
      match c.kind with
      | .cpy => queueCopy s core cmd
      | .walk => queueWalk s core cmd
      | _ => s
    | _ => s

/-- A stopped command ends with status ENDED. -/
def stopEnds (s : State) (core cmd : Nat) : State :=
  match cmdAt s core cmd with
  | none => s
  | some c =>
    match c.stage with
    | .stopped _ _ _ => endCommand s core cmd c 6 0
    | _ => s

/-- ENGINE_RESUME (R438). -/
def execEngineResume (core cmd : Nat) (s : State) : Answer := .next (resumeCommand s core cmd)

/-- ENGINE_END (R438). -/
def execEngineEnd (core cmd : Nat) (s : State) : Answer := .next (stopEnds s core cmd)

end Sys2Proof.Machine
end

