-- ==== Sys2Proof/Machine/Debug.lean ====
section
/-! DEFINITION. The slot debug windows (R430-R434): the state word, the context, landing entries and the acceptance record, the access port,
and what RESUME and END do with a stopped thread. -/

namespace Sys2Proof.Machine

/-! ### Entries (R433) -/

def outCode : OutKind → Nat
  | .ld => 0 | .ldv => 1 | .atomic => 2 | .struct => 3 | .bankAlu => 4 | .mxv => 5
  | .store => 0 | .mmaPin => 1 | .tile => 2 | .cacheRange => 3 | .qld => 4 | .qst => 5 | .engine => 6 | .other => 7

def fileCode : RegFile → Nat
  | .g => 0 | .v => 1 | .none => 2

/-- Landing entry e of a thread. -/
def entryOf (th : Thread) (e : Nat) : Option Out := th.outs.find? fun o => holdsEntry o.kind && o.entry == e

/-- The oldest failed access that holds no landing entry. DEDUCED, log entry 38. -/
def acceptanceOf (th : Thread) : Option Out := th.outs.find? fun o => !holdsEntry o.kind && o.fail.isSome

/-- CLASS, CAUSE and KIND of an entry. -/
def entryHead (o : Out) : Nat :=
  let f := match o.fail with
    | some f => 2 ^ 62 + classCode f.cls * 2 ^ 56 + f.cause * 2 ^ 52
    | none => 0
  2 ^ 63 + f + o.act.toNat * 2 ^ 60 + outCode o.kind * 2 ^ 48

/-- Word k of a landing entry. -/
def entryWord (o : Out) (k : Nat) : Word :=
  match k with
  | 0 => word (entryHead o + o.reg * 2 ^ 43 + fileCode o.file * 2 ^ 41)
  | 1 => word (o.addr % 2 ^ 56)
  | 2 => o.value.extractLsb' 0 64
  | _ => word ((match o.fail with
      | some f => if o.kind == .bankAlu then f.detail else 0
      | none => 0) * 8 + (o.bst.getD 0).toNat)

/-- Word k of the acceptance record. -/
def recordOut (o : Out) (k : Nat) : Word :=
  match k with
  | 0 => word (entryHead o + (if o.kind == .mmaPin || o.kind == .tile then o.tile * 2 ^ 44 else 0)
      + (if o.kind == .mmaPin then o.step * 2 ^ 28 else 0))
  | 1 => word ((match o.fail with
      | some f => f.addr
      | none => o.addr) % 2 ^ 56)
  | _ => 0

/-- A write of word k of a landing entry: ACT, with the reserved code 3 taken as 0, and what SUPPLY commits. DEDUCED, log entry 41. -/
def setEntryWord (o : Out) (k : Nat) (v : Word) : Out :=
  match k with
  | 0 => { o with act := if v.extractLsb' 60 2 = 3 then 0 else v.extractLsb' 60 2 }
  | 2 => { o with value := v.zeroExtend 512 }
  | 3 => { o with bst := some (v.extractLsb' 0 3) }
  | _ => o

/-! ### The windows (R430-R432) -/

/-- The thread is FROZEN or SUSPENDED. -/
def stoppedThread (th : Thread) : Bool := th.run != .free && (th.froz || th.susp)

def dstateWord (th : Thread) : Word :=
  let f := th.fault
  word (b01 f.pf * 2 ^ 16 + f.entry * 2 ^ 13 + b01 f.prec * 2 ^ 12 + f.cause * 2 ^ 8
    + (if th.froz then (match f.cls with
        | some c => classCode c
        | none => 0) * 16 else 0)
    + b01 ((th.froz && th.susp) || th.suspReq) * 8 + stateCode th)

def pctlWord (p : Port) : Word :=
  word (b01 p.busy * 2 ^ 63 + b01 p.done * 2 ^ 62 + p.cls.toNat * 2 ^ 58 + p.cause.toNat * 2 ^ 54 + p.pol.toNat * 16
    + p.size.toNat * 4 + p.kind.toNat)

/-- A register of a thread's window, at an offset of its half. -/
def debugRead (s : State) (t : ThreadRef) (off : Nat) : Word :=
  let th := threadAt s t
  let open_ := stoppedThread th
  if off = 0x00 then dstateWord th
  else if off = 0x10 then word (th.fault.addr % 2 ^ 56)
  else if !open_ then 0
  else if off = 0x18 then th.port.paddr
  else if off = 0x20 then th.port.pdata
  else if off = 0x28 then pctlWord th.port
  else if off = 0x30 then word (aget 0 (coreAt s t.core).qntm t.slot).toNat
  else if 0x100 ≤ off ∧ off < 0x220 then recordWord th ((off - 0x100) / 8)
  else if 0x400 ≤ off ∧ off < 0x500 then
    match entryOf th ((off - 0x400) / 32) with
    | some o => entryWord o (off / 8 % 4)
    | none => 0
  else if 0x500 ≤ off ∧ off < 0x520 then
    match acceptanceOf th with
    | some o => recordOut o (off / 8 % 4)
    | none => 0
  else if 0x1000 ≤ off ∧ off < (if isArith t then 0x1400 else 0x1800) then
    (rdV th ((off - 0x1000) / 64)).extractLsb' (8 * (off % 64)) 64
  else 0

/-- The access that the port starts, or the failure that ends it at once: alignment, then the policy (R432). DEDUCED, log entry 41. -/
def portStart (s : State) (t : ThreadRef) (v : Word) : State :=
  let th := threadAt s t
  let n := v.toNat
  let kind := n % 4
  let size := if kind = 2 then 4 else 2 ^ field n 3 2
  let pol := field n 6 4
  let p := { th.port with pol := BitVec.ofNat 3 pol, size := BitVec.ofNat 2 (field n 3 2), kind := BitVec.ofNat 2 kind }
  let va := p.paddr.toNat
  if th.port.busy ∨ !bit n 63 ∨ kind = 3 then modThread s t fun th => { th with port := p }
  else
  let s := modThread s t fun th => { th with port := { p with done := false, cls := 0, cause := 0 } }
  if va % size ≠ 0 then portEnds s t 3 0
  else if 4 ≤ pol ∨ (va < 2 ^ 56 ∧ inDeviceRegion va ∧ (kind = 2 ∨ (deviceBank t.core va).isSome)) then portEnds s t 7 13
  else
    let (id, s) := fresh s
    let a : Access :=
      { Access.blank id t (.port kind) with
          stage := .coal, va := va, n := size, pol := if kind = 2 then 2 else pol, scalar := true,
          data := BitVec.ofNat 512 (p.pdata.toNat % 2 ^ (8 * size)), mask := BitVec.ofNat 64 (ones size), gid := th.gid,
          ctx := (coreAt s t.core).ctxid, priv := th.ss.priv, rnd := th.ss.rnd, rid := th.rid }
    { (modThread s t fun th => { th with port := { th.port with busy := true } }) with inflight := s.inflight ++ [a] }

/-! ### RESUME and END (R434) -/

/-- The command counts in the store-acknowledge counter (R98). -/
def countsBank : BankCmd → Bool
  | .peek _ _ | .mapGet _ | .heapTop | .histRead _ | .stat | .vector _ _ => false
  | _ => true

/-- RETRY: the failed access is performed again. DEDUCED, log entry 26. -/
def retryAccess (s : State) (t : ThreadRef) (id : Nat) : State :=
  let s := modOut s t id fun o => { o with done := false, fail := none, act := 0, value := 0, bst := none, flags := 0, late := false }
  match accessAt s id with
  | none => s
  | some a =>
    let counts := a.kind == .atomic || (a.kind == .bank && (a.cmd.map countsBank).getD false)
    let s := modAccess s id fun a =>
      { a with stage := .coal, fail := none, value := 0, flags := 0, bst := none, poison := false, sackd := counts }
    translateAccess (if counts then addSack s t else s) id

/-- A failed access that will not be performed: an MXV gives its command up, and a QLD's entry is filled with poisoned data
(R382, R434). -/
def abandonAccess (s : State) (t : ThreadRef) (o : Out) : State :=
  let s := dropAccess s o.id
  let s := modThread s t fun th => { th with outs := th.outs.filter fun x => x.id != o.id }
  match o.kind with
  | .mxv => match cmdSlot s t.core o.id with
    | some n => setCmd s t.core n none
    | none => s
  | .qld => modCore s t.core fun k =>
      { k with ldq := k.ldq.map fun e => if e.id == o.id then { e with ready := true, poison := true } else e }
  | .other => { s with spawns := s.spawns.filter fun x => x.id != o.id }
  | _ => s

/-- What RESUME does with one failed landing entry. DEDUCED, log entry 41. -/
def answerEntry (t : ThreadRef) (s : State) (o : Out) : State :=
  if o.act = 1 ∧ o.file = .g then
    modOut (dropAccess s o.id) t o.id fun o =>
      { o with fail := none, act := 0, flags := 0, bst := if o.kind = .struct then some (o.bst.getD 0) else none }
  else if o.act = 1 ∨ o.act = 2 then abandonAccess s t o
  else retryAccess s t o.id

/-- The oldest failed access without an entry: a QLD is performed again unless it is abandoned; no other ever is.
DEDUCED, log entry 41. -/
def answerRecord (s : State) (t : ThreadRef) : State :=
  match acceptanceOf (threadAt s t) with
  | none => s
  | some o => if o.kind = .qld ∧ o.act ≠ 2 then retryAccess s t o.id else abandonAccess s t o

/-- RESUME of a FROZEN thread: it takes the marker steps again, or issues its unit again (R183, R295, R434). DEDUCED, log entry 41. -/
def resumeFrozen (s : State) (t : ThreadRef) : State :=
  let th := threadAt s t
  if th.run = .free ∨ !th.froz then s
  else
    let s := modThread s t fun th => { th with froz := false }
    let s := (th.outs.filter fun o => holdsEntry o.kind && o.fail.isSome).foldl (answerEntry t) s
    answerRecord s t

/-- END of a FROZEN or SUSPENDED thread: as an EXIT without its release; its failed accesses are given up (R434). -/
def endStopped (s : State) (t : ThreadRef) : State :=
  if !stoppedThread (threadAt s t) then s
  else
    let s := writeBackLines (giveBack s t) t
    let s := ((threadAt s t).outs.filter fun o => o.fail.isSome).foldl (fun s o => abandonAccess s t o) s
    let s := modThread s t fun th => { th with outs := [] }
    endRider s t

/-- RESUME (R434). -/
def execResumeThread (t : ThreadRef) (s : State) : Answer := .next (resumeFrozen s t)

/-- END (R434). -/
def execEndThread (t : ThreadRef) (s : State) : Answer := .next (endStopped s t)

/-- ACCESS_PORT_GO: a write of PCTL (R432). -/
def execAccessPortGo (t : ThreadRef) (v : Word) (s : State) : Answer :=
  .next (if stoppedThread (threadAt s t) then portStart s t v else s)

/-- ACCESS_PORT_DONE: the port's access has been performed: a load writes PDATA; poisoned data fail it (R432, R446). -/
def execAccessPortDone (t : ThreadRef) (s : State) : Answer :=
  .next (match s.inflight.find? fun a => a.t == t && (a.kind == .port 0 || a.kind == .port 1 || a.kind == .port 2) with
    | none => s
    | some a =>
      match a.stage with
      | .landing =>
        let s := dropAccess s a.id
        if (threadAt s t).rid != a.rid then s
        else if a.poison then portEnds s t 8 0
        else portEnds (modThread s t fun th => { th with port := { th.port with pdata := a.value.extractLsb' 0 64 } }) t 0 0
      | .acked =>
        let s := dropAccess s a.id
        if (threadAt s t).rid != a.rid then s else portEnds s t 0 0
      | _ => s)

/-- A write of a register of a thread's window by an agent of supervisor privilege. DEDUCED, log entry 41. -/
def debugWrite (s : State) (t : ThreadRef) (off : Nat) (v : Word) : State :=
  let th := threadAt s t
  if off = 0x08 then if v.toNat % 4 = 1 then resumeFrozen s t else if v.toNat % 4 = 2 then endStopped s t else s
  else if !stoppedThread th then s
  else if off = 0x18 then modThread s t fun th => { th with port := { th.port with paddr := v } }
  else if off = 0x20 then modThread s t fun th => { th with port := { th.port with pdata := v } }
  else if off = 0x28 then portStart s t v
  else if off = 0x30 then modCore s t.core fun k => { k with qntm := aset 0 k.qntm t.slot (v.extractLsb' 0 32) }
  else if 0x100 ≤ off ∧ off < 0x220 then writeRecordWord s t ((off - 0x100) / 8) v 2
  else if 0x400 ≤ off ∧ off < 0x500 then
    match entryOf th ((off - 0x400) / 32) with
    | some o => modOut s t o.id fun o => setEntryWord o (off / 8 % 4) v
    | none => s
  else if off = 0x500 then
    match acceptanceOf th with
    | some o => if o.kind = .qld then modOut s t o.id fun o => { o with act := v.extractLsb' 60 2 } else s
    | none => s
  else if 0x1000 ≤ off ∧ off < (if isArith t then 0x1400 else 0x1800) then
    let r := (off - 0x1000) / 64
    let o := off % 64
    modThread s t fun th => wrV th r (overlay (BitVec.ofNat 64 (255 * 2 ^ o)) (BitVec.ofNat 512 (v.toNat * 2 ^ (8 * o))) (rdV th r))
  else s

end Sys2Proof.Machine
end

