-- ==== Sys2Proof/Machine/Rider.lean ====
section
/-! DEFINITION. Riders (R184-R195, R203-R205, R328-R331): handles and the ready queue, SPAWN, YIELD, EXIT, TRIG, GWAIT, MIGRATE,
RQPUT. -/

namespace Sys2Proof.Machine

/-! ### Ready queue (R219) -/

/-- Handles at a level. -/
def levelCount (k : Core) (pri : Nat) : Nat := (k.rq.filter fun h => h.pri == pri).length

/-- A handle goes to the tail of its level; the list is in arrival order. -/
def enterQueue (s : State) (core : Nat) (h : Handle) : State := modCore s core fun k => { k with rq := k.rq ++ [h] }

/-- The handle of a rider whose context the core holds (KIND 2). -/
def arrivalHandle (ctx : Thread) : Handle :=
  { kind := 2, pri := ctx.ss.prio.toNat, rqp := 0, gid := 0, addr := 0, ctx := some ctx, slot := 0, pair := none, first := false }

/-- An arrival enters its level, or waits for room in the network interface, behind those that wait (R192). -/
def enterArrival (s : State) (core : Nat) (ctx : Thread) : State :=
  let k := coreAt s core
  let h := arrivalHandle ctx
  if levelCount k h.pri < 64 && k.arrivals.all (fun x => x.pri != h.pri) then enterQueue s core h
  else modCore s core fun k => { k with arrivals := k.arrivals ++ [h] }

/-- The context that a travel packet carries: g1-g24, pc, pw and the rider fields with PP, REPC and SKP zero (R191). -/
def packetContext (th : Thread) : Thread :=
  { Thread.reset with
    run := .ready, pc := word (field th.pc.toNat 55 2 * 4), pw := th.pw,
    ss := { th.ss with pp := false, repc := 0, skp := 0 }, g := th.g.filter fun e => e.1 ≤ 24, gid := th.gid, rid := th.rid,
    group := th.group, index := th.index, trig := th.trig, dlines := th.dlines, arrival := th.arrival, wbs := th.wbs }

/-- A new RID of a core: its identifier over its serial number, which runs from 1 to 0x3F_FFFF (R185). -/
def newRid (s : State) (core : Nat) : BitVec 32 × State :=
  let n := (coreAt s core).serial
  let rid := BitVec.ofNat 32 (core * 2 ^ 22 + n)
  let s := modCore s core fun k => { k with serial := if n = 0x3FFFFF then 1 else n + 1 }
  (rid, { s with ended := sdel s.ended rid.toNat })

/-! ### Instructions -/

/-- SPAWN: the RID is assigned at issue; the record's words are read as accesses (R328). -/
def execSpawn (m : Mark) (d a b : Reg) (s : State) : Answer :=
  let i := Instr.spawn m d a b
  .next (unit i (fun s =>
    let dst := (srcG s i .b b.toNat).toNat
    let addr := (srcG s i .a a.toNat).toNat
    if 1024 ≤ dst then .done (putG s d 0)
    else if addr % 64 ≠ 0 then .fault .align 0 0 (some addr)
    else
      let (rid, s) := newRid s s.cur.core
      let (id, s) := fresh s
      let s := putG s d (word rid.toNat)
      let s := { s with spawns := s.spawns ++ [⟨id, s.cur, rid, dst, addr⟩] }
      .done (launchAccess s { accessOf s id .spawnRead with va := addr, n := 64, pol := 6 } (outPlain id .other addr))) s)

/-- A rider of at least a priority waits or is berthed on the core (R329). -/
def someoneWaits (k : Core) (pri : Nat) : Bool :=
  k.rq.any (fun h => decide (pri ≤ h.pri)) || k.arrivals.any (fun h => decide (pri ≤ h.pri)) ||
    k.berths.any fun b => match b.2 with
      | some x => decide (pri ≤ x.handle.pri)
      | none => false

/-- YIELD: an unanchored rider goes behind the riders of its priority, without a release (R329). -/
def execYield (m : Mark) (s : State) : Answer :=
  let i := Instr.yield m
  .next (unit i (fun s =>
    let th := me s
    if th.ss.anch || !someoneWaits (myCore s) th.ss.prio.toNat then .done s
    else .left (enterArrival (freeSlot s s.cur) s.cur.core (packetContext (goTo th (nextUnit th))))) s)

/-- EXIT: a release at package scope, and the thread ends (R204). -/
def execExit (m : Mark) (s : State) : Answer :=
  .next (unit (.exit m) (fun s => withRelease s 3 fun s => .left (endRider s s.cur)) s)

/-- TRIG: a release at package scope; the first marks the rider triggered (R203). -/
def execTrig (m : Mark) (s : State) : Answer :=
  .next (unit (.trig m) (fun s =>
    withRelease s 3 fun s =>
      let th := me s
      let s' := modMe s fun th => { th with trig := true }
      match th.group with
      | some (g, i) => .done (if th.trig then s' else memberTriggers s' g i)
      | none => .done s') s)

/-- The predecessor of the rider's grid is still in flight (R205, R213). One that has ended without completing is in flight no more, and the
dependant that keeps running (R218) waits for it no longer. DESIGN CHOICE, log entry 36. -/
def predecessorLive (s : State) : Bool :=
  match gridOf s (me s) with
  | some d => match d.pred with
    | some p => s.grids.any fun g => g.key == p
    | none => false
  | none => false

/-- GWAIT: it waits for the predecessor's completion, and then acts as an acquire fence at package scope (R205). -/
def execGwait (m : Mark) (s : State) : Answer :=
  .next (unit (.gwait m) (fun s =>
    if predecessorLive s then .park .grid s
    else if !(me s).outs.isEmpty then .park .marker s
    else acquireFence s 3) s)

/-- MIGRATE (R195). -/
def execMigrate (m : Mark) (a : Reg) (s : State) : Answer :=
  let i := Instr.migrate m a
  .next (unit i (fun s =>
    let v := (srcG s i .a a.toNat).toNat
    if (me s).ss.anch || decide (1024 ≤ v) then .done (setStay s true)
    else .left (withdraw (modMe s fun th => { th with run := .departing (.migrate v) }) s.cur)) s)

/-- RQPUT (R331). The order of its faults: DESIGN CHOICE, log entry 71. -/
def execRqput (m : Mark) (d a b : Reg) (s : State) : Answer :=
  let i := Instr.rqput m d a b
  .next (unit i (fun s =>
    let addr := (srcG s i .a a.toNat).toNat
    let pri := (srcG s i .b b.toNat).toNat % 4
    let p := (me s).ss.priv
    if p = 0 then .fault .priv 0 0 none
    else if addr % 64 ≠ 0 then .fault .align 0 0 (some addr)
    else if 2 ^ 56 ≤ addr then .fault .ill 0 0 none
    else if 64 ≤ levelCount (myCore s) pri then .done (putG s d 0)
    else
      let h : Handle :=
        { kind := 0, pri := pri, rqp := p, gid := (me s).gid, addr := addr, ctx := none, slot := 0, pair := none, first := false }
      .done (putG (enterQueue s s.cur.core h) d 1)) s)

end Sys2Proof.Machine
end

