-- ==== Sys2Proof/Machine/Dispatcher.lean ====
section
/-! DEFINITION. The front end, the pilot and the die dispatchers (R207-R218): FRONT_END_POP, BATCH_HANDOUT, GROUP_PLACE,
GRID_COMPLETE, PILOT_ELECTION. -/

namespace Sys2Proof.Machine

/-! ### Reports (R214) -/

/-- A 16 B message to the host node of a node-table index (R449). -/
def tellHost (s : State) (w0 w1 : Word) : State :=
  let s := { s with reports := s.reports ++ [(w0, w1)] }
  let n := aget Node.reset s.nodes s.repNode.toNat
  if n.v then
    let p := packet s 0x07 n.node true 0 0
    sendPacket s { p with size := 3, opd0 := w0, opd1 := w1 }
  else s

/-- A report. -/
def report (s : State) (type code : Nat) (gid : BitVec 16) (detail : Word) : State :=
  tellHost s (word (type * 2 ^ 56 + code * 2 ^ 48 + gid.toNat * 2 ^ 32 + s.seq.toNat)) detail

/-! ### Free slots (R207, R217) -/

/-- Handles that wait for a deck slot other than the kernel slot. DEDUCED, log entry 47. -/
def waitsDeck (k : Core) : Nat :=
  (k.rq.filter fun h => h.slot == 0).length + (k.berths.filter fun b => match b.2 with
    | some x => x.handle.slot == 0
    | none => false).length

def slotFree (k : Core) (n : Nat) : Bool := (aget Thread.reset k.threads n).run == .free

/-- Available deck slots of a core (R217). -/
def availDeck (k : Core) : Nat :=
  ((List.range 7).filter fun i => slotFree k i && !(i == 0 && k.kernel.isSome)).length - waitsDeck k

def quayFree (k : Core) : Bool := slotFree k 7 && slotFree k 8

/-- A sum over the 256 cores of a die, those at reset in one. -/
def sumCores (s : State) (die : Nat) (f : Core → Nat) : Nat :=
  let cs := s.cores.filter fun e => dieOf e.1 == die
  (cs.map fun e => f e.2).sum + (256 - cs.length) * f Core.reset

/-- FREEDECK (R207). -/
def freeDeck (s : State) (die : Nat) : Nat := sumCores s die availDeck

def freeQuay (s : State) (die : Nat) : Nat := sumCores s die fun k => b01 (quayFree k)

/-! ### The front end (R209-R213) -/

/-- The entry group at the head of the launch queue: its size and its pusher's privilege mark; entries pushed before the bank became
the launch queue count singly, without the mark. -/
def headGroup (b : Bank) : Nat × Bool :=
  match b.facts with
  | [] => (1, false)
  | (_, p) :: r => (1 + (r.takeWhile fun f => !f.1).length, p)

/-- n elements popped from a queue bank, as the front end pops them. DEDUCED, log entry 47. -/
def popEntries (s : State) (core bank : Nat) : Nat → List Line × State
  | 0 => ([], s)
  | n + 1 =>
    let w := popPlan (placesOf s core bank) 64 false (Plan.start s core bank)
    let (r, s) := popEntries (applyPlan s core bank w) core bank n
    (BitVec.ofNat 512 w.value :: r, s)

/-- Word k of a packet's entry. -/
def entryAt (es : List Line) (e k : Nat) : Nat := lineBytes (es.getD e 0) (8 * k) 8

/-- The product X · Y · Z of a SIZE word (R187). -/
def gridTotal (size : Word) : Nat := field size.toNat 19 0 * field size.toNat 39 20 * field size.toNat 59 40

/-- Check 3 of R212. DEDUCED, log entry 35. -/
def malformed (es : List Line) (mark : Bool) : Bool :=
  let h := entryAt es 0
  let x := entryAt es 1
  let len := field (h 0) 55 53
  let priv := field (h 0) 29 28
  let kslot := bit (h 0) 27
  let ndeck := field (h 0) 26 24
  let ssz := field (h 7) 60 56
  let inlen := field (x 3) 32 20
  let inoff := field (x 3) 15 0
  let addrBad := fun (w : Nat) => field w 63 56 != 0 || field w 1 0 != 0
  let headBad := field (h 0) 22 16 != 0 || field (h 1) 23 17 != 0 || addrBad (h 2) || addrBad (h 3) || addrBad (h 4)
    || field (h 5) 63 60 != 0 || field (h 6) 63 56 != 0 || field (h 7) 63 61 != 0
  let nextBad := field (x 0) 62 16 != 0 || field (x 1) 63 56 != 0 || field (x 3) 63 33 != 0
    || field (x 4) 63 32 != 0 || field (x 5) 63 32 != 0 || field (x 6) 63 32 != 0 || x 7 != 0
  headBad || (decide (2 ≤ len) && nextBad) || decide (1 < priv) || ((priv == 1 || kslot) && !mark) || !bit (h 1) 16
    || (ndeck == 0 && !bit (h 0) 23) || (kslot && (ndeck == 0 || bit (h 0) 34)) || gridTotal (word (h 5)) == 0
    || !(ssz == 0 || (decide (12 ≤ ssz) && decide (ssz ≤ 20)))
    || (decide (2 ≤ len) && (inlen % 64 != 0 || decide (4096 < inlen) || inoff % 64 != 0 || decide (65536 < inoff + inlen)
      || (inlen != 0 && !bit (h 0) (field (x 3) 19 16))))

/-- The checks of R212 in their order: the code of the first that fails, or 0. DEDUCED, log entry 35. -/
def packetCode (s : State) (es : List Line) (mark : Bool) : Nat :=
  let h := entryAt es 0
  let len := field (h 0) 55 53
  if field (h 0) 63 56 ≠ 1 then 1
  else if len = 0 ∨ 4 < len ∨ len ≠ es.length then 2
  else if malformed es mark then 3
  else if s.grids.any fun (g : Grid) => g.gid.toNat == field (h 0) 52 37 then 4 else 0

/-- The grid of an accepted packet (R210, R211, R213). -/
def gridOfPacket (s : State) (es : List Line) : Grid :=
  let h := entryAt es 0
  let two := decide (2 ≤ es.length)
  let x := fun (k : Nat) => if two then entryAt es 1 k else 0
  let pgid := BitVec.ofNat 16 (field (x 0) 15 0)
  let pred := if bit (x 0) 63 then (s.grids.find? fun (g : Grid) => g.gid == pgid).map (·.key) else none
  { key := s.gridKey, gid := BitVec.ofNat 16 (field (h 0) 52 37), pri := field (h 0) 36 35, roam := bit (h 0) 34,
    reissue := bit (h 0) 33, prx := bit (h 0) 32, rnd := BitVec.ofNat 2 (field (h 0) 31 30),
    priv := BitVec.ofNat 2 (field (h 0) 29 28), kslot := bit (h 0) 27, ndeck := field (h 0) 26 24, quay := bit (h 0) 23,
    banks := BitVec.ofNat 16 (field (h 0) 15 0), ctx := word (h 1), dentry := BitVec.ofNat 56 (h 2),
    aentry := BitVec.ofNat 56 (h 3), xentry := BitVec.ofNat 56 (h 4), size := word (h 5), args := word (h 6),
    ssz := field (h 7) 60 56, sbase := field (h 7) 55 0, pred := pred, pgid := pgid, insrc := word (x 1),
    instride := word (x 2), inlen := field (x 3) 32 20, inbank := field (x 3) 19 16, inoff := field (x 3) 15 0,
    qbar := BitVec.ofNat 32 (x 4), dbar := BitVec.ofNat 32 (x 5), pbar := BitVec.ofNat 32 (x 6),
    inline := (es.drop 2).flatMap fun l => bytesOf 64 l.toNat, argPos := 0, argWait := false, argFail := false, started := false,
    next := 0, back := [], placed := 0, ended := 0, trigd := [], lost := 0, noMore := false }

/-! ### Argument stores (R211) -/

def gridAt (s : State) (key : Nat) : Option Grid := s.grids.find? fun (g : Grid) => g.key == key
def modGrid (s : State) (key : Nat) (f : Grid → Grid) : State :=
  { s with grids := s.grids.map fun (g : Grid) => if g.key == key then f g else g }

/-- The name under which a grid's stores to a peer are in flight. -/
def argsRef (key : Nat) : ThreadRef := ⟨0, 14, key⟩

/-- A store of the front end to a peer, acknowledged before the grid may start. -/
def peerArgs (s : State) (g : Grid) (pa n : Nat) (mask : BitVec 64) (d : Line) : State :=
  let (id, s) := fresh s
  let a := { Access.blank id (argsRef g.key) .writeBack with
    pa := pa, n := n, data := d, mask := mask, gid := g.gid, ctx := g.ctx, stage := .atPeer }
  let p := packet s 0x03 (nodeOf s pa).node (ctxNs g.ctx) (BitVec.ofNat 16 id) (peerOff pa / 64 * 64)
  sendPacket { s with inflight := s.inflight ++ [a] } { p with size := 4, ndata := 1, pol := 1, mask := mask, flits := [d] }

/-- The argument bytes of a grid are stored, as far as its translation and the homes let them: one line, or a part of one, at a time.
An invalid node-table entry fails it through the coalescing table, as a translation does. DEDUCED, log entries 47, 64. -/
def storeArgs (s : State) (key : Nat) : (fuel : Nat) → State
  | 0 => s
  | fuel + 1 =>
    match gridAt s key with
    | none => s
    | some g =>
      if g.inline.isEmpty || g.argWait || g.argFail then s
      else
        let va := g.args.toNat + g.argPos
        let n := min (64 - va % 64) g.inline.length
        let core := s.lqCore.toNat
        let join := fun (s : State) (cause : Nat) (l : Option Leaf) =>
          coalesceAt (modGrid s key fun g => { g with argWait := true }) s.pilot ⟨core, 0, 0⟩ g.ctx (va % 2 ^ 56) cause 1 (.args key) l
        let wait := fun (s : State) (cause : Nat) => join s cause none
        let stored := fun (s : State) => storeArgs
          (modGrid s key fun g => { g with inline := g.inline.drop n, argPos := g.argPos + n }) key fuel
        if 2 ^ 56 ≤ va then wait s 7
        else if inDeviceRegion va then wait s (if (deviceBank core va).isSome then 13 else 7)
        else
          match translate s core g.ctx g.priv va Need.store 1 false with
          | .miss => wait s 0
          | .dirty _ l => join s 0 (some l)
          | .fail c => wait s c
          | .ok pa _ =>
            let mask := BitVec.ofNat 64 (ones n * 2 ^ (pa % 64))
            let d := BitVec.ofNat 512 (ofBytes (g.inline.take n) * 2 ^ (8 * (pa % 64)))
            if !isDram pa then
              if (nodeOf s pa).v then stored (peerArgs s g pa n mask d) else wait s 14
            else
              match homeReady s (homeLine pa) (.args key) true (ctxNs g.ctx) with
              | .wait s' => s'
              | .fail s' _ c => wait s' c
              | .yes s' => stored (engineWrite (answerUsed s' (homeLine pa) (.args key)) (homeLine pa) mask d)

/-- The front end may pop: no election is in progress, the table of grids has room, and the launch queue holds an entry (R209). -/
def frontMayPop (s : State) : Bool :=
  let b := bankAt s s.lqCore.toNat s.lqBank.toNat
  !s.electing && decide (s.grids.length < 64) && b.p.pers == 1 && b.p.esz == 3 && !b.busy && b.count != 0

/-- An entry group is popped and checked: its grid is in flight, or a report says why not (R209, R212, R213). -/
def popGroup (s : State) : State :=
  let core := s.lqCore.toNat
  let bank := s.lqBank.toNat
  let b := bankAt s core bank
  let (n, mark) := headGroup b
  let (es, s) := popEntries s core bank (min n b.count)
  let s := modBank s core bank fun b => { b with facts := b.facts.drop n }
  let s := { s with seq := s.seq + 1 }
  let code := packetCode s es mark
  let h := entryAt es 0 0
  if code ≠ 0 then report s 0x40 code (BitVec.ofNat 16 (field h 52 37)) (word h)
  else
    let g := gridOfPacket s es
    storeArgs { s with grids := s.grids ++ [g], gridKey := s.gridKey + 1 } g.key 4

/-- The front end's request at the launch queue. -/
def launchReq (s : State) : BankReq := agentReq .front s.lqCore.toNat s.lqBank.toNat .launch

/-- Nothing is ahead of an operation that reaches a bank now. -/
def bankIdle (b : Bank) : Bool := b.queue.isEmpty && b.net.isEmpty && b.alu.isNone && b.chg.isNone

/-- FRONT_END_POP: the front end's pop takes its turn among the operations on the launch queue. It is accepted and performed at once where
nothing is ahead of it; else it enters the bank's input queue, and is performed there by a later event of this kind (R67, R209).
DEDUCED, log entry 47. -/
def execFrontEndPop (s : State) : Answer :=
  .next (
    let core := s.lqCore.toNat
    let bank := s.lqBank.toNat
    let b := bankAt s core bank
    if (b.queue ++ b.net).any fun q => q.cmd == .launch then
      match turnReq s core bank with
      | some q =>
        if turnKind q != 3 || decide (s.now ≤ q.came) then s
        else
          let s := modBank s core bank fun b => { b with queue := b.queue.erase q }
          if frontMayPop s then popGroup s else s
      | none => s
    else if !frontMayPop s then s
    else if bankIdle b then popGroup s
    else admitBank s core bank (launchReq s))

/-! ### Batches (R205, R213, R216) -/

/-- Every group of the predecessor is triggered, or it is complete; a predecessor that was removed without being complete (key 0) never
is (R205, R218). DEDUCED, log entry 36. -/
def predecessorDone (s : State) (g : Grid) : Bool :=
  g.started || match g.pred with
    | none => true
    | some 0 => false
    | some k =>
      match gridAt s k with
      | some p => decide (p.trigd.length = gridTotal p.size)
      | none => true

/-- A barrier object is assigned to an earlier grid too (R213). -/
def barrierConflict (s : State) (g : Grid) : Bool :=
  (s.grids.takeWhile fun (x : Grid) => x.key != g.key).any fun (x : Grid) =>
    (x.qbar &&& g.qbar) != 0 || (x.dbar &&& g.dbar) != 0 || (x.pbar &&& g.pbar) != 0

/-- The argument bytes are stored and released. -/
def argsStored (s : State) (g : Grid) : Bool := g.inline.isEmpty && s.inflight.all fun a => a.t != argsRef g.key

/-- The grid is free to dispatch and has undispatched indices. -/
def mayDispatch (s : State) (g : Grid) : Bool :=
  !g.noMore && !g.argFail && argsStored s g && predecessorDone s g && !barrierConflict s g &&
    (!g.back.isEmpty || decide (g.next < gridTotal g.size))

/-- The grid of highest PRI, the oldest first. -/
def chosenGrid (s : State) : Option Grid :=
  (s.grids.filter (mayDispatch s)).foldl (fun (best : Option Grid) (g : Grid) =>
    match best with
    | some b => if b.pri < g.pri then some g else best
    | none => some g) none

/-- The longest run of consecutive numbers at the head of a list. -/
def consecutive : List Nat → List Nat
  | a :: b :: r => if b = a + 1 then a :: consecutive (b :: r) else [a]
  | l => l

/-- The indices that a die would be handed (R216). -/
def batchFor (s : State) (die : Nat) (g : Grid) : List Nat :=
  let fit := if g.ndeck = 0 then freeQuay s die else freeDeck s die / g.ndeck
  if g.back.isEmpty then (List.range (min 64 (min (gridTotal g.size - g.next) fit))).map (g.next + ·)
  else (consecutive g.back).take (min 64 fit)

/-- A die that holds fewer than two batches and would be handed a group. -/
def requests (s : State) (g : Grid) (die : Nat) : Bool :=
  let d := dieAt s die
  !d.fenced && decide (d.batches.length < 2) && !(batchFor s die g).isEmpty

/-- BATCH_HANDOUT: argument bytes that are still to be stored have their turn; then the first die in the round that requests a batch
has one (R211, R216). DEDUCED, log entry 47. -/
def execBatchHandout (die : Nat) (s : State) : Answer :=
  .next (
    let s := s.grids.foldl (fun s (g : Grid) => storeArgs s g.key 4) s
    if s.electing then s
    else
      match chosenGrid s with
      | none => s
      | some g =>
        let order := (List.range 4).map fun i => (s.served + 1 + i) % 4
        if order.find? (requests s g) ≠ some die then s
        else
          let l := batchFor s die g
          let s := modDie s die fun d => { d with batches := d.batches ++ [⟨g.key, l⟩] }
          { modGrid s g.key fun g =>
              if g.back.isEmpty then { g with next := g.next + l.length } else { g with back := g.back.drop l.length }
            with served := die })

/-! ### Placing a group (R187, R217) -/

/-- The scratch banks of a mask. -/
def banksOf (m : BitVec 16) : List Nat := (List.range 16).filter m.getLsbD

/-- The CLEAR change of R217 has its turn at a bank now: nothing is in progress there, and no pin remains (R67, R77). -/
def bankQuiet (s : State) (core bank : Nat) : Bool :=
  (compositeOf s core bank).all fun x =>
    let b := bankAt s x.1 x.2
    !b.busy && b.queue.isEmpty && b.alu.isNone && b.chg.isNone && b.pin.isEmpty

/-- The core holds no rider, no berthed rider and no outstanding engine command. -/
def coreEmpty (k : Core) : Bool :=
  k.threads.all (fun e => e.2.run == .free) && nothingWaits k && k.cmds.isEmpty

/-- The core is eligible for a group of a grid (R217, R442). One that an evacuation is to move to takes none meanwhile: it stays FREE, as
R440 asks. DESIGN CHOICE, log entry 78. -/
def eligible (s : State) (core : Nat) (g : Grid) : Bool :=
  let k := coreAt s core
  !k.fwdV && s.evacs.all (fun e => e.2.1 != core) && (k.ctxid == g.ctx || coreEmpty k)
    && decide (g.ndeck ≤ availDeck k) && (!g.kslot || (slotFree k 0 && k.kernel.isNone)) && (!g.quay || quayFree k)
    && decide (levelCount k g.pri + g.ndeck + b01 g.quay ≤ 64)
    && (banksOf g.banks).all fun b =>
      !servesL1 s core b && !roleChanging s core b && !isLaunchQueue s core b
        && s.groups.all fun (x : Sys2Proof.Machine.Group) => x.core != core || !x.banks.getLsbD b

/-- The eligible core with the most available deck slots, then the lowest identifier. -/
def placeFor (s : State) (die : Nat) (g : Grid) : Option Nat :=
  ((List.range 256).map (256 * die + ·)).foldl (fun best c =>
    if eligible s c g then
      match best with
      | some b => if availDeck (coreAt s b) < availDeck (coreAt s c) then some c else best
      | none => some c
    else best) none

/-- The index of a group in its three dimensions. -/
def groupX (g : Grid) (i : Nat) : Nat := i % field g.size.toNat 19 0
def groupY (g : Grid) (i : Nat) : Nat := i / field g.size.toNat 19 0 % field g.size.toNat 39 20
def groupZ (g : Grid) (i : Nat) : Nat := i / field g.size.toNat 19 0 / field g.size.toNat 39 20

/-- The start state of R187: rider r of group i; 7 is the quay rider, whose arithmetic thread has no stack (R210). -/
def startThread (g : Grid) (core i r : Nat) (rid : BitVec 32) (arith : Bool) : Thread :=
  let kernel := g.kslot && r == 0
  let entry := if r = 7 then (if arith then g.xentry else g.aentry) else g.dentry
  let top := if g.ssz = 0 ∨ arith then 0 else g.sbase + (8 * i + r + 1) * 2 ^ g.ssz
  let put := fun (l : Assoc Word) (e : Nat × Word) => aset 0 l e.1 e.2
  { Thread.reset with
    run := .ready, pc := word entry.toNat, pw := 0xFFFF,
    ss := { Status.reset with
      priv := if kernel then 1 else g.priv, ns := ctxNs g.ctx, rnd := g.rnd, prx := g.prx, prio := BitVec.ofNat 2 g.pri,
      roam := g.roam, anch := !g.roam || r == 7 || kernel }
    g := [(2, word top), (3, word (groupX g i)), (4, word (groupY g i)), (5, word (groupZ g i)), (6, word r), (7, g.args),
      (8, g.size), (9, word (core * 65536 + g.banks.toNat)), (10, word rid.toNat)].foldl put []
    gid := g.gid, rid := rid, group := some (g.key, i), index := r }

/-- The handle of one rider of a group (KIND 1). -/
def startHandle (g : Grid) (core i r : Nat) (rid : BitVec 32) (first : Bool) : Handle :=
  { kind := 1, pri := g.pri, rqp := 0, gid := 0, addr := 0, ctx := some (startThread g core i r rid false),
    slot := if r = 7 then 7 else if g.kslot && r == 0 then 8 else 0,
    pair := if r = 7 then some (startThread g core i r rid true) else none, first := first && g.inlen != 0 }

/-- The barrier objects assigned to a grid, in every instance of their levels (R213). -/
def resetBarriers (s : State) (g : Grid) : State :=
  let clear := fun (m : BitVec 32) (l : Assoc Barrier) => l.filter fun e => !m.getLsbD e.1
  { s with
    quads := (s.quads.map fun e => (e.1, { e.2 with bars := clear g.qbar e.2.bars })).filter fun e => e.2 != Quad.reset
    dies := (s.dies.map fun e => (e.1, { e.2 with bars := clear g.dbar e.2.bars })).filter fun e => e.2 != Die.reset
    pbars := clear g.pbar s.pbars }

/-- The steps of R217 for a group on a core. -/
def placeGroup (s : State) (core : Nat) (g : Grid) (i : Nat) : State :=
  let fresh_ := s.groups.all fun (x : Sys2Proof.Machine.Group) => x.core != core
  let s := if (coreAt s core).ctxid = g.ctx then s else ctxidSet s core g.ctx
  let s := (banksOf g.banks).foldl (fun s b =>
    modBank (changeNow s core b Params.array 0).1 core b fun x => { x with group := g.gid, ns := true }) s
  let s := if fresh_ then modCore s core fun k => { k with mbox := [], mfull := [], bars := [], chain := [] } else s
  let s := if g.pred.isSome then acquireDrops s ⟨core, 0, 0⟩ 3 else s
  let s := if g.started then s else { resetBarriers s g with ecfgLocked := true }
  let n := g.ndeck + b01 g.quay
  let s := { s with groups := s.groups ++ [⟨g.key, i, core, g.banks, n, n, g.inlen != 0⟩] }
  let place := fun (s : State) (r : Nat) =>
    let (rid, s) := newRid s core
    let first := r == 0 || (r == 7 && g.ndeck == 0)
    let s := if g.kslot && r == 0 then modCore s core fun k => { k with kernel := some rid } else s
    enterQueue s core (startHandle g core i r rid first)
  let s := (List.range g.ndeck).foldl place s
  let s := if g.quay then place s 7 else s
  modGrid s g.key fun g => { g with placed := g.placed + 1, started := true }

/-- GROUP_PLACE: the next group of a die's first batch, which the die holds until its last group has been placed (R216), on the core that fits
it, once the banks take their changes (R217). DESIGN CHOICE, log entry 67. DEDUCED, log entry 47. -/
def execGroupPlace (die : Nat) (s : State) : Answer :=
  .next (match (dieAt s die).batches with
    | ⟨key, i :: rest⟩ :: more =>
      match gridAt s key with
      | some g =>
        match placeFor s die g with
        | some c =>
          if !(banksOf g.banks).all (bankQuiet s c) then s
          else placeGroup (modDie s die fun d => { d with batches := if rest.isEmpty then more else ⟨key, rest⟩ :: more }) c g i
        | none => s
      | none => s
    | _ => s)

/-! ### The end of a grid (R205, R211, R214, R218) -/

/-- A grid leaves the table. Its dependants wait for a completion that never comes, unless it was complete. -/
def removeGrid (s : State) (key : Nat) (complete : Bool) : State :=
  { s with
    grids := (s.grids.filter fun (g : Grid) => g.key != key).map fun (g : Grid) =>
      if g.pred == some key && !complete && !g.started then { g with pred := some 0 } else g
    dies := s.dies.map fun e => (e.1, { e.2 with batches := e.2.batches.filter fun b => b.gid != key }) }

/-- A grid ends with an error; every grid whose predecessor it is, and has not dispatched a group, is removed (R211, R218).
DEDUCED, log entry 36. -/
def endWithError (s : State) (g : Grid) (code n : Nat) : State :=
  let s := report s 0x42 code g.gid (word n)
  let deps := s.grids.filter fun (x : Grid) => x.pred == some g.key && !x.started
  let s := removeGrid s g.key false
  deps.foldl (fun s (x : Grid) => removeGrid (report s 0x42 6 x.gid (word (gridTotal x.size))) x.key false) s

/-- The engine commands of its riders have completed, and their accesses are performed at package scope; so are the write-backs of deferred
bytes, whoever caused them (R205). -/
def gridSettled (s : State) (g : Grid) : Bool :=
  s.inflight.all (fun a => (a.gid != g.gid && a.kind != .writeBack) || a.stage == .done) &&
    s.clears.all (fun c => c.gid != g.gid && c.t.slot != 15) &&
    s.cores.all fun e => e.2.cmds.all fun c => match c.2 with
      | some c => c.gid != g.gid
      | none => true

/-- GRID_COMPLETE: the grid is complete, or has ended with an error (R205, R211, R218). -/
def execGridComplete (gid : Nat) (s : State) : Answer :=
  .next (match s.grids.find? fun (g : Grid) => g.gid.toNat == gid with
    | none => s
    | some g =>
      let total := gridTotal g.size
      let live := s.groups.any (fun (x : Sys2Proof.Machine.Group) => x.grid == g.key) ||
        s.dies.any fun e => e.2.batches.any fun b => b.gid == g.key
      if g.argFail then endWithError s g 8 total
      else if g.noMore && !live then endWithError s g 5 (total - g.ended)
      else if g.ended = total ∧ gridSettled s g then removeGrid (report s 0x41 0 g.gid (word total)) g.key true
      else s)

/-- PILOT_ELECTION: the lowest-numbered die that is not fenced becomes the pilot (R215). -/
def execPilotElection (s : State) : Answer :=
  .next (
    if !s.electing then s
    else
      match (List.range 4).find? fun d => !(dieAt s d).fenced with
      | some d => { s with pilot := d, electing := false }
      | none => s)

end Sys2Proof.Machine
end

