-- ==== Sys2Proof/Machine/Kill.lean ====
section
/-! DEFINITION. Killing a context (R326, R444, R445, R465): CTXKILL, HKILL and CTXKILL_COMPLETE. -/

namespace Sys2Proof.Machine

/-- A CTXID value names a context (R326). -/
def isContext (ns : Bool) (asid : BitVec 16) (w : Word) : Bool := ctxNs w == ns && ctxAsid w == asid

/-- The cores of a context; a core at reset belongs to the secure context of ASID 0 (R22). -/
def contextCores (s : State) (ns : Bool) (asid : BitVec 16) : List Nat :=
  (List.range 1024).filter fun c => isContext ns asid (coreAt s c).ctxid

/-- Handles of records that have not been read: the rider's RID is not known to the core. -/
def unreadOf (k : Core) : Nat :=
  ((k.rq ++ k.arrivals).filter fun h => h.kind == 0).length + (k.berths.filter fun b => match b.2 with
    | some b => b.handle.kind == 0 && !b.loaded
    | none => false).length

/-- The riders of a core that are known: in slots, the pair of slot 7 counting once, and waiting with their context. -/
def ridersOf (k : Core) : Nat :=
  let live := fun (n : Nat) => (aget Thread.reset k.threads n).run != .free
  ((List.range 7).filter live).length + b01 (live 7 || live 8) + k.rq.length + k.arrivals.length +
    (k.berths.filter fun b => b.2.isSome).length - unreadOf k

/-- Saved riders of a context whose record no berth has read: those that an unread handle may name (R184). -/
def savedRiders (s : State) (cores : List Nat) (ns : Bool) (asid : BitVec 16) : Nat :=
  let read := cores.flatMap fun c => (coreAt s c).berths.filterMap fun b => match b.2 with
    | some b => if b.handle.kind == 0 && b.loaded then some ((lineWord b.lines 34).extractLsb' 0 32) else none
    | none => none
  (s.saved.filter fun x => x.ns == ns && x.asid == asid && !read.contains x.rid).length

/-- A waiting rider ends: its deferred lines, its group, its messages, its tiles (R444). -/
def waitingEnds (s : State) (core : Nat) (h : Handle) : State :=
  match h.ctx with
  | some th => accountEnd (flushLines s core th.dlines (nobody (dieOf core))) core th
  | none => s

/-- A rider in a slot ends without its release; its deferred lines leave for their homes (R444, steps 1 and 4).
DEDUCED, log entry 34. -/
def killThread (s : State) (t : ThreadRef) : State :=
  if (threadAt s t).run == .free then s
  else
    let s := withdraw (writeBackLines s t) t
    let other := threadAt s ⟨t.core, 7, 1 - t.th⟩
    let s := if t.slot = 7 then
        let s := if isAddr t && (threadAt s t).trig then modThread s ⟨t.core, 7, 1⟩ fun o => { o with trig := true } else s
        if other.run == .free then accountEnd s t.core (threadAt s t) else s
      else accountEnd s t.core (threadAt s t)
    setThread s t Thread.reset

/-- What remains of a core whose context is killed: its queues, mailboxes and messages are cleared, its tiles keep their contents, and
arrivals are discarded until CTXID is next written (R119, R198, R201, R405, R444). -/
def killedCore (ns : Bool) (asid : BitVec 16) (k : Core) : Core :=
  { k with
    threads := [], qexp := [], rq := [], arrivals := [], berths := [], kernel := none, mbox := [], mfull := [], mwait := []
    chain := [], msgs := [], evq := [], wake := [], ni := k.ni.filter (fun m => m.src.isSome && !isContext ns asid m.ctx)
    tiles := (k.tiles.map fun e => (e.1, { e.2 with pend := 0 })).filter (fun e => e.2 != Tile.reset)
    bookLoad := none, ldq := [], stq := [], killed := true }

/-- The riders, matrix steps and queues of one core end; every deck slot that becomes FREE sends SLOTFREE (R222, R444). -/
def killCore (ns : Bool) (asid : BitVec 16) (s : State) (core : Nat) : State :=
  let s := (coreAt s core).mq.foldl (fun s m => removeStep s core m 0 none) s
  let k := coreAt s core
  let freed := ((List.range 7).map fun i => (i, aget Thread.reset k.threads i)).filter fun e => e.2.run != .free
  let s := (List.range 9).foldl (fun s n => killThread s (ofTid core n)) s
  let waiting := k.rq ++ k.arrivals ++ k.berths.filterMap fun b => b.2.map (·.handle)
  let s := waiting.foldl (fun s h => waitingEnds s core h) s
  let s := modCore s core (killedCore ns asid)
  freed.foldl (fun s e => sendEvent s core 0x53 e.1 e.2.rid 0) s

/-- Engine commands of the context stop where they are, on every die, without a completion (R444, step 5). -/
def killCommands (s : State) (ns : Bool) (asid : BitVec 16) : State :=
  let mine := fun (c : Option Cmd) => match c with
    | some c => isContext ns asid c.ctx
    | none => false
  let gone := s.cores.flatMap fun e => (e.2.cmds.filter fun c => mine c.2).map fun c => (e.1, c.1)
  gone.foldl (fun s x => setCmd (leaveEngine s x.1 x.2) x.1 x.2 none) s

/-- A waiter of a cancelled coalescing entry goes without a fault; argument stores are tried again (R39). -/
def cancelWaiter (s : State) (w : Waiter) : State :=
  match w with
  | .access id => { dropAccess s id with spawns := s.spawns.filter fun x => x.id != id }
  | .args key => modGrid s key fun g => { g with argWait := false }
  | .fetch _ | .engine _ _ _ _ => s

/-- The context's coalescing entries of a die (R444, step 6). -/
def killEntries (ns : Bool) (asid : BitVec 16) (s : State) (die : Nat) : State :=
  let mine := fun (e : Coal) => isContext ns asid e.ctx
  let waits := (dieAt s die).coalWait.filter mine
  let s := modDie s die fun d => { d with coalWait := d.coalWait.filter fun e => !mine e }
  let es := (dieAt s die).coal.filter mine
  let s := es.foldl (fun s e => coalRemove s die e.index) s
  (es ++ waits).foldl (fun s e => e.waiters.foldl cancelWaiter s) s

/-- Reads of records, of inputs and of transfers, and reservations that have no grant, go without effect (R153, R444, step 3). -/
def killAccesses (s : State) (ns : Bool) (asid : BitVec 16) : State :=
  let mine := fun (a : Access) => isContext ns asid a.ctx
  let queued := s.homes.flatMap fun e => (e.2.resv.filter fun x => !x.granted).filterMap fun x =>
    match accessAt s x.req.id with
    | some a => if mine a && e.2.act.all (fun r => r.id != a.id) then some a.id else none
    | none => none
  let loads := (s.inflight.filter fun a => mine a && (forBerth a || match a.kind with
    | .spawnRead | .tileLoad _ | .bookLoad | .fence _ => true
    | _ => false)).map (·.id)
  let gone := queued ++ loads
  { s with
    inflight := s.inflight.filter fun a => !gone.contains a.id
    spawns := s.spawns.filter fun x => !gone.contains x.id
    homes := (s.homes.map fun e => (e.1, { e.2 with resv := e.2.resv.filter (fun x => !queued.contains x.req.id) })).filter
      (fun e => e.2 != Home.reset) }

/-- Riders on the way between cores end (R184, R444). DEDUCED, log entry 34. -/
def killTravels (s : State) (ns : Bool) (asid : BitVec 16) : State :=
  let gone := s.travels.filter fun x => x.ns == ns && x.asid == asid
  let s := gone.foldl (fun s x => accountEnd s x.src x.ctx) s
  { s with travels := s.travels.filter fun x => !(x.ns == ns && x.asid == asid) }

/-- Saved riders end too: there is no context to resume. Their deferred lines are written back (R184, R405, R444). DEDUCED, log entry 34. -/
def killSaved (s : State) (ns : Bool) (asid : BitVec 16) : State :=
  let gone := s.saved.filter fun x => x.ns == ns && x.asid == asid
  let s := gone.foldl (fun s x =>
    accountEnd (flushLines s x.core x.dlines (nobody (dieOf x.core))) x.core
      { Thread.reset with rid := x.rid, group := x.group, index := x.index, trig := x.trig }) s
  { s with saved := s.saved.filter fun x => !(x.ns == ns && x.asid == asid) }

/-- THE KILL OF A CONTEXT, the one shared operation (R444). A second kill of a context whose kill is in progress ends nothing (R326). An
unread handle may be that of a saved rider: the riders of both kinds count as the greater of their numbers. DEDUCED, log entry 34. -/
def killContext (s : State) (ns : Bool) (asid : BitVec 16) (issuer : Option ThreadRef) (tag : BitVec 32) : State :=
  if s.kills.any fun k => k.ns == ns && k.asid == asid then { s with kills := s.kills ++ [⟨ns, asid, 0, issuer, tag, []⟩] }
  else
    let cores := contextCores s ns asid
    let travelling := (s.travels.filter fun x => x.ns == ns && x.asid == asid).length
    let unread := (cores.map fun c => unreadOf (coreAt s c)).sum
    let n := (cores.map fun c => ridersOf (coreAt s c)).sum + travelling + max unread (savedRiders s cores ns asid)
    let s := killCommands s ns asid
    let s := cores.foldl (killCore ns asid) s
    let s := killSaved (killTravels s ns asid) ns asid
    let s := (List.range 4).foldl (killEntries ns asid) s
    let s := killAccesses s ns asid
    let s := { s with xinvs := s.xinvs.filter fun x => !cores.contains x.t.core }
    -- deferred bytes of the context may be on their way in a write-back that another act has caused
    let waits := (s.inflight.filter fun a => a.kind == .writeBack).map (·.id)
    { s with kills := s.kills ++ [⟨ns, asid, min n (2 ^ 32 - 1), issuer, tag, waits⟩] }

/-- CTXKILL (R326). The order of its faults: DESIGN CHOICE, log entry 71. DEDUCED, log entries 21, 34. -/
def execCtxkill (m : Mark) (a : Reg) (s : State) : Answer :=
  let i := Instr.ctxkill m a
  .next (unit i (fun s =>
    let v := (srcG s i .a a.toNat).toNat
    let own := (myCore s).ctxid
    let ns := bit v 16
    let asid := BitVec.ofNat 16 v
    if (me s).ss.priv ≠ 2 then .fault .priv 0 0 none
    else if 2 ^ 17 ≤ v then .fault .ill 0 0 none
    else if agentNs s s.cur.core && !ns then .fault .world 12 0 (some 0)
    else if isContext ns asid own then .fault .ill 0 0 none
    else .done (killContext s ns asid (some s.cur) (me s).rid)) s)

/-- HKILL's operand, as a host or a supervisor writes it, its reserved bits ignored; the KILLED message goes to REPNODE (R7, R465). -/
def hostKill (s : State) (v : Word) : State := killContext s (bit v.toNat 16) (v.extractLsb' 0 16) none 0

/-- HKILL (R465). DEDUCED, log entry 34. -/
def execHkill (who : Agent) (v : Word) (s : State) : Answer :=
  .next (if who.ns && !bit v.toNat 16 then s else hostKill s v)

/-- No write of the context is on its way any more, and none of the write-backs that were under way (R445). -/
def killSettled (s : State) (k : Kill) : Bool :=
  s.inflight.all fun a => performed a || !(isContext k.ns k.asid a.ctx || k.waits.contains a.id)

/-- CTXKILL_COMPLETE: the KILLED message, in the order of the kills of a context (R326, R445). DEDUCED, log entry 34. -/
def execCtxkillComplete (n : Nat) (s : State) : Answer :=
  .next (match s.kills[n]? with
    | none => s
    | some k =>
      let first := (s.kills.take n).all fun x => !(x.ns == k.ns && x.asid == k.asid)
      if !first || !killSettled s k then s
      else
        let w0 := word (0x60 * 2 ^ 56 + b01 k.ns * 2 ^ 16 + k.asid.toNat)
        let w1 := word k.ended
        let s := { s with kills := s.kills.eraseIdx n }
        match k.issuer with
        | some t => deliver s t.core (Msg.plain w0 w1 k.tag true)
        | none => tellHost s w0 w1)

end Sys2Proof.Machine
end

