-- ==== Sys2Proof/Machine/Evacuate.lean ====
section
/-! DEFINITION. Core evacuation (R440-R442): EVAC_GO, EVACUATION_COMPLETE, FWD_CLEAR. -/

namespace Sys2Proof.Machine

/-! ### The start (R440) -/

/-- The target is FREE throughout, with the source's CARVE.K. -/
def evacTargetFree (s : State) (src tgt : Nat) : Bool :=
  let k := coreAt s tgt
  src != tgt && k.threads.all (fun e => e.2.run == .free) && nothingWaits k && k.carveK == (coreAt s src).carveK &&
    s.groups.all fun (x : Sys2Proof.Machine.Group) => x.core != tgt

/-- A chain binding on the core, or a DN slot on the core before it. -/
def evacChained (s : State) (core : Nat) : Bool :=
  (coreAt s core).threads.any (fun e => e.2.ss.up || e.2.ss.dn) ||
    (core % 256 != 0 && (coreAt s (core - 1)).threads.any fun e => e.2.ss.dn)

/-- The reason of a refusal, the lowest code first; 0 when there is none. DEDUCED, log entry 49. -/
def evacWhy (s : State) (who : Agent) (src tgt : Nat) : Nat :=
  if !evacTargetFree s src tgt then 1
  else if dieOf src ≠ dieOf tgt then 2
  else if evacChained s src then 3
  else if quadOf src ≠ quadOf tgt && (coreAt s src).threads.any (fun e => e.2.regs.any fun r => r.level == 1) then 4
  else if who.ns && !ctxNs (coreAt s src).ctxid then 5
  else if (coreAt s src).fwdV || (coreAt s tgt).fwdV then 6 else 0

/-- A write of EVAC: with GO = 1 every slot is suspended, or the evacuation is refused (R440, R441, step 1). While one is under way
the write is ignored. DEDUCED, log entry 49. -/
def evacWrite (s : State) (who : Agent) (core : Nat) (v : Word) : State :=
  let k := coreAt s core
  if k.evSt = 1 then s
  else
    let tgt := v.toNat % 1024
    let s := modCore s core fun k => { k with evTarget := BitVec.ofNat 10 tgt }
    if !v.getLsbD 10 then s
    else
      let why := evacWhy s who core tgt
      if why ≠ 0 then modCore s core fun k => { k with evSt := 3, evWhy := BitVec.ofNat 3 why }
      else
        let before := (k.threads.filter fun e => e.2.susp || e.2.suspReq).map (·.1)
        let s := (List.range 9).foldl (fun s n => modThread s (ofTid core n) suspendThread) s
        let s := modCore s core fun k => { k with evSt := 1, evWhy := 0 }
        { s with evacs := s.evacs ++ [(core, tgt, before)] }

/-- EVAC_GO (R440). DEDUCED, log entry 49. -/
def execEvacGo (who : Agent) (core : Nat) (v : Word) (s : State) : Answer := .next (evacWrite s who core v)

/-! ### When it may complete (R441, step 2) -/

/-- Accepted bank operations, matrix steps, MXVs and queue reads of the source have finished. DEDUCED, log entry 49. -/
def evacReady (s : State) (src : Nat) : Bool :=
  let k := coreAt s src
  k.threads.all (fun e => evacThreadReady e.2) && k.carveBusy.isNone && k.mq.isEmpty && k.ldq.all (fun e => e.ready) &&
    ((List.range 16).all fun b =>
      let x := bankAt s src b
      !x.busy && x.queue.isEmpty && x.alu.isNone && x.chg.isNone && x.pin.isEmpty) &&
    (k.cmds.all fun e => match e.2 with
      | some c => !(c.kind == .mxv) || (match c.stage with
        | .stopped _ _ _ => true
        | _ => false)
      | none => true) &&
    s.inflight.all fun a => a.t.core != src || match a.kind with
      | .port _ => false
      | _ => true

/-! ### The move (R441, step 3) -/

/-- A thread's new name. -/
def movedRef (src tgt : Nat) (t : ThreadRef) : ThreadRef := if t.core = src then { t with core := tgt } else t

def movedReq (src tgt : Nat) (r : HomeReq) : HomeReq :=
  { r with t := movedRef src tgt r.t, core := if r.core = src ∧ r.host.isNone then tgt else r.core }

def movedHome (src tgt : Nat) (h : Home) : Home :=
  { h with
    queue := h.queue.map (movedReq src tgt)
    act := h.act.map (movedReq src tgt)
    resv := h.resv.map fun x => { x with req := movedReq src tgt x.req } }

def movedMsg (src tgt : Nat) (m : Msg) : Msg := { m with src := m.src.map (movedRef src tgt) }

def movedBankReq (src tgt : Nat) (q : BankReq) : BankReq :=
  { q with
    t := movedRef src tgt q.t
    src := match q.src with
      | .writer t id => .writer (movedRef src tgt t) id
      | x => x }

def movedName (src tgt : Nat) (b : Nat × Nat) : Nat × Nat := if b.1 = src then (tgt, b.2) else b

def movedBank (src tgt : Nat) (b : Bank) : Bank :=
  { b with
    comp := b.comp.map (movedName src tgt)
    queue := b.queue.map (movedBankReq src tgt)
    net := b.net.map (movedBankReq src tgt)
    alu := b.alu.map fun u => { u with req := movedBankReq src tgt u.req }
    chg := b.chg.map fun u => { u with req := movedBankReq src tgt u.req, names := u.names.map (movedName src tgt) } }

def movedCmd (src tgt : Nat) (c : Cmd) : Cmd := { c with t := movedRef src tgt c.t }

/-- What the other cores and the source hold of the threads and banks that move. -/
def movedCore (src tgt : Nat) (k : Core) : Core :=
  { k with
    banks := k.banks.map fun e => (e.1, movedBank src tgt e.2)
    ni := k.ni.map (movedMsg src tgt)
    cmds := k.cmds.map fun e => (e.1, e.2.map (movedCmd src tgt)) }

def movedWaiter (src tgt : Nat) (w : Waiter) : Waiter :=
  match w with
  | .fetch t => .fetch (movedRef src tgt t)
  | w => w

def movedCoal (src tgt : Nat) (e : Coal) : Coal :=
  { e with core := if e.core = src then tgt else e.core, waiters := e.waiters.map (movedWaiter src tgt) }

def movedDie (src tgt : Nat) (d : Die) : Die :=
  { d with coal := d.coal.map (movedCoal src tgt), coalWait := d.coalWait.map (movedCoal src tgt) }

/-- Every name of a thread or a bank of the source, wherever it is kept. -/
def renameCore (s : State) (src tgt : Nat) : State :=
  { s with
    cur := movedRef src tgt s.cur
    cores := s.cores.map fun e => (e.1, movedCore src tgt e.2)
    dies := s.dies.map fun e => (e.1, movedDie src tgt e.2)
    homes := s.homes.map fun e => (e.1, movedHome src tgt e.2)
    inflight := s.inflight.map fun a => { a with t := movedRef src tgt a.t }
    clears := s.clears.map fun c => { c with t := movedRef src tgt c.t }
    spawns := s.spawns.map fun x => { x with t := movedRef src tgt x.t }
    xinvs := s.xinvs.map fun x => { x with t := movedRef src tgt x.t }
    kills := s.kills.map fun k => { k with issuer := k.issuer.map (movedRef src tgt) }
    groups := s.groups.map fun (x : Sys2Proof.Machine.Group) => { x with core := if x.core = src then tgt else x.core } }

/-- The storage of the source's banks moves to the target's. -/
def moveStorage (s : State) (src tgt : Nat) : State :=
  let a := src * 2 ^ 20
  let b := tgt * 2 ^ 20
  let cells := s.sram.filter fun c => decide (a ≤ c.1) && decide (c.1 < a + 2 ^ 20)
  let lines := s.sramBad.filter fun l => decide (a ≤ 64 * l) && decide (64 * l < a + 2 ^ 20)
  let rest := zeroRange (zeroRange s.sram a (2 ^ 20)) b (2 ^ 20)
  let bad := s.sramBad.filter fun l => !(decide (a ≤ 64 * l) && decide (64 * l < a + 2 ^ 20)) &&
    !(decide (b ≤ 64 * l) && decide (64 * l < b + 2 ^ 20))
  { s with
    sram := cells.foldl (fun m c => wrByte m (c.1 - a + b) c.2) rest
    sramBad := lines.foldl (fun l x => sins l (x - a / 64 + b / 64)) bad }

/-- Owned words of the core's lines are written back (R441, step 3). DEDUCED, log entry 49. -/
def releaseCore (s : State) (core : Nat) : State :=
  let die := dieOf core
  ((dieAt s die).l2.filter fun e => e.2.owners.any fun o => o.2 == core).foldl (fun s e =>
    let w := e.2.owners.foldl (fun (w : BitVec 16) o => if o.2 = core then w ||| BitVec.ofNat 16 (2 ^ o.1) else w) 0
    releaseWords s die (64 * e.1) w true) s

/-- A thread resumes in the state it held, or suspended where that was asked for meanwhile. -/
def resumedThread (before : List Nat) (e : Nat × Thread) : Nat × Thread :=
  (e.1, { e.2 with susp := before.contains e.1, suspReq := false })

/-- The move itself: the listed state goes to the target, and the source keeps its engine commands, its serial number and what is not
listed. DEDUCED, log entry 49. -/
def moveCore (s : State) (src tgt : Nat) (before : List Nat) : State :=
  let s := moveStorage (renameCore (releaseCore s src) src tgt) src tgt
  let k := coreAt s src
  let s := modCore s tgt fun x =>
    { x with
      ctxid := k.ctxid, lease := k.lease, seed := k.seed, cbtV := k.cbtV, cbtOwner := k.cbtOwner, book := k.book
      banks := k.banks, mbox := k.mbox, mfull := k.mfull, mwait := k.mwait, bars := k.bars, msgs := k.msgs, evq := k.evq
      ni := x.ni ++ k.ni, inserted := k.inserted, rq := k.rq, arrivals := k.arrivals, berths := k.berths, kernel := k.kernel, tiles := k.tiles
      threads := k.threads.map (resumedThread before), qntm := k.qntm, qexp := k.qexp, bookLoad := k.bookLoad
      ldq := k.ldq, stq := k.stq, killed := k.killed, idle := false }
  setCore s src { Core.reset with
    carveK := k.carveK, carveRef := k.carveRef, carveWait := k.carveWait, tvec := k.tvec, cycleOff := k.cycleOff, srt := k.srt,
    wake := k.wake, serial := k.serial, rr := k.rr, tlb := k.tlb, cmds := k.cmds, evTarget := k.evTarget, evWhy := 0, evSt := 2,
    fwdV := true, fwdTarget := BitVec.ofNat 10 tgt }

/-- EVACUATION_COMPLETE: steps 3-6 of R441. DEDUCED, log entry 49. -/
def execEvacuationComplete (core : Nat) (s : State) : Answer :=
  .next (match s.evacs.find? fun e => e.1 == core with
    | none => s
    | some (src, tgt, before) =>
      if !evacReady s src then s
      else
        let ctx := (coreAt s src).ctxid
        let s := moveCore { s with evacs := s.evacs.filter fun e => e.1 != core } src tgt before
        toSupervisor s (dieOf src) (ctxNs ctx) (word (0x13 * 2 ^ 56 + tgt * 2 ^ 10 + src)) 0)

/-- A write of FWD: V := 0 where 0 is written (R442). -/
def fwdWrite (s : State) (core : Nat) (v : Word) : State :=
  if v.getLsbD 63 then s else modCore s core fun k => { k with fwdV := false }

/-- FWD_CLEAR (R442). DEDUCED, log entry 49. -/
def execFwdClear (core : Nat) (s : State) : Answer := .next (fwdWrite s core 0)

end Sys2Proof.Machine
end

