-- ==== Sys2Proof/Machine/Boot.lean ====
section
/-! DEFINITION. Resets and boot (R487-R489). -/

namespace Sys2Proof.Machine

/-- What a reset keeps of the model's own fields and of the world outside: the moves still to come, the numbering of
free values, and the boot image in the configuration flash. DESIGN CHOICE, log entry 60. -/
def keepOutside (old new : State) : State :=
  { new with agenda := old.agenda, stepNo := old.stepNo, flash := old.flash }

/-- A COLD reset: every row of DRAM is filled with zeros, everything else takes its reset value (R488). DESIGN CHOICE, log entry 60. -/
def coldReset (s : State) : State := keepOutside s State.reset

/-- The BLW range of a region register that marks secure DRAM: start and length in bytes (R457). -/
def secureRange (s : State) (stack j : Nat) : Option (Nat × Nat) :=
  let r := (stackAt s stack).regions
  let w0 := (aget 0 r (2 * j)).toNat
  let w1 := (aget 0 r (2 * j + 1)).toNat
  let base := field w0 19 0
  let last := field w1 19 0
  if bit w0 63 && !bit w0 62 && decide (base ≤ last) then
    some (stack * 2 ^ 36 + base * 65536, (last - base + 1) * 65536)
  else none

/-- A WARM reset: DRAM is kept, but for the ranges that a valid region register marks secure, which are filled with zeros;
everything else takes its reset value (R488). DESIGN CHOICE, log entry 60. -/
def warmReset (s : State) : State :=
  let ranges := (List.range 256).filterMap fun n => secureRange s (n / 16) (n % 16)
  -- modified LLC lines are written first
  let s := s.llc.foldl (fun s e => cleanLlc s e.1) s
  -- owned words that only a die holds are lost; the home's data stands (R488)
  let mem := ranges.foldl (fun m r => zeroRange m r.1 r.2) s.dram
  let bad := ranges.foldl (fun l r => l.filter fun x => decide (64 * x < r.1 ∨ r.1 + r.2 ≤ 64 * x)) s.dramBad
  keepOutside s { State.reset with dram := mem, dramBad := bad }

/-- Who may write PRST.LEVEL: a host node or a secure supervisor (R487). -/
def mayReset (a : Agent) : Bool := a.host || !a.ns

/-! ### Boot (R489) -/

/-- An 8-byte word written at an IW offset. -/
def wrIw (m : Memory) (o v : Nat) : Memory := wrNat m (iwToBlw o) 8 v

/-- The boot image copied to IW from an offset on, byte by byte. -/
def wrIwBytes (m : Memory) (o : Nat) : List Byte → Memory
  | [] => m
  | b :: r => wrIwBytes (wrByte m (iwToBlw o) b) (o + 1) r

/-- The tables and the image of step 5. The leaf of the control window permits RD and WR (DEDUCED, log entry 13). DESIGN CHOICE, log entry 60. -/
def bootMemory (m : Memory) (image : List Byte) : Memory :=
  let m := m.filter fun c => decide (0x10000 ≤ blwToIw c.1)
  let m := wrIw m 0 0x8001
  let m := wrIw m 0x8000 0x3C1F
  let m := wrIw m (0x8000 + 8 * 0x201) 0x2010000000F
  wrIwBytes m 0x10000 (image.take 0x100000)

/-- A line that step 5 writes whole: one of the first 64 KiB of IW, which hold the tables, or of the image. Its poison mark goes (R446). -/
def bootWrites (image : List Byte) (line : Nat) : Bool :=
  decide (blwToIw (64 * line) + 64 ≤ 0x10000 + (image.take 0x100000).length)

/-- The secure supervisor rider of a die (step 7). Its RID is the first of its core (DESIGN CHOICE, log entry 14). DEDUCED, log entry 24. -/
def supervisorThread (die : Nat) : Thread :=
  { Thread.reset with
    run := .ready, pc := 0x10000, g := aset 0 [] 3 (word die), pw := 0xFFFF,
    ss := { Status.reset with priv := 2 }, rid := BitVec.ofNat 32 ((256 * die + 1) * 2 ^ 22 + 1) }

/-- Slot 0 of core 0 of a die: FROZEN with class BREAK and code 0x3FF, and no packet (step 7). -/
def frozenThread : Thread :=
  { Thread.reset with run := .ready, froz := true, fault := FaultInfo.mk (some .brk) 0 true 0 0x3FF false false 0 }

/-- The launch queue as R208 sets it at boot. -/
def launchBank (b : Bank) : Bank :=
  { b with ns := true, group := 0xFFFF, p := { Params.array with pers := 1, esz := 3 }, head := 0, count := 0, facts := [] }

/-- Steps 5-8 of the boot: tables and image, launch queue, the riders of each die, STATE running.
DESIGN CHOICE, log entries 7, 8, 14. -/
def bootState (s : State) (portsUp : BitVec 16) : State :=
  let s := { s with dram := bootMemory s.dram s.flash, dramBad := s.dramBad.filter fun l => !bootWrites s.flash l }
  let s := modBank s 0 15 launchBank
  let s := (List.range 4).foldl (fun s d =>
    let s := setThread s ⟨256 * d + 1, 0, 0⟩ (supervisorThread d)
    let s := modCore s (256 * d + 1) fun k => { k with serial := 2 }
    setThread s ⟨256 * d, 0, 0⟩ frozenThread) s
  let ports := (List.range 16).foldl (fun p i => aset PortState.down p i (if portsUp.getLsbD i then .up8 else .down)) []
  { s with prst := 2, ports := ports, cur := ⟨1, 0, 0⟩ }

/-! ### Placing a word where the next step fetches -/

/-- The leaf through which the thread fetches at an address: buffered, or as the tables give it. -/
def fetchLeaf (s : State) (t : ThreadRef) (va : Nat) : Option Leaf :=
  let ctx := (coreAt s t.core).ctxid
  match lookupLeaf s t.core (ctxAsid ctx) va with
  | some l => some l
  | none =>
    match walkTables (fun a => match dramOff a with
        | some o => match llcAt s (o / 64) with
          | some l => .ok (lineBytes l.data (o % 64) 8)
          | none => .ok (rdNat s.dram o 8)
        | none => .error 6) (ctxRoot ctx) va with
    | .leaf e level loc => some ⟨ctxAsid ctx, va / 2 ^ pageBits level * 2 ^ pageBits level, 2 ^ pageBits level, word e, loc⟩
    | .fail _ => none

/-- Four bytes of an instruction word stored at the physical address of the current thread's pc, with the leaf of its page
in the core's buffer and no older copy in the way; the thread is READY at the start of a unit and has its turn. DESIGN CHOICE, log entry 8. -/
def placeWord (s : State) (w : Nat) : State :=
  let t := s.cur
  let th := me s
  let s := modMe s fun th =>
    { th with run := .ready, susp := false, froz := false, prog := .none,
              ss := { th.ss with pp := false, repc := 0, skp := 0 }, desc := ⟨0, 0⟩ }
  let s := modCore s t.core fun k => { k with rr := (t.slot + 6) % 7 }
  match fetchLeaf s t th.pc.toNat with
  | none => s
  | some l =>
    let s := installLeaf s t.core l
    let pa := leafPa l th.pc.toNat
    match dramOff pa with
    | none => s
    | some o =>
      let s := evictL2 s (dieOf t.core) (lineAddr pa)
      -- the LLC has no other value
      dropLlc { s with dram := wrNat s.dram o 4 w } (o / 64)

end Sys2Proof.Machine
end

