-- ==== Sys2Proof/Machine/Lines.lean ====
section
/-! DEFINITION. Accesses at their die's lines (R44-R50, R133-R152, R156, R160, R450): what an access finds in the L1 and the L2, what it asks of
a home or a peer, and what it does with the line that comes back. -/

namespace Sys2Proof.Machine

/-! ### The bytes of an access -/

/-- The bytes that an access reads, out of the line that holds them. -/
def accBytes (a : Access) (d : Line) : Line := BitVec.ofNat 512 (lineBytes d (a.pa % 64) a.n)

/-- The words that an access reads (R134). -/
def accWords (a : Access) : BitVec 16 := wordsTouched (a.pa % 64) a.n

/-- The bytes that an access writes, as a mask and data of its line. -/
def accMask (a : Access) : BitVec 64 :=
  match a.kind with
  | .tileStore _ => BitVec.allOnes 64
  | _ => BitVec.ofNat 64 (a.mask.toNat * 2 ^ (a.pa % 64))
def accData (a : Access) : Line :=
  match a.kind with
  | .tileStore _ => a.lines.getD a.got 0
  | _ => BitVec.ofNat 512 (a.data.toNat * 2 ^ (8 * (a.pa % 64)))

/-- A vector access whose lane mask is zero makes its checks and changes nothing (R338). -/
def accIdle (a : Access) : Bool := !a.scalar && a.mask == 0 && (a.kind == .load || a.kind == .store)

def poisonFail (a : Access) : Fail := ⟨.poison, 0, a.va % 2 ^ 56, 0⟩
def nodeFail (a : Access) : Fail := ⟨.xlat, 14, a.va % 2 ^ 56, 0⟩

/-- The lines of a transfer: 16 of an MLD, those of an MST, 12 of a CBLD (R422, R423). -/
def transferLines (a : Access) : Nat :=
  match a.kind with
  | .tileLoad _ => 16
  | .tileStore _ => a.lines.length
  | .bookLoad => 12
  | _ => 1

/-- A line of a transfer is done: the next has its turn. -/
def nextTransferLine (s : State) (a : Access) : State :=
  modAccess s a.id fun x => { x with stage := .checked, got := x.got + 1, pa := x.pas.getD (x.got + 1) 0 }

/-! ### Values that come to an access -/

/-- The line that a read asked for: a value on its way to its register or queue, or one line of a longer read (R290, R328, R422,
R446). -/
def landRead (s : State) (id : Nat) (d : Line) (bad : Bool) : State :=
  match accessAt s id with
  | none => s
  | some a =>
    match a.kind with
    | .spawnRead => if bad then failAccess s id (poisonFail a) else gotRecordLine s id d
    | .tileLoad _ | .bookLoad =>
      if bad then failAccess s id (poisonFail a)
      else
        let s := modAccess s id fun x => { x with lines := x.lines ++ [d] }
        if transferLines a ≤ a.got + 1 then stageAccess s id .landing else nextTransferLine s a
    | _ => modAccess s id fun x => { x with value := accBytes x d, poison := bad, stage := .landing }

/-- A store has been performed; a transfer goes on with its next line (R136, R422). -/
def storePerformed (s : State) (id : Nat) : State :=
  match accessAt s id with
  | none => s
  | some a => if storesTile a.kind && decide (a.got + 1 < a.lines.length) then nextTransferLine s a else stageAccess s id .acked

/-! ### Lines of a die -/

/-- Deferred bytes of a die that fall into words which a reply grants become part of them: those under way to the home, in the order
they left, and then those that the line still holds (R143, R149). -/
def absorbDeferred (s : State) (die pa : Nat) (words : BitVec 16) (d : Line) : Line × State :=
  let m := maskOfWords words
  let d := overlay m (inTransit s die pa d) d
  let s := trimDeferred s die pa words
  let l := l2At s die pa
  (overlay (l.dmask &&& m) l.ddata d, if l.dmask = 0 then s else setL2 s die pa { l with dmask := l.dmask &&& ~~~m, dns := l.dns &&& ~~~m })

/-- Granted words join a die's line, which becomes O; the copies that its base held go (R144, R145). Words that the die owns already
are newer than the home's. The core owns them; nothing enters its L1. A mark of deferred bytes among them goes with them (R446). -/
def ownWords (s : State) (die core pa : Nat) (r : Reply) (t : ThreadRef) : State :=
  let m := maskOfWords r.grant
  let bad := r.bad || transitBad s die pa m || ((l2At s die pa).poison && ((l2At s die pa).dmask &&& m) != 0)
  let (d, s) := absorbDeferred s die pa r.grant r.data
  let s := flushDeferred s die core pa t
  let s := if (l2At s die pa).st == .owned then s else dropBase (makeRoomL2 s die pa) die pa
  let l := l2At s die pa
  let s := setL2 s die pa { l with
    st := .owned, data := overlay (maskOfWords (r.grant &&& ~~~l.own)) d l.data, own := l.own ||| r.grant, poison := l.poison || bad }
  moveWords s die core pa r.grant

/-- Granted words of a load, a store or an atomic enter the core's L1 as well. -/
def takeWords (s : State) (die core pa : Nat) (r : Reply) (t : ThreadRef) : State :=
  holdOwned (ownWords s die core pa r t) core pa

/-- Bytes are written into words that the die owns; the line's S and O copies in the L1s of its other cores go (R144). -/
def writeOwned (s : State) (die core pa : Nat) (mask : BitVec 64) (d : Line) : State :=
  let s := moveWords s die core pa (wordsOfMask mask)
  let s := dropL1s s die pa fun c x => c != core && x.st != .leased
  let l := l2At s die pa
  holdOwned (setL2 s die pa { l with data := overlay mask d l.data, poison := l.poison && mask != BitVec.allOnes 64 }) core pa

/-- What a load finds on its die: the line and its poison (R138, R143, R145). -/
def lookup (s : State) (a : Access) : Option (Line × Bool × State) :=
  let die := dieOf a.t.core
  let p := lineAddr a.pa
  if dieOwns s die p (accWords a) then
    some (hitOwned s a.t.core p (!(a.pol == 1 || (a.pol == 2 && (coreAt s a.t.core).lease == 0))))
  else if a.pol = 3 then hitCopy s a.t p (accWords a) true
  else if a.pol = 2 ∧ (coreAt s a.t.core).lease ≠ 0 then hitCopy s a.t p (accWords a) false
  else none

/-! ### Asking a home or a peer -/

/-- A request joins its home's queue (R149). -/
def askHome (s : State) (a : Access) (die : Nat) (words : BitVec 16) (k : ReqKind) : State :=
  let (seq, s) := fresh s
  let r : HomeReq :=
    ⟨a.id, a.t, die, a.t.core, lineAddr a.pa, words, k, ctxNs a.ctx, none, false, seq, hostBias s (homeLine a.pa)⟩
  stageAccess (modHome s (homeLine a.pa) fun h => { h with queue := h.queue ++ [r] }) a.id .atHome

/-- SIZE of a packet for n bytes (R449); a vector access that is no power of these travels as its line. -/
def sizeCode (n : Nat) : BitVec 3 :=
  match n with
  | 1 => 0 | 2 => 1 | 4 => 2 | 8 => 3 | _ => 4

/-- A packet leaves for the peer (R450). -/
def askPeer (s : State) (a : Access) (f : Packet → Packet) : State :=
  let p := packet s 0x01 (nodeOf s a.pa).node (ctxNs a.ctx) (BitVec.ofNat 16 a.id)
    (if sizeCode a.n = 4 then peerOff a.pa / 64 * 64 else peerOff a.pa)
  modAccess (sendPacket s (f { p with size := sizeCode a.n, pol := BitVec.ofNat 3 a.pol })) a.id fun x =>
    { x with stage := .atPeer, asked := s.nextId }

/-! ### Loads, stores and atomics of DRAM (R145, R152) -/

/-- The deferred bytes of the line leave first, but for a `.si` access, and a copy that is not live for the core goes (R145, R146).
DEDUCED, log entry 39. -/
def flushFirst (s : State) (a : Access) : State :=
  let s := dropDead s a.t.core (threadAt s a.t).arrival (lineAddr a.pa)
  if a.pol = 2 ∧ (isLoad a.kind || isStore a.kind) then s
  else flushDeferred s (dieOf a.t.core) a.t.core (lineAddr a.pa) a.t

def startLoad (s : State) (a : Access) : State :=
  let die := dieOf a.t.core
  let p := lineAddr a.pa
  let s := flushFirst s a
  match lookup s a with
  | some (d, bad, s) => landRead s a.id d bad
  | none =>
    let k := match a.pol with
      | 0 => .own (accWords a)
      | 3 => if (l2At s die p).st == .owned then .readWt else .readWi
      | _ => ReqKind.readWt
    askHome s a die (accWords a) k

/-- The deferred bytes of the line leave before a QLD or QST when the address thread has stored some of them: its own accesses to the line
are performed in its program order (R117). Those of other threads stay, since quay accesses pass the die's caches by (R107, R159, R473).
DEDUCED, log entry 39. -/
def flushOwn (s : State) (a : Access) : State :=
  if (threadAt s a.t).rid = a.rid ∧ (threadAt s a.t).dlines.contains (lineAddr a.pa) then
    flushDeferred s (dieOf a.t.core) a.t.core (lineAddr a.pa) a.t
  else s

/-- QLD and QST are performed at the home, beside the die's caches: they come from no die (R117, R159). DEDUCED, log entry 39. -/
def startQld (s : State) (a : Access) : State := askHome (flushOwn s a) a 4 (accWords a) .readWt
/-- DEDUCED, log entry 39. -/
def startQst (s : State) (a : Access) : State :=
  askHome (flushOwn s a) a 4 (wordsOfMask (accMask a)) (.write 1 (accMask a) (accData a))

/-- The access waits for the ownership of words of its line. -/
def asksWords (a : Access) : Bool :=
  isDram a.pa && (a.kind == .atomic || (a.pol == 0 && (isLoad a.kind || isStore a.kind))) && match a.stage with
    | .atHome | .reply _ => true
    | _ => false

/-- The words that it asks for. -/
def askedWords (a : Access) : BitVec 16 := if isStore a.kind then wordsOfMask (accMask a) else accWords a

/-- A `.si` store has bytes both in and beside words of its line that its die is being granted. It waits for the grant, which would turn a
part of its bytes into owned words and leave the rest deferred: the bytes of one store stay together (R142, R180). -/
def splitsStore (s : State) (a : Access) : Bool :=
  isStore a.kind && a.pol == 2 && isDram a.pa && s.inflight.any fun x =>
    asksWords x && dieOf x.t.core == dieOf a.t.core && lineAddr x.pa == lineAddr a.pa &&
      (askedWords x &&& askedWords a) != 0 && (askedWords a &&& ~~~askedWords x) != 0

/-- A `.si` store: owned words are surrendered, the bytes are held in the L2, and the L1s drop what R144 says. -/
def deferStore (s : State) (a : Access) : State :=
  let core := a.t.core
  let die := dieOf core
  let p := lineAddr a.pa
  let s := dropDead s a.t.core (threadAt s a.t).arrival (lineAddr a.pa)
  let s := makeRoomL2 (if (l2At s die p).st == .owned then surrender s die p else s) die p
  let l := l2At s die p
  let m := accMask a
  let s := setL2 s die p
    { l with dmask := l.dmask ||| m, ddata := overlay m (accData a) l.ddata
             dns := if ctxNs a.ctx then l.dns ||| m else l.dns &&& ~~~m, poison := l.poison && m != BitVec.allOnes 64 }
  let s := dropL1s (dropL1 s core p) die p fun c x => c != core && x.st != .leased
  stageAccess (recordDeferred s a p) a.id .acked

def startStore (s : State) (a : Access) : State :=
  let core := a.t.core
  let die := dieOf core
  let p := lineAddr a.pa
  let m := accMask a
  let w := wordsOfMask m
  let s := flushFirst s a
  match a.pol with
  | 0 =>
    if dieOwns s die p w then stageAccess (writeOwned s die core p m (accData a)) a.id .acked
    else askHome s a die w (.own w)
  | 2 => deferStore s a
  | pol => askHome (if dieOwns s die p w then surrender s die p else s) a die w (.write pol m (accData a))

/-- The operation on words that the die owns: they move to the core, and the value is on its way (R152, R341). Poisoned data stop it
with nothing written (R446). -/
def applyAtomic (s : State) (a : Access) : State :=
  let core := a.t.core
  let die := dieOf core
  let p := lineAddr a.pa
  let s := moveWords s die core p (accWords a)
  let l := l2At s die p
  let old := lineBytes l.data (a.pa % 64) a.n
  if l.poison then failAccess s a.id (poisonFail a)
  else
    let (new, fl) := atomicNew a.aop a.n (roundingOf a.rnd) old a.data.toNat a.y.toNat
    let s := match new with
      | some v => writeOwned s die core p (accMask a) (BitVec.ofNat 512 (v * 2 ^ (8 * (a.pa % 64))))
      | none => holdOwned s core p
    modAccess s a.id fun x => { x with value := BitVec.ofNat 512 old, flags := fl, stage := .landing }

def startAtomic (s : State) (a : Access) : State :=
  let die := dieOf a.t.core
  let s := flushFirst s a
  if dieOwns s die (lineAddr a.pa) (accWords a) then applyAtomic s a
  else askHome s a die (accWords a) (.reserve (a.pa % 64 / 4))

/-! ### Peers (R19, R20, R156) -/

/-- A peer address names a bank of its node. -/
def peerBank (pa : Nat) : Bool := windowKind (window pa) == 4 && match window (peerOff pa) with
  | .bank _ => true
  | _ => false

/-- An access to a bank of a peer: a bank access, of which no copy is ever kept (R20, R49, R450). An atomic goes as any other.
DESIGN CHOICE, log entry 70. -/
def askBank (s : State) (a : Access) : State :=
  if isLoad a.kind then askPeer s a fun p => { p with opc := 0x06, pol := 5 }
  else
    askPeer s a fun p =>
      if sizeCode a.n = 4 then { p with opc := 0x06, pol := 5, ndata := 1, mask := accMask a, flits := [accData a] }
      else { p with opc := 0x06, pol := 5, opd0 := a.data.extractLsb' 0 64, opd1 := 1 }

def startPeer (s : State) (a : Access) : State :=
  if !(nodeOf s a.pa).v then failAccess s a.id (nodeFail a)
  else if peerBank a.pa && (isLoad a.kind || isStore a.kind) then askBank s a
  else
    if isLoad a.kind then
      let s := flushFirst s a
      match lookup s a with
      | some (d, bad, s) => landRead s a.id d bad
      | none =>
        if a.pol = 2 ∧ (coreAt s a.t.core).lease ≠ 0 then
          askPeer s a fun p => { p with opc := 0x02, size := 4, addr := BitVec.ofNat 56 (peerOff a.pa / 64 * 64) }
        else askPeer s a id
    else if isStore a.kind then
      if a.pol = 2 then deferStore s a
      else
        let s := flushFirst s a
        let d := accData a
        askPeer s a fun p =>
          if sizeCode a.n = 4 then { p with opc := 0x03, ndata := 1, mask := accMask a, flits := [d] }
          else { p with opc := 0x03, opd0 := a.data.extractLsb' 0 64 }
    else
      askPeer (flushFirst s a) a fun p =>
        { p with opc := 0x05, aop := BitVec.ofNat 4 a.aop, ordsc := BitVec.ofNat 4 a.ordsc, opd0 := a.data.extractLsb' 0 64,
                 opd1 := a.y }

end Sys2Proof.Machine
end

