-- ==== Sys2Proof/Machine/HomeEvents.lean ====
section
/-! DEFINITION. Homes at work (R51-R56, R144-R154, R164, R449-R452, R458, R461): HOME_REQUEST, the messages that dies take, reservations and
forwarded words, FILL_REPLY, CLEARANCE, STORE_ACK, LEASE_EXPIRY. -/

namespace Sys2Proof.Machine

/-! ### What a request needs of other holders -/

/-- It takes the line for itself: sharers are invalidated before it is served. A write from the fabric is acknowledged with its
invalidations done, and RDX in host bias takes the line as an owner does (DEDUCED, log entry 17). -/
def takesLine (r : HomeReq) : Bool :=
  match r.kind with
  | .own _ | .reserve _ | .hostWrite _ _ | .evict | .flip => true
  | .hostRead 2 => r.bias
  | _ => false

/-- The snoop that it sends under host bias: SNPX for all that own or write (R452). -/
def snoopsExcl : ReqKind → Bool
  | .own _ | .reserve _ | .write _ _ _ | .deferred _ _ | .hostWrite _ _ => true
  | _ => false

/-- Owned words that the home recalls first: those that it touches and its own die does not own under its address; all, for
ownership by another die and for a host that will keep the line (R53, R56, R145, R149, R160). -/
def wordsRecalled (s : State) (line : Nat) (r : HomeReq) : BitVec 16 :=
  let h := homeAt s line
  let mine := if h.odie = r.die then (l2At s r.die r.pa).own else 0
  match r.kind with
  | .own _ | .reserve _ => if h.odie = r.die then r.words &&& h.own &&& ~~~mine else h.own
  | .evict | .flip => h.own
  | .hostRead 1 | .hostRead 2 => if r.bias then h.own else r.words &&& h.own
  | _ => r.words &&& h.own &&& ~~~mine

/-! ### Serving a request -/

/-- A request is refused: its requester learns why (R451, R458). A device's packet that the agent kept waiting gets AGENT.
DEDUCED, log entry 31. -/
def refuseReq (s : State) (r : HomeReq) (cls : FaultClass) (cause : Nat) : State :=
  match r.host with
  | some p => respondErr s p (if cls == .world then 3 else if cause = 14 then 5 else 2)
  | none =>
    match accessAt s r.id with
    | some a => failAccess s r.id ⟨cls, cause, a.va % 2 ^ 56, 0⟩
    | none => s

/-- Bytes of a scalar request of the fabric, or a line (R449). -/
def packetBytes (p : Packet) : Nat := if p.size = 4 then 64 else 2 ^ p.size.toNat

/-- The answer to a read from the fabric; C says that the host may keep the line, and what its agent had answered before is void then
(R452, R461). -/
def answerRead (s : State) (p : Packet) (line : Nat) (kind : Nat) (bias : Bool) : State :=
  let d := homeData s line
  let n := if kind = 0 then packetBytes p else 64
  let keep := (kind == 1 || kind == 2) && bias
  if linePoison s line then respondErr s p 4
  else
    let s := if keep then modHome s line fun h => { h with snooped := [] } else s
    let q := packet s 0x81 p.src p.ns p.tag 0
    let q := { q with size := p.size, keep := keep }
    if n = 64 then sendPacket s { q with ndata := 1, flits := [d] }
    else sendPacket s { q with opd0 := word (lineBytes d (p.addr.toNat % 64) n) }

/-- A reservation from the fabric has its word: the atomic is performed at the home, and the reservation leaves (R154). -/
def answerAtomic (s : State) (p : Packet) (line : Nat) : State :=
  let n := packetBytes p
  let o := p.addr.toNat % 64
  let old := lineBytes (homeData s line) o n
  if linePoison s line then respondErr s p 4
  else
    let v := (atomicNew p.aop.toNat n .rne old (p.opd0.toNat % 2 ^ (8 * n)) (p.opd1.toNat % 2 ^ (8 * n))).1
    let s := match v with
      | some v => writeHome s line (BitVec.ofNat 64 (ones n * 2 ^ o)) (BitVec.ofNat 512 (v * 2 ^ (8 * o)))
      | none => s
    respond s p 0x81 0 (word old) []

/-- A request that came from the caches of a die which has been fenced meanwhile: nobody takes the line (R443). -/
def fromFenced (s : State) (r : HomeReq) : Bool :=
  r.host.isNone && (dieAt s (dieOf r.t.core)).fenced && match r.kind with
    | .own _ | .reserve _ | .readWt | .readWi => true
    | _ => false

/-- A QST has been performed at the home: the copies in its core and its die hold older bytes, for the address thread (R117, R168). -/
def copiesAge (s : State) (core pa : Nat) : State :=
  let l := l2At s (dieOf core) pa
  let s := if l.st == .leased || l.st == .shared then setL2 s (dieOf core) pa { l with old := true } else s
  match l1At s core pa with
  | some c => setL1 s core pa { c with old := true }
  | none => s

/-- A line has gone home for a write of the bias table, which is acknowledged with the last of them (R462). -/
def flipped (s : State) (seq : Nat) : State :=
  let fs := s.flips.map fun (f : Flip) => { f with waits := f.waits.filter fun n => n != seq }
  let over_ := fs.filter fun (f : Flip) => f.waits.isEmpty
  over_.foldl (fun s f => finishWrite s f.w) { s with flips := fs.filter fun (f : Flip) => !f.waits.isEmpty }

/-- The home's reply leaves for the die of the request (R148). -/
def answerReq (s : State) (line : Nat) (r : HomeReq) (grant : BitVec 16) (share : Bool) : State :=
  let (seq, s) := fresh s
  stageAccess s r.id (.reply ⟨homeData s line, ownedElsewhere s line r.die r.pa &&& ~~~grant, grant, share, linePoison s line, seq⟩)

/-- The home performs a request whose other holders have answered. DEDUCED, log entry 17. -/
def finishHome (s : State) (line : Nat) (r : HomeReq) : State :=
  if fromFenced s r then s
  else
  let grant := fun (s : State) =>
    answerReq (modHome s line fun h => { h with odie := r.die, own := h.own ||| r.words, shr := 0 }) line r r.words false
  match r.kind with
  | .own _ => grant s
  | .reserve _ =>
    match r.host with
    | some p => answerAtomic (modHome s line fun h => { h with resv := h.resv.filter fun x => x.req != r }) p line
    | none => modHome (grant s) line fun h => { h with resv := h.resv.map fun x => if x.req == r then { x with granted := true } else x }
  | .readWt => answerReq s line r 0 false
  | .readWi =>
    if (l2At s r.die r.pa).st == .owned then answerReq s line r 0 false
    else answerReq (modHome s line fun h => { h with shr := h.shr ||| BitVec.ofNat 4 (2 ^ r.die) }) line r 0 true
  | .write pol m x =>
    let (op, s) := fresh s
    let (n, s) := applyWrite s r.die r.pa m x op
    if pol = 3 ∧ n ≠ 0 then oweClearance s r.id r.t n r.die r.pa op true
    else
    -- the copies of the storing core and its die take the bytes (R144); a QST passes them by (R473)
    let s := if r.die < 4 then storeIntoCopies s (dieOf r.t.core) r.core r.pa m x else copiesAge s r.core r.pa
    if n = 0 then storePerformed s r.id
    else storePerformed (oweClearance s r.id r.t n r.die r.pa op false) r.id
  | .deferred m x =>
    let (op, s) := fresh s
    let (n, s) := applyWrite s r.die r.pa m x op
    let s := if r.bad then poisonHome s line else s
    stageAccess (if n = 0 then s else oweClearance s r.id r.t n r.die r.pa op false) r.id .acked
  | .evict => dropLlc (cleanLlc s line) line
  | .flip => flipped (cleanLlc s line) r.seq
  | .hostRead k => match r.host with
    | some p => answerRead s p line k r.bias
    | none => s
  | .hostWrite m x =>
    match r.host with
    | some p => respond (writeHome s line m x) p 0x82 0 0 []
    | none => writeHome s line m x

/-- A request is begun: recalls and invalidations go out, and it is performed at once when none are needed. A fenced die holds
nothing (R443). -/
def startHome (s : State) (line : Nat) (r : HomeReq) : State :=
  let h := homeAt s line
  let w := wordsRecalled s line r
  let sharers := if takesLine r then (List.range 4).filter fun d => h.shr.getLsbD d else []
  let live := sharers.filter fun d => !(dieAt s d).fenced
  let s1 := if w = 0 then s
    else if (dieAt s h.odie).fenced then recallNow s line w true else sendDie s h.odie line (.recall w) 0
  let n1 := if w = 0 ∨ (dieAt s h.odie).fenced then 0 else 1
  let s2 := live.foldl (fun s d => sendDie s d line (if d = r.die then .aliasCopy r.pa else .invalidate) 0) s1
  let n := n1 + live.length
  if n = 0 then finishHome s2 line r else modHome s2 line fun h => { h with act := some r, acks := n }

/-- Reservations held in a pch's LLC slice: 256 entries (R153). -/
def reservations (s : State) (pch : Nat) : Nat :=
  ((s.homes.filter fun e => e.1 / 2 ^ 24 == pch).map fun e => e.2.resv.length).sum

/-- A reservation that came before stands at the head of another line of the slice, whose home is free for it: it is accepted first
(R153). -/
def reserveAhead (s : State) (line : Nat) (r : HomeReq) : Bool :=
  s.homes.any fun e => e.1 / 2 ^ 24 == line / 2 ^ 24 && e.1 != line && homeFree s e.1 && match e.2.queue with
    | x :: _ => decide (x.seq < r.seq) && (match x.kind with
      | .reserve _ => true
      | _ => false)
    | [] => false

/-- The world and host-window checks of R458. -/
def homeRefuses (s : State) (line : Nat) (r : HomeReq) : Option (FaultClass × Nat) :=
  let writes := match r.kind with
    | .hostWrite _ _ => true
    | _ => false
  if r.ns && secureLine s line then some (.world, 12)
  else
    match r.host with
    | some p => if p.hostn && !hostMay s line writes then some (.perm, 0) else none
    | none => none

/-- A reservation of a request's node stands in the queue of the line: that node's requests to it are performed in the order in which they
came (R448). -/
def sameNodeAhead (h : Home) (r : HomeReq) : Bool :=
  match r.host with
  | some p => h.resv.any fun x => match x.req.host with
    | some q => q.src == p.src
    | none => false
  | none => false

/-- The home serves the request at the head of a line's queue, or completes the one whose acknowledgements are in (R149). A reservation
asks the agent only as it is granted (R461). DEDUCED, log entry 17. -/
def serveHome (s : State) (line : Nat) : State :=
  let h := homeAt s line
  match h.act with
  | some r => if h.acks = 0 then finishHome (modHome s line fun h => { h with act := none }) line r else s
  | none =>
    match h.queue with
    | [] => s
    | r :: rest =>
      let pop := fun (s : State) => modHome s line fun h => { h with queue := rest }
      let device := match r.host with
        | some p => !p.hostn
        | none => true
      if !homeFree s line then s
      else if r.kind == .evict || r.kind == .flip then startHome (pop s) line r
      else if sameNodeAhead h r then s
      else
        match homeRefuses s line r with
        | some (c, k) => refuseReq (pop s) r c k
        | none =>
          match enterLlc s line with
          | (false, s) => s
          | (true, s) =>
            match r.kind with
            | .reserve word =>
              if 256 ≤ reservations s (line / 2 ^ 24) || reserveAhead s line r then s
              else modHome (pop s) line fun h => { h with resv := h.resv ++ [⟨word, false, r⟩] }
            | k =>
              match if device then biasReady s line (.req r.seq) (snoopsExcl k) r.ns r.bias else .yes s with
              | .wait s => s
              | .fail s c k => refuseReq (pop s) r c k
              | .yes s => startHome (pop (answerUsed s line (.req r.seq))) line r

/-- HOME_REQUEST; a request ends its stack's self-refresh (R149, R490). -/
def execHomeRequest (line : Nat) (s : State) : Answer :=
  .next (serveHome (wakeStack s line) line)

/-! ### Messages at the dies (R148) -/

/-- The next message of a home, that of a pch, to a die. -/
def headMsg (s : State) (die home : Nat) : Option HomeMsg := (dieAt s die).inbox.find? fun m => m.line / 2 ^ 24 == home

/-- A reply that the home sent to the die before a message is still under way: it arrives first (R148). -/
def replyAhead (s : State) (die home seq : Nat) : Bool :=
  s.inflight.any fun a => match a.stage with
    | .reply r => isDram a.pa && dieOf a.t.core == die && homeLine a.pa / 2 ^ 24 == home && decide (r.seq < seq)
    | _ => false

/-- A message that the home sent to the die before a reply has not been taken (R148). -/
def messageAhead (s : State) (die home seq : Nat) : Bool :=
  (dieAt s die).inbox.any fun m => m.line / 2 ^ 24 == home && decide (m.seq < seq)

/-- A die takes it, when it is of a kind, and acknowledges. -/
def takeHead (s : State) (die home : Nat) (sel : HomeMsgKind → Bool) : State :=
  match headMsg s die home with
  | some m =>
    if sel m.kind && !replyAhead s die home m.seq then acknowledge (takeMsg (modDie s die fun d => { d with inbox := d.inbox.erase m }) die m) m else s
  | none => s

/-- INVALIDATE (R147, R148). -/
def execInvalidate (die home : Nat) (s : State) : Answer :=
  .next (takeHead s die home fun k => match k with
    | .invalidate | .aliasCopy _ => true
    | _ => false)

/-- RECALL_WORDS (R53, R148). -/
def execRecallWords (die home : Nat) (s : State) : Answer :=
  .next (takeHead s die home fun k => match k with
    | .recall _ => true
    | _ => false)

/-- RECALL_AND_DISCARD (R106, R148). -/
def execRecallAndDiscard (die home : Nat) (s : State) : Answer :=
  .next (takeHead s die home fun k => match k with
    | .discard _ => true
    | _ => false)

/-! ### Reservations (R152, R153) -/

/-- Two reservations ask for a common word. -/
def resvMeet (a b : Resv) : Bool := (a.req.words &&& b.req.words) != 0

/-- The first ungranted reservation of a word, when no earlier one shares a word with it. -/
def grantable (l : List Resv) (word : Nat) : Option Resv :=
  match l.find? fun x => !x.granted && x.word == word with
  | some x => if (l.takeWhile fun y => y != x).all (fun y => !resvMeet x y) then some x else none
  | none => none

/-- RESERVATION_GRANT: owners are recalled and sharers invalidated, and the word is granted, once the agent has answered in host bias
(R152, R154, R461). -/
def execReservationGrant (line word : Nat) (s : State) : Answer :=
  .next (
    let h := homeAt s line
    if h.act.isSome || !homeFree s line then s
    else
      match grantable h.resv word, enterLlc s line with
      | some x, (true, s) =>
        match biasReady s line (.req x.req.seq) true x.req.ns x.req.bias with
        | .wait s => s
        | .fail s c k => refuseReq (modHome s line fun h => { h with resv := h.resv.filter fun y => y != x }) x.req c k
        | .yes s => startHome (answerUsed s line (.req x.req.seq)) line x.req
      | some _, (false, s) => s
      | none, _ => s)

/-- The reservation has its word and its atomic has been applied. -/
def resvApplied (s : State) (x : Resv) : Bool :=
  x.granted && match accessAt s x.req.id with
    | some a => a.stage != .atHome && (match a.stage with
      | .reply _ => false
      | _ => true)
    | none => true

/-- The reservation that waits behind another for its word. DEDUCED, log entry 40. -/
def resvNext (l : List Resv) (x : Resv) : Option Resv := l.find? fun y => y != x && !y.granted && resvMeet x y

/-- FORWARD_WORD: the word goes straight from the core that held it to the next in the queue, and the home sets ODIE; other words of the
line that its die owned are recalled. Within a die the next atomic is applied there. A word that has been recalled or shared meanwhile is granted anew (R152, R153). DEDUCED, log entry 40. -/
def execForwardWord (line word : Nat) (s : State) : Answer :=
  .next (
    let h := homeAt s line
    if h.act.isSome || !homeFree s line then s
    else
      match h.resv.find? fun x => x.word == word && resvApplied s x with
      | none => s
      | some x =>
        match resvNext h.resv x with
        | none => s
        | some y =>
          let s0 := modHome s line fun h => { h with resv := h.resv.erase x }
          let held := h.odie == x.req.die && dieOwns s x.req.die x.req.pa (x.req.words ||| y.req.words) && h.shr == 0 &&
            (grantable (h.resv.erase x) y.word == some y) && y.req.host.isNone
          if !held then s0
          else
            let granted := fun (s : State) =>
              modHome s line fun h => { h with resv := h.resv.map fun z => if z == y then { z with granted := true } else z }
            if y.req.die = x.req.die ∧ y.req.pa = x.req.pa then
              match accessAt s y.req.id with
              | some a => applyAtomic (granted s0) a
              | none => granted s0
            else
              let s1 := releaseWords (gatherL1 (granted s0) x.req.die x.req.pa) x.req.die x.req.pa (~~~y.req.words) true
              let l := l2At s1 x.req.die x.req.pa
              let s2 := modHome (releaseWords s1 x.req.die x.req.pa y.req.words false) line fun h =>
                { h with odie := y.req.die, own := y.req.words }
              let (seq, s2) := fresh s2
              stageAccess s2 y.req.id
                (.reply ⟨overlay (maskOfWords y.req.words) l.data (homeData s2 line), 0, y.req.words, false, l.poison, seq⟩))

/-- An applied reservation with nobody behind it leaves: the word stays where it is. DEDUCED, log entry 40. -/
def settleResv (s : State) (line id : Nat) : State :=
  modHome s line fun h =>
    match h.resv.find? fun x => x.req.id == id with
    | some x => if (resvNext h.resv x).isNone then { h with resv := h.resv.erase x } else h
    | none => h

/-! ### Replies (R145, R160) -/

/-- The next line of a cache range, or its end: a PREF leaves without an answer, the others return their acceptance (R344, R345). -/
def nextRangeLine (s : State) (a : Access) : State :=
  match a.kind with
  | .range fn line last =>
    if fn = 3 then skipPrefetch s a
    else if last ≤ line then stageAccess (acceptOut s a.t a.id none none) a.id .acked
    else translateAccess (modAccess s a.id fun x =>
      { x with kind := .range fn (line + 1) last, va := x.va + 64, stage := .checked }) a.id
  | _ => s

/-- A line prefetched into the L2. DEDUCED, log entry 31. -/
def prefetched (s : State) (a : Access) (r : Reply) : State :=
  let core := a.t.core
  let die := dieOf core
  let p := lineAddr a.pa
  match a.pol with
  | 0 =>
    -- bytes deferred meanwhile stay, and the words go back (R344)
    if (l2At s die p).dmask = 0 then ownWords s die core p r a.t
    else modHome s (homeLine p) fun h => { h with own := h.own &&& ~~~r.grant }
  | 3 => fillShared s die core p r false
  | _ => fillLeased s die core p r false

/-- The reply is taken: the die keeps what the policy says, and the access is performed (R145, R152, R160). -/
def takeReply (s : State) (a : Access) (r : Reply) : State :=
  let core := a.t.core
  let die := dieOf core
  let p := lineAddr a.pa
  match a.kind with
  | .atomic => settleResv (applyAtomic (takeWords s die core p r a.t) a) (homeLine a.pa) a.id
  | .store | .port 1 =>
    stageAccess (writeOwned (takeWords s die core p r a.t) die core p (accMask a) (accData a)) a.id .acked
  | .qld => landRead (refreshCopies s die core p r) a.id r.data r.bad
  | .range _ _ _ => nextRangeLine (prefetched s a r) a
  | _ =>
    match a.pol with
    | 0 =>
      let s := takeWords s die core p r a.t
      let l := l2At s die p
      landRead s a.id l.data l.poison
    | 3 => landRead (fillShared s die core p r true) a.id (readOver s die p r.data) (readBad s die p r.bad)
    | 2 =>
      let s' := if (coreAt s core).lease = 0 then refreshCopies s die core p r else fillLeased s die core p r true
      landRead s' a.id (readOver s die p r.data) (readBad s die p r.bad)
    | _ => landRead (refreshCopies s die core p r) a.id (readOver s die p r.data) (readBad s die p r.bad)

/-- FILL_REPLY: the home's reply reaches the die, behind what the home sent it before (R145, R148, R152, R160). The access leaves its
stage first, so that the reply counts as arrived. -/
def execFillReply (id : Nat) (s : State) : Answer :=
  .next (match accessAt s id with
    | none => s
    | some a =>
      match a.stage with
      | .reply r =>
        if isDram a.pa && messageAhead s (dieOf a.t.core) (homeLine a.pa / 2 ^ 24) r.seq then s
        else takeReply (stageAccess s id .checked) { a with stage := .checked } r
      | _ => s)

/-! ### Acknowledgements (R136, R164) -/

/-- A `.wi` write whose sharers are gone is performed: its bytes are readable on its own die too from now on (R136, R144, R171). -/
def wiPerformed (s : State) (id : Nat) : State :=
  match accessAt s id with
  | some a => storePerformed (storeIntoCopies s (dieOf a.t.core) a.t.core (lineAddr a.pa) (accMask a) (accData a)) id
  | none => s

/-- CLEARANCE: every invalidation of a write has been acknowledged (R164); a `.wi` write is performed only now (R147). -/
def execClearance (id : Nat) (s : State) : Answer :=
  .next (match s.clears.find? fun c => c.id == id && c.acks == 0 with
    | some c =>
      let s := { s with clears := s.clears.erase c }
      if c.wi then wiPerformed s id else s
    | none => s)

/-- STORE_ACK: the acknowledgement of a performed access reaches its thread's counter (R136); that of a cache range waits for its
write-backs (R345). DEDUCED, log entry 59. -/
def execStoreAck (id : Nat) (s : State) : Answer :=
  .next (match accessAt s id with
    | some a =>
      let port := match a.kind with
        | .port _ => true
        | _ => false
      if a.stage = .acked ∧ !port ∧ a.waits.all (writtenBack s) then
        -- in precise mode the acceptance has waited for this (R296)
        dropAccess (acceptOut (if a.sackd then ackStore s a else s) a.t id none none) id
      else s
    | none => s)

/-- LEASE_EXPIRY: a leased copy whose age has reached its limit is dropped: in an L1 that of its core, in an L2 that of the core
whose load filled it (R138). -/
def execLeaseExpiry (place : CopyPlace) (line : Nat) (s : State) : Answer :=
  .next (match place with
    | .l1 core =>
      match l1At s core (64 * line) with
      | some c =>
        if c.st == .leased && decide ((coreAt s core).lease.toNat ≤ s.now - c.fill) then dropL1 s core (64 * line) else s
      | none => s
    | .l2 die =>
      let l := l2At s die (64 * line)
      if l.st = .leased ∧ l.len ≤ s.now - l.fill then dropBase s die (64 * line) else s)

end Sys2Proof.Machine
end

