-- ==== Sys2Proof/Machine/Fence.lean ====
section
/-! DEFINITION. Fencing a die (R218, R443): DIE_FENCE, DISPATCHER_TIMEOUT, and what becomes of the work and the requests of the die. -/

namespace Sys2Proof.Machine

/-- A saturating counter rises (R494). DEDUCED, log entry 57. -/
def countError (s : State) (die i n : Nat) : State :=
  modDie s die fun d =>
    { d with counters := aset 0 d.counters i (word (min (2 ^ 64 - 1) ((aget 0 d.counters i).toNat + n))) }

/-- A thread of the die; the names of the front end's own stores belong to no die. -/
def threadOn (die : Nat) (t : ThreadRef) : Bool := dieOf t.core == die && t.slot != 14 && t.slot != 13

/-- The requests at a bank, in progress and waiting. -/
def bankRequests (b : Bank) : List BankReq :=
  (match b.alu with
    | some u => [u.req]
    | none => []) ++ (match b.chg with
    | some u => [u.req]
    | none => []) ++ b.queue ++ b.net

/-- Accesses that others have sent to the banks of the die raise BANKOP (R443). DEDUCED, log entry 44. -/
def failBanks (s : State) (die : Nat) : State :=
  let qs := (s.cores.filter fun e => dieOf e.1 == die).flatMap fun e => e.2.banks.flatMap fun b => bankRequests b.2
  qs.foldl (fun s q =>
    match q.src with
    | .access id => match accessAt s id with
      | some a => if threadOn die a.t then s else bankReply s q (.ofFail .bankop 0)
      | none => s
    | .host _ => bankReply s q (.ofFail .bankop 0)
    | _ => s) s

/-- Messages that wait at its cores return MISMATCH to their senders (R443). DEDUCED, log entry 44. -/
def failMessages (s : State) (die : Nat) : State :=
  let ms := (s.cores.filter fun e => dieOf e.1 == die).flatMap fun e => e.2.ni
  ms.foldl (fun s m => answerSender s m 2) s

/-- The messages of the homes to the die are answered for it: recalled words with the home's own data, marked poisoned (R443). -/
def answerInbox (s : State) (die : Nat) : State :=
  (dieAt s die).inbox.foldl (fun s m =>
    let s := match m.kind with
      | .recall w | .discard w => if (homeAt s m.line).odie = die then recallNow s m.line w true else s
      | _ => s
    let s := modHome s m.line fun h => { h with shr := BitVec.ofNat 4 (h.shr.toNat - b01 (h.shr.getLsbD die) * 2 ^ die) }
    acknowledge s m) s

/-- The requests of its threads leave the homes; one in progress is completed without effect. DEDUCED, log entry 44. -/
def dropRequests (s : State) (die : Nat) : State :=
  let gone := fun (r : HomeReq) => r.host.isNone && threadOn die r.t
  let clean := fun (h : Home) =>
    { h with queue := h.queue.filter (fun r => !gone r), resv := h.resv.filter (fun x => !gone x.req) }
  { s with homes := (s.homes.map fun e => (e.1, clean e.2)).filter fun e => e.2 != Home.reset }

/-- Group indices that were in the batches of the die and have not ended (R218). -/
def unfinished (s : State) (die : Nat) (g : Grid) : List Nat :=
  let held := (dieAt s die).batches.flatMap fun b => if b.gid == g.key then b.idxs else []
  let live := (s.groups.filter fun (x : Sys2Proof.Machine.Group) => x.grid == g.key && dieOf x.core == die).map (·.index)
  (held ++ live).foldl sins []

/-- A rider of a lost group that runs on another die belongs to no group any more. -/
def leaveGroup (lost : List (Nat × Nat)) (th : Thread) : Thread :=
  match th.group with
  | some p => if lost.contains p then { th with group := none } else th
  | none => th

def leaveHandle (lost : List (Nat × Nat)) (h : Handle) : Handle :=
  { h with ctx := h.ctx.map (leaveGroup lost), pair := h.pair.map (leaveGroup lost) }

def leaveCore (lost : List (Nat × Nat)) (k : Core) : Core :=
  { k with
    threads := k.threads.map fun e => (e.1, leaveGroup lost e.2)
    rq := k.rq.map (leaveHandle lost)
    arrivals := k.arrivals.map (leaveHandle lost)
    berths := k.berths.map fun e => (e.1, e.2.map fun b => { b with handle := leaveHandle lost b.handle }) }

/-- The work of the die goes back to its grids, or is lost (R218, step 3). DEDUCED, log entry 44. -/
def loseGroups (s : State) (die : Nat) : State :=
  let lost := s.grids.flatMap fun (g : Grid) => (unfinished s die g).map fun i => (g.key, i)
  let grids := s.grids.map fun (g : Grid) =>
    let l := unfinished s die g
    if l.isEmpty then g
    else if g.reissue then { g with back := l.foldl sins g.back, trigd := g.trigd.filter fun i => !l.contains i }
    else { g with noMore := true, lost := g.lost + l.length }
  if lost.isEmpty then s
  else
    { s with
      grids := grids
      groups := s.groups.filter fun (x : Sys2Proof.Machine.Group) => !lost.contains (x.grid, x.index)
      cores := s.cores.map fun e => (e.1, leaveCore lost e.2)
      travels := s.travels.map fun t => { t with ctx := leaveGroup lost t.ctx }
      saved := s.saved.filter fun x => x.group.all fun p => !lost.contains p }

/-- Argument stores that wait in the die's table are tried again by the next pilot. DEDUCED, log entry 44. -/
def freeArgs (s : State) (die : Nat) : State :=
  let d := dieAt s die
  let waits := fun (key : Nat) => (d.coal ++ d.coalWait).any fun e => e.waiters.contains (.args key)
  { s with grids := s.grids.map fun (g : Grid) => if waits g.key then { g with argWait := false } else g }

/-- The launch queue of a fenced die moves, empty, to the new pilot's die (R218, step 2). DEDUCED, log entry 44. -/
def moveQueue (s : State) (die : Nat) : State :=
  if dieOf s.lqCore.toNat ≠ die then s
  else
    let n := (bankAt s s.lqCore.toNat s.lqBank.toNat).count
    match (List.range 4).find? fun d => !(dieAt s d).fenced with
    | none => s
    | some p =>
      let core := supCore p true
      let s := modBank (changeNow s core 15 { Params.array with pers := 1, esz := 3 } 0).1 core 15 launchBank
      report { s with lqCore := BitVec.ofNat 10 core, lqBank := 15 } 0x43 7 0 (word n)

/-- The die stops: nothing of its cores, quads, caches and tables can be reached any more. DEDUCED, log entry 44. -/
def stopDie (s : State) (die : Nat) : State :=
  let s := (s.cores.filter fun e => dieOf e.1 == die).foldl (fun s e =>
    e.2.threads.foldl (fun s t => withdraw s (ofTid e.1 t.1)) s) s
  { s with
    cores := s.cores.filter fun e => dieOf e.1 != die
    quads := s.quads.filter fun e => e.1 / 64 != die
    dies := aset Die.reset s.dies die { Die.reset with fenced := true, counters := (dieAt s die).counters, tsamp := (dieAt s die).tsamp }
    inflight := s.inflight.filter fun a => !threadOn die a.t
    spawns := s.spawns.filter fun x => !threadOn die x.t
    xinvs := s.xinvs.filter fun x => !threadOn die x.t
    evacs := s.evacs.filter fun e => dieOf e.1 != die
    qdies := (s.qdies.map fun e => (e.1, { e.2 with
        turns := e.2.turns.filter fun x => dieOf x.core != die
        rows := e.2.rows.filter fun x => dieOf x.core != die
        walks := e.2.walks.filter fun x => dieOf x.1 != die })).filter fun e => e.2 != Stack.reset }

/-- FENCING A DIE, the one shared operation (R218, R443). DEDUCED, log entry 44. -/
def fenceDie (s : State) (die : Nat) : State :=
  if (dieAt s die).fenced ∨ 4 ≤ die then s
  else
    let s := modDie s die fun d => { d with fenced := true }
    let s := answerInbox (failMessages (failBanks s die) die) die
    let s := dropRequests s die
    let s := if s.pilot = die then { s with electing := true } else s
    let s := moveQueue s die
    let s := loseGroups (freeArgs s die) die
    countError (stopDie s die) die 7 1

/-- Who may fence a die: a host node, or a secure supervisor of another die (R443). -/
def mayFence (who : Agent) (die : Nat) : Bool := who.host || (!who.ns && who.die != die)

/-- DIE_FENCE: a write of DFENCE (R443). -/
def execDieFence (who : Agent) (die : Nat) (s : State) : Answer :=
  .next (if mayFence who die then fenceDie s die else s)

/-- DISPATCHER_TIMEOUT: a dispatcher has not answered the pilot in time (R443). -/
def execDispatcherTimeout (die : Nat) (s : State) : Answer :=
  .next (if die = s.pilot then s else fenceDie s die)

end Sys2Proof.Machine
end

