-- ==== Sys2Proof/Machine/ControlWindow.lean ====
section
/-! DEFINITION. The control window (R16-R18, R39, R207, R428, R430, R438, R443, R453-R465, R487, R494, R495): what every register reads
as and what a write of it does, and the events that write registers. -/

namespace Sys2Proof.Machine

/-- The agent that a thread is (R428, R456). -/
def agentOf (s : State) (t : ThreadRef) : Agent := ⟨agentNs s t.core, false, dieOf t.core⟩

/-- A host node: a non-secure supervisor (R455). DEDUCED, log entry 46. -/
def hostAgent : Agent := ⟨true, true, 0⟩

/-- A secure supervisor of this package. DEDUCED, log entry 46. -/
def secureSup (a : Agent) : Bool := !a.ns && !a.host

/-! ### Where an offset lies (R16) -/

/-- A register of the control window, with its offset in its block. -/
inductive RegPlace where
  | window (t : ThreadRef) (o : Nat)
  | core (c o : Nat)
  | quad (q o : Nat)
  | disp (die o : Nat)
  | coal (die e o : Nat)
  | bias (k : Nat)
  | engine (core cmd o : Nat)
  | ecfg (stack : Nat)
  | region (stack k : Nat)
  | node (i : Nat)
  | reserved
  deriving DecidableEq, Repr

/-- The place of an 8-byte aligned offset. -/
def regPlace (off : Nat) : RegPlace :=
  if off % 8 ≠ 0 then .reserved
  else if off < 0x10000000 then
    let slot := off / 2 ^ 15 % 8
    let o := off % 2 ^ 15
    -- a deck slot's second half is a reserved part of its window
    if slot = 7 ∧ 0x4000 ≤ o then .window ⟨off / 2 ^ 18, 7, 1⟩ (o - 0x4000) else .window ⟨off / 2 ^ 18, slot, 0⟩ o
  else if off < 0x11000000 then .core (off / 2 ^ 14 % 1024) (off % 2 ^ 14)
  else if off < 0x11010000 then .quad (off / 256 % 256) (off % 256)
  else if 0x12000000 ≤ off ∧ off < 0x12040000 then .disp (off / 2 ^ 16 % 4) (off % 2 ^ 16)
  else if 0x12100000 ≤ off ∧ off < 0x12140000 then .coal (off / 2 ^ 16 % 4) (off / 16 % 4096) (off % 16)
  else if 0x13000000 ≤ off ∧ off < 0x13200000 then .bias ((off - 0x13000000) / 8)
  else if 0x14000000 ≤ off ∧ off < 0x14100000 then
    let o := off % 2 ^ 16
    if o = 0xF000 then .ecfg (off / 2 ^ 16 % 16)
    else if o < 0x4000 then .engine (off / 2 ^ 16 % 16 * 64 + o / 256) (o / 32 % 8) (o % 32) else .reserved
  else if 0x14100000 ≤ off ∧ off < 0x14101000 then .region (off / 256 % 16) (off % 256 / 8)
  else if 0x14200000 ≤ off ∧ off < 0x14208000 then .node (off / 8 % 4096)
  else .reserved

/-- The register belongs to a secure slot, which a non-secure agent may not see (R430). DEDUCED, log entry 46. -/
def secretWindow (s : State) (who : Agent) (t : ThreadRef) : Bool := who.ns && !ctxNs (coreAt s t.core).ctxid

/-! ### Reading -/

/-- DSTAT (R207). -/
def dstatWord (s : State) (die : Nat) : Word :=
  word (s.repNode.toNat * 2 ^ 40 + s.lqCore.toNat * 2 ^ 30 + s.lqBank.toNat * 2 ^ 26 + s.pilot * 2 ^ 24
    + b01 (s.pilot == die) * 2 ^ 23 + b01 (dieAt s die).fenced * 2 ^ 22 + freeDeck s die)

def dispRead (s : State) (die o : Nat) : Word :=
  let d := dieAt s die
  if o = 0x00 then dstatWord s die
  else if o = 0x08 then word (d.srid.toNat * 2 ^ 32 + d.nrid.toNat)
  else if o = 0x10 then word (s.prst.toNat * 16)
  else if o = 0x20 then word s.nid.toNat
  else if o = 0x28 then word s.agent.toNat
  else if 0x100 ≤ o ∧ o < 0x200 then aget 0 s.pbar ((o - 0x100) / 8)
  else if 0x200 ≤ o ∧ o < 0x240 then aget 0 d.counters ((o - 0x200) / 8)
  else if o = 0x300 then d.tsamp
  else 0

/-- Word k of the bias table (R460). -/
def biasWord (s : State) (k : Nat) : Word :=
  word ((s.bias.filter fun i => i / 64 == k).foldl (fun n i => n + 2 ^ (i % 64)) 0)

def engineRead_ (s : State) (core cmd o : Nat) : Word :=
  match cmdAt s core cmd with
  | some c =>
    match c.stage with
    | .stopped reason cause va =>
      if o = 0 then engineFaultWord core cmd c reason cause else if o = 8 then word (va % 2 ^ 56)
      else if o = 16 then word c.count else 0
    | _ => 0
  | none => 0

def nodeWord (n : Node) : Word := word (b01 n.v * 2 ^ 63 + b01 n.host * 2 ^ 62 + n.node.toNat)

/-- A register as an agent of supervisor privilege reads it; none for a register of the secure world (R17). DEDUCED, log entry 46. -/
def regRead (s : State) (who : Agent) (off : Nat) : Option Word :=
  match regPlace off with
  | .window t o => if secretWindow s who t then none else some (debugRead s t o)
  | .core c o => if o = 0x18 && who.ns && !ctxNs (coreAt s c).ctxid then none else some (coreRegRead s c o)
  | .quad q o => some (if o = 0 then vpoolWord s q else 0)
  | .disp d o => some (dispRead s d o)
  | .coal d e o => some (if o = 0 then (match coalAt s d e with
      | some x => x.sent.getD 0
      | none => 0) else 0)
  | .bias k => some (biasWord s k)
  | .engine c n o => some (engineRead_ s c n o)
  | .ecfg n => some (word (b01 (stackAt s n).engNs))
  | .region n k => some (aget 0 (stackAt s n).regions k)
  | .node i => some (nodeWord (aget Node.reset s.nodes i))
  | .reserved => some 0

/-! ### Writing -/

/-- A write of a half of FSUP by a supervisor of its own world; messages that waited for it are sent (R428). -/
def fsupWrite (s : State) (who : Agent) (die : Nat) (v : Word) : State :=
  let tag : BitVec 32 := if who.ns then v.extractLsb' 0 32 else v.extractLsb' 32 32
  let s := modDie s die fun d => if who.ns then { d with nrid := tag } else { d with srid := tag }
  if tag = 0 then s
  else
    let ms := (dieAt s die).unsent.filter fun m => m.try_ == who.ns
    let s := modDie s die fun d => { d with unsent := d.unsent.filter fun m => m.try_ != who.ns }
    ms.foldl (fun s m => deliver s (supCore die who.ns) { m with tag := tag, try_ := false }) s

/-- PRST.LEVEL (R487). -/
def prstWrite (s : State) (who : Agent) (v : Word) : State :=
  if !mayReset who then s
  else
    match v.toNat % 4 with
    | 1 => warmReset s
    | 2 => coldReset s
    | _ => s

/-- A line with anything to recall or invalidate goes home as its page turns to host bias, and a modified LLC line to DRAM: at once where
its home has nothing in progress, or behind the requests that came before (R149, R462, R463). DEDUCED, log entry 50. -/
def flipLine (s : State) (line : Nat) : Option Nat × State :=
  if homeFree s line && (homeAt s line).queue.isEmpty then
    (none, cleanLlc (invalidateNow (recallNow (wakeStack s line) line (BitVec.allOnes 16) true) line) line)
  else
    let (seq, s) := fresh s
    (some seq, modHome s line fun h => { h with queue := h.queue ++ [homeOwn line .flip seq] })

/-- The lines of pages at whose homes there is something to do. -/
def flipLines (s : State) (pages : List Nat) : List Nat :=
  ((s.homes.map (·.1) ++ s.llc.map (·.1)).foldl sins []).filter fun l => pages.contains (blwToIw (64 * l) / 65536)

/-- A write of word k of the bias table: requests that come from now on meet the new bias; it is acknowledged once the lines that turn to
host bias are home (R460, R462, R463). DEDUCED, log entry 50. -/
def biasWrite (s : State) (k : Nat) (v : Word) (w : BankSrc) : State :=
  let new := ((List.range 64).filter fun j => v.getLsbD j).map (64 * k + ·)
  let turned := new.filter fun i => !s.bias.contains i
  let x := (flipLines s turned).foldl (fun (a : List Nat × State) l =>
      let y := flipLine a.2 l
      (a.1 ++ y.1.toList, y.2)) ([], { s with bias := new.foldl sins (s.bias.filter fun i => i / 64 != k) })
  if x.1.isEmpty then finishWrite x.2 w else { x.2 with flips := x.2.flips ++ [⟨x.1, w⟩] }

/-- The word that RSYNC is written with joins those to be served (R465). -/
def rsyncWrite (s : State) (v : Word) : State := { s with rsyncs := s.rsyncs ++ [word (field v.toNat 42 6 * 64)] }

/-- A register of a dispatcher block; none where the write is refused (R207, R428, R443, R453, R459, R464, R465, R487, R494). -/
def dispWrite (s : State) (who : Agent) (die o : Nat) (v : Word) : Option State :=
  let n := v.toNat
  if o = 0x00 then some { s with
    repNode := BitVec.ofNat 12 (field n 51 40), lqCore := BitVec.ofNat 10 (field n 39 30), lqBank := BitVec.ofNat 4 (field n 29 26) }
  else if o = 0x08 then some (fsupWrite s who die v)
  else if o = 0x10 then some (prstWrite s who v)
  else if o = 0x18 then some (if v.getLsbD 0 && mayFence who die then fenceDie s die else s)
  else if o = 0x20 then some { s with nid := v.extractLsb' 0 16 }
  else if o = 0x28 then some { s with agent := v.extractLsb' 0 12 }
  else if o = 0x30 then some (rsyncWrite s v)
  else if o = 0x38 then if who.ns && !v.getLsbD 16 then none else some (hostKill s v)
  else if 0x100 ≤ o ∧ o < 0x200 then
    some { s with pbar := aset 0 s.pbar ((o - 0x100) / 8)
                            (word (b01 (bit n 63) * 2 ^ 63 + field n 43 32 * 2 ^ 32 + n % 2 ^ 17)) }
  else if 0x200 ≤ o ∧ o < 0x240 then
    some (if secureSup who ∧ v = 0 then modDie s die fun d => { d with counters := aset 0 d.counters ((o - 0x200) / 8) 0 } else s)
  else some s

/-- World region registers and ECFG are written by secure supervisors only (R457, R458). -/
def regionWrite (s : State) (who : Agent) (stack k : Nat) (v : Word) : State :=
  let w := if k % 2 = 0 then word (field v.toNat 63 60 * 2 ^ 60 + v.toNat % 2 ^ 20) else word (v.toNat % 2 ^ 20)
  if secureSup who then modStack s stack fun q => { q with regions := aset 0 q.regions k w } else s

def ecfgWrite (s : State) (who : Agent) (stack : Nat) (v : Word) : State :=
  if secureSup who && !s.ecfgLocked then modStack s stack fun q => { q with engNs := v.getLsbD 0 } else s

def nodeWrite (s : State) (i : Nat) (v : Word) : State :=
  { s with nodes := aset Node.reset s.nodes i ⟨v.getLsbD 63, v.getLsbD 62, v.extractLsb' 0 16⟩ }

/-- The writer has its answer at once. -/
def answered (w : BankSrc) (s : Option State) : Option State := s.map fun s => finishWrite s w

/-- A register of a core's block, as WRSYS writes it (R18); none for a write of CTXID that R18 refuses. -/
def coreWrite (s : State) (who : Agent) (c o : Nat) (v : Word) (w : BankSrc) : Option State :=
  if o = 0x00 then some (carveWrite s c v.toNat w)
  else if o = 0x18 then answered w (if ctxidAllowed s c who.ns v then some (ctxidSet s c v) else none)
  else if o = 0x40 then answered w (some (evacWrite s who c v))
  else if o = 0x48 then answered w (some (fwdWrite s c v))
  else if 0x100 ≤ o ∧ o < 0x180 then some (bpcfgWrite s c ((o - 0x100) / 8) v (!who.ns) w)
  else if 0x200 ≤ o ∧ o < 0x300 then answered w (some (srtSet s c ((o - 0x200) / 8) v))
  else answered w (some (coreRegSet s c o v))

/-- A register as an agent of supervisor privilege writes it; `w` has its answer when the change that the write performs has ended
(R17, R18). None for a write that is refused, which changes nothing. DEDUCED, log entry 46. -/
def regWrite (s : State) (who : Agent) (off : Nat) (v : Word) (w : BankSrc) : Option State :=
  match regPlace off with
  | .window t o => answered w (if secretWindow s who t then none else some (debugWrite s t o v))
  | .core c o => coreWrite s who c o v w
  | .quad q o => answered w (some (if o = 0 then vpoolSet s q v.toNat else s))
  | .disp d o => answered w (dispWrite s who d o v)
  | .coal d e o => answered w (some (
      if o = 8 ∧ v.toNat % 4 = 1 then replayEntry s d e
      else if o = 8 ∧ v.toNat % 4 = 2 then faultEntry s d e else s))
  | .bias k => some (biasWrite s k v w)
  | .engine c n o => answered w (some (
      if o = 24 ∧ v.toNat % 4 = 1 then resumeCommand s c n
      else if o = 24 ∧ v.toNat % 4 = 2 then stopEnds s c n else s))
  | .ecfg n => answered w (some (ecfgWrite s who n v))
  | .region n k => answered w (some (regionWrite s who n k v))
  | .node i => answered w (some (nodeWrite s i v))
  | .reserved => answered w (some s)

/-! ### Events -/

/-- CARVE_WRITE (R45). -/
def execCarveWrite (core : Nat) (v : Word) (s : State) : Answer := .next (carveWrite s core v.toNat .agent)

/-- CTXID_WRITE (R18). -/
def execCtxidWrite (who : Agent) (core : Nat) (v : Word) (s : State) : Answer :=
  .next (if ctxidAllowed s core who.ns v then ctxidSet s core v else s)

/-- BPCFG_WRITE (R61). -/
def execBpcfgWrite (who : Agent) (core bank : Nat) (v : Word) (s : State) : Answer :=
  .next (bpcfgWrite s core bank v (!who.ns) .agent)

/-- VPOOL_WRITE (R47). -/
def execVpoolWrite (quad : Nat) (v : Word) (s : State) : Answer := .next (vpoolSet s quad v.toNat)

/-- SRT_WRITE (R320). -/
def execSrtWrite (core n : Nat) (v : Word) (s : State) : Answer := .next (srtSet s core n v)

/-- XINV_WRITE: the drop of the leaves; the writing thread waits for the accesses that used them (R33). -/
def execXinvWrite (t : ThreadRef) (v : Word) (s : State) : Answer :=
  .next (if canIssue (threadAt s t) then modThread (xinvBegin s t v) t fun th => { th with run := .parked .xinv } else s)

/-- XINV_COMPLETE (R33). -/
def execXinvComplete (t : ThreadRef) (s : State) : Answer :=
  .next (match s.xinvs.find? fun x => x.t == t with
    | none => s
    | some x =>
      if !xinvReady s x then s
      else
        modThread { s with xinvs := s.xinvs.erase x } t fun th =>
          if th.run == .parked .xinv then { th with run := .ready } else th)

/-- BIAS_TABLE_WRITE (R460-R463). DEDUCED, log entry 50. -/
def execBiasTableWrite (index : Nat) (v : Word) (s : State) : Answer := .next (biasWrite s index v .agent)

/-- RSYNC (R465). -/
def execRsync (v : Word) (s : State) : Answer := .next (rsyncWrite s v)

/-- REGISTER_WRITE: a register write by a supervisor or a host (R17). -/
def execRegisterWrite (who : Agent) (off : Nat) (v : Word) (s : State) : Answer :=
  .next ((regWrite s who off v .agent).getD s)

end Sys2Proof.Machine
end

