-- ==== Sys2Proof/Machine/Matrix.lean ====
section
/-! DEFINITION. Matrix instructions and the engine's steps (R405-R425). -/

namespace Sys2Proof.Machine

/-! ### Owners (R424) -/

/-- What an instruction names that another rider owns: a bit for its tile, bit 16 for the table. -/
def othersOwn (s : State) (tile : Option Nat) (book : Bool) : Nat :=
  let rid := (me s).rid
  let k := myCore s
  let mine := fun (o : BitVec 32) => o == 0 || o == rid
  (match tile with
    | some n => if mine (tileAt s s.cur.core n).owner then 0 else 2 ^ n
    | none => 0) + (if book && !mine k.cbtOwner then 2 ^ 16 else 0)

/-- The issuing rider owns what it uses. -/
def takeOwner (s : State) (tile : Option Nat) (book : Bool) : State :=
  let rid := (me s).rid
  let s := match tile with
    | some n => modTile s s.cur.core n fun x => { x with owner := rid }
    | none => s
  if book then modCore s s.cur.core fun k => { k with cbtOwner := rid } else s

/-- A use: with another owner the slot is SUSPENDED with its unit not performed, and ACCOWN tells the kernel (R424, R222).
DEDUCED, log entry 29. -/
def useOwned (s : State) (tile : Option Nat) (book : Bool) (k : State → Res) : Res :=
  let others := othersOwn s tile book
  if others = 0 then k (takeOwner s tile book)
  else
    let rid := (me s).rid
    let s := keepSuspended (modMe s fun th => { th with susp := true }) s.cur
    .gone (sendEvent s s.cur.core 0x52 s.cur.slot rid (word others))

/-- The kernel variants are for the kernel slot and supervisors (R407). -/
def kernelForm (s : State) (k : BitVec 1) (r : Res) : Res := if k = 1 ∧ !isKS s then .fault .priv 0 0 none else r

/-! ### Operands of a step (R408-R410) -/

/-- Element formats: code 0 is BF16. -/
def mmaCode (c : Nat) : Nat := if c = 0 then 3 else c

/-- K of one step. -/
def mmaDepth (fa : Nat) : Nat := if fa = 2 ∨ fa = 3 then 48 else 96

/-- Scale bytes of one operand: 16 rows of ⌈K / 32⌉. -/
def scaleBytes (fa : Nat) : Nat := 16 * ((mmaDepth fa + 31) / 32)

/-- The value of BASE; under UP, g28 is popped after the operands (R197, R408). -/
def baseValue (s : State) (i : Instr) : Word :=
  let th := me s
  let b := (fmtOf th.desc).base
  if th.ss.up && b == 28 then
    (if th.popped.isEmpty then (myCore s).chain else th.popped).getD ((operands i).filter fun o => o.src && o.file == .g && regNum th o.fld o.num == 28).length 0
  else rdG th b

/-- The lines of a range of a bank, as pin requests. -/
def rangeLines (b off n : Nat) : List (Nat × Nat) :=
  (List.range ((off + n - 1) / 64 - off / 64 + 1)).map fun k => (b, off / 64 + k)

/-- Pins and pin requests under way at a line of a core's bank. -/
def pinsAt (s : State) (core : Nat) (p : Nat × Nat) : Nat :=
  pinCount s core p.1 p.2 + ((coreAt s core).mq.map fun m => m.want.count p).sum

/-- Every request of a step can be placed (R412). -/
def pinsFit (s : State) (core : Nat) (want : List (Nat × Nat)) : Bool :=
  want.all fun p => decide (pinsAt s core p + want.count p ≤ 63)

/-- A step joins the open batch: its index, and whether the batch has failed (R415, R418). -/
def batchFailed (th : Thread) : Bool := th.mx.batches.any fun b => !b.closed && b.failed

/-- The uid of the open batch, or the one that a batch opened now will have. -/
def openBatch (th : Thread) (uid : Nat) : Nat := ((th.mx.batches.find? fun b => !b.closed).map (·.uid)).getD uid

/-- The count of the open batch goes up; a live step is added to it. A batch opened by it has a uid. OPEN
saturates, and with it the index of a step (R418, R419): DESIGN CHOICE, log entry 77. -/
def countStep (th : Thread) (live : Bool) (uid : Nat) : Thread :=
  let mx := th.mx
  let bs := if mx.batches.any (fun b => !b.closed) then mx.batches else mx.batches ++ [⟨mx.seq.toNat, false, 0, uid, false, 0⟩]
  let bs := if live then bs.map fun b => if b.closed then b else { b with live := b.live + 1 } else bs
  { th with mx := { mx with batches := bs, open_ := if mx.open_ = 0xFFFF then mx.open_ else mx.open_ + 1 } }

/-- MMA (R408-R412, R418, R424). -/
def execMma (m : Mark) (d a b : Reg) (s : State) : Answer :=
  let i := Instr.mma m d a b
  .next (unit i (fun s =>
    let f := fmtOf (me s).desc
    let fa := mmaCode f.fa
    let fb := mmaCode f.fb
    let core := s.cur.core
    let va := (srcG s i .a a.toNat).toNat
    let vb := (srcG s i .b b.toNat).toNat
    let vs := (baseValue s i).toNat
    let nb := 16 * mmaRowB fa fb
    let ns := scaleBytes fa
    let na := if f.scl = 1 ∨ f.scl = 3 then ns else 0
    let nsb := if f.scl = 2 ∨ f.scl = 3 then ns else 0
    if va % 64 ≠ 0 then .fault .align 0 0 (some va)
    else if vb % 64 ≠ 0 then .fault .align 0 0 (some vb)
    else if f.scl ≠ 0 ∧ vs % 16 ≠ 0 then .fault .align 0 0 (some vs)
    else
      match ownBankRange core va 1536, ownBankRange core vb nb, (if f.scl = 0 then some (0, 0) else ownBankRange core vs (na + nsb)) with
      | none, _, _ => .fault .bankop 0 0 (some va)
      | _, none, _ => .fault .bankop 0 0 (some vb)
      | _, _, none => .fault .bankop 0 0 (some vs)
      | some (ba, oa), some (bb, ob), some (bs, os) =>
        let tile := dstNum s .d d.toNat
        useOwned s (some tile) (fb == 15) fun s =>
          if batchFailed (me s) then .done (modMe s fun th => countStep th false s.nextId)
          else if 32 ≤ (myCore s).mq.length then .park .matrixQueue s
          else
            let want := rangeLines ba oa 1536 ++ rangeLines bb ob nb ++ (if na = 0 then [] else rangeLines bs os na) ++
              (if nsb = 0 then [] else rangeLines bs (os + na) nsb)
            if !pinsFit s core want then .park (.pin want) s
            else
              let th := me s
              let (id, s) := fresh s
              let step : MStep :=
                { id := id, slot := s.cur.slot, rid := th.rid, batch := th.mx.seq.toNat, index := th.mx.open_.toNat, tile := tile,
                  fa := fa, fb := fb, scl := f.scl, aAddr := bankOff core ba oa, bAddr := bankOff core bb ob,
                  sAddr := bankOff core bs os, aVa := va, bVa := vb, sVa := vs, rnd := th.ss.rnd, want := want, pins := [], sent := false, started := false,
                  begun := 0, bid := openBatch th id,
                  aVal := [], bVal := [], sVal := [] }
              let s := modCore s core fun k => { k with mq := k.mq ++ [step] }
              let s := modTile s core tile fun x => { x with pend := x.pend + 1 }
              let s := modMe s fun th => countStep th true id
              .done (addOut s s.cur { outPlain id .mmaPin va with tile := tile, step := step.index })) s)

/-- The pin requests of a step leave its slot, behind the slot's earlier accesses to those banks (R412, R98). -/
def sendPins (s : State) (core id : Nat) : State :=
  match stepAt s core id with
  | none => s
  | some m =>
    let t : ThreadRef := ⟨core, m.slot, 0⟩
    let bank := fun (a : Access) => m.want.any fun w =>
      a.stage == .coal || (a.pa - 0x20000000000) / 65536 == 16 * core + w.1
    let ahead := s.inflight.any fun a =>
      a.t == t && decide (a.id < id) && decide (4 ≤ a.pol) && (a.stage == .coal || a.stage == .checked) && bank a
    -- the requests of an older step of the slot leave first (R67, R412)
    let behind := (coreAt s core).mq.any fun x => x.slot == m.slot && x.rid == m.rid && !x.sent && !x.want.isEmpty && decide (x.id < id)
    if m.sent || ahead || behind then s
    else
      let th := threadAt s t
      let s := modStep s core id fun m => { m with sent := true }
      m.want.foldl (fun s p =>
        if (stepAt s core id).isNone then s
        else
          admitBank s core p.1
            { src := .step core id, cmd := .pin id p.2, t := t, gid := th.gid, ns := ctxNs (coreAt s core).ctxid,
              priv := th.ss.priv, host := false, fwd := false, addr := bankOff core p.1 0,
              came := s.now, bad := false }) s

/-! ### The engine (R411, R414, R418) -/

/-- The lines of n bytes at a bank-window offset. -/
def blockLines (s : State) (o n : Nat) : List Line :=
  (List.range ((o % 64 + n + 63) / 64)).map fun k => rdLine s.sram (o / 64 * 64 + 64 * k)

def blockPoison (s : State) (o n : Nat) : Bool :=
  (List.range ((o % 64 + n + 63) / 64)).any fun k => s.sramBad.contains (o / 64 + k)

/-- All scale bytes of a step. -/
def stepScales (m : MStep) : Nat := scaleBytes m.fa * (if m.scl = 3 then 2 else if m.scl = 0 then 0 else 1)

/-- A step may start: every pin is placed, and no older step of its tile, no table load it depends on, is unfinished.
DEDUCED, log entry 29. -/
def mayStart (s : State) (core : Nat) (m : MStep) : Bool :=
  let k := coreAt s core
  m.sent && m.want.isEmpty && !m.started &&
    k.mq.all (fun x => x.tile != m.tile || decide (m.id ≤ x.id)) &&
    s.inflight.all (fun a => a.kind != .tileLoad m.tile || a.t.core != core || a.stage == .done || decide (m.id < a.id)) &&
    (m.fb != 15 || k.bookLoad.isNone)

/-- MATRIX_STEP_START: the oldest step that may start reads its lines and drops its pins; one step is read while the step
before it is computed. A line with an uncorrectable error fails it (R414, R418). DEDUCED, log entry 22. -/
def execMatrixStepStart (core : Nat) (s : State) : Answer :=
  .next (
    let q := (coreAt s core).mq
    if 2 ≤ (q.filter fun m => m.started).length then s
    else
      match q.find? (mayStart s core) with
      | none => s
      | some m =>
        let nb := 16 * mmaRowB m.fa m.fb
        if blockPoison s m.aAddr 1536 || blockPoison s m.bAddr nb || (m.scl != 0 && blockPoison s m.sAddr (stepScales m)) then
          failStep s core m 1
        else
          let (n, s) := fresh s
          let s := modStep s core m.id fun m =>
            { m with started := true, begun := n, aVal := blockLines s m.aAddr 1536, bVal := blockLines s m.bAddr nb,
                     sVal := rdBytes s.sram m.sAddr (stepScales m) }
          match stepAt s core m.id with
          | some m => dropPins s core m
          | none => s)

/-- Row r of a block whose rows have a length in bytes. -/
def blockRow (ls : List Line) (len r : Nat) : Nat :=
  packElems 512 (ls.map BitVec.toNat) / 2 ^ (8 * len * r) % 2 ^ (8 * len)

/-- The scale that governs element k of row r of an operand: byte S r + t of its scale bytes (R409). -/
def scaleAt (bs : List Byte) (sPerRow r k : Nat) : Fp := scaleOf (bs.getD (sPerRow * r + k / 32) 0).toNat

/-- One element of the result of a step (R411). -/
def stepElement (book : List Byte) (m : MStep) (acc : Nat) (row col : Nat) : Nat × BitVec 5 :=
  let depth := mmaDepth m.fa
  let a := blockRow m.aVal 96 row
  let b := blockRow m.bVal (mmaRowB m.fa m.fb) col
  match intOf m.fa, intOf m.fb with
  | some f, some g =>
    let t := (List.range depth).foldl (fun (t : Int) k =>
      t + intValue f (a / 2 ^ (8 * k) % 256) * intValue g (b / 2 ^ (8 * k) % 256)) 0
    ((ofInt 32 ((acc : Int) + t)).toNat, 0)
  | _, _ =>
    let spr := (depth + 31) / 32
    let onA := m.scl = 1 ∨ m.scl = 3
    let onB := m.scl = 2 ∨ m.scl = 3
    let sb := if m.scl = 3 then m.sVal.drop (scaleBytes m.fa) else m.sVal
    let terms := (List.range depth).map fun k =>
      productX (rowElement m.fa a k) (if m.fb = 15 then rowCode book b k else rowElement m.fb b k)
        (if onA then scaleAt m.sVal spr row k else Fp.one) (if onB then scaleAt sb spr col k else Fp.one)
    dotRound (roundingOf m.rnd) acc terms

/-- The tile after a step, and the step's flags. -/
def stepResult (book : List Byte) (m : MStep) (data : List (BitVec 32)) : List (BitVec 32) × BitVec 5 :=
  let r := (List.range 256).map fun k => stepElement book m (data.getD k 0).toNat (k / 16) (k % 16)
  (r.map fun x => BitVec.ofNat 32 x.1, r.foldl (fun f x => f ||| x.2) 0)

/-- Tile contents in their one form: empty for all zero. -/
def tileData (l : List (BitVec 32)) : List (BitVec 32) := if l.all fun x => x == 0 then [] else l

/-- The step under computation: the started step that started first (R414). -/
def computedStep (q : List MStep) : Option MStep :=
  q.find? fun m => m.started && q.all fun x => !x.started || decide (m.begun ≤ x.begun)

/-- MATRIX_STEP_END: the contribution of the step under computation is in its tile in one act, and the step is over (R414,
R415). -/
def execMatrixStepEnd (core : Nat) (s : State) : Answer :=
  .next (match computedStep (coreAt s core).mq with
    | none => s
    | some m =>
      let r := stepResult (coreAt s core).book m (tileAt s core m.tile).data
      removeStep (modTile s core m.tile fun x => { x with data := tileData r.1 }) core m r.2 none)

/-! ### Batches (R415-R417) -/

/-- Closed batches that are not complete. -/
def batchesOut (th : Thread) : Nat := (th.mx.batches.filter fun b => b.closed && b.live != 0).length

/-- The open batch closes (R415). -/
def closeBatch (th : Thread) : Thread :=
  let mx := th.mx
  settleBatches { th with mx := { mx with batches := mx.batches.map (fun b => { b with closed := true }), seq := mx.seq + 1, open_ := 0 } }

/-- MCOMMIT (R415). -/
def execMcommit (m : Mark) (s : State) : Answer :=
  .next (unit (.mcommit m) (fun s =>
    let busy := (me s).mx.batches.any fun b => !b.closed && b.live != 0
    if busy ∧ 15 ≤ batchesOut (me s) then .park (.batches 14) s else .done (modMe s closeBatch)) s)

/-- The matrix status word (R416). -/
def matrixWord (th : Thread) : Word :=
  let x := th.mx
  word (x.fstep.toNat * 2 ^ 48 + x.fbatch.toNat * 2 ^ 40 + x.ftile.toNat * 2 ^ 36 + x.fstat.toNat * 2 ^ 34 + x.seq.toNat * 2 ^ 24
    + x.open_.toNat * 2 ^ 8 + batchesOut th)

/-- MWAITB (R417). -/
def execMwaitb (m : Mark) (d : Reg) (n : BitVec 4) (s : State) : Answer :=
  .next (unit (.mwaitb m d n) (fun s =>
    if n.toNat < batchesOut (me s) then .park (.batches n.toNat) s
    else
      let w := matrixWord (me s)
      .done (putG (modMe s fun th => { th with mx := { th.mx with fstep := 0, fbatch := 0, ftile := 0, fstat := 0 } }) d w)) s)

/-- The tile record (R419). -/
def tileWord (x : Tile) : Word :=
  word (x.owner.toNat * 2 ^ 32 + x.status.toNat * 2 ^ 30 + x.pend % 64 * 2 ^ 24 + x.batch.toNat * 2 ^ 16 + x.step.toNat)

/-- MSTAT: the slot's word, or a tile's record (R417, R419). -/
def execMstat (m : Mark) (d b : Reg) (c : BitVec 1) (s : State) : Answer :=
  .next (unit (.mstat m d b c) (fun s =>
    .done (putG s d (if c = 0 then matrixWord (me s) else tileWord (tileAt s s.cur.core b.toNat)))) s)

/-! ### Tiles and the table in memory (R421-R423) -/

/-- The tile has no work in flight (R421). DEDUCED, log entry 29. -/
def tileIdle (s : State) (n : Nat) : Bool := (tileAt s s.cur.core n).pend == 0

/-- The checks of a transfer at issue: alignment, then a device-region address of another core's bank, or one that runs past
its bank (R422). An address of the region where nothing is assigned fails late. -/
def transferCheck (s : State) (va n : Nat) (k : Res) : Res :=
  if va % 64 ≠ 0 then .fault .align 0 0 (some va)
  else if va < 2 ^ 56 ∧ inDeviceRegion va ∧ (deviceBank s.cur.core va).isSome ∧ (ownBankRange s.cur.core va n).isNone then
    .fault .bankop 0 0 (some va)
  else k

/-- The policy of a transfer: `.bk` in a bank, `.wt` in DRAM. -/
def transferPol (va : Nat) : Nat := if va < 2 ^ 56 ∧ inDeviceRegion va then 5 else 1

/-- MZERO (R421, R424). -/
def execMzero (m : Mark) (d : Reg) (k : BitVec 1) (s : State) : Answer :=
  .next (unit (.mzero m d k) (fun s =>
    let n := dstNum s .d d.toNat
    let go := fun (s : State) =>
      if !tileIdle s n then .park (.tile n) s
      else .done (modTile s s.cur.core n fun x =>
        { x with data := [], status := 0, owner := if k = 1 then 0 else x.owner })
    kernelForm s k (if k = 1 then go s else useOwned s (some n) false go)) s)

/-- MLD (R422, R424). -/
def execMld (m : Mark) (d a b : Reg) (k : BitVec 1) (s : State) : Answer :=
  let i := Instr.mld m d a b k
  .next (unit i (fun s =>
    let n := dstNum s .d d.toNat
    let va := (srcG s i .a a.toNat).toNat
    let new : BitVec 32 := (srcG s i .b b.toNat).extractLsb' 0 32
    let go := fun (s : State) =>
      if !tileIdle s n then .park (.tile n) s
      else
        let (id, s) := fresh s
        let s := modTile s s.cur.core n fun x => { x with pend := x.pend + 1, owner := if k = 1 then new else x.owner }
        let pol := transferPol va
        .done (launchAccess s
          { accessOf s id (.tileLoad n) with va := va, n := 1024, pol := pol, cmd := some (.readLines (va % 65536) 16) }
          { outPlain id .tile va with tile := n })
    kernelForm s k (transferCheck s va 1024 (if k = 1 then go s else useOwned s (some n) false go))) s)

/-- The lines that an MST stores, and the flags of its narrowing (R422). -/
def tileLines (fd : Nat) (r : Rounding) (data : List (BitVec 32)) : List Line × BitVec 5 :=
  let xs := (List.range 256).map fun k => (data.getD k 0).toNat
  let pack := fun (w : Nat) (l : List Nat) (n : Nat) =>
    (List.range n).map fun j => (BitVec.ofNat 512 (packElems w ((l.drop (512 / w * j)).take (512 / w))) : Line)
  if fd = 0 then (pack 32 xs 16, 0)
  else
    let rs := xs.map (convert 1 fd r)
    (pack 16 (rs.map (·.1)) 8, rs.foldl (fun f x => f ||| x.2) 0)

/-- MST (R422, R424). -/
def execMst (m : Mark) (d a : Reg) (k : BitVec 1) (s : State) : Answer :=
  let i := Instr.mst m d a k
  .next (unit i (fun s =>
    let n := dstNum s .d d.toNat
    let va := (srcG s i .a a.toNat).toNat
    let fd := (fmtOf (me s).desc).fd
    let len := if fd = 0 then 1024 else 512
    let go := fun (s : State) =>
      if !tileIdle s n then .park (.tile n) s
      else
        let (ls, fl) := tileLines fd (roundingOf (me s).ss.rnd) (tileAt s s.cur.core n).data
        let (id, s) := fresh (modMe s fun th => orFlags th fl)
        .done (launchAccess s
          { accessOf s id (.tileStore n) with
              va := va, n := len, pol := transferPol va, lines := ls, sackd := true, cmd := some (.writeLines (va % 65536) ls) }
          { outPlain id .tile va with tile := n })
    kernelForm s k (transferCheck s va len (if k = 1 then go s else useOwned s (some n) false go))) s)

/-- No CB8 step and no accepted MXV is unfinished, and no other load of the table (R423). DEDUCED, log entry 29. -/
def bookIdle (k : Core) : Bool :=
  k.bookLoad.isNone && k.mq.all (fun m => m.fb != 15) &&
    k.cmds.all fun e => match e.2 with
      | some c => c.kind != .mxv || c.stage == .waiting
      | none => true

/-- CBLD (R423, R424). -/
def execCbld (m : Mark) (a b : Reg) (k : BitVec 1) (s : State) : Answer :=
  let i := Instr.cbld m a b k
  .next (unit i (fun s =>
    let va := (srcG s i .a a.toNat).toNat
    let new : BitVec 32 := (srcG s i .b b.toNat).extractLsb' 0 32
    let go := fun (s : State) =>
      if !bookIdle (myCore s) then .park .table s
      else
        let (id, s) := fresh s
        let s := modCore s s.cur.core fun c => { c with bookLoad := some id, cbtOwner := if k = 1 then new else c.cbtOwner }
        .done (launchAccess s
          { accessOf s id .bookLoad with va := va, n := 768, pol := transferPol va, cmd := some (.readLines (va % 65536) 12) }
          (outPlain id .tile va))
    kernelForm s k (transferCheck s va 768 (if k = 1 then go s else useOwned s none true go))) s)

/-- TILE_LOAD_DONE: the data of an MLD have arrived: the tile holds them, and its failure record is cleared (R419, R422).
DEDUCED, log entry 29. -/
def execTileLoadDone (id : Nat) (s : State) : Answer :=
  .next (match accessAt s id with
    | none => s
    | some a =>
      match a.kind, a.stage with
      | .tileLoad n, .landing =>
        let data := (a.lines.flatMap fun l => elems 32 16 l.toNat).map (BitVec.ofNat 32)
        dropAccess (modTile s a.t.core n fun x =>
          { x with data := tileData data, status := 0, pend := x.pend - 1 }) id
      | _, _ => s)

/-- CBLD_DONE: the table is loaded, and V is set (R406, R423). DEDUCED, log entry 29. -/
def execCbldDone (id : Nat) (s : State) : Answer :=
  .next (match accessAt s id with
    | none => s
    | some a =>
      match a.kind, a.stage with
      | .bookLoad, .landing =>
        let data := (a.lines.flatMap fun l => bytesOf 64 l.toNat).take 768
        dropAccess (modCore s a.t.core fun k =>
          { k with book := if data.all (fun x => x == 0) then [] else data, cbtV := true, bookLoad := none }) id
      | _, _ => s)

end Sys2Proof.Machine
end

