-- ==== Sys2Proof/Machine/AccessEvents.lean ====
section
/-! DEFINITION. Accesses after their issue (R123, R155, R160, R290-R296, R344, R345, R422, R432): ACCEPTANCE_RETURN,
DEFERRED_RESULT_LAND, QLD_DATA_ARRIVE, MARKER_COMMIT. -/

namespace Sys2Proof.Machine

/-! ### What must come before (R123, R155) -/

/-- The access is a release: an atomic whose order says so, or the acceptance of an MXV. -/
def releaseScope (a : Access) : Option Nat :=
  match a.kind, a.cmd with
  | .atomic, _ => if ordRel a.ordsc then some (ordScope a.ordsc) else none
  | .bank, some (.vector _ _) => some 3
  | .fence k, _ => some k
  | _, _ => none

/-- Conditions 1 and 2 of R162 for what the thread did before a release: its reads are done and its stores acknowledged. -/
def earlierDone (s : State) (a : Access) : Bool :=
  (s.inflight.all fun x => !decide (x.id < a.id) || !sameThread x a || isFence x.kind || prefetches x.kind ||
    (!x.sackd && (performed x || !reads x.kind))) &&
  (coreAt s a.t.core).mq.all (fun m => !isDeck a.t || m.rid != a.rid || m.want.isEmpty || !decide (m.id < a.id))

/-- The deferred lines of the rider that a release names, while it is in its slot. -/
def linesOf (s : State) (a : Access) : List Nat := if (threadAt s a.t).rid = a.rid then (threadAt s a.t).dlines else []

/-- A write of the rider that made an access. -/
def clearOf (a : Access) (c : Clear) : Bool := sameThread { Access.blank 0 c.t .store with rid := c.rid, ctx := c.ctx } a

/-- All conditions of R162 for a release of a scope: beyond a die every deferred line of the record is home, and no clearance is owed. -/
def releaseReady (s : State) (a : Access) (scope : Nat) : Bool :=
  earlierDone s a && (decide (scope < 3) || ((linesOf s a).isEmpty && a.waits.all (writtenBack s) &&
    ((threadAt s a.t).rid != a.rid || (threadAt s a.t).wbs.all (writtenBack s)) && s.clears.all fun c => !clearOf a c))

/-- Lines that earlier stores have deferred since a release was issued are written back, once those stores are done (R142, R162). -/
def flushLater (s : State) (a : Access) (scope : Nat) : State :=
  if decide (3 ≤ scope) && earlierDone s a && !(linesOf s a).isEmpty then
    let s := beginRelease s a.t 3
    modAccess s a.id fun x => { x with waits := x.waits ++ (threadAt s a.t).wbs }
  else s

/-- The write-backs that have ended are no longer awaited. -/
def pruneWaits (s : State) (t : ThreadRef) : State :=
  modThread s t fun th => { th with wbs := th.wbs.filter fun id => !writtenBack s id }

/-! ### Banks -/

/-- The operation that an access asks of its bank (R62, R76, R339, R342, R363, R372). -/
def bankCmdOf (a : Access) (o : Nat) : BankCmd :=
  match a.kind with
  | .load | .port _ => if a.scalar || a.whole then .read o a.n else .vread o a.n
  | .store => if a.scalar || a.whole then .write o a.n a.mask a.data else .vwrite o a.n a.mask a.data
  | .atomic => .atomic o a.n a.aop (a.data.extractLsb' 0 64) a.y a.rnd
  | _ =>
    match a.cmd with
    | some (.alu c) => .alu { c with off := o }
    | some c => c
    | none => .read o a.n

/-- The access goes to its bank's input queue (R67). DEDUCED, log entry 19. -/
def toBank (s : State) (a : Access) (w : Nat) : State :=
  let b := bankOf w
  admitBank (stageAccess s a.id .atBank) b.1 b.2
    { src := .access a.id, cmd := bankCmdOf a (w % 65536), t := a.t, gid := a.gid, ns := ctxNs a.ctx, priv := a.priv,
      host := false, fwd := false, addr := 0, came := s.now, bad := false }

/-- An access that has passed its checks returns its acceptance, whether or not it may be performed yet (R294, R436).
DEDUCED, log entry 51. -/
def acceptEarly (s : State) (a : Access) : State := acceptOut s a.t a.id none none

/-! ### The control window -/

/-- WORLD, found at the register (R17). -/
def worldFail (a : Access) : Fail := ⟨.world, 12, a.va % 2 ^ 56, 0⟩

/-- A load or store of a register (R17). -/
def toControl (s : State) (a : Access) (off : Nat) : State :=
  let who := agentOf s a.t
  if isLoad a.kind then
    match regRead s who off with
    | some v => modAccess s a.id fun x => { x with value := v.zeroExtend 512, stage := .landing }
    | none => failAccess s a.id (worldFail a)
  else
    match regWrite (stageAccess (acceptOut s a.t a.id none none) a.id .atBank) who off (a.data.extractLsb' 0 64) (.access a.id) with
    | some s' => s'
    | none => failAccess s a.id (worldFail a)

/-! ### Transfers (R422, R423) -/

/-- Every line of a transfer is translated and checked before its acceptance returns. -/
inductive LinesAt where
  | ok (pas : List Nat)
  | wait (va cause : Nat) (leaf : Option Leaf)
  deriving DecidableEq, Repr

def lineAddrs (s : State) (a : Access) : List Nat → LinesAt
  | [] => .ok []
  | va :: r =>
    if 2 ^ 56 ≤ va ∨ inDeviceRegion va then .wait va 7 none
    else
      match translate s a.t.core a.ctx a.priv va (needOf a) 1 false with
      | .miss => .wait va 0 none
      | .dirty _ l => .wait va 0 (some l)
      | .fail c => .wait va c none
      | .ok pa _ =>
        let c := windowRefuses a pa
        if c ≠ 0 then .wait va c none
        else
          match lineAddrs s a r with
          | .ok l => .ok (pa :: l)
          | x => x

/-- The transfer's acceptance, or its wait for a page. -/
def acceptTransfer (s : State) (a : Access) : State :=
  match lineAddrs s a ((List.range (transferLines a)).map fun i => a.va + 64 * i) with
  | .wait va c l => coalesce (stageAccess s a.id .coal) a.t a.ctx (va % 2 ^ 56) c (kindOf a) (.access a.id) l
  | .ok l => modAccess (acceptEarly s a) a.id fun x => { x with pas := l, pa := l.headD 0 }

/-- The next line of a transfer in DRAM. -/
def transferTurn (s : State) (a : Access) : State :=
  let s := if a.pas.isEmpty then acceptTransfer s a else s
  match accessAt s a.id with
  | none => s
  | some a =>
    if a.pas.isEmpty then s
    else
      match a.kind with
      | .tileStore _ => startStore s a
      | _ => startLoad s a

/-! ### Cache ranges (R344, R345) -/

/-- Deferred bytes leave, and the range waits for their acknowledgement. -/
def flushFor (s : State) (a : Access) (pa : Nat) : State :=
  let since := s.nextId
  let s := flushDeferred s (dieOf a.t.core) a.t.core pa a.t
  modAccess s a.id fun x => { x with waits := x.waits ++ backsSince s since }

/-- Owned words reach the home and stay owned. -/
def cleanOwned (s : State) (die pa : Nat) : State :=
  let s := gatherL1 s die pa
  let l := l2At s die pa
  if l.own = 0 then s
  else
    let s := writeHome s (homeLine pa) (maskOfWords l.own) l.data
    if l.poison then poisonHome s (homeLine pa) else s

/-- One line of CLEAN (0), INVAL (1) or FLUSH (2). -/
def rangeLine (s : State) (a : Access) (fn : Nat) : State :=
  let die := dieOf a.t.core
  let pa := lineAddr a.pa
  match window pa with
  | .bank _ | .control _ | .hole => s
  | _ =>
    match fn with
    | 0 => flushFor (cleanOwned s die pa) a pa
    | 1 =>
      let l := l2At s die pa
      evictL2 (setL2 s die pa (if l.st = .inv then L2Line.reset else { l with dmask := 0, ddata := 0, dns := 0 })) die pa
    | _ => evictL2 (flushFor s a pa) die pa

/-- One line of a PREF: it waits for its translation, is asked for, or is skipped, without a fault (R28, R35, R344). -/
def prefetchLine (s : State) (a : Access) : State :=
  let core := a.t.core
  let die := dieOf core
  if 2 ^ 56 ≤ a.va ∨ inDeviceRegion a.va then skipPrefetch s a
  else
    match translate s core a.ctx a.priv a.va Need.none_ a.pol false with
    | .miss => coalesce (stageAccess s a.id .coal) a.t a.ctx a.va 0 (kindOf a) (.access a.id) none
    | .fail _ => skipPrefetch s a
    | .ok pa _ | .dirty pa _ =>
      let p := lineAddr pa
      let s := modAccess s a.id fun x => { x with pa := p }
      let a := { a with pa := p }
      let len := (coreAt s core).lease
      if (l2At s die p).st == .owned || (a.pol == 0 && (l2At s die p).dmask != 0) || (a.pol == 2 && len == 0) then skipPrefetch s a
      else if isDram p then
        match a.pol with
        | 0 => askHome s a die (BitVec.allOnes 16) (.own (BitVec.allOnes 16))
        | 3 => askHome s a die (BitVec.allOnes 16) .readWi
        | _ => askHome s a die (BitVec.allOnes 16) .readWt
      else if windowKind (window p) == 4 && a.pol == 2 && (nodeOf s p).v then
        askPeer s a fun q => { q with opc := 0x02, size := 4, addr := BitVec.ofNat 56 (peerOff p) }
      else skipPrefetch s a

/-! ### The access port (R432) -/

/-- The port's access walks on its own. -/
def portTranslate (s : State) (a : Access) : State :=
  let fetches := a.kind == .port 2
  let fail := fun (s : State) (c : Nat) => failAccess s a.id (Fail.ofCause c a.va)
  if 2 ^ 56 ≤ a.va ∨ inDeviceRegion a.va then fail s 7
  else
    match engineAddr s a.t a.ctx a.priv a.va (needOf a) (if fetches then 7 else a.pol) with
    | .later s => s
    | .fail s c => fail s c
    | .ok s pa =>
      let c := if fetches && !isDram pa then 13 else windowRefuses a pa
      if c ≠ 0 then fail s c else checkedAt s a.id pa 0

/-! ### ACCEPTANCE_RETURN -/

/-- An access to DRAM is performed, or asks its home (R145, R152, R160). -/
def toDram (s : State) (a : Access) : State :=
  match a.kind with
  | .tileLoad _ | .tileStore _ | .bookLoad => transferTurn s a
  | .spawnRead => startLoad s a
  | k =>
    let s := acceptEarly s a
    if accIdle a then (if isLoad k then stageAccess s a.id .landing else stageAccess s a.id .acked)
    else if k == .qld then startQld s a
    else if k == .qst then startQst s a
    else if isLoad k then startLoad s a
    else if isStore k then startStore s a
    else startAtomic s a

/-- An access to another package (R19, R156). An entry of the node table that is not valid fails the access itself with NODE, for its
next marker: nothing joins the coalescing table. DEDUCED, log entry 64. -/
def toPeer (s : State) (a : Access) : State :=
  if !(nodeOf s a.pa).v then failAccess s a.id (nodeFail a)
  else
    let s := acceptEarly s a
    if accIdle a then (if isLoad a.kind then stageAccess s a.id .landing else stageAccess s a.id .acked) else startPeer s a

/-- An access that has passed its checks leaves. -/
def leave (s : State) (a : Access) : State :=
  match a.kind with
  | .fence _ => dropAccess s a.id
  | .range fn _ _ =>
    if fn = 3 then prefetchLine s a
    else
      let s := rangeLine s a fn
      match accessAt s a.id with
      | some a => nextRangeLine s a
      | none => s
  | _ =>
    match window a.pa with
    | .bank w => toBank s a w
    | .control o => toControl s a o
    | .peer => toPeer s a
    | .iw _ | .blw _ => toDram s a
    | .hole => failAccess s a.id (Fail.ofCause 6 a.va)

/-- The engine command of a name that waits for its acceptance. -/
def waitingCommand (s : State) (id : Nat) : Option (Nat × Nat) :=
  s.cores.findSome? fun e => (e.2.cmds.find? fun c => match c.2 with
    | some c => c.id == id && c.stage == .waiting && c.kind != .mxv
    | none => false).map fun c => (e.1, c.1)

/-- The core of a matrix step whose pin requests have not left. -/
def waitingStep (s : State) (id : Nat) : Option Nat :=
  (s.cores.find? fun e => e.2.mq.any fun m => m.id == id && !m.sent).map (·.1)

/-- The pin requests of a step leave, unless a release fence or an ordering atomic before it holds them back (R162, R163, R412). -/
def stepLeaves (s : State) (core id : Nat) : State :=
  match stepAt s core id with
  | some m => if fenceOpen s ⟨core, m.slot, 0⟩ id then s else sendPins s core id
  | none => s

/-- An access that must wait returns its acceptance all the same, where its checks are complete: those of a bank and of a register are made
there, and a cache range of several pages makes them as it goes (R15, R17, R294). -/
def acceptWaiting (s : State) (a : Access) : State :=
  match a.kind, window a.pa with
  | .range _ line last, _ => if line / 1024 = last / 1024 then acceptEarly s a else s
  | .tileLoad _, .iw _ | .tileLoad _, .blw _ | .tileStore _, .iw _ | .tileStore _, .blw _ | .bookLoad, .iw _ | .bookLoad, .blw _ =>
    if a.pas.isEmpty then acceptTransfer s a else s
  | .store, .iw _ | .store, .blw _ | .qst, .iw _ | .qst, .blw _ | .qld, .iw _ | .qld, .blw _ => acceptEarly s a
  | .store, .peer => if (nodeOf s a.pa).v then acceptEarly s a else failAccess s a.id (nodeFail a)
  | _, _ => s

/-- ACCEPTANCE_RETURN: the checks of an access end, and it is performed or goes on its way; likewise an engine command and the pin
requests of a matrix step (R123, R294, R412). DEDUCED, log entry 19. -/
def execAcceptanceReturn (id : Nat) (s : State) : Answer :=
  .next (match accessAt s id with
    | some a =>
      match a.stage, a.kind with
      | .coal, .port _ => portTranslate s a
      | .checked, _ =>
        if heldBack s a || splitsStore s a then acceptWaiting s a
        else
          match releaseScope a with
          | none => leave s a
          | some k => if !releaseReady s a k then flushLater s a k else leave (pruneWaits s a.t) a
      | _, _ => s
    | none =>
      match waitingCommand s id with
      | some (c, n) => acceptCommand s c n
      | none => match waitingStep s id with
        | some c => stepLeaves s c id
        | none => s)

/-! ### Results (R290) -/

/-- The value of a result as its register will have it, with its flags (R333, R338, R339). -/
def landedValue (a : Access) (k : OutKind) : Line × BitVec 5 :=
  if k == .ldv then if a.bst = some 5 then (0, a.flags) else lanesOfMem a.fmt a.mask.toNat a.value.toNat else (a.value, a.flags)

/-- A result of a thread arrives; an access that still counts is acknowledged later (R98, R290). -/
def landResult (s : State) (a : Access) : State :=
  let id := a.id
  if a.poison then failAccess s id (poisonFail a)
  else
    let s := match (threadAt s a.t).outs.find? fun o => o.id == id with
      | some o =>
        let (v, fl) := landedValue a o.kind
        let s := landOut s a.t id v a.bst fl none
        -- an LDV that returns BADOP writes every lane (R339)
        if o.kind == .ldv && a.bst == some 5 then modOut s a.t id fun o => { o with lanes := 0xFFFF } else s
      | none => s
    let s := if a.kind == .atomic && ordAcq a.ordsc then acquireDrops s a.t (ordScope a.ordsc) else s
    if a.sackd then stageAccess s id .acked else dropAccess s id

/-- An acquire atomic is followed by an acquire fence: the reads before it return first (R163, R165). -/
def mayLand (s : State) (a : Access) : Bool := !(a.kind == .atomic && ordAcq a.ordsc) || readsReturned s a.t a.id

/-- DEFERRED_RESULT_LAND (R290). -/
def execDeferredResultLand (id : Nat) (s : State) : Answer :=
  .next (match accessAt s id with
    | some a => if a.stage = .landing ∧ (a.kind = .load ∨ a.kind = .atomic ∨ a.kind = .bank) ∧ !forBerth a ∧ mayLand s a then landResult s a else s
    | none => s)

/-- A queue entry is filled: widened as an LDV would be, with the flags for its pop; poisoned data stay poisoned (R114, R115). -/
def fillEntry (a : Access) (e : LoadEntry) : LoadEntry :=
  let (v, fl) := if a.fmt = 0 then (a.value, 0) else lanesOfMem a.fmt 0xFFFF a.value.toNat
  { e with ready := true, data := v, flags := fl, poison := a.poison }

/-- QLD_DATA_ARRIVE (R114). -/
def execQldDataArrive (id : Nat) (s : State) : Answer :=
  .next (match accessAt s id with
    | some a =>
      if a.stage = .landing ∧ a.kind = .qld then
        dropAccess (modCore (acceptOut s a.t id none none) a.t.core fun k =>
          { k with ldq := k.ldq.map fun e => if e.id == id then fillEntry a e else e }) id
      else s
    | none => s)

/-! ### Markers (R292-R297, R323) -/

/-- A result commits to its register, unless a younger instruction of the segment wrote it; its status and flags always do.
DEDUCED, log entries 26, 37. -/
def commitResult (th : Thread) (o : Out) : Thread :=
  let th := orFlags th o.flags
  let th := match o.bst with
    | some b => commitBst th b
    | none => th
  if o.discard then th
  else
    match o.file with
    | .g => wrG th o.reg (o.value.extractLsb' 0 64)
    | .v => wrV th o.reg (selLanes o.lanes.toNat o.value (rdV th o.reg))
    | .none => th

/-- The fault that the oldest failed access reports (R295, R429). DEDUCED, log entry 38. -/
def lateFault (o : Out) (f : Fail) (prec : Bool) : FaultInfo :=
  FaultInfo.mk (some f.cls) f.cause prec (if holdsEntry o.kind then o.entry else 0) f.detail false (!holdsEntry o.kind) f.addr

/-- In precise mode the failed entry is discarded, and the thread freezes at the unit, which will issue again: it has popped and
incremented nothing (R197, R296). DEDUCED, log entry 51. -/
def freezePrecise (s : State) (t : ThreadRef) (o : Out) (f : Fail) (b : Back) : State :=
  let s := modCore s t.core fun k =>
    { k with ldq := b.loads ++ k.ldq.filter fun e => e.id != o.id, chain := b.popped ++ k.chain }
  let s := abandonAccess s t o
  let s := modThread s t fun th =>
    let th := match b.inc with
      | some (r, v) => wrG th r v
      | none => th
    { th with run := .ready, outs := [], back := none, pc := b.pc, desc := b.desc, ss := { th.ss with repc := b.repc, pp := b.pp } }
  takeFault s t (lateFault o f true)

/-- A late fault is reported instead of the precise one whose marker steps found it; the unit finds that again when it issues (R297). -/
def freezeLate (s : State) (t : ThreadRef) (o : Out) (f : Fail) : State :=
  takeFault (modThread s t fun th => { th with prog := match th.prog with
    | .faulted _ => .none
    | p => p }) t (lateFault o f false)

/-- The marker steps, as far as they can go: results commit in program order, up to one that has not come, one that failed, or a push
without room. DEDUCED, log entry 38. -/
def commitOuts (t : ThreadRef) : (fuel : Nat) → State → State
  | 0, s => s
  | n + 1, s =>
    let th := threadAt s t
    match th.outs with
    | [] =>
      modThread s t fun th => { th with run := if th.run = .parked .marker then .ready else th.run, back := none }
    | o :: rest =>
      if !o.done then s
      else
        match o.fail with
        | some f =>
          match th.back, o.late with
          | some b, false => freezePrecise s t o f b
          | _, _ => freezeLate s t o f
        | none =>
          let down := t.core + 1
          if pushesOut o && !mayPush s t then s
          else
            let s := modThread s t fun th => { commitResult th o with outs := rest }
            let s := if pushesOut o then modCore s down fun k => { k with chain := k.chain ++ [o.value.extractLsb' 0 64] } else s
            commitOuts t n s

/-- MARKER_COMMIT (R292). -/
def execMarkerCommit (t : ThreadRef) (s : State) : Answer :=
  .next (if atCommit (threadAt s t) then commitOuts t ((threadAt s t).outs.length + 1) s else s)

end Sys2Proof.Machine
end

