-- ==== Sys2Proof/Machine/Berths.lean ====
section
/-! DEFINITION. Berths (R219-R221, R499): BERTH_TAKE, BERTH_PREFETCH_DONE, SLOT_TAKES_RIDER. A berth's loads are accesses in flight
under a name of their own, one at a time. -/

namespace Sys2Proof.Machine

def berthAt (s : State) (core n : Nat) : Option Berth := aget none (coreAt s core).berths n
def setBerth (s : State) (core n : Nat) (b : Option Berth) : State :=
  modCore s core fun k => { k with berths := aset none k.berths n b }

/-! ### Loads -/

/-- What has become of a berth's load. -/
inductive Load where
  | idle                                     -- none is in flight
  | busy
  | value (d : Line) (bad : Bool) (s : State)
  | failed (f : Fail) (s : State)
  deriving DecidableEq, Repr

/-- The load under a name, taken when it has ended. One that met a bank under change is made again. -/
def takeLoad (s : State) (ref : ThreadRef) : Load :=
  match s.inflight.find? fun a => a.t == ref with
  | none => .idle
  | some a =>
    match a.stage with
    | .landing =>
      if a.bst = some 4 then .idle
      else if a.bst = some 5 then .failed ⟨.bankop, 0, a.va % 2 ^ 56, 0⟩ (dropAccess s a.id)
      else .value a.value a.poison (dropAccess s a.id)
    | .done => .failed (a.fail.getD ⟨.bankop, 0, a.va % 2 ^ 56, 0⟩) (dropAccess s a.id)
    | _ => .busy

/-- A load of n bytes inside one line begins. -/
def startRead (s : State) (ref : ThreadRef) (va n pol : Nat) (ctx : Word) (gid : BitVec 16) (priv : BitVec 2) : State :=
  let s := { s with inflight := s.inflight.filter fun a => a.t != ref }
  let (id, s) := fresh s
  let a := { Access.blank id ref .load with
    va := va, n := n, pol := pol, ctx := ctx, gid := gid, priv := priv, mask := BitVec.allOnes 64, whole := true }
  translateAccess { s with inflight := s.inflight ++ [a] } id

/-! ### The input copy (R220) -/

/-- What a turn of the input copy comes to. -/
inductive CopyTurn where
  | on (s : State) (copied : Nat)
  | ended (s : State)
  | failed (s : State) (f : Fail)
  deriving DecidableEq, Repr

/-- The store of a granule of input goes to the group's bank, where it takes its turn and is checked as a rider's; it carries the poison
mark of the line that its bytes come from (R15, R67, R76, R220, R446). DEDUCED, log entry 54. -/
def offerInput (s : State) (core : Nat) (g : Grid) (copied : Nat) (a : Access) : State :=
  admitBank s core g.inbank
    { src := .access a.id, cmd := .write (g.inoff + copied) a.n (BitVec.ofNat 64 (ones a.n)) a.data, t := a.t, gid := a.gid,
      ns := ctxNs a.ctx, priv := a.priv, host := false, fwd := false, addr := 0, came := s.now, bad := a.poison }

/-- A granule that has been read is stored: an access of the copy's own. -/
def putInput (s : State) (core : Nat) (ref : ThreadRef) (g : Grid) (src copied n : Nat) (d : Line) (bad : Bool) : State :=
  let (id, s) := fresh s
  let a := { Access.blank id ref .bank with
    va := src, pa := 0x20000000000 + bankOff core g.inbank (g.inoff + copied), n := n, pol := 5, data := d, poison := bad
    ctx := g.ctx, gid := g.gid, priv := g.priv, stage := .atBank }
  offerInput { s with inflight := s.inflight ++ [a] } core g copied a

/-- What has become of the store of a granule. One that met a bank under change is made again; any other status is nobody's, and the copy
goes on. DESIGN CHOICE, log entry 54. -/
def inputStored (s : State) (core : Nat) (g : Grid) (copied : Nat) (a : Access) : CopyTurn :=
  match a.stage with
  | .landing =>
    if a.bst = some 4 then
      .on (offerInput (modAccess s a.id fun x => { x with stage := .atBank, bst := none }) core g copied a) copied
    else if g.inlen ≤ copied + a.n then .ended (dropAccess s a.id) else .on (dropAccess s a.id) (copied + a.n)
  | .done => .failed (dropAccess s a.id) (a.fail.getD ⟨.bankop, 0, a.va % 2 ^ 56, 0⟩)
  | _ => .on s copied

/-- One turn of the copy: a granule is asked for, or the one that has come is stored, or its store has ended. A granule crosses no line of
its source or of its bank. DEDUCED, log entry 54. -/
def inputTurn (s : State) (core : Nat) (ref : ThreadRef) (g : Grid) (index copied : Nat) : CopyTurn :=
  let src := (g.insrc.toNat + index * g.instride.toNat + copied) % 2 ^ 64
  let n := min (g.inlen - copied) (min (64 - src % 64) (64 - (g.inoff + copied) % 64))
  if g.inlen ≤ copied then .ended s
  else
    match s.inflight.find? fun a => a.t == ref && a.kind == .bank with
    | some a => inputStored s core g copied a
    | none =>
      match takeLoad s ref with
      | .idle => .on (startRead s ref src n 1 g.ctx g.gid g.priv) copied
      | .busy => .on s copied
      | .failed f s => .failed s f
      | .value d bad s => .on (putInput s core ref g src copied n d bad) copied

/-- The group of a rider that has an input region still to be copied. DEDUCED, log entry 54. -/
def inputGroup (s : State) (th : Thread) : Option (Grid × Nat) :=
  match th.group with
  | some (key, i) =>
    if s.groups.any fun (x : Sys2Proof.Machine.Group) => x.grid == key && x.index == i && x.input then (gridAt s key).map fun g => (g, i)
    else none
  | none => none

/-- The copy has ended: the riders of the group are runnable. DEDUCED, log entry 54. -/
def inputDone (s : State) (th : Thread) : State :=
  match th.group with
  | some (key, i) =>
    { s with groups := s.groups.map fun (x : Sys2Proof.Machine.Group) =>
        if x.grid == key && x.index == i then { x with input := false } else x }
  | none => s

/-! ### BERTH_TAKE (R192, R219-R221) -/

/-- Arrivals that wait for room enter their level, in order. -/
def admitArrivals (s : State) (core : Nat) : State :=
  (coreAt s core).arrivals.foldl (fun s h =>
    if levelCount (coreAt s core) h.pri < 64 then
      modCore (enterQueue s core h) core fun k => { k with arrivals := k.arrivals.erase h }
    else s) s

/-- The first handle of the highest level that is not empty. -/
def headOf (l : List Handle) : Option Handle :=
  l.foldl (fun best h => match best with
    | some b => if b.pri < h.pri then some h else best
    | none => some h) none

/-- The slot is FREE and takes a rider of this handle: the quay slot quay riders, slot 0 the kernel rider while it is kept for one,
and deck slots deck riders (R221, R499). -/
def slotFits (k : Core) (slot : Nat) (h : Handle) : Bool :=
  if slot = 7 then h.slot == 7 && quayFree k
  else slotFree k slot && h.slot == (if slot = 0 ∧ k.kernel.isSome then 8 else 0)

/-- A berth takes a handle; the contexts of KINDs 1 and 2 are at hand. -/
def takeBerth (s : State) (core n : Nat) (h : Handle) : State :=
  let (id, s) := fresh s
  let s := modCore s core fun k => { k with rq := k.rq.erase h }
  setBerth s core n (some ⟨h, id, h.kind != 0, [], 0, none⟩)

/-- A berthed rider of lower priority than the head of the ready queue, for which a slot is FREE, is returned to the front of its
level. DEDUCED, log entries 47, 53. -/
def returnable (s : State) (core : Nat) (head : Handle) (n : Nat) : Option Handle :=
  match berthAt s core n with
  | some b =>
    if b.handle.pri < head.pri && (List.range 8).any (fun i => slotFits (coreAt s core) i b.handle) &&
        s.inflight.all fun a => a.t != loadRef core n then some b.handle else none
  | none => none

/-- BERTH_TAKE; a core whose clock is gated wakes first (R220, R221, R490). DEDUCED, log entry 53. -/
def execBerthTake (core : Nat) (s : State) : Answer :=
  .next (
    if (coreAt s core).idle then s
    else
    let s := admitArrivals s core
    match headOf (coreAt s core).rq with
    | none => s
    | some h =>
      if (berthAt s core 0).isNone then takeBerth s core 0 h
      else if (berthAt s core 1).isNone then takeBerth s core 1 h
      else
        match (List.range 2).findSome? fun n => (returnable s core h n).map fun x => (n, x) with
        | some (n, x) =>
          let s := modCore (setBerth s core n none) core fun k => { k with rq := x :: k.rq }
          takeBerth s core n h
        | none => s)

/-! ### BERTH_PREFETCH_DONE (R220) -/

/-- The address of line j of a record and of the vector save area that it names. -/
def recordLineAddr (b : Berth) (j : Nat) : Nat :=
  if j < 5 then b.handle.addr + 64 * j else (saveAddr (lineWord b.lines 35)).toNat + 64 * (j - 5)

/-- Every line that the record asks for has landed. -/
def recordWhole (ls : List Line) : Bool :=
  decide (5 ≤ ls.length) && (saveAddr (lineWord ls 35) == 0 || decide (37 ≤ ls.length))

/-- One turn of a record's loads. DEDUCED, log entry 53. -/
def recordTurn (s : State) (core n : Nat) (b : Berth) : State :=
  let ref := loadRef core n
  match takeLoad s ref with
  | .busy => s
  | .idle => startRead s ref (recordLineAddr b b.lines.length) 64 6 (coreAt s core).ctxid b.handle.gid b.handle.rqp
  | .failed f s => setBerth s core n (some { b with fault := some f })
  | .value d bad s =>
    if bad then
      setBerth s core n (some { b with fault := some ⟨.poison, 0, recordLineAddr b b.lines.length % 2 ^ 56, 0⟩ })
    else
      let ls := b.lines ++ [d]
      setBerth s core n (some { b with lines := ls, loaded := recordWhole ls })

/-- BERTH_PREFETCH_DONE: a turn of a berth's loads; with the last of them its rider is runnable. DEDUCED, log entry 53. -/
def execBerthPrefetchDone (core n : Nat) (s : State) : Answer :=
  .next (match berthAt s core n with
    | none => s
    | some b =>
      if b.fault.isSome then s
      else if !b.loaded then recordTurn s core n b
      else
        match b.handle.first, b.handle.ctx with
        | true, some th =>
          match inputGroup s th with
          | none => s
          | some (g, i) =>
            match inputTurn s core (loadRef core n) g i b.copied with
            | .on s c => setBerth s core n (some { b with copied := c })
            | .ended s => inputDone s th
            | .failed s f => setBerth s core n (some { b with fault := some f })
        | _, _ => s)

/-! ### SLOT_TAKES_RIDER (R186, R220, R221) -/

/-- The berthed rider may take a slot: its loads have landed, or have failed, and no input copy holds its group back. -/
def runnable (s : State) (b : Berth) : Bool :=
  b.fault.isSome || (b.loaded && match b.handle.ctx with
    | some th => (inputGroup s th).isNone
    | none => true)

/-- The context of a KIND 0 rider: the record's, with the world of the core; a saved rider is again a member of its group.
DEDUCED, log entry 53. -/
def recordContext (s : State) (core : Nat) (b : Berth) : Thread :=
  let w1 := lineWord b.lines 1
  let x := statusOfWord w1
  let w34 := lineWord b.lines 34
  let rid := w34.extractLsb' 0 32
  let th : Thread :=
    { Thread.reset with
      run := .ready, pc := word (field (lineWord b.lines 0).toNat 55 2 * 4), pw := w1.extractLsb' 0 32,
      ss := { x with priv := if x.priv = 3 ∨ x.priv.toNat ≤ b.handle.rqp.toNat then x.priv else b.handle.rqp
                     ns := ctxNs (coreAt s core).ctxid
                     anch := x.anch || !x.roam || x.up || x.dn }
      g := recordRegs b.lines
      v := (List.range (b.lines.length - 5)).foldl (fun v i => aset 0 v i (b.lines.getD (5 + i) 0)) []
      desc := ⟨(lineWord b.lines 33).extractLsb' 0 32, (lineWord b.lines 33).extractLsb' 32 32⟩
      gid := w34.extractLsb' 32 16, rid := rid, vsave := saveAddr (lineWord b.lines 35), asave := saveAddr (lineWord b.lines 36) }
  match s.saved.find? fun x => x.rid == rid with
  | some x =>
    { th with group := x.group, index := x.index, trig := x.trig, dlines := if dieOf x.core = dieOf core then x.dlines else []
              arrival := if x.core = core then x.arrival else s.now, wbs := x.wbs }
  | none => th

/-- A saved rider that comes back on another die: the lines that it deferred on the old one are written back, and its releases wait for
that (R142). DEDUCED, log entry 20. -/
def recallSaved (s : State) (t : ThreadRef) (rid : BitVec 32) : State :=
  match s.saved.find? fun x => x.rid == rid with
  | some x =>
    if dieOf x.core = dieOf t.core then s
    else
      let since := s.nextId
      let s := flushLines s x.core x.dlines (nobody (dieOf x.core))
      let ids := backsSince s since
      modThread s t fun th => { th with wbs := th.wbs ++ ids }
  | none => s

/-- The packet of a rider that enters its slot FROZEN (R221, R429). DEDUCED, log entry 53. -/
def entryFault (pf : Bool) (f : Fail) : FaultInfo := FaultInfo.mk (some f.cls) f.cause true 0 f.detail pf false f.addr

/-- A rider of a record enters its slot: FROZEN when its prefetch has failed or its record is one that R186 forbids. Where the failure
came after words 0-36, the rider has what was loaded; before that it has no name (R221). DEDUCED, log entry 53. -/
def enterRecord (s : State) (t : ThreadRef) (b : Berth) : State :=
  if b.lines.length < 5 then
    match b.fault with
    | some f => takeFault (setThread s t { Thread.reset with run := .ready }) t (entryFault true f)
    | none => s
  else
    let th := recordContext s t.core b
    let s := recallSaved (setThread s t th) t th.rid
    let s := { s with saved := s.saved.filter fun x => x.rid != th.rid }
    match b.fault, recordFault b.lines b.handle.rqp with
    | some f, _ => takeFault s t (entryFault true f)
    | none, some c => takeFault s t (entryFault false ⟨c, 0, th.pc.toNat, 0⟩)
    | none, none => s

/-- A dispatched or arrived rider enters its slot; with a failed input copy FROZEN, and the copy is its business from then on. -/
def enterContext (s : State) (t : ThreadRef) (b : Berth) (th : Thread) : State :=
  let put := fun (s : State) (run : Run) =>
    let s := setThread s t { th with run := run }
    match b.handle.pair with
    | some x => setThread s ⟨t.core, 7, 1⟩ { x with run := run }
    | none => s
  match b.fault with
  | none => put s .ready
  | some f =>
    let s := takeFault (put s (.parked (.copy b.copied))) t (entryFault true f)
    if b.handle.pair.isSome then modThread s ⟨t.core, 7, 1⟩ fun x => { x with froz := true, fault := entryFault true f } else s

/-- The slot takes the rider of berth n. -/
def takeSlot (s : State) (core slot n : Nat) (b : Berth) : State :=
  let t : ThreadRef := ⟨core, slot, 0⟩
  let s := modCore (setBerth s core n none) core fun k => { k with qexp := k.qexp.filter fun e => e.1 != slot }
  match b.handle.ctx with
  | some th => enterContext s t b th
  | none => enterRecord s t b

/-- The berth from which a slot is filled: highest priority, the earlier-berthed first. -/
def chosenBerth (s : State) (core slot : Nat) : Option (Nat × Berth) :=
  let l := (List.range 2).filterMap fun n => match berthAt s core n with
    | some b => if runnable s b && slotFits (coreAt s core) slot b.handle then some (n, b) else none
    | none => none
  l.foldl (fun best x => match best with
    | some b => if b.2.handle.pri < x.2.handle.pri || (b.2.handle.pri == x.2.handle.pri && decide (x.2.since < b.2.since)) then some x
        else best
    | none => some x) none

/-- SLOT_TAKES_RIDER; while the core is being evacuated no slot is filled (R221, R441). DEDUCED, log entry 53. -/
def execSlotTakesRider (core slot : Nat) (s : State) : Answer :=
  .next (match chosenBerth s core slot with
    | none => s
    | some (n, b) =>
      let below := match headOf (coreAt s core).rq with
        | some h => decide (b.handle.pri < h.pri)
        | none => false
      if below || 8 ≤ slot || s.evacs.any (fun e => e.1 == core) then s else takeSlot s core slot n b)

end Sys2Proof.Machine
end

