-- ==== Sys2Proof/Machine/Control.lean ====
section
/-! DEFINITION. Prefixes (R282, R283), compares (R305), branches and jumps (R306-R308). -/

namespace Sys2Proof.Machine

/-- An encoded word, for the prefix descriptor. -/
def wordOf (i : Instr) : IWord := (encode i).getD 0

/-- FMT: the unit is checked and the word enters the descriptor (R281, R282, R287). -/
def execFmt (a b d e : BitVec 5) (c : BitVec 2) (s : State) : Answer :=
  let i := Instr.fmt a b d e c
  .next (if canIssue (me s) && !expired s s.cur && !i.wf then preciseFault s .ill 0 0 none
         else issuePrefix false (wordOf i) s)

/-- REP: the unit is checked and the word enters the descriptor (R281, R283, R287). -/
def execRep (c : BitVec 8) (d a b : BitVec 5) (s : State) : Answer :=
  .next (issuePrefix true (wordOf (.rep c d a b)) s)

/-- A compare writes its predicate; a false result with SKIP k annuls the next k units (R288, R305). -/
def compareBody (t : Bool) (p : BitVec 4) (k : BitVec 2) (s : State) : Res :=
  let s := putQ s p.toNat t
  if t || k == 0 then .done s
  else
    let th := me s
    -- the compare itself is complete before its window is found (R289): it counts, and then the units are annulled
    let s := annul (modMe s fun th => goTo th (nextUnit th)) k.toNat (nextUnit th)
    .jump s (me s).pc.toNat

/-- CMP (R305). -/
def execCmp (m : Mark) (c : BitVec 4) (k : BitVec 2) (p : BitVec 4) (a b : Reg) (s : State) : Answer :=
  let i := Instr.cmp m c k p a b
  .next (unit i (fun s => compareBody (condition c.toNat (srcG s i .a a.toNat) (srcG s i .b b.toNat)) p k s) s)

/-- CMPI (R305). -/
def execCmpi (m : Mark) (c : BitVec 4) (k : BitVec 2) (p : BitVec 4) (a : Reg) (y : BitVec 10) (s : State) : Answer :=
  let i := Instr.cmpi m c k p a y
  .next (unit i (fun s => compareBody (condition c.toNat (srcG s i .a a.toNat) (sext64 y)) p k s) s)

/-- A branch target: the instruction's address plus 4 times a signed displacement (R275, R306). -/
def branchTarget (pc : Word) {n : Nat} (d : BitVec n) : Nat := (pc + 4 * sext64 d).toNat

/-- BT: to the target when q is true (R306). -/
def execBt (m : Mark) (q : BitVec 4) (d : BitVec 20) (s : State) : Answer :=
  .next (unit (.bt m q d) (fun s =>
    if rdQ (me s) q.toNat then .jump s (branchTarget (me s).pc d) else .done s) s)

/-- BF: to the target when q is false (R306). -/
def execBf (m : Mark) (q : BitVec 4) (d : BitVec 20) (s : State) : Answer :=
  .next (unit (.bf m q d) (fun s =>
    if rdQ (me s) q.toNat then .done s else .jump s (branchTarget (me s).pc d)) s)

/-- J (R306). -/
def execJ (m : Mark) (d : BitVec 25) (s : State) : Answer :=
  .next (unit (.j m d) (fun s => .jump s (branchTarget (me s).pc d)) s)

/-- JAL: d := its address + 4, and to the target (R307). -/
def execJal (m : Mark) (d : Reg) (i : BitVec 20) (s : State) : Answer :=
  .next (unit (.jal m d i) (fun s =>
    let pc := (me s).pc
    .jump (putG s d (pc + 4)) (branchTarget pc i)) s)

/-- A jump to a register: bits 1:0 raise ALIGN (R308). A target with bits 63:56 set fails at its fetch (R21, R309). -/
def jumpTo (s : State) (target : Word) (k : State → State) : Res :=
  if target.toNat % 4 ≠ 0 then .fault .align 0 0 (some target.toNat)
  else .jump (k s) target.toNat

/-- JR (R308). -/
def execJr (m : Mark) (a : Reg) (s : State) : Answer :=
  let i := Instr.jr m a
  .next (unit i (fun s => jumpTo s (srcG s i .a a.toNat) id) s)

/-- JALR: the target is read before d is written (R308). -/
def execJalr (m : Mark) (d a : Reg) (s : State) : Answer :=
  let i := Instr.jalr m d a
  .next (unit i (fun s =>
    jumpTo s (srcG s i .a a.toNat) fun s => putG s d ((me s).pc + 4)) s)

end Sys2Proof.Machine
end

