-- ==== Sys2Proof/Machine/Fabric.lean ====
section
/-! DEFINITION. The fabric (R20, R448-R455, R463, R465-R467): requests that reach the package, responses to its own, snoop answers, and the
RESYNC record. -/

namespace Sys2Proof.Machine

/-! ### Headers (R449, R450) -/

/-- A code of R450. -/
def knownOpc (o : Nat) : Bool := (decide (1 ≤ o) && decide (o ≤ 0x0A)) || [0x10, 0x81, 0x82, 0x83, 0x90].contains o

/-- The header is well formed. DEDUCED, log entry 55. -/
def headerOk (p : Packet) : Bool := p.zeros && decide (p.size.toNat ≤ 4) && decide (p.ndata.toNat = p.flits.length) && decide (p.flits.length ≤ 4)

/-- A packet that this package sent to itself has come back to it (R19). DEDUCED, log entry 56. -/
def takeLoop (s : State) (p : Packet) : State := if p.src = s.nid then { s with sent := s.sent.erase p } else s

/-- The access of this package whose request a packet is, or which a response answers. DEDUCED, log entry 55. -/
def answeredBy (s : State) (tag : BitVec 16) : Option Access :=
  s.inflight.find? fun a => a.stage == .atPeer && BitVec.ofNat 16 a.id == tag

/-- Two packets are requests of one thread to one line of one node (R448). -/
def sameStream (s : State) (p q : Packet) : Bool :=
  p.dst == q.dst && decide (p.opc.toNat < 0x80) && decide (q.opc.toNat < 0x80) && p.addr.toNat / 64 == q.addr.toNat / 64 &&
    match answeredBy s p.tag, answeredBy s q.tag with
    | some a, some b => a.t == b.t
    | _, _ => false

/-- A packet that this package sent to itself waits for the requests that its thread sent to the same line before it (R448). -/
def loopWaits (s : State) (p : Packet) : Bool :=
  p.src == s.nid && s.sent.contains p && (s.sent.takeWhile fun q => q != p).any (sameStream s p)

/-- An act that a host has not: a message, a snoop (R455). -/
def notForHosts (p : Packet) : Bool := p.hostn && (p.opc == 0x07 || p.opc == 0x10)

/-- The packet is this package's business as one of a code: any reserved code is answered with BADPKT, as is a malformed header, and what a
host may not do with REFUSED; a packet for another node or of another code is not taken here. DEDUCED, log entry 55. -/
def received (s : State) (p : Packet) (opc : Nat) (k : State → State) : State :=
  if p.dst ≠ s.nid ∨ loopWaits s p then s
  else if !knownOpc p.opc.toNat then respondErr (takeLoop s p) p 6
  else if notForHosts p then respondErr s p 2
  else if p.opc.toNat ≠ opc then s
  else if !headerOk p then respondErr (takeLoop s p) p 6
  else k (takeLoop s p)

/-- The world of the requesting agent: a host's is non-secure (R455). DEDUCED, log entry 55. -/
def packetNs (p : Packet) : Bool := p.ns || p.hostn

/-- The node is marked as a host node by this package's supervisors (R20). DESIGN CHOICE, log entry 30. -/
def markedHost (s : State) (node : BitVec 16) : Bool := s.nodes.any fun e => e.2.v && e.2.host && e.2.node == node

/-! ### Requests (R450, R451) -/

/-- Where a request leads. -/
inductive Target where
  | dram
  | bank (core bank off : Nat)
  | control (off : Nat)
  | refused
  deriving DecidableEq, Repr

/-- A request of n bytes, aligned to its size. DEDUCED, log entry 55. -/
def targetOf (s : State) (p : Packet) (n : Nat) : Target :=
  let a := p.addr.toNat
  if a % n ≠ 0 then .refused
  else
    match window a with
    | .iw _ | .blw _ => .dram
    | .bank o => .bank (bankOf o).1 (bankOf o).2 (o % 65536)
    | .control o => if markedHost s p.src && n == 8 then .control o else .refused
    | _ => .refused

/-- A request joins its home's queue. -/
def atHomeOf (s : State) (p : Packet) (n : Nat) (k : ReqKind) : State :=
  let a := p.addr.toNat
  let (seq, s) := fresh s
  let r : HomeReq :=
    ⟨0, nobody 0, 4, 0, lineAddr a, wordsTouched (a % 64) n, k, packetNs p, some p, false, seq, hostBias s (homeLine a)⟩
  modHome s (homeLine a) fun h => { h with queue := h.queue ++ [r] }

/-- A request goes to a bank: a host's is checked for world only (R455), and no package's rider is known by its group here. -/
def atBankOf (s : State) (p : Packet) (core bank : Nat) (c : BankCmd) : State :=
  admitBank s core bank
    { src := .host p, cmd := c, t := nobody 0, gid := (bankAt s core bank).group, ns := packetNs p, priv := if p.hostn then 2 else 0,
      host := p.hostn, fwd := false, addr := 0, came := 0, bad := false }

/-- The bytes that a write carries, at their places in the line, with their mask. -/
def packetData (p : Packet) : Line × BitVec 64 :=
  if p.size = 4 then (p.flits.getD 0 0, p.mask)
  else
    let n := packetBytes p
    let o := p.addr.toNat % 64
    (BitVec.ofNat 512 (p.opd0.toNat % 2 ^ (8 * n) * 2 ^ (8 * o)), BitVec.ofNat 64 (ones n * 2 ^ o))

/-- A read, of the line or of SIZE bytes. -/
def serveRead (s : State) (p : Packet) (kind : Nat) : State :=
  let n := if kind = 0 then packetBytes p else 64
  match targetOf s p n with
  | .dram => atHomeOf s p n (.hostRead kind)
  | .bank c b o => if kind = 1 ∨ kind = 2 then respondErr s p 2 else atBankOf s p c b (.read o n)
  | .control o =>
    match regRead s hostAgent o with
    | some v => respond s p 0x81 0 v []
    | none => respondErr s p 3
  | .refused => respondErr s p 2

/-- A write; one of 64 B has its data flit, a scalar one has none. -/
def serveWrite (s : State) (p : Packet) : State :=
  let n := packetBytes p
  let (d, m) := packetData p
  if p.flits.length ≠ (if p.size = 4 then 1 else 0) then respondErr s p 6
  else
    match targetOf s p n with
    | .dram => atHomeOf s p n (.hostWrite m d)
    | .bank c b o =>
      if n = 64 then atBankOf s p c b (.write o 64 m d) else atBankOf s p c b (.write o n (BitVec.ofNat 64 (ones n)) (p.opd0.zeroExtend 512))
    | .control o => (regWrite s hostAgent o p.opd0 (.host p)).getD (respondErr s p 3)
    | .refused => respondErr s p 2

/-- RD (R450). -/
def execRd (p : Packet) (s : State) : Answer := .next (received s p 0x01 fun s => serveRead s p 0)

/-- RDL: devices only (R450, R455). -/
def execRdl (p : Packet) (s : State) : Answer :=
  .next (received s p 0x02 fun s => if p.hostn then respondErr s p 2 else serveRead s p 3)

/-- WR (R450). -/
def execWr (p : Packet) (s : State) : Answer := .next (received s p 0x03 fun s => serveWrite s p)

/-- WRD: devices only. -/
def execWrd (p : Packet) (s : State) : Answer :=
  .next (received s p 0x04 fun s => if p.hostn then respondErr s p 2 else serveWrite s { p with size := 4 })

/-- ATM: devices only; 4 or 8 bytes, by reservation at the home (R154, R341). DEDUCED, log entry 55. -/
def execAtm (p : Packet) (s : State) : Answer :=
  .next (received s p 0x05 fun s =>
    let n := packetBytes p
    if p.hostn then respondErr s p 2
    else if p.size ≠ 2 ∧ p.size ≠ 3 then respondErr s p 6
    else
      match targetOf s p n with
      | .dram => atHomeOf s p n (.reserve (p.addr.toNat % 64 / 4))
      | .bank c b o => atBankOf s p c b (.atomic o n p.aop.toNat p.opd0 p.opd1 0)
      | _ => respondErr s p 2)

/-- What a BKA asks of its bank: several elements, or one at a bank that is pushed to, are a push; one flit is a bank store. With none it
is a load, or a scalar store whose data OPD0 holds: OPD1 tells them apart (R449). DESIGN CHOICE, log entry 70. DEDUCED, log entry 55. -/
def bkaCmd (s : State) (p : Packet) (core bank off : Nat) : BankCmd :=
  let pers := (bankAt s core bank).p.pers
  if 2 ≤ p.flits.length ∨ (p.flits.length = 1 ∧ (pers = 1 ∨ pers = 2)) then .push true 3 p.flits
  else if p.flits.length = 1 then .write off 64 p.mask (p.flits.getD 0 0)
  else if p.opd1 = 1 ∧ packetBytes p ≤ 8 then
    .write off (packetBytes p) (BitVec.ofNat 64 (ones (packetBytes p))) (p.opd0.zeroExtend 512)
  else .read off (packetBytes p)

/-- BKA (R208, R450). -/
def execBka (p : Packet) (s : State) : Answer :=
  .next (received s p 0x06 fun s =>
    match targetOf s p (packetBytes p) with
    | .bank c b o => if !p.flits.isEmpty && p.size != 4 then respondErr s p 6 else atBankOf s p c b (bkaCmd s p c b o)
    | _ => respondErr s p 2)

/-- RDS: hosts only (R452). -/
def execRds (p : Packet) (s : State) : Answer :=
  .next (received s p 0x08 fun s => if p.hostn then serveRead s p 1 else respondErr s p 2)

/-- RDX: hosts only (R452). -/
def execRdx (p : Packet) (s : State) : Answer :=
  .next (received s p 0x09 fun s => if p.hostn then serveRead s p 2 else respondErr s p 2)

/-- WB: hosts only. -/
def execWb (p : Packet) (s : State) : Answer :=
  .next (received s p 0x0A fun s =>
    if !p.hostn then respondErr s p 2
    else if p.flits.length ≠ 1 then respondErr s p 6
    else
      match targetOf s p 64 with
      | .dram => atHomeOf s p 64 (.hostWrite p.mask (p.flits.getD 0 0))
      | _ => respondErr s p 2)

/-! ### Responses (R20, R156, R451) -/

/-- A reply or an acknowledgement of a peer line is taken: what was asked before it may be older than what the die has now. -/
def notePeer (s : State) (a : Access) : State :=
  let (id, s) := fresh s
  modDie s (dieOf a.t.core) fun d => { d with newest := aset 0 d.newest (a.pa / 64) (id + 1) }

/-- The access was asked for before another reply or acknowledgement of its line was taken on its die: the peer may have answered it
first. -/
def olderReply (s : State) (a : Access) : Bool := decide (a.asked < aget 0 (dieAt s (dieOf a.t.core)).newest (a.pa / 64))

/-- A read from a peer has its answer: a line that was asked for to be kept is filled as a leased copy; other copies that the die holds
take the bytes (R145, R156). The bytes of a reply that may be older than what the die has fill no copy, so that no later read goes
backwards (R167-R169). DEDUCED, log entry 55. -/
def peerRead (s : State) (a : Access) (p : Packet) : State :=
  let core := a.t.core
  let die := dieOf core
  let pa := lineAddr a.pa
  let old := olderReply s a
  let s := notePeer s a
  let line := p.flits.length == 1
  let d := if line then p.flits.getD 0 0 else BitVec.ofNat 512 (p.opd0.toNat % 2 ^ (8 * a.n) * 2 ^ (8 * (a.pa % 64)))
  match a.kind with
  | .range _ _ _ => nextRangeLine (if old then s else prefetched s a ⟨d, 0, 0, false, false, 0⟩) a
  | .atomic =>
    -- the flags of the operation that the peer has performed (R240, R341)
    let fl := (atomicNew a.aop a.n .rne p.opd0.toNat a.data.toNat a.y.toNat).2
    modAccess s a.id fun x => { x with value := p.opd0.zeroExtend 512, flags := fl, stage := .landing }
  | _ =>
    let s :=
      if old then s
      else if line && a.pol == 2 && (coreAt s core).lease != 0 then fillLeased s die core pa ⟨d, 0, 0, false, false, 0⟩ true
      else storeIntoCopies s die core pa (if line then BitVec.allOnes 64 else BitVec.ofNat 64 (ones a.n * 2 ^ (a.pa % 64))) d
    landRead s a.id (readOver s die pa d) (readBad s die pa false)

/-- DATA (R450). -/
def execData (p : Packet) (s : State) : Answer :=
  .next (received s p 0x81 fun s =>
    match answeredBy s p.tag with
    | some a => peerRead s a p
    | none => s)

/-- A write at a peer has been performed: the copies that its die holds take the bytes, and the acknowledgement is on its way (R136, R144). -/
def peerWrote (s : State) (a : Access) : State :=
  let s := notePeer s a
  let s := if isStore a.kind then storeIntoCopies s (dieOf a.t.core) a.t.core (lineAddr a.pa) (accMask a) (accData a) else s
  stageAccess s a.id .acked

/-- ACK (R450). -/
def execAck (p : Packet) (s : State) : Answer :=
  .next (received s p 0x82 fun s =>
    match answeredBy s p.tag with
    | some a => peerWrote s a
    | none => s)

/-- An error response: WORLD as WORLD, POISON as poisoned data, all else as XLAT with cause NODE (R20, R451). A refused store of an
argument block ends its grid as a failed translation does (R211). DEDUCED, log entry 47. -/
def peerFails (s : State) (a : Access) (stat : Nat) : State :=
  if a.t.slot = 14 then modGrid (dropAccess s a.id) a.t.th fun g => { g with argFail := true }
  else if stat = 4 ∧ (isLoad a.kind ∨ a.kind = .atomic) then modAccess s a.id fun x => { x with poison := true, stage := .landing }
  else failAccess s a.id (if stat = 3 then worldFail a else nodeFail a)

/-- ERR (R451). -/
def execErr (p : Packet) (s : State) : Answer :=
  .next (received s p 0x83 fun s =>
    match answeredBy s p.tag with
    | some a => peerFails s a p.stat.toNat
    | none => s)

/-- NOROUTE: a request of the package has found no route (R448). -/
def execNoroute (tag : BitVec 16) (s : State) : Answer :=
  .next (match answeredBy s tag with
    | some a => peerFails s a 1
    | none => s)

/-! ### Snoops (R452) -/

/-- The home whose snoop carries a tag. -/
def snoopedLine (s : State) (tag : BitVec 16) : Option Nat :=
  (s.homes.find? fun e => e.2.snoop.any fun x => x.tag == tag).map (·.1)

/-- The agent has answered the snoop of a line, for the one that it was sent for. -/
def snoopAnswered (s : State) (line : Nat) : State :=
  modHome s line fun h => { h with snoop := none, snooped := h.snooped ++ (h.snoop.map fun x => (x.who, x.excl)).toList }

/-- SNPRSP: modified bytes are merged, and the device request for which the snoop was sent may be served. -/
def execSnprsp (p : Packet) (s : State) : Answer :=
  .next (received s p 0x90 fun s =>
    match snoopedLine s p.tag with
    | none => s
    | some line =>
      let s := if p.stat = 1 then writeHome s line p.mask (p.flits.getD 0 0) else s
      snoopAnswered s line)

/-- A request of a device, which waits for the agent; what the home does for itself asks no agent. DEDUCED, log entry 42. -/
def deviceReq (r : HomeReq) : Bool := match r.host with
  | some p => !p.hostn
  | none => r.kind != .evict && r.kind != .flip

/-- One that stands in no queue: it learns at its next try that the agent has not answered. -/
def outside : Asker → Bool
  | .req _ => false
  | _ => true

/-- AGENT_TIMEOUT: the waiting device requests fail, those at the queue of the line, its reservations without a grant, and those that wait
outside the queue. DEDUCED, log entry 42. -/
def execAgentTimeout (line : Nat) (s : State) : Answer :=
  .next (
    let h := homeAt s line
    match h.snoop with
    | none => s
    | some x =>
      let failed := h.queue.filter deviceReq ++ (h.resv.filter fun y => !y.granted).map (·.req)
      let s := modHome s line fun h =>
        { h with snoop := none, asking := [], unanswered := h.unanswered ++ (x.who :: h.asking).filter outside,
                 queue := h.queue.filter (fun r => !deviceReq r), resv := h.resv.filter fun y => y.granted }
      failed.foldl (fun s r => refuseReq s r .xlat 14) s)

/-! ### RESYNC (R465-R467) -/

/-- The digest of R466: words rotated left by their number modulo 64, all in one XOR. -/
def foldDigest (l : List (Nat × Word)) : Word := l.foldl (fun x e => x ^^^ e.2.rotateLeft (e.1 % 64)) 0

/-- The words of the bias table that hold a bit. -/
def biasDigest (s : State) : Word := foldDigest (((s.bias.map (· / 64)).foldl sins []).map fun k => (k, biasWord s k))

def worldDigest (s : State) : Word :=
  foldDigest ((List.range 512).map (fun k => (k, aget 0 (stackAt s (k / 32)).regions (k % 32))) ++
    (List.range 16).map fun n => (512 + n, word (b01 (stackAt s n).engNs)))

/-- The fault packets of frozen slots and threads. -/
def frozenEntries (s : State) : List (List Word) :=
  s.cores.flatMap fun e => (e.2.threads.filter fun t => t.2.froz && t.2.run != .free).map fun t =>
    [faultWord e.2.ctxid (ofTid e.1 t.1) t.2.fault, word (t.2.fault.addr % 2 ^ 56)]

/-- Fault and engine-fault messages that no supervisor has taken. -/
def waitingFaults (s : State) : List (List Word) :=
  let ms := s.cores.flatMap (fun e => e.2.msgs ++ e.2.evq) ++ s.dies.flatMap fun e => e.2.unsent
  (ms.filter fun m => m.system && (field m.w0.toNat 63 56 == 0x11 || field m.w0.toNat 63 56 == 0x12)).map fun m => [m.w0, m.w1]

/-- The entry of a grid in flight. -/
def gridEntry (s : State) (g : Grid) : List Word :=
  let pred := match g.pred with
    | some k => match gridAt s k with
      | some p => p.gid.toNat
      | none => g.pgid.toNat
    | none => 0
  [word (g.gid.toNat * 2 ^ 48 + g.pri * 2 ^ 46 + b01 g.reissue * 2 ^ 45 + pred), word (gridTotal g.size),
    word (g.next - g.back.length), word g.ended]

def portCode : PortState → Nat
  | .down => 0 | .training => 1 | .up8 => 2 | .up4 => 3

/-- Eight ports, a byte each. -/
def portsWord (s : State) (k : Nat) : Word :=
  word ((List.range 8).foldl (fun n b => n + portCode (aget PortState.down s.ports (8 * k + b)) * 2 ^ (8 * b)) 0)

/-- The record, word by word. DESIGN CHOICE, log entry 18. -/
def resyncRecord (s : State) : List Word :=
  let fs := frozenEntries s
  let ps := waitingFaults s
  let lqDie := dieOf s.lqCore.toNat
  let die := fun (d : Nat) => b01 (dieAt s d).fenced + 2 * b01 (s.pilot == d) + 4 * b01 (lqDie == d)
  let four := fun (w : Nat) (f : Nat → Nat) => word ((List.range 4).foldl (fun n d => n + f d * 2 ^ (w * d)) 0)
  let sum := fun (i : Nat) => word (min (2 ^ 64 - 1) ((List.range 4).map fun d => (aget 0 (dieAt s d).counters i).toNat).sum)
  [word (2 ^ 48 + s.grids.length * 2 ^ 32 + s.seq.toNat), four 8 die, stateWord s s.lqCore.toNat s.lqBank.toNat,
    four 16 (freeDeck s), word (ps.length * 2 ^ 32 + fs.length), biasDigest s, word s.bias.length, worldDigest s] ++
  (List.range 8).map sum ++ [Config.scrubWord s.scrubs, Config.refreshWord s.refreshes, s.retrain, s.samples, 0, 0, 0, 0, portsWord s 0, portsWord s 1, 0, 0, 0, 0, 0, 0] ++
  s.grids.flatMap (gridEntry s) ++ fs.flatten ++ ps.flatten

/-- Words as lines; the last may be a part of one. -/
def wordLines : (fuel : Nat) → List Word → List (Nat × Line)
  | 0, _ => []
  | _, [] => []
  | n + 1, ws =>
    let l := ws.take 8
    (8 * l.length, BitVec.ofNat 512 (l.foldr (fun w x => w.toNat + 2 ^ 64 * x) 0)) :: wordLines n (ws.drop 8)

/-- The name under which the record's stores are in flight. -/
def resyncRef : ThreadRef := ⟨0, 13, 0⟩

/-- One line of the record leaves for REPNODE. DEDUCED, log entry 45. -/
def sendRecordLine (s : State) (node : BitVec 16) (addr n : Nat) (d : Line) : State :=
  let (id, s) := fresh s
  let a := { Access.blank id resyncRef .writeBack with n := n, data := d, mask := BitVec.ofNat 64 (ones n), stage := .atPeer }
  let p := packet s 0x03 node true (BitVec.ofNat 16 id) addr
  sendPacket { s with inflight := s.inflight ++ [a] } { p with size := 4, ndata := 1, pol := 1, mask := a.mask, flits := [d] }

/-- The record is collected and its stores leave; a REPNODE that is not valid drops the request. DEDUCED, log entry 45. -/
def collectRecord (s : State) (addr : Word) : State :=
  let node := aget Node.reset s.nodes s.repNode.toNat
  let ws := resyncRecord s
  let s := { s with rsyncs := s.rsyncs.drop 1 }
  if !node.v then s
  else
    let ls := wordLines (ws.length + 1) ws
    let s := ls.zipIdx.foldl (fun s x => sendRecordLine s node.node (addr.toNat + 64 * x.2) x.1.1 x.1.2) s
    { s with rsyncLen := some (8 * ws.length) }

/-- RESYNC_RECORD_WRITTEN: with every store of a record performed its report is sent; otherwise the next RSYNC that waits is served, in
arrival order and in no election (R214, R465, R467). DEDUCED, log entry 45. -/
def execResyncRecordWritten (s : State) : Answer :=
  .next (match s.rsyncLen, s.rsyncs with
    | some n, _ =>
      if s.inflight.any fun a => a.t == resyncRef then s
      else report { s with rsyncLen := none } 0x44 0 0 (word n)
    | none, v :: _ => if s.electing then s else collectRecord s v
    | none, [] => s)

end Sys2Proof.Machine
end

