-- ==== Sys2Proof/Machine/Device.lean ====
section
/-! DEFINITION. Operating the device (R447, R487-R495): resets, the end of the boot, clocks and power, background activity, errors and
telemetry. -/

namespace Sys2Proof.Machine

/-! ### Resets and boot (R487-R489) -/

/-- POWER_ON performs a COLD reset, and the package boots (R488, R489). -/
def execPowerOn (s : State) : Answer := .next (coldReset s)

/-- COLD: a write of PRST.LEVEL by an agent that may (R487, R488). -/
def execCold (who : Agent) (s : State) : Answer := .next (if mayReset who then coldReset s else s)

/-- WARM (R487, R488). -/
def execWarm (who : Agent) (s : State) : Answer := .next (if mayReset who then warmReset s else s)

/-- BOOT_DONE: every stack has trained and the package runs, or the boot has failed and it waits for the next reset (R489).
DESIGN CHOICE, log entries 7, 8. -/
def execBootDone (trained : Bool) (portsUp : BitVec 16) (s : State) : Answer :=
  .next (if s.prst ≠ 1 then s else if trained then bootState s portsUp else { s with prst := 3 })

/-! ### Background activity (R492) -/

/-- REFRESH of a DRAM bank: it keeps the contents. A stack in self-refresh has none from outside (R490, R492). -/
def execRefresh (pch dbank : Nat) (s : State) : Answer :=
  .next (if (stackAt s (pch / 64)).refresh || 1024 ≤ pch || 16 ≤ dbank then s else { s with refreshes := s.refreshes + 1 })

/-- RECALIBRATION of a pch waits for the row step in progress, and a row step is one act here: only time passes (R492).
DEDUCED, log entry 58. -/
def execRecalibration (_pch : Nat) (s : State) : Answer := .next s

/-- The die whose counters count the errors of a BLW line: that of the core whose quay unit serves it (R5, R494).
DEDUCED, log entry 57. -/
def dieOfLine (line : Nat) : Nat := dieOf (coreOfDram (64 * line))

/-- A line of the L2 is found uncorrectable: it is marked, and the copies above it with it. DEDUCED, log entry 58. -/
def poisonL2 (s : State) (die pa : Nat) : State :=
  let l := l2At s die pa
  if l.st = .inv ∧ l.dmask = 0 then s
  else dropL1s (setL2 s die pa { l with poison := true }) die pa fun _ _ => true

/-- The L1 line that lies in a line of a bank, whose way it is, is marked (R43, R446). DEDUCED, log entry 58. -/
def poisonL1 (s : State) (core bank set : Nat) : State :=
  modCore s core fun k => { k with l1 := k.l1.map fun e =>
    if e.1 % 1024 == set && e.2.way == bank then (e.1, { e.2 with poison := true }) else e }

/-- A line of the SRAM of a bank is found uncorrectable: a scratch bank's, or one of the L1. DEDUCED, log entry 58. -/
def poisonBank (s : State) (core bank line : Nat) : State :=
  if bank < (coreAt s core).carveK then poisonL1 s core bank line
  else { s with sramBad := sins s.sramBad (bankOff core bank 0 / 64 + line) }

/-- An LLC line is found uncorrectable: it is marked. DEDUCED, log entry 58. -/
def poisonLlc (s : State) (line : Nat) : State :=
  match llcAt s line with
  | some l => setLlc s line { l with bad := true }
  | none => s

/-- PATROL_SCRUB: a correctable error is corrected, an uncorrectable one marks its line poisoned and raises no fault; each is counted
(R446, R492, R494). DEDUCED, log entry 58. -/
def execPatrolScrub (place : ScrubPlace) (found : ScrubFind) (s : State) : Answer :=
  .next (
    let s := { s with scrubs := s.scrubs + 1 }
    match place, found with
    | _, .clean => s
    | .dram line, .correctable => countError s (dieOfLine line) 0 1
    | .dram line, .uncorrectable => countError { s with dramBad := sins s.dramBad line } (dieOfLine line) 1 1
    | .llc line, .correctable => countError s (dieOfLine line) 2 1
    | .llc line, .uncorrectable => countError (poisonLlc s line) (dieOfLine line) 4 1
    | .l2 die _, .correctable => countError s die 2 1
    | .l2 die line, .uncorrectable => countError (poisonL2 s die (64 * line)) die 4 1
    | .bank core _ _, .correctable => countError s (dieOf core) 3 1
    | .bank core bank line, .uncorrectable =>
      countError (poisonBank s core bank (line % 1024)) (dieOf core) 4 1)

/-- TELEMETRY_SAMPLE, of a fenced die too; the throttle adds at most the interval itself (R491, R495). DESIGN CHOICE, log entry 18.
DEDUCED, log entry 58. -/
def execTelemetrySample (die : Nat) (pwr : BitVec 16) (temp : BitVec 8) (s : State) : Answer :=
  .next (
    if 4 ≤ die then s
    else
      let thr := if s.throttle = 0 then 0 else min 100 (Config.throttlePercent s.throttle).toNat
      let w := word (s.now % 2 ^ 32 * 2 ^ 32 + pwr.toNat * 2 ^ 16 + temp.toNat * 2 ^ 8 + thr)
      { modDie s die fun d => { d with tsamp := w } with samples := s.samples + 1 })

/-! ### Clocks and power (R490, R491) -/

/-- The greatest figure that a step can have (R414, R408): its compute cycles are 6 at most, and a bank that delivers all of its lines, 24 of
A, 24 of B and one of each scale, needs 13 at 4 lines a cycle. The interval before a step grows up to twice the step's own figure, so that
it takes min (throttle) (figure) cycles more: beyond this number no step is throttled further. -/
def largestFigure : Nat := max 6 ((24 + 24 + 1 + 1 + 3) / 4)

/-- POWER_WINDOW: the interval between step starts grows by a cycle while the draw is above the limit, and shrinks by one while it is
below (R491). -/
def execPowerWindow (exceeded : Bool) (s : State) : Answer :=
  .next { s with throttle := if exceeded then min (s.throttle + 1) (max s.throttle largestFigure) else s.throttle - 1 }

/-- Every slot FREE, no berthed rider, the input queues of all banks empty (R490). -/
def coreAtRest (k : Core) : Bool :=
  k.threads.all (fun e => e.2.run == .free) && k.berths.all (fun b => b.2.isNone) && k.banks.all fun e => e.2.queue.isEmpty && e.2.net.isEmpty

/-- Something has arrived at the core: a handle, an arrival, a message or a bank operation. -/
def hasArrival (k : Core) : Bool :=
  !(k.rq.isEmpty && k.arrivals.isEmpty && k.ni.isEmpty && k.evq.isEmpty && coreAtRest k)

/-- CORE_IDLE: the clock of a core at rest is gated (R490). -/
def execCoreIdle (core : Nat) (s : State) : Answer :=
  .next (if hasArrival (coreAt s core) || 1024 ≤ core then s else modCore s core fun k => { k with idle := true })

/-- CORE_WAKE: an arrival wakes the core (R490). -/
def execCoreWake (core : Nat) (s : State) : Answer :=
  .next (if hasArrival (coreAt s core) then modCore s core fun k => { k with idle := false } else s)

/-- No request stands at a home of the stack. DEDUCED, log entry 58. -/
def stackQuiet (s : State) (stack : Nat) : Bool :=
  s.homes.all fun e => stackOf (64 * e.1) != stack || (e.2.queue.isEmpty && e.2.act.isNone && e.2.resv.isEmpty)

/-- STACK_SELF_REFRESH (R490). DEDUCED, log entry 58. -/
def execStackSelfRefresh (stack : Nat) (s : State) : Answer :=
  .next (if stackQuiet s stack && decide (stack < 16) then modStack s stack fun q => { q with refresh := true } else s)

/-! ### Links and errors (R447, R493, R494) -/

/-- The codewords that the links of a die have corrected are counted with the next event of the links: how many is free (R447, R494).
DESIGN CHOICE, log entry 18. -/
def countCodewords (s : State) (die : Nat) : State := countError s die 5 (Config.fecCorrected s.stepNo)

/-- LINK_RETRAINING: a port with a failed lane retrains, and comes back at 4 lanes or goes down, which is counted (R447, R492, R494).
DEDUCED, log entry 57. -/
def execLinkRetraining (port : Nat) (result : PortState) (s : State) : Answer :=
  .next (
    let set := fun (s : State) (training : Bool) =>
      let s := countCodewords s (port / 4)
      { s with
        ports := aset PortState.down s.ports port result
        retrain := if training then s.retrain ||| word (2 ^ port) else s.retrain &&& ~~~word (2 ^ port) }
    if 16 ≤ port then s
    else
      match result with
      | .training => set s true
      | .up4 => set s false
      | .down => countError (set s false) (port / 4) 7 1
      | .up8 => s)

/-- FLIT_RESEND: the link sends a flit again, which is invisible above it but for the count (R448, R493, R494). -/
def execFlitResend (die : Nat) (s : State) : Answer := .next (if 4 ≤ die then s else countError (countCodewords s die) die 6 1)

/-- PARITY_ERROR: control state that cannot be recovered fences its die (R493). -/
def execParityError (die : Nat) (s : State) : Answer := .next (fenceDie s die)

end Sys2Proof.Machine
end

