-- ==== Sys2Proof/Machine/Fp.lean ====
section
/-! DEFINITION. Scalar floating point (R310-R313). -/

namespace Sys2Proof.Machine

/-- The format of the P field (R310). -/
def sizeFmt (p : BitVec 1) : FloatFmt := if p = 0 then fmt32 else fmt64

/-- An FP32 operand is bits 31:0 of its register (R310). -/
def fpSrc (p : BitVec 1) (w : Word) : Nat := if p = 0 then w.toNat % 2 ^ 32 else w.toNat

/-- The slot's rounding at issue (R235). -/
def myRounding (s : State) : Rounding := roundingOf (me s).ss.rnd

/-- A scalar floating-point result and its flags, at issue (R240, R310). -/
def putF (s : State) (d : Reg) (x : Nat × BitVec 5) : State := modMe (putG s d (word x.1)) fun th => orFlags th x.2

/-- An instruction with two operands. -/
def fpTwo (i : Instr) (d a b : Reg) (p : BitVec 1) (op : FloatFmt → Rounding → Nat → Nat → Nat × BitVec 5) (s : State) :
    Answer :=
  .next (unit i (fun s =>
    .done (putF s d (op (sizeFmt p) (myRounding s) (fpSrc p (srcG s i .a a.toNat)) (fpSrc p (srcG s i .b b.toNat))))) s)

/-- FADD (R311). -/
def execFadd (m : Mark) (d a b : Reg) (p : BitVec 1) (s : State) : Answer :=
  fpTwo (.fadd m d a b p) d a b p fpAdd s

/-- FSUB (R311). -/
def execFsub (m : Mark) (d a b : Reg) (p : BitVec 1) (s : State) : Answer :=
  fpTwo (.fsub m d a b p) d a b p fpSub s

/-- FMUL (R311). -/
def execFmul (m : Mark) (d a b : Reg) (p : BitVec 1) (s : State) : Answer :=
  fpTwo (.fmul m d a b p) d a b p fpMul s

/-- FDIV (R311). -/
def execFdiv (m : Mark) (d a b : Reg) (p : BitVec 1) (s : State) : Answer :=
  fpTwo (.fdiv m d a b p) d a b p fpDiv s

/-- FMIN (R311). -/
def execFmin (m : Mark) (d a b : Reg) (p : BitVec 1) (s : State) : Answer :=
  fpTwo (.fmin m d a b p) d a b p (fun f _ => fpMinMax f false) s

/-- FMAX (R311). -/
def execFmax (m : Mark) (d a b : Reg) (p : BitVec 1) (s : State) : Answer :=
  fpTwo (.fmax m d a b p) d a b p (fun f _ => fpMinMax f true) s

/-- FMA: d is also the addend (R311). -/
def execFma (m : Mark) (d a b : Reg) (p : BitVec 1) (s : State) : Answer :=
  let i := Instr.fma m d a b p
  .next (unit i (fun s =>
    .done (putF s d (fpFma (sizeFmt p) (myRounding s) (fpSrc p (srcG s i .a a.toNat)) (fpSrc p (srcG s i .b b.toNat))
      (fpSrc p (srcG s i .d d.toNat))))) s)

/-- FSQRT (R311). -/
def execFsqrt (m : Mark) (d a : Reg) (p : BitVec 1) (s : State) : Answer :=
  let i := Instr.fsqrt m d a p
  .next (unit i (fun s => .done (putF s d (fpSqrt (sizeFmt p) (myRounding s) (fpSrc p (srcG s i .a a.toNat))))) s)

/-- FCMP writes predicate q[d] and nothing else but flags (R312). -/
def execFcmp (m : Mark) (d a b : Reg) (x : BitVec 5) (p : BitVec 1) (s : State) : Answer :=
  let i := Instr.fcmp m d a b x p
  .next (unit i (fun s =>
    let r := fpCompare (sizeFmt p) x.toNat (fpSrc p (srcG s i .a a.toNat)) (fpSrc p (srcG s i .b b.toNat))
    .done (modMe (putQ s d.toNat r.1) fun th => orFlags th r.2)) s)

/-- The register image of a converted value: a signed integer is sign-extended, anything else zero-extended (R313). -/
def convertedWord (dst v : Nat) : Word :=
  match intOf dst with
  | some (true, w) => BitVec.ofInt 64 (signed w v)
  | _ => word v

/-- FCVT: the source is FA of an FMT prefix, or else FP32 or FP64 by P (R313). -/
def execFcvt (m : Mark) (d a : Reg) (x : BitVec 5) (p : BitVec 1) (s : State) : Answer :=
  let i := Instr.fcvt m d a x p
  .next (unit i (fun s =>
    let fa := (fmtOf (me s).desc).fa
    let src := if fa ≠ 0 then fa else if p = 0 then 1 else 14
    let r := convert src x.toNat (myRounding s) ((srcG s i .a a.toNat).toNat % 2 ^ codeBits src)
    .done (modMe (putG s d (convertedWord x.toNat r.1)) fun th => orFlags th r.2)) s)

end Sys2Proof.Machine
end

