-- ==== Sys2Proof/Machine/Scalar.lean ====
section
/-! DEFINITION. The integer instructions: register-register (R299, R300), immediates (R301-R303), multiply and divide
(R304). -/

namespace Sys2Proof.Machine

/-! ### Results (R300, R304) -/

/-- A shift amount: bits 5:0 of the operand (R299). -/
def shamt (b : Word) : Nat := b.toNat % 64

def intMin (a b : Word) : Word := if a.slt b then a else b
def intMax (a b : Word) : Word := if a.slt b then b else a
def intMinu (a b : Word) : Word := if a.ult b then a else b
def intMaxu (a b : Word) : Word := if a.ult b then b else a

/-- The number of zero bits above the highest one bit among the low n bits. -/
def leadZeros (v : Nat) : Nat → Nat
  | 0 => 0
  | n + 1 => if bit v n then 0 else 1 + leadZeros v n

/-- The number of zero bits below the lowest one bit, at most n. -/
def trailZeros : Nat → Nat → Nat
  | 0, _ => 0
  | n + 1, v => if v % 2 = 1 then 0 else 1 + trailZeros n (v / 2)

/-- The number of one bits among the low n. -/
def oneBits : Nat → Nat → Nat
  | 0, _ => 0
  | n + 1, v => v % 2 + oneBits n (v / 2)

/-- SEXT: 8, 16 or 32 bits sign-extended (R299, R300). -/
def sextSize (b : Reg) (a : Word) : Word :=
  if b = 0 then (a.setWidth 8).signExtend 64
  else if b = 1 then (a.setWidth 16).signExtend 64 else (a.setWidth 32).signExtend 64

/-- Bits 127:64 of a product (R304). -/
def mulHigh (a b : Word) : Word := BitVec.ofInt 64 (a.toInt * b.toInt / 2 ^ 64)
def mulHighU (a b : Word) : Word := word (a.toNat * b.toNat / 2 ^ 64)

/-- Division truncates toward zero; by zero it gives all ones; the most negative number by -1 gives itself (R304). -/
def divS (a b : Word) : Word := if b = 0 then BitVec.allOnes 64 else BitVec.ofInt 64 (Int.tdiv a.toInt b.toInt)
def divU (a b : Word) : Word := if b = 0 then BitVec.allOnes 64 else word (a.toNat / b.toNat)

/-- The remainder a - b * quotient; by zero it gives a (R304). -/
def remS (a b : Word) : Word := if b = 0 then a else a - b * divS a b
def remU (a b : Word) : Word := if b = 0 then a else a - b * divU a b

/-! ### Forms -/

/-- d := f(a, b). -/
def form3 (f : Word → Word → Word) (i : Instr) (d a b : Reg) (s : State) : Res :=
  .done (putG s d (f (srcG s i .a a.toNat) (srcG s i .b b.toNat)))

/-- d := f(a). -/
def form2 (f : Word → Word) (i : Instr) (d a : Reg) (s : State) : Res := .done (putG s d (f (srcG s i .a a.toNat)))

/-! ### The instructions -/

/-- ADD (R300). -/
def execAdd (m : Mark) (d a b : Reg) (s : State) : Answer :=
  .next (unit (.add m d a b) (form3 (fun x y => x + y) (.add m d a b) d a b) s)

/-- SUB (R300). -/
def execSub (m : Mark) (d a b : Reg) (s : State) : Answer :=
  .next (unit (.sub m d a b) (form3 (fun x y => x - y) (.sub m d a b) d a b) s)

/-- AND (R300). -/
def execAnd (m : Mark) (d a b : Reg) (s : State) : Answer :=
  .next (unit (.and m d a b) (form3 (fun x y => x &&& y) (.and m d a b) d a b) s)

/-- OR (R300). -/
def execOr (m : Mark) (d a b : Reg) (s : State) : Answer :=
  .next (unit (.or m d a b) (form3 (fun x y => x ||| y) (.or m d a b) d a b) s)

/-- XOR (R300). -/
def execXor (m : Mark) (d a b : Reg) (s : State) : Answer :=
  .next (unit (.xor m d a b) (form3 (fun x y => x ^^^ y) (.xor m d a b) d a b) s)

/-- ANDN (R300). -/
def execAndn (m : Mark) (d a b : Reg) (s : State) : Answer :=
  .next (unit (.andn m d a b) (form3 (fun x y => x &&& ~~~y) (.andn m d a b) d a b) s)

/-- SHL (R300). -/
def execShl (m : Mark) (d a b : Reg) (s : State) : Answer :=
  .next (unit (.shl m d a b) (form3 (fun x y => x <<< shamt y) (.shl m d a b) d a b) s)

/-- SHR (R300). -/
def execShr (m : Mark) (d a b : Reg) (s : State) : Answer :=
  .next (unit (.shr m d a b) (form3 (fun x y => x >>> shamt y) (.shr m d a b) d a b) s)

/-- SRA (R300). -/
def execSra (m : Mark) (d a b : Reg) (s : State) : Answer :=
  .next (unit (.sra m d a b) (form3 (fun x y => x.sshiftRight (shamt y)) (.sra m d a b) d a b) s)

/-- MIN (R300). -/
def execMin (m : Mark) (d a b : Reg) (s : State) : Answer :=
  .next (unit (.min m d a b) (form3 (intMin) (.min m d a b) d a b) s)

/-- MAX (R300). -/
def execMax (m : Mark) (d a b : Reg) (s : State) : Answer :=
  .next (unit (.max m d a b) (form3 (intMax) (.max m d a b) d a b) s)

/-- MINU (R300). -/
def execMinu (m : Mark) (d a b : Reg) (s : State) : Answer :=
  .next (unit (.minu m d a b) (form3 (intMinu) (.minu m d a b) d a b) s)

/-- MAXU (R300). -/
def execMaxu (m : Mark) (d a b : Reg) (s : State) : Answer :=
  .next (unit (.maxu m d a b) (form3 (intMaxu) (.maxu m d a b) d a b) s)

/-- MUL (R304). -/
def execMul (m : Mark) (d a b : Reg) (s : State) : Answer :=
  .next (unit (.mul m d a b) (form3 (fun x y => x * y) (.mul m d a b) d a b) s)

/-- MULH (R304). -/
def execMulh (m : Mark) (d a b : Reg) (s : State) : Answer :=
  .next (unit (.mulh m d a b) (form3 (mulHigh) (.mulh m d a b) d a b) s)

/-- MULHU (R304). -/
def execMulhu (m : Mark) (d a b : Reg) (s : State) : Answer :=
  .next (unit (.mulhu m d a b) (form3 (mulHighU) (.mulhu m d a b) d a b) s)

/-- DIV (R304). -/
def execDiv (m : Mark) (d a b : Reg) (s : State) : Answer :=
  .next (unit (.div m d a b) (form3 (divS) (.div m d a b) d a b) s)

/-- DIVU (R304). -/
def execDivu (m : Mark) (d a b : Reg) (s : State) : Answer :=
  .next (unit (.divu m d a b) (form3 (divU) (.divu m d a b) d a b) s)

/-- REM (R304). -/
def execRem (m : Mark) (d a b : Reg) (s : State) : Answer :=
  .next (unit (.rem m d a b) (form3 (remS) (.rem m d a b) d a b) s)

/-- REMU (R304). -/
def execRemu (m : Mark) (d a b : Reg) (s : State) : Answer :=
  .next (unit (.remu m d a b) (form3 (remU) (.remu m d a b) d a b) s)

/-- CLZ (R300). -/
def execClz (m : Mark) (d a : Reg) (s : State) : Answer :=
  .next (unit (.clz m d a) (form2 (fun x => word (leadZeros x.toNat 64)) (.clz m d a) d a) s)

/-- CTZ (R300). -/
def execCtz (m : Mark) (d a : Reg) (s : State) : Answer :=
  .next (unit (.ctz m d a) (form2 (fun x => word (trailZeros 64 x.toNat)) (.ctz m d a) d a) s)

/-- POPC (R300). -/
def execPopc (m : Mark) (d a : Reg) (s : State) : Answer :=
  .next (unit (.popc m d a) (form2 (fun x => word (oneBits 64 x.toNat)) (.popc m d a) d a) s)

/-- SEXT (R300). -/
def execSext (m : Mark) (d a b : Reg) (s : State) : Answer :=
  .next (unit (.sext m d a b) (form2 (sextSize b) (.sext m d a b) d a) s)

/-- ADDI (R301). -/
def execAddi (m : Mark) (d a : Reg) (i : BitVec 15) (s : State) : Answer :=
  .next (unit (.addi m d a i) (form2 (fun x => x + sext64 i) (.addi m d a i) d a) s)

/-- ANDI (R301). -/
def execAndi (m : Mark) (d a : Reg) (i : BitVec 15) (s : State) : Answer :=
  .next (unit (.andi m d a i) (form2 (fun x => x &&& sext64 i) (.andi m d a i) d a) s)

/-- ORI (R301). -/
def execOri (m : Mark) (d a : Reg) (i : BitVec 15) (s : State) : Answer :=
  .next (unit (.ori m d a i) (form2 (fun x => x ||| sext64 i) (.ori m d a i) d a) s)

/-- XORI (R301). -/
def execXori (m : Mark) (d a : Reg) (i : BitVec 15) (s : State) : Answer :=
  .next (unit (.xori m d a i) (form2 (fun x => x ^^^ sext64 i) (.xori m d a i) d a) s)

/-- SHLI (R302). -/
def execShli (m : Mark) (d a : Reg) (n : BitVec 6) (s : State) : Answer :=
  .next (unit (.shli m d a n) (form2 (fun x => x <<< n.toNat) (.shli m d a n) d a) s)

/-- SHRI (R302). -/
def execShri (m : Mark) (d a : Reg) (n : BitVec 6) (s : State) : Answer :=
  .next (unit (.shri m d a n) (form2 (fun x => x >>> n.toNat) (.shri m d a n) d a) s)

/-- SRAI (R302). -/
def execSrai (m : Mark) (d a : Reg) (n : BitVec 6) (s : State) : Answer :=
  .next (unit (.srai m d a n) (form2 (fun x => x.sshiftRight n.toNat) (.srai m d a n) d a) s)

/-- LUI: d := sext(imm20) << 12 (R303). -/
def execLui (m : Mark) (d : Reg) (i : BitVec 20) (s : State) : Answer :=
  .next (unit (.lui m d i) (fun s => .done (putG s d (sext64 i <<< 12))) s)

end Sys2Proof.Machine
end

