-- ==== Sys2Proof/Machine/ThreadEvents.lean ====
section
/-! DEFINITION. Threads between their units (R118, R183, R190-R195, R224, R328): SLOT_WAKE, QDEAD, QUANTUM_EXPIRY, TRAVEL_DEPART,
TRAVEL_ARRIVAL, TRAVEL_RETURN, SPAWN_ARRIVAL. -/

namespace Sys2Proof.Machine

/-! ### SLOT_WAKE (R183) -/

/-- The condition for which a thread is PARKED is met (R183). -/
def parkEnds (s : State) (t : ThreadRef) (w : Park) : Bool :=
  let th := threadAt s t
  let k := coreAt s t.core
  match w with
  | .marker => th.outs.isEmpty
  | .unaccepted => decide (unaccepted th < 32)
  | .release scope => released s t scope
  | .mailbox n put => mailTurn s t n put
  | .chainPop n => !th.susp && mayPop s t n
  | .chainPush => !th.susp && mayPush s t
  | .message => k.msgs.any fun m => m.tag == th.rid
  | .answer => false
  | .reads => readsReturned s t s.nextId
  | .fences => !fenceOpen s t s.nextId
  | .barrier level obj _ =>
    match th.regs.find? fun r => r.level == level && r.obj == obj with
    | some r => (barrierAt s t.core level obj).phase != r.phase
    | none => true
  | .matrixQueue => decide (k.mq.length < 32)
  | .pin want => pinsFit s t.core want
  | .tile n => (tileAt s t.core n).pend == 0
  | .table => bookIdle k
  | .batches n => decide (batchesOut th ≤ n)
  | .engineLimit => (freeCommand s t.core).isSome
  | .loadQueue => decide (k.ldq.length < 16) && !mxvReserving s t.core
  | .pops n => decide (n ≤ k.ldq.length) && (k.ldq.take n).all fun e => e.ready
  | .storeQueue => decide (k.stq.length < 16)
  | .storeEmpty => !k.stq.isEmpty
  | .xinv => s.xinvs.all fun x => x.t != t
  | .change => match th.prog with
    | .asked _ => false
    | _ => true
  | .fetch _ => !fetchWaits s t
  | .settle slot n => settledSlot s ⟨t.core, slot, n⟩
  | .grid => !predecessorLive { s with cur := t }
  | .copy _ => (inputGroup s th).isNone

/-- A rider whose input copy failed makes it again from the failed granule, once its supervisor has resumed it (R220). -/
def copyAgain (s : State) (t : ThreadRef) (copied : Nat) : State :=
  let th := threadAt s t
  match inputGroup s th with
  | none => modThread s t fun th => { th with run := .ready }
  | some (g, i) =>
    if isArith t then s
    else
      match inputTurn s t.core (loadRef t.core (2 + t.slot)) g i copied with
      | .on s c => modThread s t fun th => { th with run := .parked (.copy c) }
      | .ended s => modThread (inputDone s th) t fun th => { th with run := .ready }
      | .failed s f => takeFault s t (entryFault true f)

/-- What a thread is given as it becomes READY: the entries that it waited for, or a place of the downstream queue (R197, R206).
DEDUCED, log entry 23. -/
def served (s : State) (t : ThreadRef) : Park → State
  | .chainPop n => takeEntries s t n
  | .chainPush => modThread s t fun th => { th with claim := true }
  | .marker => modThread s t fun th => { th with back := none }
  | _ => s

/-- SLOT_WAKE: a PARKED thread whose condition is met is READY, and issues its unit again (R183). DEDUCED, log entry 15. -/
def execSlotWake (t : ThreadRef) (s : State) : Answer :=
  .next (
    let th := threadAt s t
    if th.froz then s
    else
      match th.run with
      | .parked (.copy c) => if th.susp then s else copyAgain s t c
      | .parked w => if parkEnds s t w then modThread (served s t w) t fun th => { th with run := .ready } else s
      | _ => s)

/-! ### QDEAD (R118) -/

/-- The arithmetic thread waits for entries that nobody has reserved or will reserve. -/
def popsStarved (s : State) (core : Nat) (th : Thread) : Bool :=
  match th.run with
  | .parked (.pops n) => decide ((coreAt s core).ldq.length < n) && !mxvReserving s core
  | _ => false

/-- The thread is PARKED, neither suspended nor frozen. -/
def plainlyParked (th : Thread) : Bool := !th.susp && !th.froz && match th.run with
  | .parked _ => true
  | _ => false

/-- The row of the table that a core's quay slot is in. An MXV that waits for the load queue counts as a QLD does: it too waits for pops
(R118). DEDUCED, log entry 61. -/
def deadRow (s : State) (core : Nat) : Option Nat :=
  let k := coreAt s core
  let a := threadAt s ⟨core, 7, 0⟩
  let x := threadAt s ⟨core, 7, 1⟩
  let noStore := a.run == .parked .storeEmpty && k.stq.isEmpty
  let ldFull := a.run == .parked .loadQueue && decide (16 ≤ k.ldq.length)
  let ldHeld := a.run == .parked .loadQueue && (decide (16 ≤ k.ldq.length) || mxvReserving s core)
  let stFull := x.run == .parked .storeQueue && decide (16 ≤ k.stq.length)
  if plainlyParked a && plainlyParked x then
    if noStore && popsStarved s core x then some 0
    else if ldHeld && stFull then some 1 else none
  else if a.run == .free && plainlyParked x then if popsStarved s core x || stFull then some 2 else none
  else if x.run == .free && plainlyParked a then if noStore || ldFull then some 3 else none
  else none

/-- QDEAD: both threads freeze, and one packet is sent for the slot, which names the address thread, exited or not, and the pc of a frozen
unit (R118, R427, R429). No rule gives its PREC, which is 1 here: the pair has stopped between instructions. DESIGN CHOICE, log entry 61. -/
def execQdead (core : Nat) (s : State) : Answer :=
  .next (match deadRow s core with
    | none => s
    | some row =>
      let live := (slotThreads ⟨core, 7, 0⟩).filter fun t => (threadAt s t).run != .free
      let info := fun (t : ThreadRef) => FaultInfo.mk (some .qdead) 0 true 0 row false false (threadAt s t).pc.toNat
      match live with
      | [] => s
      | t :: _ =>
        sendFault (live.foldl (fun s' x => modThread s' x fun th => { th with froz := true, fault := info x }) s) ⟨core, 7, 0⟩ (info t))

/-! ### QUANTUM_EXPIRY (R224) -/

/-- QUANTUM_EXPIRY; a skip window ends first (R289). -/
def execQuantumExpiry (core slot : Nat) (s : State) : Answer :=
  .next (match (coreAt s core).qexp.find? fun e => e.1 == slot with
    | none => s
    | some (_, n) =>
      let t := ofTid core n
      let th := threadAt s t
      if th.ss.skp != 0 && !th.froz then s
      else
        let s := modCore s core fun k => { k with qexp := k.qexp.filter fun e => e.1 != slot }
        if th.run == .free then s
        else
          let s := (slotThreads t).foldl (fun s x => keepSuspended (modThread s x (expireThread x)) x) s
          sendEvent s core 0x50 slot th.rid th.pc)

/-! ### Travel (R190-R195) -/

/-- The rider leaves its slot: to a core of its own die's network, or back to the ready queue of its own core.
DEDUCED, log entry 43. -/
def sendRider (s : State) (t : ThreadRef) (dst : Nat) (ctx : Thread) (go : Bool) : State :=
  if dst = t.core then freeSlot (enterArrival s t.core { ctx with arrival := s.now }) t
  else
    let (id, s) := fresh s
    let w := (coreAt s t.core).ctxid
    freeSlot { s with travels := s.travels ++ [⟨id, dst, t.core, ctxAsid w, ctxNs w, ctx, false, false, go⟩] } t

/-- TRAVEL_DEPART: steps 3-5 of R190: results commit, a release at package scope, and the packet (R191, R195). -/
def execTravelDepart (t : ThreadRef) (s : State) : Answer :=
  .next (
    let th := threadAt s t
    match th.run with
    | .departing d =>
      if th.susp || th.froz then s
      else if !th.outs.isEmpty then
        if th.outs.all fun o => o.done then commitOuts t (th.outs.length + 1) s else s
      else
        let s := beginRelease s t 3
        if !released s t 3 then s
        else
          let s := modThread s t fun th => { th with wbs := [] }
          let ctx := packetContext (threadAt s t)
          match d with
          | .go c => sendRider s t c ctx true
          | .migrate c => sendRider s t c { ctx with pc := word (nextUnit th), ss := { ctx.ss with stay := false } } false
    | _ => s)

/-- The core takes riders of a context (R192). A core of a fenced die takes none, and the rider is returned under R193: DESIGN CHOICE, log
entry 73. -/
def takesContext (s : State) (core : Nat) (x : Travel) : Bool :=
  let k := coreAt s core
  ctxAsid k.ctxid == x.asid && ctxNs k.ctxid == x.ns && !(dieAt s (dieOf core)).fenced

/-- A rider that reaches a core: in its ready queue, or ended there where its context has been killed (R192, R444). -/
def riderReaches (s : State) (core : Nat) (x : Travel) (ctx : Thread) : State :=
  let s := { s with travels := s.travels.filter fun y => y.id != x.id }
  if (coreAt s core).killed then accountEnd s core ctx else enterArrival s core { ctx with arrival := s.now }

/-- A rider at its destination; one that the destination does not take is returned (R192, R193, R328, R442). DEDUCED, log entry 43. -/
def riderArrives (s : State) (x : Travel) : State :=
  let core := forwarded s x.dst
  if takesContext s core x then riderReaches s core x x.ctx
  else { s with travels := s.travels.map fun y => if y.id = x.id then { y with back := true } else y }

/-- TRAVEL_ARRIVAL (R192). -/
def execTravelArrival (n : Nat) (s : State) : Answer :=
  .next (match s.travels.find? fun x => x.id == n with
    | some x => if x.back || x.spawn then s else riderArrives s x
    | none => s)

/-- SPAWN_ARRIVAL (R328). -/
def execSpawnArrival (n : Nat) (s : State) : Answer :=
  .next (match s.travels.find? fun x => x.id == n with
    | some x => if x.back || !x.spawn then s else riderArrives s x
    | none => s)

/-- What a returned rider does where it started: the access in place, with STAY := 1 (R193). A spawned rider just starts there. -/
def returnedContext (x : Travel) : Thread :=
  if x.spawn then x.ctx
  else if x.go then { x.ctx with stuck := true }
  else { x.ctx with ss := { x.ctx.ss with stay := true } }

/-- TRAVEL_RETURN (R193). A rider whose die has been fenced meanwhile is lost with it. -/
def execTravelReturn (n : Nat) (s : State) : Answer :=
  .next (match s.travels.find? fun x => x.id == n with
    | some x =>
      if !x.back then s
      else
        let core := forwarded s x.src
        if (dieAt s (dieOf core)).fenced then accountEnd { s with travels := s.travels.filter fun y => y.id != x.id } core x.ctx
        else riderReaches s core x (returnedContext x)
    | none => s)

end Sys2Proof.Machine
end

