-- ==== Sys2Proof/Machine/Vector.lean ====
section
/-! DEFINITION. Vector and scan instructions (R384-R404). -/

namespace Sys2Proof.Machine

/-! ### Lanes in and out (R385, R388, R404) -/

/-- A lane result with its flags. -/
abbrev LaneResult := Nat × BitVec 5

/-- The 16 lane operands of a v register: native, or elements 0-15 of packed narrow ones, widened (R388). -/
def laneSrc (int : Bool) (code : Nat) (v : Line) : List LaneResult :=
  if codeBits code = 32 then (elems 32 16 v.toNat).map fun x => (x, 0)
  else (elems (codeBits code) 16 v.toNat).map (widen int code)

/-- The narrow element of a lane that is pushed to vsq: excluded lanes push zero bits (R404). -/
def pushedElem (int : Bool) (fd : Nat) (r : Rounding) (on : Bool) (x : Nat) : LaneResult :=
  if !on then (0, 0) else if fd = 0 then (x, 0) else convert (if int then 10 else 1) fd r x

/-- An entry of elements of a width enters the store queue (R116). -/
def pushStore (s : State) (w : Nat) (l : List LaneResult) : State :=
  let e : StoreEntry := ⟨2 * w, BitVec.ofNat 512 (packElems w (l.map (·.1)))⟩
  let s := modCore s s.cur.core fun k => { k with stq := k.stq ++ [e] }
  modMe s fun th => orFlags th (l.foldl (fun f x => f ||| x.2) 0)

/-- The v destination is vsq. -/
def toStq (s : State) (d : Reg) : Bool := isArith s.cur && dstNum s .d d.toNat == 31

/-- The results of a lane mask reach the destination, with the flags of its lanes (R385, R404). -/
def putLanes (s : State) (d : Reg) (int : Bool) (mask : Nat) (rs : List LaneResult) : State :=
  let s := modMe s fun th => orFlags th (flagsOf mask rs)
  if toStq s d then
    let fd := (fmtOf (me s).desc).fd
    let r := roundingOf (me s).ss.rnd
    pushStore s (if fd = 0 then 32 else codeBits fd) (rs.zipIdx.map fun e => pushedElem int fd r (bit mask e.2) e.1.1)
  else if mask = 0 then s
  else
    let n := dstNum s .d d.toNat
    writeV s n (selLanes mask (BitVec.ofNat 512 (packElems 32 (rs.map (·.1)))) (rdV (me s) n))

/-- The operation on each lane, with the flags of its operands. -/
def laneOp1 (op : Nat → LaneResult) (l : List LaneResult) : List LaneResult :=
  l.map fun x => let y := op x.1; (y.1, x.2 ||| y.2)
def laneOp2 (op : Nat → Nat → LaneResult) (l k : List LaneResult) : List LaneResult :=
  (l.zip k).map fun e => let y := op e.1.1 e.2.1; (y.1, e.1.2 ||| e.2.2 ||| y.2)
def laneOp3 (op : Nat → Nat → Nat → LaneResult) (l k j : List LaneResult) : List LaneResult :=
  ((l.zip k).zip j).map fun e => let y := op e.1.1.1 e.1.2.1 e.2.1; (y.1, e.1.1.2 ||| e.1.2.2 ||| e.2.2 ||| y.2)

/-! ### Arithmetic (R389, R390) -/

/-- Division of signed lanes. -/
def intDiv32 (x y : Nat) : Nat :=
  if y % 2 ^ 32 = 0 then 2 ^ 32 - 1 else (ofInt 32 (Int.tdiv (signed 32 x) (signed 32 y))).toNat

/-- VABS and VNEG of an FP32 lane: a NaN gives the canonical NaN (R390). -/
def signOp (f : Nat → Nat) (x : Nat) : LaneResult :=
  match fmt32.read x with
  | .nan sig => (fmt32.nan, flagIf sig flagNV)
  | _ => (f x, 0)

def lanesAdd (int : Bool) (r : Rounding) (x y : Nat) : LaneResult := if int then ((x + y) % 2 ^ 32, 0) else add32 r x y
def lanesSub (int : Bool) (r : Rounding) (x y : Nat) : LaneResult :=
  if int then ((x + 2 ^ 32 - y % 2 ^ 32) % 2 ^ 32, 0) else fpSub fmt32 r x y
def lanesMul (int : Bool) (r : Rounding) (x y : Nat) : LaneResult := if int then (x * y % 2 ^ 32, 0) else mul32 r x y
def lanesFma (int : Bool) (r : Rounding) (x y z : Nat) : LaneResult :=
  if int then ((x * y + z) % 2 ^ 32, 0) else fma32 r x y z
def lanesMin (int : Bool) (_ : Rounding) (x y : Nat) : LaneResult :=
  if int then (if signed 32 y < signed 32 x then y else x, 0) else fpMinMax fmt32 false x y
def lanesMax (int : Bool) (_ : Rounding) (x y : Nat) : LaneResult :=
  if int then (if signed 32 x < signed 32 y then y else x, 0) else fpMinMax fmt32 true x y
def lanesDiv (int : Bool) (r : Rounding) (x y : Nat) : LaneResult :=
  if int then (intDiv32 x y, 0) else fpDiv fmt32 r x y
def lanesAbs (int : Bool) (x : Nat) : LaneResult :=
  if int then (if signed 32 x < 0 then (2 ^ 32 - x % 2 ^ 32) % 2 ^ 32 else x, 0) else signOp (fun v => v % 2 ^ 31) x
def lanesNeg (int : Bool) (x : Nat) : LaneResult :=
  if int then ((2 ^ 32 - x % 2 ^ 32) % 2 ^ 32, 0) else signOp (fun v => v ^^^ 2 ^ 31) x

/-- An instruction with one or two v operands under the lane mask. -/
def vecOne (i : Instr) (d a : Reg) (int : Bool) (op : Rounding → Nat → LaneResult) (s : State) : Answer :=
  .next (unit i (fun s =>
    let f := fmtOf (me s).desc
    .done (putLanes s d int (laneMask (me s)) (laneOp1 (op (myRounding s)) (laneSrc int f.fa (srcV s i .a a.toNat))))) s)

def vecTwo (i : Instr) (d a b : Reg) (int : Bool) (op : Rounding → Nat → Nat → LaneResult) (s : State) : Answer :=
  .next (unit i (fun s =>
    let f := fmtOf (me s).desc
    .done (putLanes s d int (laneMask (me s))
      (laneOp2 (op (myRounding s)) (laneSrc int f.fa (srcV s i .a a.toNat)) (laneSrc int f.fb (srcV s i .b b.toNat))))) s)

/-- VADD (R390). -/
def execVadd (m : Mark) (d a b : Reg) (t : BitVec 1) (s : State) : Answer :=
  vecTwo (.vadd m d a b t) d a b (t == 1) (lanesAdd (t == 1)) s

/-- VSUB (R390). -/
def execVsub (m : Mark) (d a b : Reg) (t : BitVec 1) (s : State) : Answer :=
  vecTwo (.vsub m d a b t) d a b (t == 1) (lanesSub (t == 1)) s

/-- VMUL (R390). -/
def execVmul (m : Mark) (d a b : Reg) (t : BitVec 1) (s : State) : Answer :=
  vecTwo (.vmul m d a b t) d a b (t == 1) (lanesMul (t == 1)) s

/-- VFMA (R390). -/
def execVfma (m : Mark) (d a b c : Reg) (t : BitVec 1) (s : State) : Answer :=
  let i := Instr.vfma m d a b c t
  let int := t == 1
  .next (unit i (fun s =>
    let f := fmtOf (me s).desc
    .done (putLanes s d int (laneMask (me s))
      (laneOp3 (lanesFma int (myRounding s)) (laneSrc int f.fa (srcV s i .a a.toNat)) (laneSrc int f.fb (srcV s i .b b.toNat))
        (laneSrc int 0 (srcV s i .c c.toNat))))) s)

/-- VMIN (R390). -/
def execVmin (m : Mark) (d a b : Reg) (t : BitVec 1) (s : State) : Answer :=
  vecTwo (.vmin m d a b t) d a b (t == 1) (lanesMin (t == 1)) s

/-- VMAX (R390). -/
def execVmax (m : Mark) (d a b : Reg) (t : BitVec 1) (s : State) : Answer :=
  vecTwo (.vmax m d a b t) d a b (t == 1) (lanesMax (t == 1)) s

/-- VDIV (R390). -/
def execVdiv (m : Mark) (d a b : Reg) (t : BitVec 1) (s : State) : Answer :=
  vecTwo (.vdiv m d a b t) d a b (t == 1) (lanesDiv (t == 1)) s

/-- VABS (R390). -/
def execVabs (m : Mark) (d a : Reg) (t : BitVec 1) (s : State) : Answer :=
  vecOne (.vabs m d a t) d a (t == 1) (fun _ => lanesAbs (t == 1)) s

/-- VNEG (R390). -/
def execVneg (m : Mark) (d a : Reg) (t : BitVec 1) (s : State) : Answer :=
  vecOne (.vneg m d a t) d a (t == 1) (fun _ => lanesNeg (t == 1)) s

/-! ### Special functions (R391, R392) -/

/-- A function of one FP32 value, exact and rounded once. -/
def special (f : Fp → Exact) (r : Rounding) (x : Nat) : LaneResult := finish fmt32 r (f (fmt32.read x))

/-- VSQRT (R392). -/
def execVsqrt (m : Mark) (d a : Reg) (s : State) : Answer := vecOne (.vsqrt m d a) d a false (special sqrtX) s

/-- VRCP (R392). -/
def execVrcp (m : Mark) (d a : Reg) (s : State) : Answer := vecOne (.vrcp m d a) d a false (special rcpX) s

/-- VRSQ (R392). -/
def execVrsq (m : Mark) (d a : Reg) (s : State) : Answer := vecOne (.vrsq m d a) d a false (special rsqX) s

/-- VEXP2 (R392). -/
def execVexp2 (m : Mark) (d a : Reg) (s : State) : Answer := vecOne (.vexp2 m d a) d a false (special exp2X) s

/-- VLOG2 (R392). -/
def execVlog2 (m : Mark) (d a : Reg) (s : State) : Answer := vecOne (.vlog2 m d a) d a false (special log2X) s

/-! ### Conversion (R393, R394) -/

/-- FP32 stands for code 0 on either side. -/
def cvtCode (c : Nat) : Nat := if c = 0 then 1 else c

/-- A register with element k of width w replaced. -/
def setElem (v : Line) (w k x : Nat) : Line :=
  let n := v.toNat
  BitVec.ofNat 512 (n - n / 2 ^ (w * k) % 2 ^ w * 2 ^ (w * k) + x % 2 ^ w * 2 ^ (w * k))

/-- VCVT (R394). -/
def execVcvt (m : Mark) (d a : Reg) (p : BitVec 2) (s : State) : Answer :=
  let i := Instr.vcvt m d a p
  .next (unit i (fun s =>
    let f := fmtOf (me s).desc
    let src := cvtCode f.fa
    let dst := cvtCode f.fd
    let mask := laneMask (me s)
    let ws := codeBits src
    let wd := codeBits dst
    let v := (srcV s i .a a.toNat).toNat
    let k0 := 16 * p.toNat
    let xs := if ws = 32 then elems 32 16 v else elems ws 16 (v / 2 ^ (ws * k0))
    let rs := xs.map (convert src dst (myRounding s))
    if wd = 32 then
      -- the results are 32-bit lanes whatever FD says, so a push narrows nothing
      let s := modMe s fun th => orFlags th (flagsOf mask rs)
      let n := dstNum s .d d.toNat
      if toStq s d then .done (pushStore s 32 (rs.zipIdx.map fun e => (if bit mask e.2 then e.1.1 else 0, 0)))
      else if mask = 0 then .done s
      else .done (writeV s n (selLanes mask (BitVec.ofNat 512 (packElems 32 (rs.map (·.1)))) (rdV (me s) n)))
    else
      let s := modMe s fun th => orFlags th (flagsOf mask rs)
      if toStq s d then .done (pushStore s wd (rs.zipIdx.map fun e => (if bit mask e.2 then e.1.1 else 0, 0)))
      else if mask = 0 then .done s
      else
        let n := dstNum s .d d.toNat
        .done (writeV s n (rs.zipIdx.foldl (fun v e => if bit mask e.2 then setElem v wd (k0 + e.2) e.1.1 else v)
          (rdV (me s) n)))) s)

/-! ### Logic (R395) -/

/-- An operation on the bits of two lanes. -/
def vecBits (i : Instr) (d a b : Reg) (op : Lane → Lane → Lane) (s : State) : Answer :=
  .next (unit i (fun s =>
    let x := srcV s i .a a.toNat
    let y := srcV s i .b b.toNat
    .done (putLanes s d false (laneMask (me s)) ((List.range 16).map fun k => ((op (lane x k) (lane y k)).toNat, 0)))) s)

/-- VAND (R395). -/
def execVand (m : Mark) (d a b : Reg) (s : State) : Answer := vecBits (.vand m d a b) d a b (fun x y => x &&& y) s

/-- VOR (R395). -/
def execVor (m : Mark) (d a b : Reg) (s : State) : Answer := vecBits (.vor m d a b) d a b (fun x y => x ||| y) s

/-- VXOR (R395). -/
def execVxor (m : Mark) (d a b : Reg) (s : State) : Answer := vecBits (.vxor m d a b) d a b (fun x y => x ^^^ y) s

/-- VSHL (R395). -/
def execVshl (m : Mark) (d a b : Reg) (s : State) : Answer :=
  vecBits (.vshl m d a b) d a b (fun x y => x <<< (y.toNat % 32)) s

/-- VSHR (R395). -/
def execVshr (m : Mark) (d a b : Reg) (s : State) : Answer :=
  vecBits (.vshr m d a b) d a b (fun x y => x >>> (y.toNat % 32)) s

/-- VSRA (R395). -/
def execVsra (m : Mark) (d a b : Reg) (s : State) : Answer :=
  vecBits (.vsra m d a b) d a b (fun x y => x.sshiftRight (y.toNat % 32)) s

/-! ### Compare and lane movement (R396-R398) -/

/-- The condition of VCMP in one lane, with its flag. -/
def laneCompare (c : Nat) (x y : Nat) : Bool × BitVec 5 :=
  if c < 16 then fpCompare fmt32 c x y else (condition (c - 16) (BitVec.ofNat 32 x) (BitVec.ofNat 32 y), 0)

/-- The low 16 bits of pw replaced. -/
def setMask (th : Thread) (mask : Nat) : Thread :=
  { th with pw := BitVec.ofNat 32 (th.pw.toNat / 65536 * 65536 + mask % 65536) }

/-- VCMP narrows the lane mask (R397). -/
def execVcmp (m : Mark) (a b c : Reg) (s : State) : Answer :=
  let i := Instr.vcmp m a b c
  .next (unit i (fun s =>
    let f := fmtOf (me s).desc
    let int := decide (16 ≤ c.toNat)
    let mask := laneMask (me s)
    let rs := ((laneSrc int f.fa (srcV s i .a a.toNat)).zip (laneSrc int f.fb (srcV s i .b b.toNat))).map fun e =>
      let y := laneCompare c.toNat e.1.1 e.2.1
      (b01 y.1, e.1.2 ||| e.2.2 ||| y.2)
    let t := rs.zipIdx.foldl (fun n e => n + (if bit mask e.2 && e.1.1 == 1 then 2 ^ e.2 else 0)) 0
    .done (modMe s fun th => orFlags (setMask th t) (flagsOf mask rs))) s)

/-- VSEL writes every lane, and pushes every lane to vsq (R398, R404). DESIGN CHOICE, log entry 76. -/
def execVsel (m : Mark) (d a b : Reg) (s : State) : Answer :=
  let i := Instr.vsel m d a b
  .next (unit i (fun s =>
    let x := srcV s i .a a.toNat
    let y := srcV s i .b b.toNat
    let mask := laneMask (me s)
    .done (putLanes s d false 65535 ((List.range 16).map fun k => ((if bit mask k then lane x k else lane y k).toNat, 0)))) s)

/-- VBCAST (R398). -/
def execVbcast (m : Mark) (d a : Reg) (s : State) : Answer :=
  let i := Instr.vbcast m d a
  .next (unit i (fun s =>
    let x := (srcG s i .a a.toNat).toNat % 2 ^ 32
    .done (putLanes s d false (laneMask (me s)) (List.replicate 16 (x, 0)))) s)

/-- VINS writes one lane whatever the mask (R398). -/
def execVins (m : Mark) (d a : Reg) (n : BitVec 4) (s : State) : Answer :=
  let i := Instr.vins m d a n
  .next (unit i (fun s =>
    let r := dstNum s .d d.toNat
    .done (writeV s r (setLane (rdV (me s) r) n.toNat ((srcG s i .a a.toNat).extractLsb' 0 32)))) s)

/-- VEXT (R398). -/
def execVext (m : Mark) (d a : Reg) (n : BitVec 4) (s : State) : Answer :=
  let i := Instr.vext m d a n
  .next (unit i (fun s => .done (putG s d (word (lane (srcV s i .a a.toNat) n.toNat).toNat))) s)

/-- VPERM (R398). -/
def execVperm (m : Mark) (d a b : Reg) (s : State) : Answer :=
  let i := Instr.vperm m d a b
  .next (unit i (fun s =>
    let x := srcV s i .a a.toNat
    let y := srcV s i .b b.toNat
    .done (putLanes s d false (laneMask (me s))
      ((List.range 16).map fun k => ((lane x ((lane y k).toNat % 16)).toNat, 0)))) s)

/-- VSLIDE (R398). -/
def execVslide (m : Mark) (d a b : Reg) (n : BitVec 4) (s : State) : Answer :=
  let i := Instr.vslide m d a b n
  .next (unit i (fun s =>
    let x := srcV s i .a a.toNat
    let y := srcV s i .b b.toNat
    .done (putLanes s d false (laneMask (me s)) ((List.range 16).map fun k =>
      ((if k + n.toNat < 16 then lane x (k + n.toNat) else lane y (k + n.toNat - 16)).toNat, 0)))) s)

/-! ### Reductions and scans (R399-R403) -/

/-- A value, or an absent one (R400), with flags of its own making. DEDUCED, log entry 33. -/
def combine (op : Nat → Nat → LaneResult) (x y : Option Nat) : Option Nat × BitVec 5 :=
  match x, y with
  | some a, some b => let r := op a b; (some r.1, r.2)
  | some a, none => (some a, 0)
  | none, y => (y, 0)

/-- The lanes of an operand, absent where the mask excludes them, and the flags of the others. -/
def present (mask : Nat) (l : List LaneResult) : List (Option Nat) × BitVec 5 :=
  (l.zipIdx.map fun e => if bit mask e.2 then some e.1.1 else none, flagsOf mask l)

/-- One level of the balanced tree: neighbours combine, the lower lane on the left (R401). -/
def treeLevel (op : Nat → Nat → LaneResult) : List (Option Nat) → List (Option Nat) × BitVec 5
  | x :: y :: r =>
    let z := combine op x y
    let t := treeLevel op r
    (z.1 :: t.1, z.2 ||| t.2)
  | l => (l, 0)

/-- The balanced tree over the 16 lanes (R401). -/
def tree (op : Nat → Nat → LaneResult) : (levels : Nat) → List (Option Nat) → Option Nat × BitVec 5
  | 0, l => (l.headD none, 0)
  | n + 1, l =>
    let t := treeLevel op l
    let r := tree op n t.1
    (r.1, t.2 ||| r.2)

/-- One step of the log-step scan at a distance (R246); lanes that the mask excludes raise no flag (R239). -/
def scanStep (op : Nat → Nat → LaneResult) (mask d : Nat) (l : List (Option Nat)) : List (Option Nat) × BitVec 5 :=
  let rs := l.zipIdx.map fun e => if e.2 < d then (e.1, (0 : BitVec 5)) else combine op (l.getD (e.2 - d) none) e.1
  (rs.map (·.1), rs.zipIdx.foldl (fun f x => if bit mask x.2 then f ||| x.1.2 else f) 0)

/-- The log-step scan (R246, R402). -/
def logScan (op : Nat → Nat → LaneResult) (mask : Nat) (l : List (Option Nat)) : List (Option Nat) × BitVec 5 :=
  [1, 2, 4, 8].foldl (fun (a : List (Option Nat) × BitVec 5) d =>
    let r := scanStep op mask d a.1
    (r.1, a.2 ||| r.2)) (l, 0)

/-- A result as it is delivered: a NaN that no other value has met is read all the same, and becomes the canonical one (R228).
DEDUCED, log entry 33. -/
def delivered (int : Bool) (x : Nat) : LaneResult := if int then (x, 0) else signOp id x

/-- A reduction: an absent result is the identity (R400); an INT32 result is sign-extended (R401). -/
def reduceUnit (i : Instr) (d a : Reg) (int : Bool) (op : Rounding → Nat → Nat → LaneResult) (ident : Nat) (s : State) :
    Answer :=
  .next (unit i (fun s =>
    let x := present (laneMask (me s)) (laneSrc int (fmtOf (me s).desc).fa (srcV s i .a a.toNat))
    let r := tree (op (myRounding s)) 4 x.1
    let v := (r.1.map (delivered int)).getD (ident, 0)
    .done (modMe (putG s d (if int then BitVec.ofInt 64 (signed 32 v.1) else word v.1)) fun th =>
      orFlags th (x.2 ||| r.2 ||| v.2))) s)

/-- VREDADD (R401). -/
def execVredadd (m : Mark) (d a : Reg) (t : BitVec 1) (s : State) : Answer :=
  reduceUnit (.vredadd m d a t) d a (t == 1) (lanesAdd (t == 1)) 0 s

/-- VREDMAX (R401). -/
def execVredmax (m : Mark) (d a : Reg) (t : BitVec 1) (s : State) : Answer :=
  reduceUnit (.vredmax m d a t) d a (t == 1) (lanesMax (t == 1)) (if t = 1 then 0x80000000 else 0xFF800000) s

/-- VREDMIN (R401). -/
def execVredmin (m : Mark) (d a : Reg) (t : BitVec 1) (s : State) : Answer :=
  reduceUnit (.vredmin m d a t) d a (t == 1) (lanesMin (t == 1)) (if t = 1 then 0x7FFFFFFF else 0x7F800000) s

/-- A scan: each enabled lane takes its final value (R402). -/
def scanUnit (i : Instr) (d a : Reg) (int : Bool) (op : Rounding → Nat → Nat → LaneResult) (s : State) : Answer :=
  .next (unit i (fun s =>
    let mask := laneMask (me s)
    let x := present mask (laneSrc int (fmtOf (me s).desc).fa (srcV s i .a a.toNat))
    let r := logScan (op (myRounding s)) mask x.1
    let s := modMe s fun th => orFlags th (x.2 ||| r.2)
    .done (putLanes s d int mask (r.1.map fun v => delivered int (v.getD 0)))) s)

/-- VSCAN (R402). -/
def execVscan (m : Mark) (d a : Reg) (t : BitVec 1) (s : State) : Answer :=
  scanUnit (.vscan m d a t) d a (t == 1) (lanesAdd (t == 1)) s

/-- VSCANM (R402). -/
def execVscanm (m : Mark) (d a : Reg) (t : BitVec 1) (s : State) : Answer :=
  scanUnit (.vscanm m d a t) d a (t == 1) (lanesMax (t == 1)) s

/-- The recurrence from lane to lane; an excluded lane leaves h as it is (R247, R403). -/
def recurrence (r : Rounding) : (h : Nat) → List (Bool × Nat × Nat) → List LaneResult
  | _, [] => []
  | h, (on, a, b) :: l =>
    if on then
      let y := fma32 r a h b
      y :: recurrence r y.1 l
    else (h, 0) :: recurrence r h l

/-- VSCANL (R403). -/
def execVscanl (m : Mark) (d a b c : Reg) (s : State) : Answer :=
  let i := Instr.vscanl m d a b c
  .next (unit i (fun s =>
    let f := fmtOf (me s).desc
    let mask := laneMask (me s)
    let xs := laneSrc false f.fa (srcV s i .a a.toNat)
    let ys := laneSrc false f.fb (srcV s i .b b.toNat)
    let carry := (srcG s i .c c.toNat).toNat % 2 ^ 32
    let rs := recurrence (myRounding s) carry ((xs.zip ys).zipIdx.map fun e => (bit mask e.2, e.1.1.1, e.1.2.1))
    let s := modMe s fun th => orFlags th (flagsOf mask xs ||| flagsOf mask ys)
    .done (putLanes s d false mask rs)) s)

end Sys2Proof.Machine
end

