-- ==== Sys2Proof/Machine/Dispatch.lean ====
section
/-! DEFINITION. One arm for each instruction and event: a direct call of its meaning. -/

namespace Sys2Proof.Machine

/-- The effect of an instruction word on the current thread, or of an event on the package. -/
def exec (i : Instr) (s : State) : Host.Outcome State Fault Refusal :=
  match i with
  | .nop => Sys2Proof.Machine.execNop s
  | .brk m c => Sys2Proof.Machine.execBrk m c s
  | .trap m c => Sys2Proof.Machine.execTrap m c s
  | .eret m => Sys2Proof.Machine.execEret m s
  | .rdsys m d n => Sys2Proof.Machine.execRdsys m d n s
  | .wrsys m d n => Sys2Proof.Machine.execWrsys m d n s
  | .susp m a => Sys2Proof.Machine.execSusp m a s
  | .resm m a => Sys2Proof.Machine.execResm m a s
  | .rdslot m d a => Sys2Proof.Machine.execRdslot m d a s
  | .wrslot m d a => Sys2Proof.Machine.execWrslot m d a s
  | .ctxkill m a => Sys2Proof.Machine.execCtxkill m a s
  | .fmt a b d e c => Sys2Proof.Machine.execFmt a b d e c s
  | .rep c d a b => Sys2Proof.Machine.execRep c d a b s
  | .lui m d imm => Sys2Proof.Machine.execLui m d imm s
  | .add m d a b => Sys2Proof.Machine.execAdd m d a b s
  | .sub m d a b => Sys2Proof.Machine.execSub m d a b s
  | .and m d a b => Sys2Proof.Machine.execAnd m d a b s
  | .or m d a b => Sys2Proof.Machine.execOr m d a b s
  | .xor m d a b => Sys2Proof.Machine.execXor m d a b s
  | .andn m d a b => Sys2Proof.Machine.execAndn m d a b s
  | .shl m d a b => Sys2Proof.Machine.execShl m d a b s
  | .shr m d a b => Sys2Proof.Machine.execShr m d a b s
  | .sra m d a b => Sys2Proof.Machine.execSra m d a b s
  | .min m d a b => Sys2Proof.Machine.execMin m d a b s
  | .max m d a b => Sys2Proof.Machine.execMax m d a b s
  | .minu m d a b => Sys2Proof.Machine.execMinu m d a b s
  | .maxu m d a b => Sys2Proof.Machine.execMaxu m d a b s
  | .clz m d a => Sys2Proof.Machine.execClz m d a s
  | .ctz m d a => Sys2Proof.Machine.execCtz m d a s
  | .popc m d a => Sys2Proof.Machine.execPopc m d a s
  | .sext m d a b => Sys2Proof.Machine.execSext m d a b s
  | .addi m d a imm => Sys2Proof.Machine.execAddi m d a imm s
  | .andi m d a imm => Sys2Proof.Machine.execAndi m d a imm s
  | .ori m d a imm => Sys2Proof.Machine.execOri m d a imm s
  | .xori m d a imm => Sys2Proof.Machine.execXori m d a imm s
  | .shli m d a n => Sys2Proof.Machine.execShli m d a n s
  | .shri m d a n => Sys2Proof.Machine.execShri m d a n s
  | .srai m d a n => Sys2Proof.Machine.execSrai m d a n s
  | .mul m d a b => Sys2Proof.Machine.execMul m d a b s
  | .mulh m d a b => Sys2Proof.Machine.execMulh m d a b s
  | .mulhu m d a b => Sys2Proof.Machine.execMulhu m d a b s
  | .div m d a b => Sys2Proof.Machine.execDiv m d a b s
  | .divu m d a b => Sys2Proof.Machine.execDivu m d a b s
  | .rem m d a b => Sys2Proof.Machine.execRem m d a b s
  | .remu m d a b => Sys2Proof.Machine.execRemu m d a b s
  | .fadd m d a b p => Sys2Proof.Machine.execFadd m d a b p s
  | .fsub m d a b p => Sys2Proof.Machine.execFsub m d a b p s
  | .fmul m d a b p => Sys2Proof.Machine.execFmul m d a b p s
  | .fma m d a b p => Sys2Proof.Machine.execFma m d a b p s
  | .fdiv m d a b p => Sys2Proof.Machine.execFdiv m d a b p s
  | .fsqrt m d a p => Sys2Proof.Machine.execFsqrt m d a p s
  | .fmin m d a b p => Sys2Proof.Machine.execFmin m d a b p s
  | .fmax m d a b p => Sys2Proof.Machine.execFmax m d a b p s
  | .fcmp m d a b x p => Sys2Proof.Machine.execFcmp m d a b x p s
  | .fcvt m d a x p => Sys2Proof.Machine.execFcvt m d a x p s
  | .cmp m c k p a b => Sys2Proof.Machine.execCmp m c k p a b s
  | .cmpi m c k p a imm => Sys2Proof.Machine.execCmpi m c k p a imm s
  | .bt m q d => Sys2Proof.Machine.execBt m q d s
  | .bf m q d => Sys2Proof.Machine.execBf m q d s
  | .j m d => Sys2Proof.Machine.execJ m d s
  | .jal m d imm => Sys2Proof.Machine.execJal m d imm s
  | .jr m a => Sys2Proof.Machine.execJr m a s
  | .jalr m d a => Sys2Proof.Machine.execJalr m d a s
  | .ld m d a p z o => Sys2Proof.Machine.execLd m d a p z o s
  | .st m d a p z o => Sys2Proof.Machine.execSt m d a p z o s
  | .ldv m d a p o => Sys2Proof.Machine.execLdv m d a p o s
  | .stv m d a p o => Sys2Proof.Machine.execStv m d a p o s
  | .aadd m d a p z o => Sys2Proof.Machine.execAadd m d a p z o s
  | .aand m d a p z o => Sys2Proof.Machine.execAand m d a p z o s
  | .aor m d a p z o => Sys2Proof.Machine.execAor m d a p z o s
  | .axor m d a p z o => Sys2Proof.Machine.execAxor m d a p z o s
  | .amin m d a p z o => Sys2Proof.Machine.execAmin m d a p z o s
  | .amax m d a p z o => Sys2Proof.Machine.execAmax m d a p z o s
  | .aswp m d a p z o => Sys2Proof.Machine.execAswp m d a p z o s
  | .acas m d a p z o => Sys2Proof.Machine.execAcas m d a p z o s
  | .afadd m d a p z o => Sys2Proof.Machine.execAfadd m d a p z o s
  | .clean m a b => Sys2Proof.Machine.execClean m a b s
  | .inval m a b => Sys2Proof.Machine.execInval m a b s
  | .flush m a b => Sys2Proof.Machine.execFlush m a b s
  | .pref m d a b => Sys2Proof.Machine.execPref m d a b s
  | .fenceAcq m sc => Sys2Proof.Machine.execFenceAcq m sc s
  | .fenceRel m sc => Sys2Proof.Machine.execFenceRel m sc s
  | .fenceFull m sc => Sys2Proof.Machine.execFenceFull m sc s
  | .bar m d a b sc => Sys2Proof.Machine.execBar m d a b sc s
  | .bara m d a b sc => Sys2Proof.Machine.execBara m d a b sc s
  | .barw m d a sc => Sys2Proof.Machine.execBarw m d a sc s
  | .barx m d a b sc => Sys2Proof.Machine.execBarx m d a b sc s
  | .barq m d a sc => Sys2Proof.Machine.execBarq m d a sc s
  | .send m d a b md => Sys2Proof.Machine.execSend m d a b md s
  | .recv m d => Sys2Proof.Machine.execRecv m d s
  | .waitm m => Sys2Proof.Machine.execWaitm m s
  | .mbput m d a b md => Sys2Proof.Machine.execMbput m d a b md s
  | .mbget m d a b md => Sys2Proof.Machine.execMbget m d a b md s
  | .chainSet m a => Sys2Proof.Machine.execChainSet m a s
  | .chainRel m a => Sys2Proof.Machine.execChainRel m a s
  | .chainAcq m d => Sys2Proof.Machine.execChainAcq m d s
  | .spawn m d a b => Sys2Proof.Machine.execSpawn m d a b s
  | .yield m => Sys2Proof.Machine.execYield m s
  | .exit m => Sys2Proof.Machine.execExit m s
  | .trig m => Sys2Proof.Machine.execTrig m s
  | .gwait m => Sys2Proof.Machine.execGwait m s
  | .migrate m a => Sys2Proof.Machine.execMigrate m a s
  | .rqput m d a b => Sys2Proof.Machine.execRqput m d a b s
  | .bpush m d a z v => Sys2Proof.Machine.execBpush m d a z v s
  | .bpushn m d a n z v => Sys2Proof.Machine.execBpushn m d a n z v s
  | .bpop m d a z v => Sys2Proof.Machine.execBpop m d a z v s
  | .bpeek m d a z v => Sys2Proof.Machine.execBpeek m d a z v s
  | .bmput m d a b => Sys2Proof.Machine.execBmput m d a b s
  | .bmget m d a b => Sys2Proof.Machine.execBmget m d a b s
  | .bmdel m d a b => Sys2Proof.Machine.execBmdel m d a b s
  | .bhput m d a => Sys2Proof.Machine.execBhput m d a s
  | .bhpop m d a => Sys2Proof.Machine.execBhpop m d a s
  | .bhtop m d a => Sys2Proof.Machine.execBhtop m d a s
  | .bgadd m d a b o => Sys2Proof.Machine.execBgadd m d a b o s
  | .bgrd m d a b => Sys2Proof.Machine.execBgrd m d a b s
  | .bgclr m a b l => Sys2Proof.Machine.execBgclr m a b l s
  | .bpset m d a b => Sys2Proof.Machine.execBpset m d a b s
  | .blink m a b c => Sys2Proof.Machine.execBlink m a b c s
  | .bstat m d a => Sys2Proof.Machine.execBstat m d a s
  | .bvadd m a b c t => Sys2Proof.Machine.execBvadd m a b c t s
  | .bvmul m d a b t => Sys2Proof.Machine.execBvmul m d a b t s
  | .bvfma m d a b c t => Sys2Proof.Machine.execBvfma m d a b c t s
  | .bvfill m a b c => Sys2Proof.Machine.execBvfill m a b c s
  | .bvcvt m a b r => Sys2Proof.Machine.execBvcvt m a b r s
  | .bvsum m d a b t => Sys2Proof.Machine.execBvsum m d a b t s
  | .bvrmax m d a b t => Sys2Proof.Machine.execBvrmax m d a b t s
  | .bsmx m a b => Sys2Proof.Machine.execBsmx m a b s
  | .rowcpy m d a b => Sys2Proof.Machine.execRowcpy m d a b s
  | .rowset m d b => Sys2Proof.Machine.execRowset m d b s
  | .rowand m d a b => Sys2Proof.Machine.execRowand m d a b s
  | .rowor m d a b => Sys2Proof.Machine.execRowor m d a b s
  | .rowxor m d a b => Sys2Proof.Machine.execRowxor m d a b s
  | .rownot m d a b => Sys2Proof.Machine.execRownot m d a b s
  | .rowmaj m d a b => Sys2Proof.Machine.execRowmaj m d a b s
  | .cpy m d a b => Sys2Proof.Machine.execCpy m d a b s
  | .walk m d a b => Sys2Proof.Machine.execWalk m d a b s
  | .mxv m d a b => Sys2Proof.Machine.execMxv m d a b s
  | .qld m a imm => Sys2Proof.Machine.execQld m a imm s
  | .qst m a imm => Sys2Proof.Machine.execQst m a imm s
  | .vadd m d a b t => Sys2Proof.Machine.execVadd m d a b t s
  | .vsub m d a b t => Sys2Proof.Machine.execVsub m d a b t s
  | .vmul m d a b t => Sys2Proof.Machine.execVmul m d a b t s
  | .vfma m d a b c t => Sys2Proof.Machine.execVfma m d a b c t s
  | .vmin m d a b t => Sys2Proof.Machine.execVmin m d a b t s
  | .vmax m d a b t => Sys2Proof.Machine.execVmax m d a b t s
  | .vdiv m d a b t => Sys2Proof.Machine.execVdiv m d a b t s
  | .vabs m d a t => Sys2Proof.Machine.execVabs m d a t s
  | .vneg m d a t => Sys2Proof.Machine.execVneg m d a t s
  | .vsqrt m d a => Sys2Proof.Machine.execVsqrt m d a s
  | .vrcp m d a => Sys2Proof.Machine.execVrcp m d a s
  | .vrsq m d a => Sys2Proof.Machine.execVrsq m d a s
  | .vexp2 m d a => Sys2Proof.Machine.execVexp2 m d a s
  | .vlog2 m d a => Sys2Proof.Machine.execVlog2 m d a s
  | .vcvt m d a p => Sys2Proof.Machine.execVcvt m d a p s
  | .vand m d a b => Sys2Proof.Machine.execVand m d a b s
  | .vor m d a b => Sys2Proof.Machine.execVor m d a b s
  | .vxor m d a b => Sys2Proof.Machine.execVxor m d a b s
  | .vshl m d a b => Sys2Proof.Machine.execVshl m d a b s
  | .vshr m d a b => Sys2Proof.Machine.execVshr m d a b s
  | .vsra m d a b => Sys2Proof.Machine.execVsra m d a b s
  | .vcmp m a b c => Sys2Proof.Machine.execVcmp m a b c s
  | .vsel m d a b => Sys2Proof.Machine.execVsel m d a b s
  | .vbcast m d a => Sys2Proof.Machine.execVbcast m d a s
  | .vins m d a n => Sys2Proof.Machine.execVins m d a n s
  | .vext m d a n => Sys2Proof.Machine.execVext m d a n s
  | .vperm m d a b => Sys2Proof.Machine.execVperm m d a b s
  | .vslide m d a b n => Sys2Proof.Machine.execVslide m d a b n s
  | .vredadd m d a t => Sys2Proof.Machine.execVredadd m d a t s
  | .vredmax m d a t => Sys2Proof.Machine.execVredmax m d a t s
  | .vredmin m d a t => Sys2Proof.Machine.execVredmin m d a t s
  | .vscan m d a t => Sys2Proof.Machine.execVscan m d a t s
  | .vscanm m d a t => Sys2Proof.Machine.execVscanm m d a t s
  | .vscanl m d a b c => Sys2Proof.Machine.execVscanl m d a b c s
  | .mma m d a b => Sys2Proof.Machine.execMma m d a b s
  | .mzero m d k => Sys2Proof.Machine.execMzero m d k s
  | .mld m d a b k => Sys2Proof.Machine.execMld m d a b k s
  | .mst m d a k => Sys2Proof.Machine.execMst m d a k s
  | .mcommit m => Sys2Proof.Machine.execMcommit m s
  | .mwaitb m d n => Sys2Proof.Machine.execMwaitb m d n s
  | .mstat m d b c => Sys2Proof.Machine.execMstat m d b c s
  | .cbld m a b k => Sys2Proof.Machine.execCbld m a b k s
  | .tableWalk die entry => Sys2Proof.Machine.execTableWalk die entry s
  | .deferredResultLand id => Sys2Proof.Machine.execDeferredResultLand id s
  | .acceptanceReturn id => Sys2Proof.Machine.execAcceptanceReturn id s
  | .markerCommit t => Sys2Proof.Machine.execMarkerCommit t s
  | .storeAck id => Sys2Proof.Machine.execStoreAck id s
  | .clearance id => Sys2Proof.Machine.execClearance id s
  | .homeRequest line => Sys2Proof.Machine.execHomeRequest line s
  | .invalidate die home => Sys2Proof.Machine.execInvalidate die home s
  | .recallWords die home => Sys2Proof.Machine.execRecallWords die home s
  | .recallAndDiscard die home => Sys2Proof.Machine.execRecallAndDiscard die home s
  | .forwardWord line word => Sys2Proof.Machine.execForwardWord line word s
  | .reservationGrant line word => Sys2Proof.Machine.execReservationGrant line word s
  | .fillReply id => Sys2Proof.Machine.execFillReply id s
  | .leaseExpiry place line => Sys2Proof.Machine.execLeaseExpiry place line s
  | .bankOperation core bank => Sys2Proof.Machine.execBankOperation core bank s
  | .personalityChange core bank => Sys2Proof.Machine.execPersonalityChange core bank s
  | .link core bank => Sys2Proof.Machine.execLink core bank s
  | .bankAluLineStep core bank => Sys2Proof.Machine.execBankAluLineStep core bank s
  | .pinAccept core bank => Sys2Proof.Machine.execPinAccept core bank s
  | .matrixStepStart core => Sys2Proof.Machine.execMatrixStepStart core s
  | .matrixStepEnd core => Sys2Proof.Machine.execMatrixStepEnd core s
  | .heldWriteProceed core bank => Sys2Proof.Machine.execHeldWriteProceed core bank s
  | .tileLoadDone id => Sys2Proof.Machine.execTileLoadDone id s
  | .cbldDone id => Sys2Proof.Machine.execCbldDone id s
  | .mxvAccept core => Sys2Proof.Machine.execMxvAccept core s
  | .mxvEntryReserve core => Sys2Proof.Machine.execMxvEntryReserve core s
  | .qldDataArrive id => Sys2Proof.Machine.execQldDataArrive id s
  | .qdead core => Sys2Proof.Machine.execQdead core s
  | .rowStep core cmd => Sys2Proof.Machine.execRowStep core cmd s
  | .copyEngineTurn stack => Sys2Proof.Machine.execCopyEngineTurn stack s
  | .traversalHop core cmd => Sys2Proof.Machine.execTraversalHop core cmd s
  | .engineCompletion core cmd => Sys2Proof.Machine.execEngineCompletion core cmd s
  | .slotWake t => Sys2Proof.Machine.execSlotWake t s
  | .messageInsert core => Sys2Proof.Machine.execMessageInsert core s
  | .sendRetry t => Sys2Proof.Machine.execSendRetry t s
  | .sendAnswer t => Sys2Proof.Machine.execSendAnswer t s
  | .travelDepart t => Sys2Proof.Machine.execTravelDepart t s
  | .travelArrival n => Sys2Proof.Machine.execTravelArrival n s
  | .travelReturn n => Sys2Proof.Machine.execTravelReturn n s
  | .spawnArrival n => Sys2Proof.Machine.execSpawnArrival n s
  | .quantumExpiry core slot => Sys2Proof.Machine.execQuantumExpiry core slot s
  | .berthTake core => Sys2Proof.Machine.execBerthTake core s
  | .berthPrefetchDone core berth => Sys2Proof.Machine.execBerthPrefetchDone core berth s
  | .slotTakesRider core slot => Sys2Proof.Machine.execSlotTakesRider core slot s
  | .frontEndPop => Sys2Proof.Machine.execFrontEndPop s
  | .batchHandout die => Sys2Proof.Machine.execBatchHandout die s
  | .groupPlace die => Sys2Proof.Machine.execGroupPlace die s
  | .gridComplete gid => Sys2Proof.Machine.execGridComplete gid s
  | .pilotElection => Sys2Proof.Machine.execPilotElection s
  | .ctxkillComplete n => Sys2Proof.Machine.execCtxkillComplete n s
  | .xinvComplete t => Sys2Proof.Machine.execXinvComplete t s
  | .evacuationComplete core => Sys2Proof.Machine.execEvacuationComplete core s
  | .accessPortDone t => Sys2Proof.Machine.execAccessPortDone t s
  | .resyncRecordWritten => Sys2Proof.Machine.execResyncRecordWritten s
  | .bootDone trained portsUp => Sys2Proof.Machine.execBootDone trained portsUp s
  | .rd p => Sys2Proof.Machine.execRd p s
  | .rdl p => Sys2Proof.Machine.execRdl p s
  | .wr p => Sys2Proof.Machine.execWr p s
  | .wrd p => Sys2Proof.Machine.execWrd p s
  | .atm p => Sys2Proof.Machine.execAtm p s
  | .data p => Sys2Proof.Machine.execData p s
  | .ack p => Sys2Proof.Machine.execAck p s
  | .err p => Sys2Proof.Machine.execErr p s
  | .replay die entry => Sys2Proof.Machine.execReplay die entry s
  | .faultAction die entry => Sys2Proof.Machine.execFaultAction die entry s
  | .engineResume core cmd => Sys2Proof.Machine.execEngineResume core cmd s
  | .engineEnd core cmd => Sys2Proof.Machine.execEngineEnd core cmd s
  | .dieFence who die => Sys2Proof.Machine.execDieFence who die s
  | .dispatcherTimeout die => Sys2Proof.Machine.execDispatcherTimeout die s
  | .carveWrite core v => Sys2Proof.Machine.execCarveWrite core v s
  | .ctxidWrite who core v => Sys2Proof.Machine.execCtxidWrite who core v s
  | .xinvWrite t v => Sys2Proof.Machine.execXinvWrite t v s
  | .bpcfgWrite who core bank v => Sys2Proof.Machine.execBpcfgWrite who core bank v s
  | .vpoolWrite quad v => Sys2Proof.Machine.execVpoolWrite quad v s
  | .srtWrite core n v => Sys2Proof.Machine.execSrtWrite core n v s
  | .evacGo who core v => Sys2Proof.Machine.execEvacGo who core v s
  | .fwdClear core => Sys2Proof.Machine.execFwdClear core s
  | .resumeThread t => Sys2Proof.Machine.execResumeThread t s
  | .endThread t => Sys2Proof.Machine.execEndThread t s
  | .accessPortGo t v => Sys2Proof.Machine.execAccessPortGo t v s
  | .biasTableWrite index v => Sys2Proof.Machine.execBiasTableWrite index v s
  | .rsync v => Sys2Proof.Machine.execRsync v s
  | .hkill who v => Sys2Proof.Machine.execHkill who v s
  | .registerWrite who off v => Sys2Proof.Machine.execRegisterWrite who off v s
  | .powerOn => Sys2Proof.Machine.execPowerOn s
  | .cold who => Sys2Proof.Machine.execCold who s
  | .warm who => Sys2Proof.Machine.execWarm who s
  | .refresh pch dbank => Sys2Proof.Machine.execRefresh pch dbank s
  | .patrolScrub place found => Sys2Proof.Machine.execPatrolScrub place found s
  | .recalibration pch => Sys2Proof.Machine.execRecalibration pch s
  | .telemetrySample die pwr temp => Sys2Proof.Machine.execTelemetrySample die pwr temp s
  | .powerWindow exceeded => Sys2Proof.Machine.execPowerWindow exceeded s
  | .coreIdle core => Sys2Proof.Machine.execCoreIdle core s
  | .coreWake core => Sys2Proof.Machine.execCoreWake core s
  | .stackSelfRefresh stack => Sys2Proof.Machine.execStackSelfRefresh stack s
  | .linkRetraining port result => Sys2Proof.Machine.execLinkRetraining port result s
  | .flitResend die => Sys2Proof.Machine.execFlitResend die s
  | .noroute tag => Sys2Proof.Machine.execNoroute tag s
  | .bka p => Sys2Proof.Machine.execBka p s
  | .rds p => Sys2Proof.Machine.execRds p s
  | .rdx p => Sys2Proof.Machine.execRdx p s
  | .wb p => Sys2Proof.Machine.execWb p s
  | .snprsp p => Sys2Proof.Machine.execSnprsp p s
  | .agentTimeout line => Sys2Proof.Machine.execAgentTimeout line s
  | .parityError die => Sys2Proof.Machine.execParityError die s

end Sys2Proof.Machine
end

