-- ==== Sys2Proof/Machine/Schedule.lean ====
section
/-! DEFINITION. Which moves are possible, for the steps that the agenda leaves open (DESIGN CHOICE, log entry 1): the threads that may issue, and the
events that something in the state waits for. An event whose time has not come leaves the state as it is. -/

namespace Sys2Proof.Machine

/-- A read of PRST, which a host polls while the package boots (R487, R489). -/
def readsPrst (p : Packet) : Bool :=
  match window p.addr.toNat with
  | .control o => p.opc == 1 && o / 2 ^ 18 == 0x12000000 / 2 ^ 18 && o % 2 ^ 16 == 0x10
  | _ => false

/-- An event may be taken: it is an event, and a package that is not running takes only resets, the end of its boot and reads of PRST. -/
def eventAllowed (s : State) (i : Instr) : Bool :=
  !i.isWord && (s.prst == 2 ||
    match i with
    | .powerOn | .cold _ | .warm _ | .bootDone _ _ => true
    | .rd p => readsPrst p
    | _ => false)

/-- The threads that have their turn, in table order (R225). -/
def readyThreads (s : State) : List ThreadRef :=
  s.cores.flatMap fun e => (e.2.threads.map fun x => ofTid e.1 x.1).filter (hasTurn s)

/-- What an access in flight may wait for. -/
def accessEvents (a : Access) : List Instr :=
  match a.stage with
  | .coal | .checked => [.acceptanceReturn a.id]
  | .reply _ => [.fillReply a.id]
  | .acked => [.storeAck a.id, .accessPortDone a.t]
  | .landing => [.deferredResultLand a.id, .qldDataArrive a.id, .tileLoadDone a.id, .cbldDone a.id, .accessPortDone a.t]
  | _ => []

/-- What a home may wait for. -/
def homeEvents (line : Nat) (h : Home) : List Instr :=
  (if h.queue.isEmpty && h.act.isNone then [] else [.homeRequest line]) ++
    h.resv.flatMap fun x => [.reservationGrant line x.word, .forwardWord line x.word]

/-- What a die may wait for. -/
def dieEvents (n : Nat) (d : Die) : List Instr :=
  d.inbox.flatMap (fun m =>
    let home := m.line / 2 ^ 24
    [.invalidate n home, .recallWords n home, .recallAndDiscard n home]) ++
  (d.coal.filter fun e => e.walking).map (fun e => .tableWalk n e.index) ++
  (if d.batches.isEmpty then [] else [.groupPlace n]) ++
  (d.l2.filter fun e => e.2.st == .leased).map fun e => .leaseExpiry (.l2 n) e.1

/-- What a bank may wait for. -/
def bankEvents (core n : Nat) (b : Bank) : List Instr :=
  (if b.queue.isEmpty && b.net.isEmpty then [] else [.bankOperation core n, .pinAccept core n, .heldWriteProceed core n]) ++
  (if b.alu.isSome then [.bankAluLineStep core n] else []) ++
  (if b.chg.isSome then [.personalityChange core n, .link core n] else [])

/-- What a thread may wait for. -/
def threadEvents (t : ThreadRef) (th : Thread) : List Instr :=
  match th.run with
  | .free => []
  | .ready => if th.susp then [.markerCommit t] else []
  | .parked _ => [.slotWake t, .markerCommit t, .sendAnswer t, .sendRetry t]
  | .departing _ => [.travelDepart t]

/-- What an engine command may wait for. -/
def commandEvents (core n : Nat) (c : Option Cmd) : List Instr :=
  match c with
  | some c => [.acceptanceReturn c.id, .rowStep core n, .traversalHop core n, .engineCompletion core n]
  | none => []

/-- What a core may wait for. -/
def coreEvents (n : Nat) (k : Core) : List Instr :=
  k.threads.flatMap (fun e => threadEvents (ofTid n e.1) e.2) ++
  k.banks.flatMap (fun e => bankEvents n e.1 e.2) ++
  k.cmds.flatMap (fun e => commandEvents n e.1 e.2) ++
  k.mq.map (fun m => .acceptanceReturn m.id) ++
  k.qexp.map (fun e => .quantumExpiry n e.1) ++
  (k.l1.filter fun e => e.2.st == .leased).map (fun e => .leaseExpiry (.l1 n) e.1) ++
  k.berths.flatMap (fun e => [.berthPrefetchDone n e.1]) ++
  (if k.berths.isEmpty then [] else (List.range 8).map fun i => .slotTakesRider n i) ++ (if k.idle then [.coreWake n] else []) ++
  [.matrixStepStart n, .matrixStepEnd n, .mxvAccept n, .mxvEntryReserve n, .qdead n, .messageInsert n, .berthTake n]

/-- Packets that the package has sent to itself come back to it (R19). DEDUCED, log entry 56. -/
def loopEvents (s : State) (p : Packet) : List Instr :=
  if p.dst ≠ s.nid then []
  else
    match p.opc.toNat with
    | 1 => [.rd p] | 2 => [.rdl p] | 3 => [.wr p] | 4 => [.wrd p] | 5 => [.atm p] | 6 => [.bka p]
    | 0x81 => [.data p] | 0x82 => [.ack p] | 0x83 => [.err p]
    | _ => []

/-- What the dispatchers and the package as a whole may wait for. -/
def packageEvents (s : State) : List Instr :=
  s.travels.flatMap (fun x => [.travelArrival x.id, .travelReturn x.id, .spawnArrival x.id]) ++
  (s.clears.map fun c => .clearance c.id) ++
  (s.qdies.map fun e => .copyEngineTurn e.1) ++
  (s.grids.map fun (g : Grid) => .gridComplete g.gid.toNat) ++
  ((List.range s.kills.length).map fun n => .ctxkillComplete n) ++
  (s.xinvs.map fun x => .xinvComplete x.t) ++
  (s.evacs.map fun e => .evacuationComplete e.1) ++
  ((List.range 4).map fun d => .batchHandout d) ++
  [.frontEndPop, .pilotElection, .resyncRecordWritten]

/-- The moves that are possible. DESIGN CHOICE, log entry 1. -/
def candidates (s : State) : List Who :=
  if s.prst = 1 then [.event (.bootDone true 0xFFFF)]
  else if s.prst ≠ 2 then []
  else
    (readyThreads s).map .issue ++
      ((s.inflight.flatMap accessEvents) ++ (s.homes.flatMap fun e => homeEvents e.1 e.2) ++
        (s.dies.flatMap fun e => dieEvents e.1 e.2) ++ (s.cores.flatMap fun e => coreEvents e.1 e.2) ++ packageEvents s ++
        s.sent.flatMap (loopEvents s)).map .event

/-- A free choice among them. DESIGN CHOICE, log entry 1. -/
def chosenMove (s : State) : Option Who :=
  let l := candidates s
  l[Config.choice s.stepNo % l.length]?

end Sys2Proof.Machine
end

