-- ==== Sys2Proof/Machine/Step.lean ====
section
/-! DEFINITION. One step of the package: the next move of the agenda, or, when the agenda is empty, a free choice among the
moves that are possible (Schedule.lean). -/

namespace Sys2Proof.Machine

/-- A thread's turn: its next unit, if it is READY. -/
def issueStep (t : ThreadRef) (s : State) : Host.Outcome State Fault Refusal :=
  match nextAct { s with cur := t } with
  | .exec i s' => exec i s'
  | .state s' => .next s'

/-- A move: a thread issues whose turn it is (R225), or an event happens. An instruction word is no event, and a package that is not
running makes no move but resets and its boot (R487, R489). DESIGN CHOICE, log entry 1. -/
def move (w : Who) (s : State) : Host.Outcome State Fault Refusal :=
  match w with
  | .issue t => if s.prst = 2 ∧ hasTurn s t then issueStep t s else .next s
  | .event i => if eventAllowed s i then exec i s else .next s

/-- One step. DESIGN CHOICE, log entries 1, 2. -/
def step (s : State) : Host.Outcome State Fault Refusal :=
  match s.agenda with
  | m :: rest => move m.who { s with agenda := rest, now := s.now + m.dt, stepNo := s.stepNo + 1 }
  | [] =>
    let s' := { s with now := s.now + Config.elapsed s.stepNo, stepNo := s.stepNo + 1 }
    match chosenMove s' with
    | some w => move w s'
    | none => .next s'

/-- The state with an instruction word placed where the next step fetches: a package that is not yet running is booted, the
word is stored at the pc of the current thread, and that thread issues next. DESIGN CHOICE, log entry 8. -/
def State.withFetchWord (s : State) (_nbits w : Nat) : State :=
  let s := if s.prst = 2 then s else bootState s 0
  let s := placeWord s w
  { s with agenda := ⟨.issue s.cur, 1⟩ :: s.agenda }

end Sys2Proof.Machine
end

