-- ==== Sys2Proof/Safety.lean ====
section
/-! DEFINITION. What counts as a safe state and step, and when a unit issues, in the terms that claims use. -/

namespace Sys2Proof.Machine

/-- Both memories have their canonical form. -/
def State.memOk (s : State) : Bool := s.dram.wf && s.sram.wf

/-- A step goes on. -/
def Goes (s : State) : Prop := ∃ t, step s = .next t

/-- The unit of the current thread issues and its instruction has its own effect: the thread is READY (R183) and its
quantum has not just expired (R224); the unit is legal (R280-R286); an iteration is left (R283); no marker comes first
(R292, R293); fewer than 32 accesses without an entry are unaccepted (R294); what it pops is there, has arrived, and is not
poisoned, and what it pushes has room and no open release fence before it (R115, R116, R162, R197). -/
structure Issues (i : Instr) (s : State) : Prop where
  ready  : canIssue (me s) = true
  quantum : expired s s.cur = false
  legal  : unitLegal s.cur (me s) (me s).desc i = true
  left   : (me s).desc.rep = 0 ∨ (me s).ss.repc.toNat < repCount (me s).desc.rep
  marker : atMarker (me s) i = false
  room   : unaccepted (me s) < 32
  pops   : popsMissing s (me s) i = none
  clean  : popsPoison s (vlqPops s.cur (me s) i) = false

end Sys2Proof.Machine
end

