-- ==== Sys2Proof/Certificates/Slice0/Obligations.lean ====
section
/-! DEFINITION. The statements for the provers. Each `Obligations.<Name>` is one claim about the model; the helpers in
`Sys2Proof.Claims` name what several of them speak of. -/

open Sys2Proof Sys2Proof.Machine

namespace Sys2Proof.Claims

/-! ### Words for what a completed unit leaves -/

/-- The state after a unit of i whose iteration is complete, when what it did is s'. -/
def done (i : Instr) (s s' : State) : State := complete i s s' advance

/-- The state after a unit of i that waits, when what it did so far is s': its thread is PARKED on w and keeps the entries that the unit
popped from its core's inbound queue (R183, R197). -/
def waiting (i : Instr) (s s' : State) (w : Park) : State := park (latchPops s' (chainPops (me s) i)) w

/-- The state after a unit that wrote g[d] := v at issue (R291). -/
def resultG (i : Instr) (s : State) (d : Reg) (v : Word) : State := done i s (putG s d v)

/-- An instruction with two g sources a and b that writes d := f(a, b). -/
def Binary (c : Mark → Reg → Reg → Reg → Instr) (f : Word → Word → Word) : Prop :=
  ∀ m d a b s, Issues (c m d a b) s →
    exec (c m d a b) s =
      .next (resultG (c m d a b) s d (f (srcG s (c m d a b) .a a.toNat) (srcG s (c m d a b) .b b.toNat)))

/-- An instruction with one g source that writes d := f(a). -/
def Unary (c : Mark → Reg → Reg → Instr) (f : Word → Word) : Prop :=
  ∀ m d a s, Issues (c m d a) s →
    exec (c m d a) s = .next (resultG (c m d a) s d (f (srcG s (c m d a) .a a.toNat)))

/-- An instruction with an immediate of n bits that writes d := f(a, imm). -/
def Immediate {n : Nat} (c : Mark → Reg → Reg → BitVec n → Instr) (f : Word → BitVec n → Word) : Prop :=
  ∀ m d a k s, Issues (c m d a k) s →
    exec (c m d a k) s = .next (resultG (c m d a k) s d (f (srcG s (c m d a k) .a a.toNat) k))

/-- The width of SEXT by its b field (R299): 8, 16 or 32 bits. -/
def sextBits (b : Reg) : Nat := if b = 0 then 8 else if b = 1 then 16 else 32

end Sys2Proof.Claims

open Sys2Proof.Claims

/-! ## Words and steps -/

/-- Every well-formed word instruction has a word, and that word decodes to it. -/
def Obligations.DecodeOfEncodeIsTheInstruction : Prop :=
  ∀ i : Instr, i.isWord = true → ∃ w, encode i = some w ∧ decode w = .ok i

/-- A word that the decoder reads is the word of what it reads: no bit of it is dropped. -/
def Obligations.EncodeOfDecodeIsTheWord : Prop :=
  ∀ (w : IWord) (i : Instr), decode w = .ok i → encode i = some w

/-- The words of the worked program of chapter 13, and its example of R302. -/
def Obligations.WorkedProgramWordsDecode : Prop :=
  decode 0x0A307FF9 = .ok (.addi false 3 0 (-7)) ∧
  decode 0x14519004 = .ok (.divu false 5 3 4) ∧
  decode 0x14619005 = .ok (.rem false 6 3 4) ∧
  decode 0x1A488C00 = .ok (.cmpi false 2 1 1 3 0) ∧
  decode 0x08300C01 = .ok (.sub false 3 0 3) ∧
  decode 0x20100002 = .ok (.jal false 1 2) ∧
  decode 0x36000002 = .ok (.exit false) ∧
  decode 0x12318001 = .ok (.shli false 3 3 1) ∧
  decode 0x22008000 = .ok (.jr false 1) ∧
  decode 0x1242001C = .ok (.shli false 4 4 28)

namespace Sys2Proof.Claims

/-- The turn of t begins: the agenda goes on, and time. With PP = 0 a prefix descriptor or a REPC that the thread holds means nothing and
is dropped (R186, R287). -/
def turnOf (s : State) (t : ThreadRef) (dt : Nat) (rest : List Move) : State :=
  let s1 := { s with agenda := rest, now := s.now + dt, stepNo := s.stepNo + 1, cur := t }
  let th := threadAt s t
  if th.ss.pp = false ∧ (th.desc ≠ ⟨0, 0⟩ ∨ th.ss.repc ≠ 0) then
    modThread s1 t fun th => { th with desc := ⟨0, 0⟩, ss := { th.ss with repc := 0 } }
  else s1

/-- A precise fault of the thread waits for the marker steps: a failed fetch, or a fault of its unit (R297, R309). -/
def fetchFailed (th : Thread) : Prop := ∃ f, th.prog = .faulted f

end Sys2Proof.Claims

/-- A step runs the decoded unit: when it is a READY thread's turn and the word at its next unit word decodes to i, the step
is exec of i, after the fetch. -/
def Sys2Proof.Claims.StepRunsTheUnit : Prop :=
  ∀ (s s' : State) (t : ThreadRef) (dt : Nat) (rest : List Move) (w : IWord) (i : Instr),
    let th := threadAt s t
    let prefixes := if th.ss.pp then b01 (th.desc.fmt != 0) + b01 (th.desc.rep != 0) else 0
    s.agenda = ⟨.issue t, dt⟩ :: rest → s.prst = 2 → hasTurn s t = true → th.ss.skp = 0 → ¬fetchFailed th →
    th.ss.priv ≠ 3 → (th.ss.pp = true → descValid th = true) →
    fetchWord (turnOf s t dt rest) ((th.pc.toNat + 4 * prefixes) % 2 ^ 64) = .word w s' → decode w = .ok i →
    step s = exec i s'

/-- Issue rotates over the deck slots (R206, R225): of the READY slots the first one after the slot that issued last has the turn, and
a unit that completes makes its slot the one that issued last. A quay thread has its turn whenever it is READY. -/
def Sys2Proof.Claims.TurnsRotate : Prop :=
  (∀ (s : State) (core k : Nat), k < 7 → (∀ n < 7, expired s ⟨core, n, 0⟩ = false) →
    let slotAfter := fun j => ((coreAt s core).rr + 1 + j) % 7
    (hasTurn s ⟨core, slotAfter k, 0⟩ = true ↔
      canIssue (threadAt s ⟨core, slotAfter k, 0⟩) = true ∧ ∀ j < k, canIssue (threadAt s ⟨core, slotAfter j, 0⟩) = false)) ∧
  (∀ (i : Instr) (s s' : State), s'.cur = s.cur → s.cur.slot < 7 → (coreAt (done i s s') s.cur.core).rr = s.cur.slot) ∧
  (∀ (s : State) (core th : Nat), expired s ⟨core, 7, th⟩ = false →
    (hasTurn s ⟨core, 7, th⟩ = true ↔ canIssue (threadAt s ⟨core, 7, th⟩) = true)) ∧
  (∀ (s : State) (t : ThreadRef) (dt : Nat) (rest : List Move), s.agenda = ⟨.issue t, dt⟩ :: rest → hasTurn s t = false →
    step s = .next { s with agenda := rest, now := s.now + dt, stepNo := s.stepNo + 1 })

/-- A step runs the decoded unit of the thread whose turn it is, and the turns of a core's deck slots rotate (R206, R225).
The model's own choices of log entries 1, 2 enter it. -/
def Obligations.StepRunsTheDecodedInstruction : Prop := Sys2Proof.Claims.StepRunsTheUnit ∧ Sys2Proof.Claims.TurnsRotate

/-- A step performs the event that the agenda names. -/
def Sys2Proof.Claims.StepPerformsTheEvent : Prop :=
  ∀ (s : State) (i : Instr) (dt : Nat) (rest : List Move),
    s.agenda = ⟨.event i, dt⟩ :: rest → i.isWord = false → s.prst = 2 →
    step s = exec i { s with agenda := rest, now := s.now + dt, stepNo := s.stepNo + 1 }

/-- A word that no instruction has makes its thread's step an ILL fault at the unit (R280, R297). -/
def Sys2Proof.Claims.UndefinedWordFaultsIll : Prop :=
  ∀ (s s' : State) (t : ThreadRef) (dt : Nat) (rest : List Move) (w : IWord) (e : DecodeError),
    let th := threadAt s t
    s.agenda = ⟨.issue t, dt⟩ :: rest → s.prst = 2 → hasTurn s t = true → th.ss.skp = 0 → ¬fetchFailed th → th.ss.pp = false →
    th.ss.priv ≠ 3 →
    fetchWord (turnOf s t dt rest) (th.pc.toNat % 2 ^ 64) = .word w s' → decode w = .error e →
    step s = .next (preciseFault s' .ill 0 0 none)

/-- The turn of a thread whose precise fault waited for the marker steps takes that fault (R297). -/
def Sys2Proof.Claims.KeptFaultIsTaken : Prop :=
  ∀ (s : State) (t : ThreadRef) (dt : Nat) (rest : List Move) (f : FaultInfo),
    s.agenda = ⟨.issue t, dt⟩ :: rest → s.prst = 2 → hasTurn s t = true → (threadAt s t).prog = .faulted f →
    step s = .next (takeFault (modThread (turnOf s t dt rest) t fun th => { th with prog := .none }) t f)

/-- No step stops the package: whatever the state, a step answers a next state (R426, R427: a fault freezes a thread, and the
machine goes on). -/
def Sys2Proof.Claims.NoStepStopsThePackage : Prop := ∀ s : State, ∃ t, step s = .next t

/-- The steps that issue no unit: an event of the agenda is performed, a word that no instruction has faults ILL, a precise fault that waited
for the marker steps is taken, and no step stops the package (R280, R297, R426, R427).
The model's own choices of log entries 1, 2 enter it. -/
def Obligations.StepsThatRunNoInstruction : Prop :=
  Sys2Proof.Claims.StepPerformsTheEvent ∧ Sys2Proof.Claims.UndefinedWordFaultsIll ∧ Sys2Proof.Claims.KeptFaultIsTaken ∧
  Sys2Proof.Claims.NoStepStopsThePackage

/-- Every step keeps both memories in their canonical form. -/
def Obligations.StepKeepsMemoryCanonical : Prop :=
  ∀ s t : State, s.memOk = true → step s = .next t → t.memOk = true

/-- The package after power-on (R488), and the canonical form of its memories.
The model's own choices of log entries 6, 11, 60 enter it. -/
def Obligations.ResetValues : Prop :=
  State.reset.memOk = true ∧ State.reset.prst = 1 ∧
  (∀ a, rdByte State.reset.dram a = 0) ∧
  (∀ c, (coreAt State.reset c).carveK = 0 ∧ (coreAt State.reset c).lease = 0x1000 ∧ (coreAt State.reset c).seed = 0 ∧
    (coreAt State.reset c).ctxid = 0 ∧ (coreAt State.reset c).tvec = 0) ∧
  (∀ t, (threadAt State.reset t).run = .free)

/-! ## Registers -/

/-- g0 reads zero and a write of it changes nothing; any other register reads as written, and only it (R270). -/
def Sys2Proof.Claims.RegisterZeroIsZero : Prop :=
  ∀ (th : Thread) (r r' : Nat) (v : Word),
    rdG th 0 = 0 ∧ wrG th 0 v = th ∧ (r ≠ 0 → rdG (wrG th r v) r = v) ∧ (r' ≠ r → rdG (wrG th r v) r' = rdG th r')

/-- A predicate write sets its bit of pw and no other (R186, R305). -/
def Sys2Proof.Claims.PredicateWriteSetsOneBit : Prop :=
  ∀ (th : Thread) (k : Nat) (b : Bool), k < 16 →
    rdQ (wrQ th k b) k = b ∧ ∀ j, j < 32 → j ≠ 16 + k → (wrQ th k b).pw.getLsbD j = th.pw.getLsbD j

/-- The status word of a thread gives its fields back (R186): the rider fields of SS, and pw. -/
def Sys2Proof.Claims.StatusWordHoldsItsFields : Prop :=
  ∀ th : Thread, statusOfWord (statusWord th) = th.ss ∧ (statusWord th).extractLsb' 0 32 = th.pw

/-- g registers, predicates and the status word read as they were written (R186, R270, R305). -/
def Obligations.RegistersReadAsWritten : Prop :=
  Sys2Proof.Claims.RegisterZeroIsZero ∧ Sys2Proof.Claims.PredicateWriteSetsOneBit ∧ Sys2Proof.Claims.StatusWordHoldsItsFields

/-- An iteration that completes goes on to the next one while the REP count is not reached; then the pc is at the next unit,
with PP and REPC 0 and no prefix (R283, R287). -/
def Sys2Proof.Claims.AdvanceGoesToTheNextUnit : Prop :=
  ∀ th : Thread,
    (th.desc.rep ≠ 0 → th.ss.repc.toNat + 1 < repCount th.desc.rep →
      (advance th).ss.repc = th.ss.repc + 1 ∧ (advance th).pc = th.pc ∧ (advance th).desc = th.desc) ∧
    ((th.desc.rep = 0 ∨ repCount th.desc.rep ≤ th.ss.repc.toNat + 1) →
      (advance th).pc = th.pc + 4 + (if th.desc.fmt = 0 then 0 else 4) + (if th.desc.rep = 0 then 0 else 4) ∧
      (advance th).ss.pp = false ∧ (advance th).ss.repc = 0 ∧ (advance th).desc = ⟨0, 0⟩) ∧
    (advance th).g = th.g ∧ (advance th).v = th.v ∧ (advance th).pw = th.pw ∧ (advance th).ss.flags = th.ss.flags ∧
    (advance th).ss.priv = th.ss.priv

/-- What `complete` does to the rest of the machine: it adds no register, flag or memory effect of its own, but the flags of
popped load-queue entries (R114, R283, R287). The accesses that the unit began, but for loads, wait for the results that its registers
await (R175); no other access changes. -/
def Sys2Proof.Claims.CompletionChangesOnlyProgress : Prop :=
  ∀ (i : Instr) (s s' : State), s'.cur = s.cur → vlqPops s.cur (me s) i = 0 →
    let t := complete i s s' advance
    t.dram = s'.dram ∧ t.sram = s'.sram ∧ t.llc = s'.llc ∧ t.homes = s'.homes ∧ t.cur = s.cur ∧
    (awaited (me s) i = [] → t.inflight = s'.inflight) ∧
    (awaited (me s) i ≠ [] → t.inflight = s'.inflight.map fun a =>
      if a.kind ≠ .load ∧ ∀ x ∈ s.inflight, x.id ≠ a.id then { a with after := awaited (me s) i } else a) ∧
    (∀ r, rdG (me t) r = rdG (me s') r) ∧ (∀ r, rdV (me t) r = rdV (me s') r) ∧
    (me t).pw = (me s').pw ∧ (me t).ss.flags = (me s').ss.flags ∧ (me t).ss.bst = (me s').ss.bst ∧
    (me t).ss.priv = (me s').ss.priv ∧ (me t).outs = (me s').outs ∧ (me t).pc = (advance (me s')).pc ∧
    (∀ x, (x.core ≠ s.cur.core ∨ tid x ≠ tid s.cur) → threadAt t x = threadAt s' x)

/-- The end of a unit: where the pc goes, and that nothing else changes (R283, R287). -/
def Obligations.CompletionOfAUnit : Prop :=
  Sys2Proof.Claims.AdvanceGoesToTheNextUnit ∧ Sys2Proof.Claims.CompletionChangesOnlyProgress

/-! ## Integer instructions -/

/-- R300, whole: the results of the register-register group. -/
def Sys2Proof.Claims.IntegerRegisterResults : Prop :=
  Binary .add (fun x y => x + y) ∧ Binary .sub (fun x y => x - y) ∧ Binary .and (fun x y => x &&& y) ∧
  Binary .or (fun x y => x ||| y) ∧ Binary .xor (fun x y => x ^^^ y) ∧ Binary .andn (fun x y => x &&& ~~~y) ∧
  Binary .shl (fun x y => x <<< (y.toNat % 64)) ∧ Binary .shr (fun x y => x >>> (y.toNat % 64)) ∧
  Binary .sra (fun x y => x.sshiftRight (y.toNat % 64)) ∧
  Binary .min (fun x y => if x.toInt ≤ y.toInt then x else y) ∧
  Binary .max (fun x y => if x.toInt ≤ y.toInt then y else x) ∧
  Binary .minu (fun x y => if x.toNat ≤ y.toNat then x else y) ∧
  Binary .maxu (fun x y => if x.toNat ≤ y.toNat then y else x) ∧
  Unary .clz (fun x => word ((List.range 64).findIdx fun k => x.getLsbD (63 - k))) ∧
  Unary .ctz (fun x => word ((List.range 64).findIdx fun k => x.getLsbD k)) ∧
  Unary .popc (fun x => word ((List.range 64).countP fun k => x.getLsbD k)) ∧
  (∀ m d a b s, Issues (.sext m d a b) s →
    exec (.sext m d a b) s = .next (resultG (.sext m d a b) s d
      (BitVec.ofInt 64 ((srcG s (.sext m d a b) .a a.toNat).extractLsb' 0 (sextBits b)).toInt)))

/-- R301-R303, whole: the immediates, the shifts by a constant and LUI. -/
def Sys2Proof.Claims.IntegerImmediateResults : Prop :=
  Immediate .addi (fun x k => x + BitVec.ofInt 64 k.toInt) ∧ Immediate .andi (fun x k => x &&& BitVec.ofInt 64 k.toInt) ∧
  Immediate .ori (fun x k => x ||| BitVec.ofInt 64 k.toInt) ∧ Immediate .xori (fun x k => x ^^^ BitVec.ofInt 64 k.toInt) ∧
  Immediate .shli (fun x k => x <<< k.toNat) ∧ Immediate .shri (fun x k => x >>> k.toNat) ∧
  Immediate .srai (fun x k => x.sshiftRight k.toNat) ∧
  (∀ m d k s, Issues (.lui m d k) s →
    exec (.lui m d k) s = .next (resultG (.lui m d k) s d (BitVec.ofInt 64 (k.toInt * 4096))))

/-- R300-R303, whole: the integer results of the register and the immediate forms. -/
def Obligations.IntegerResults : Prop :=
  Sys2Proof.Claims.IntegerRegisterResults ∧ Sys2Proof.Claims.IntegerImmediateResults

/-- R304, whole: products as their 128 bits, quotients truncated toward zero, and the corners of the table. -/
def Obligations.MultiplyDivideResults : Prop :=
  Binary .mul (fun x y => x * y) ∧
  Binary .mulh (fun x y => ((x.signExtend 128) * (y.signExtend 128)).extractLsb' 64 64) ∧
  Binary .mulhu (fun x y => ((x.setWidth 128) * (y.setWidth 128)).extractLsb' 64 64) ∧
  Binary .div (fun x y => if y = 0 then BitVec.allOnes 64 else x.sdiv y) ∧
  Binary .divu (fun x y => if y = 0 then BitVec.allOnes 64 else x / y) ∧
  Binary .rem (fun x y => if y = 0 then x else x - y * x.sdiv y) ∧
  Binary .remu (fun x y => if y = 0 then x else x % y)

/-! ## Scalar floating point -/

namespace Sys2Proof.Claims

/-- The format that P selects, and an operand as it is read (R310). -/
def formatOf (p : BitVec 1) : FloatFmt := if p = 0 then fmt32 else fmt64
def operandOf (p : BitVec 1) (w : Word) : Nat := if p = 0 then w.toNat % 2 ^ 32 else w.toNat

/-- The state after a unit that wrote the result x of a scalar floating-point operation to d, zero-extended, and ORed its flags
into SS (R240, R310). -/
def resultF (i : Instr) (s : State) (d : Reg) (x : Nat × BitVec 5) : State :=
  done i s (modMe (putG s d (word x.1)) fun th => { th with ss := { th.ss with flags := th.ss.flags ||| x.2 } })

/-- A scalar floating-point instruction of two operands. -/
def FloatTwo (c : Mark → Reg → Reg → Reg → BitVec 1 → Instr) (op : FloatFmt → Rounding → Nat → Nat → Nat × BitVec 5) : Prop :=
  ∀ m d a b p s, Issues (c m d a b p) s →
    exec (c m d a b p) s = .next (resultF (c m d a b p) s d
      (op (formatOf p) (roundingOf (me s).ss.rnd) (operandOf p (srcG s (c m d a b p) .a a.toNat))
        (operandOf p (srcG s (c m d a b p) .b b.toNat))))

/-- The truth of an FCMP or VCMP condition on two FP codes (R312). -/
def floatHolds (f : FloatFmt) (x a b : Nat) : Bool :=
  match x with
  | 0 => fpEqual f a b
  | 1 => !fpEqual f a b
  | 2 => fpLess f a b
  | 3 => fpLess f a b || fpEqual f a b
  | _ => (f.read a).isNan || (f.read b).isNan

/-- Its flag: NV for a signalling NaN, and for any NaN under lt and le (R312). -/
def floatFlags (f : FloatFmt) (x a b : Nat) : BitVec 5 :=
  if (f.read a).isSig || (f.read b).isSig || ((x == 2 || x == 3) && ((f.read a).isNan || (f.read b).isNan)) then 16 else 0

/-- The four floating-point formats with infinities and FP8 E4M3. -/
def formats : List FloatFmt := [fmt64, fmt32, fmt16, fmtB16, fmtE4, fmtE5]

end Sys2Proof.Claims

/-- The scalar floating-point instructions write d and OR their flags, at issue, in the slot's rounding (R310-R313). -/
def Obligations.ScalarFloatResults : Prop :=
  FloatTwo .fadd fpAdd ∧ FloatTwo .fsub fpSub ∧ FloatTwo .fmul fpMul ∧ FloatTwo .fdiv fpDiv ∧
  FloatTwo .fmin (fun f _ => fpMinMax f false) ∧ FloatTwo .fmax (fun f _ => fpMinMax f true) ∧
  (∀ m d a b p s, Issues (.fma m d a b p) s →
    exec (.fma m d a b p) s = .next (resultF (.fma m d a b p) s d
      (fpFma (formatOf p) (roundingOf (me s).ss.rnd) (operandOf p (srcG s (.fma m d a b p) .a a.toNat))
        (operandOf p (srcG s (.fma m d a b p) .b b.toNat)) (operandOf p (srcG s (.fma m d a b p) .d d.toNat))))) ∧
  (∀ m d a p s, Issues (.fsqrt m d a p) s →
    exec (.fsqrt m d a p) s = .next (resultF (.fsqrt m d a p) s d
      (fpSqrt (formatOf p) (roundingOf (me s).ss.rnd) (operandOf p (srcG s (.fsqrt m d a p) .a a.toNat))))) ∧
  (∀ m d a b x p s, Issues (.fcmp m d a b x p) s →
    let u := operandOf p (srcG s (.fcmp m d a b x p) .a a.toNat)
    let v := operandOf p (srcG s (.fcmp m d a b x p) .b b.toNat)
    exec (.fcmp m d a b x p) s = .next (done (.fcmp m d a b x p) s
      (modMe (putQ s d.toNat (floatHolds (formatOf p) x.toNat u v)) fun th =>
        { th with ss := { th.ss with flags := th.ss.flags ||| floatFlags (formatOf p) x.toNat u v } }))) ∧
  (∀ m d a x p s, Issues (.fcvt m d a x p) s →
    let fa := (fmtOf (me s).desc).fa
    let src := if fa ≠ 0 then fa else if p = 0 then 1 else 14
    let r := convert src x.toNat (roundingOf (me s).ss.rnd) ((srcG s (.fcvt m d a x p) .a a.toNat).toNat % 2 ^ codeBits src)
    let v : Word := match intOf x.toNat with
      | some (true, w) => BitVec.ofInt 64 (signed w r.1)
      | _ => word r.1
    exec (.fcvt m d a x p) s = .next (done (.fcvt m d a x p) s
      (modMe (putG s d v) fun th => { th with ss := { th.ss with flags := th.ss.flags ||| r.2 } })))

/-- The special values of R228 and R311: a NaN operand gives the canonical NaN, with NV exactly for a signalling one; the
invalid cases; a finite number over zero. -/
def Obligations.FloatSpecialValues : Prop :=
  ∀ (f : FloatFmt) (r : Rounding) (x y : Nat), f = fmt32 ∨ f = fmt64 →
    ((f.read x).isNan ∨ (f.read y).isNan →
      let nv : BitVec 5 := if (f.read x).isSig || (f.read y).isSig then 16 else 0
      fpAdd f r x y = (f.nan, nv) ∧ fpSub f r x y = (f.nan, nv) ∧ fpMul f r x y = (f.nan, nv) ∧
      fpDiv f r x y = (f.nan, nv) ∧ fpMinMax f false x y = (f.nan, nv) ∧ fpMinMax f true x y = (f.nan, nv)) ∧
    ((f.read x).isNan → fpSqrt f r x = (f.nan, if (f.read x).isSig then 16 else 0)) ∧
    fpAdd f r f.inf (f.sign true + f.inf) = (f.nan, 16) ∧ fpSub f r f.inf f.inf = (f.nan, 16) ∧
    fpMul f r 0 f.inf = (f.nan, 16) ∧ fpDiv f r 0 0 = (f.nan, 16) ∧ fpDiv f r f.inf f.inf = (f.nan, 16) ∧
    (∀ n m e, f.read x = .fin n m e → m ≠ 0 → fpDiv f r x 0 = (f.sign n + f.inf, 8)) ∧
    (∀ m e, f.read x = .fin true m e → m ≠ 0 → fpSqrt f r x = (f.nan, 16)) ∧
    fpSqrt f r (f.sign true) = (f.sign true, 0) ∧
    fpAdd f r 0 (f.sign true) = (if r = .rdn then f.sign true else 0, 0)

/-- A value that a format holds is rounded to itself, without flags, in every rounding mode: the reading of a code and its
writing agree for all six formats (R226, R227, R236). -/
def Obligations.RepresentableValuesRoundExactly : Prop :=
  ∀ f ∈ formats, ∀ (r : Rounding) (v : Nat), v < 2 ^ f.bits → (f.read v).isNan = false → pack f r (f.read v) = (v, 0)

/-! ## Compares, branches and traps -/

namespace Sys2Proof.Claims

/-- COND of R305. -/
def condHolds (c : Nat) (x y : Word) : Bool :=
  match c with
  | 0 => decide (x = y)
  | 1 => decide (x ≠ y)
  | 2 => decide (x.toInt < y.toInt)
  | 3 => decide (x.toInt ≥ y.toInt)
  | 4 => decide (x.toNat < y.toNat)
  | _ => decide (x.toNat ≥ y.toNat)

/-- A compare whose condition holds, or whose SKIP is 0, writes its predicate; otherwise, from its next unit on, the units that
SKIP counts are annulled (R288, R305). -/
def Compares (i : Instr) (s : State) (t : Bool) (p : BitVec 4) (k : BitVec 2) : Prop :=
  ((t = true ∨ k = 0) → exec i s = .next (done i s (putQ s p.toNat t))) ∧
  (t = false → k ≠ 0 →
    let pc := (me s).pc.toNat + 4
    let x := annul (modMe (putQ s p.toNat false) fun th => goTo th (pc % 2 ^ 64)) k.toNat (pc % 2 ^ 64)
    exec i s = .next (complete i s x fun th => goTo th (me x).pc.toNat))

/-- The unit transfers control: the pc is at the target, no prefix is left, and registers, flags, privilege and memory are as
they are in s' (R306-R309). -/
def JumpsTo (i : Instr) (s s' : State) (target : Word) : Prop :=
  ∃ t, exec i s = .next t ∧ (me t).pc = target ∧ (me t).desc = ⟨0, 0⟩ ∧ (me t).ss.repc = 0 ∧ (me t).ss.pp = false ∧
    (∀ r, rdG (me t) r = rdG (me s') r) ∧ (me t).pw = (me s').pw ∧ (me t).ss.flags = (me s').ss.flags ∧
    (me t).ss.priv = (me s').ss.priv ∧ t.dram = s.dram ∧ t.sram = s.sram

end Sys2Proof.Claims

/-- R305, whole: the predicate that CMP and CMPI write, and the units that a false compare annuls. -/
def Obligations.CompareResults : Prop :=
  (∀ m c k p a b s, Issues (.cmp m c k p a b) s →
    Compares (.cmp m c k p a b) s
      (condHolds c.toNat (srcG s (.cmp m c k p a b) .a a.toNat) (srcG s (.cmp m c k p a b) .b b.toNat)) p k) ∧
  (∀ m c k p a (y : BitVec 10) s, Issues (.cmpi m c k p a y) s →
    Compares (.cmpi m c k p a y) s (condHolds c.toNat (srcG s (.cmpi m c k p a y) .a a.toNat) (BitVec.ofInt 64 y.toInt)) p k)

/-- R306-R308: the targets of branches and jumps, the link register, and ALIGN for a target that is no multiple of 4. -/
def Sys2Proof.Claims.BranchAndJumpResults : Prop :=
  (∀ m q (d : BitVec 20) s, Issues (.bt m q d) s →
    JumpsTo (.bt m q d) s s ((me s).pc + (if (me s).pw.getLsbD (16 + q.toNat) then BitVec.ofInt 64 (4 * d.toInt) else 4))) ∧
  (∀ m q (d : BitVec 20) s, Issues (.bf m q d) s →
    JumpsTo (.bf m q d) s s ((me s).pc + (if (me s).pw.getLsbD (16 + q.toNat) then 4 else BitVec.ofInt 64 (4 * d.toInt)))) ∧
  (∀ m (d : BitVec 25) s, Issues (.j m d) s → JumpsTo (.j m d) s s ((me s).pc + BitVec.ofInt 64 (4 * d.toInt))) ∧
  (∀ m d (k : BitVec 20) s, Issues (.jal m d k) s →
    JumpsTo (.jal m d k) s (putG s d ((me s).pc + 4)) ((me s).pc + BitVec.ofInt 64 (4 * k.toInt))) ∧
  (∀ m a s, Issues (.jr m a) s →
    let x := srcG s (.jr m a) .a a.toNat
    (x.toNat % 4 = 0 → JumpsTo (.jr m a) s s x) ∧
    (x.toNat % 4 ≠ 0 → exec (.jr m a) s = .next (preciseFault s .align 0 0 (some x.toNat)))) ∧
  (∀ m d a s, Issues (.jalr m d a) s →
    let x := srcG s (.jalr m d a) .a a.toNat
    (x.toNat % 4 = 0 → JumpsTo (.jalr m d a) s (putG s d ((me s).pc + 4)) x) ∧
    (x.toNat % 4 ≠ 0 → exec (.jalr m d a) s = .next (preciseFault s .align 0 0 (some x.toNat))))

/-- NOP only goes on; BRK freezes its slot with its code in the packet (R314, R315). -/
def Sys2Proof.Claims.NopAndBreak : Prop :=
  (∀ s, Issues .nop s → exec .nop s = .next (done .nop s s)) ∧
  (∀ m c s, Issues (.brk m c) s → (me s).outs = [] →
    ∃ t, exec (.brk m c) s = .next t ∧
      (me t).froz = true ∧ (me t).fault = ⟨some .brk, 0, true, 0, c.toNat, false, false, (me s).pc.toNat⟩ ∧
      (me t).pc = (me s).pc ∧ (me t).g = (me s).g ∧ (me t).ss = (me s).ss)

/-- R316: what TRAP saves and where it goes, and its two faults. A pc is a multiple of 4 (R269), so the old privilege stands in
bits 1:0 of g24. -/
def Obligations.TrapEntersTheHandler : Prop :=
  ∀ m (c : BitVec 8) s, Issues (.trap m c) s →
    let i := Instr.trap m c
    let p := (me s).ss.priv
    ((myCore s).tvec.getLsbD 0 = false → exec i s = .next (preciseFault s .priv 0 0 none)) ∧
    ((myCore s).tvec.getLsbD 0 = true → p = 3 → exec i s = .next (preciseFault s .ill 0 0 none)) ∧
    ((myCore s).tvec.getLsbD 0 = true → p ≠ 3 →
      ∃ t, exec i s = .next t ∧
        rdG (me t) 24 = (me s).pc + 4 + p.setWidth 64 ∧
        (me t).ss.priv = (if p = 0 then 1 else p) ∧
        (me t).pc = ((myCore s).tvec &&& 0x00FFFFFFFFFFF000) + 16 * c.setWidth 64 ∧
        (∀ r, r ≠ 24 → rdG (me t) r = rdG (me s) r) ∧ (me t).v = (me s).v ∧ (me t).pw = (me s).pw ∧
        (me t).rid = (me s).rid ∧ (me t).ss.ns = (me s).ss.ns ∧ (me t).ss.flags = (me s).ss.flags ∧
        t.dram = s.dram ∧ t.sram = s.sram)

/-- R317: what ERET restores, and its three faults. -/
def Obligations.EretReturnsFromTheHandler : Prop :=
  ∀ m s, Issues (.eret m) s →
    let i := Instr.eret m
    let p := (me s).ss.priv
    let w := rdG (me s) 24
    let q := w.extractLsb' 0 2
    (p = 0 → exec i s = .next (preciseFault s .priv 0 0 none)) ∧
    (p ≠ 0 → q = 3 → exec i s = .next (preciseFault s .ill 0 0 none)) ∧
    (p ≠ 0 → q ≠ 3 → p.toNat < q.toNat → exec i s = .next (preciseFault s .priv 0 0 none)) ∧
    (p ≠ 0 → q ≠ 3 → q.toNat ≤ p.toNat →
      ∃ t, exec i s = .next t ∧ (me t).ss.priv = q ∧ (me t).pc = w &&& ~~~3 ∧ (∀ r, rdG (me t) r = rdG (me s) r) ∧
        (me t).v = (me s).v ∧ (me t).pw = (me s).pw ∧ (me t).ss.flags = (me s).ss.flags ∧ t.dram = s.dram ∧ t.sram = s.sram)

/-- Taking a precise fault (R297, R427, R429): with nothing outstanding the thread is FROZEN with its registers, pc and SS as
they stand and its record says which fault; no byte of memory and no other thread changes. With results outstanding the
thread first waits at a marker, and the fault is kept for it. Entries that its unit had popped go back to the head of the core's
inbound queue (R197).
The model's own choices of log entries 23 enter it. -/
def Obligations.PreciseFaultFreezesTheThread : Prop :=
  ∀ (s : State) (c : FaultClass) (cause detail : Nat) (addr : Option Nat),
    let t := preciseFault s c cause detail addr
    let f : FaultInfo := ⟨some c, cause, true, 0, detail, false, false, addr.getD (me s).pc.toNat⟩
    ((me s).outs = [] → (me t) = { me s with froz := true, fault := f, popped := [], claim := false }) ∧
    ((me s).outs ≠ [] → (me t) = { me s with run := .parked .marker, prog := .faulted f, popped := [], claim := false }) ∧
    (myCore t).chain = (me s).popped ++ (myCore s).chain ∧
    t.dram = s.dram ∧ t.sram = s.sram ∧
    (∀ x, (x.core ≠ s.cur.core ∨ tid x ≠ tid s.cur) → threadAt t x = threadAt s x)

/-! ## System registers -/

namespace Sys2Proof.Claims

/-- The value of system register n for the current thread (R318). -/
def registerValue (s : State) (n : Nat) : Word :=
  let th := me s
  let k := myCore s
  if n = 0 then statusWord th
  else if n = 1 then BitVec.ofNat 64 (th.rid.toNat + 2 ^ 32 * th.gid.toNat)
  else if n = 2 then BitVec.ofNat 64 (s.cur.core + 2 ^ 10 * s.cur.slot + (if isArith s.cur then 2 ^ 13 else 0))
  else if n = 3 then BitVec.ofNat 64 s.now + k.cycleOff
  else if n = 4 then BitVec.ofNat 64 (aget 0 k.qntm s.cur.slot).toNat
  else if n = 8 then k.tvec
  else if n = 0x10 then k.ctxid
  else if n = 0x11 then
    BitVec.ofNat 64 (k.carveK + (if k.carveBusy.isSome then 2 ^ 14 else 0) + (if k.carveRef then 2 ^ 15 else 0))
  else if n = 0x12 then BitVec.ofNat 64 k.lease.toNat
  else if n = 0x13 then k.seed
  else if n = 0x14 then BitVec.ofNat 64 (k.cbtOwner.toNat + (if k.cbtV then 2 ^ 32 else 0))
  else if n = 0x15 then vpoolWord s (quadOf s.cur.core)
  else if n = 0x16 then 0
  else if n < 0x40 then bpcfgWord s s.cur.core (n - 0x20)
  else BitVec.ofNat 64 (aget 0 k.srt (n - 0x40)).toNat

/-- The rights of R318: any privilege, kernel, kernel slot or supervisor, supervisor. -/
def kernelUp (s : State) : Bool := decide (1 ≤ (me s).ss.priv.toNat)
def kernelSlotUp (s : State) : Bool := isKernelSlot s s.cur || decide ((me s).ss.priv = 2)
def readable (s : State) (n : Nat) : Bool :=
  if n ≤ 4 ∨ n = 0x16 then true else if n = 0x15 ∨ 0x20 ≤ n then kernelSlotUp s else kernelUp s
def writable (s : State) (n : Nat) : Bool :=
  if n ≤ 4 then (if n = 3 then decide ((me s).ss.priv = 2) else true)
  else if n = 0x10 ∨ n = 0x14 then decide ((me s).ss.priv = 2)
  else if n = 0x08 ∨ n = 0x15 ∨ 0x20 ≤ n then kernelSlotUp s else kernelUp s

/-- The agent of the current core is non-secure: core 0 of quad 0 of a die is the non-secure supervisor's and core 1 the secure one's, and
another core's riders are of the world of their context (R456). -/
def nonSecure (s : State) : Prop :=
  s.cur.core % 256 = 0 ∨ (s.cur.core % 256 ≠ 1 ∧ (myCore s).ctxid.getLsbD 16 = true)

/-- The map of R318 names the register. -/
def named (n : Nat) : Prop :=
  n ≤ 4 ∨ n = 8 ∨ (0x10 ≤ n ∧ n ≤ 0x16) ∨ (0x20 ≤ n ∧ n ≤ 0x2F) ∨ (0x40 ≤ n ∧ n ≤ 0x5F)

/-- The state after a write of a register whose write is the write of a field, or is ignored (R18, R318, R319). -/
def writtenRegister (s : State) (n : Nat) (v : Word) : Option State :=
  if n = 0 then some (modMe s fun th =>
    let x := statusOfWord v
    { th with pw := v.extractLsb' 0 32,
              ss := { th.ss with rnd := x.rnd, flags := x.flags, bst := x.bst,
                                 prx := if th.ss.priv = 0 then th.ss.prx else x.prx } })
  else if n = 1 ∨ n = 2 ∨ n = 4 then some s
  else if n = 3 then some (modCore s s.cur.core fun k => { k with cycleOff := v - BitVec.ofNat 64 s.now })
  else if n = 8 then some (modCore s s.cur.core fun k => { k with tvec := v &&& 0x00FFFFFFFFFFF001 })
  else if n = 0x12 then some (modCore s s.cur.core fun k => { k with lease := v.extractLsb' 0 32 })
  else if n = 0x13 then some (modCore s s.cur.core fun k => { k with seed := v })
  else if n = 0x14 then some (modCore s s.cur.core fun k => { k with cbtOwner := v.extractLsb' 0 32 })
  else none

end Sys2Proof.Claims

/-- RDSYS reads every register of R318 and raises PRIV without the right; the privilege of the address space: a WRSYS without the
right raises PRIV, a write of a plain register writes its field, and a read-only one ignores it (R318, R319). -/
def Obligations.SystemRegisterAccess : Prop :=
  (∀ m d n s, Issues (.rdsys m d n) s → named n.toNat →
    (readable s n.toNat = true → exec (.rdsys m d n) s = .next (resultG (.rdsys m d n) s d (registerValue s n.toNat))) ∧
    (readable s n.toNat = false → exec (.rdsys m d n) s = .next (preciseFault s .priv 0 0 none))) ∧
  (∀ m d n s, Issues (.wrsys m d n) s → named n.toNat →
    let v := srcG s (.wrsys m d n) .d d.toNat
    (writable s n.toNat = false → exec (.wrsys m d n) s = .next (preciseFault s .priv 0 0 none)) ∧
    (∀ t, writable s n.toNat = true → writtenRegister s n.toNat v = some t →
      exec (.wrsys m d n) s = .next (done (.wrsys m d n) s t)))

/-- The writes of R318 that do more than write a field: CTXID, VPOOL, the saved-rider table, XINV, CARVE and BPCFG (R18, R22, R33,
R45, R47, R61, R320, R405). -/
def Sys2Proof.Claims.SystemRegisterChanges : Prop :=
  ∀ m d n s, Issues (.wrsys m d n) s →
    let i := Instr.wrsys m d n
    let v := srcG s i .d d.toNat
    let c := s.cur.core
    let old := (myCore s).ctxid
    let asked := modMe { s with nextId := s.nextId + 1 } fun th => { th with prog := .asked s.nextId }
    let waits := fun (t : State) => if (me t).prog = .none then done i s t else park (done i s t) .change
    writable s n.toNat = true →
    (n = 0x10 → nonSecure s → (old.getLsbD 16 = false ∨ v.getLsbD 16 = false) →
      exec i s = .next (preciseFault s .world 12 0 none)) ∧
    (n = 0x10 → (nonSecure s → old.getLsbD 16 = true ∧ v.getLsbD 16 = true) → exec i s = .next (done i s (ctxidSet s c v))) ∧
    (n = 0x15 → exec i s = .next (done i s (vpoolSet s (quadOf c) v.toNat))) ∧
    (0x40 ≤ n.toNat → n.toNat ≤ 0x5F → exec i s = .next (done i s (srtSet s c (n.toNat - 0x40) v))) ∧
    (n = 0x16 → exec i s = .next (park (done i s (xinvBegin s s.cur v)) .xinv)) ∧
    (n = 0x11 → exec i s = .next (waits (carveWrite asked c v.toNat (.writer s.cur s.nextId)))) ∧
    (0x20 ≤ n.toNat → n.toNat ≤ 0x2F →
      exec i s = .next (waits (bpcfgWrite asked c (n.toNat - 0x20) v (!agentNs s c) (.writer s.cur s.nextId))))

/-- A write of CTXID: a new value takes the words and the owners of the tiles, and the codebook, with it; the steps that wait at a tile and
its status stay; and the reserved bits read zero (R22, R405). -/
def Sys2Proof.Claims.ContextChangeClearsTiles : Prop :=
  ∀ (s : State) (c : Nat) (v : Word),
    let t := ctxidSet s c v
    let new := v &&& 0xFFFFFFFFFF01FFFF
    (coreAt t c).ctxid = new ∧
    ((coreAt s c).ctxid ≠ new → (∀ n < 16, tileAt t c n = { tileAt s c n with data := [], owner := 0 }) ∧ (coreAt t c).book = [] ∧ (coreAt t c).cbtV = false ∧
      (coreAt t c).cbtOwner = 0) ∧
    ((coreAt s c).ctxid = new → (coreAt t c).tiles = (coreAt s c).tiles ∧ (coreAt t c).book = (coreAt s c).book) ∧
    (∀ c', c' ≠ c → coreAt t c' = coreAt s c') ∧ t.dram = s.dram ∧ t.sram = s.sram

/-- What WRSYS changes, and what a change of context clears (R18, R319, R320, R405). -/
def Obligations.SystemRegisterWrites : Prop :=
  Sys2Proof.Claims.SystemRegisterChanges ∧ Sys2Proof.Claims.ContextChangeClearsTiles

/-! ## Slot control and prefixes -/

namespace Sys2Proof.Claims

/-- The thread of the issuer's core that an operand names, where the operand is legal (R321). -/
def slotNamed (s : State) (v : Nat) (sel : Bool) : Option ThreadRef :=
  let t : ThreadRef := ⟨s.cur.core, v % 8, v / 8 % 2⟩
  if (v % 8 ≠ 7 ∧ v / 8 % 2 = 1) ∨ t = s.cur then none
  else if sel then (if v / 16 % 16 = 0 ∧ v / 65536 = 0 ∧ (v / 256 % 256 ≤ 35 ∨ v / 256 % 256 = 40 ∨ v / 256 % 256 = 41) then some t else none)
  else (if v / 16 = 0 then some t else none)

/-- Settled (R323): the named thread, or both of slot 7. -/
def settled (s : State) (t : ThreadRef) : Prop :=
  ∀ x ∈ slotThreads t, ((threadAt s x).susp = true ∨ (threadAt s x).froz = true ∨ (threadAt s x).run = .free) ∧ (threadAt s x).outs = []

/-- What RDSLOT reads under a selector (R324). -/
def slotValue (s : State) (t : ThreadRef) (sel : Nat) : Word :=
  let th := threadAt s t
  if th.run = .free then 0
  else if sel = 0 then th.pc &&& 0x00FFFFFFFFFFFFFC
  else if sel = 1 then statusWord th
  else if sel ≤ 32 then rdG th (sel - 1)
  else if sel = 33 then th.desc.rep ++ th.desc.fmt
  else if sel = 34 then BitVec.ofNat 64 (th.rid.toNat + 2 ^ 32 * th.gid.toNat)
  else if sel = 35 then th.vsave
  else if sel = 40 then BitVec.ofNat 64 (aget 0 (coreAt s t.core).qntm t.slot).toNat
  else BitVec.ofNat 64 (stateCode th)

end Sys2Proof.Claims

/-- SUSP, RESM, RDSLOT, WRSLOT and CTXKILL where they complete, and their PRIV and ILL faults (R321-R326). -/
def Sys2Proof.Claims.SlotControlResults : Prop :=
  (∀ m a s, Issues (.susp m a) s →
    let i := Instr.susp m a
    let v := (srcG s i .a a.toNat).toNat
    (kernelSlotUp s = false → exec i s = .next (preciseFault s .priv 0 0 none)) ∧
    (kernelSlotUp s = true → slotNamed s v false = none → exec i s = .next (preciseFault s .ill 0 0 none)) ∧
    (∀ t, kernelSlotUp s = true → slotNamed s v false = some t → exec i s = .next (done i s (suspendSlot s t)))) ∧
  (∀ m a s, Issues (.resm m a) s →
    let i := Instr.resm m a
    let v := (srcG s i .a a.toNat).toNat
    (kernelSlotUp s = false → exec i s = .next (preciseFault s .priv 0 0 none)) ∧
    (∀ t, kernelSlotUp s = true → slotNamed s v false = some t → exec i s = .next (done i s (resumeSlot s t)))) ∧
  (∀ m d a s, Issues (.rdslot m d a) s →
    let i := Instr.rdslot m d a
    let v := (srcG s i .a a.toNat).toNat
    (kernelSlotUp s = false → exec i s = .next (preciseFault s .priv 0 0 none)) ∧
    (∀ t, kernelSlotUp s = true → slotNamed s v true = some t →
      let s1 := stopSlot s t
      (settled s1 t → exec i s = .next (done i s (putG s1 d (slotValue s1 t (v / 256 % 256))))) ∧
      (¬settled s1 t → exec i s = .next (waiting i s s1 (.settle t.slot t.th))))) ∧
  (∀ m d a s, Issues (.wrslot m d a) s →
    let i := Instr.wrslot m d a
    let v := (srcG s i .a a.toNat).toNat
    let x := srcG s i .d d.toNat
    (kernelSlotUp s = false → exec i s = .next (preciseFault s .priv 0 0 none)) ∧
    (∀ t, kernelSlotUp s = true → slotNamed s v true = some t →
      let s1 := stopSlot s t
      (settled s1 t → exec i s = .next (done i s (slotWrite s1 t (v / 256 % 256) x))) ∧
      (¬settled s1 t → exec i s = .next (waiting i s s1 (.settle t.slot t.th))))) ∧
  (∀ m a s, Issues (.ctxkill m a) s →
    let i := Instr.ctxkill m a
    let v := srcG s i .a a.toNat
    let own := (myCore s).ctxid
    ((me s).ss.priv ≠ 2 → exec i s = .next (preciseFault s .priv 0 0 none)) ∧
    ((me s).ss.priv = 2 → 2 ^ 17 ≤ v.toNat → exec i s = .next (preciseFault s .ill 0 0 none)) ∧
    ((me s).ss.priv = 2 → v.toNat < 2 ^ 17 → nonSecure s → v.getLsbD 16 = false →
      exec i s = .next (preciseFault s .world 12 0 (some 0))) ∧
    ((me s).ss.priv = 2 → v.toNat < 2 ^ 17 → (nonSecure s → v.getLsbD 16 = true) →
      own.extractLsb' 0 17 = v.extractLsb' 0 17 → exec i s = .next (preciseFault s .ill 0 0 none)) ∧
    ((me s).ss.priv = 2 → v.toNat < 2 ^ 17 → (nonSecure s → v.getLsbD 16 = true) →
      own.extractLsb' 0 17 ≠ v.extractLsb' 0 17 →
      exec i s = .next (done i s (killContext s (v.getLsbD 16) (v.extractLsb' 0 16) (some s.cur) (me s).rid))))

/-- What a suspension and a resumption do to a thread of a deck slot (R183, R289, R322): between units or iterations it is SUSPENDED, and
so is a PARKED one, and a DEPARTING one at its access; inside a unit or a skip window the request waits; RESM undoes it, but never resumes a FROZEN thread. RDSLOT and WRSLOT
suspend their target in the same way, unless it is FROZEN (R323). -/
def Sys2Proof.Claims.SuspensionOfADeckSlot : Prop :=
  ∀ (s : State) (t : ThreadRef), t.slot < 7 →
    let th := threadAt s t
    let u := threadAt (suspendSlot s t) t
    let r := threadAt (resumeSlot s t) t
    (th.run = .free → u = th) ∧
    (th.run = .ready → th.ss.skp = 0 → (th.ss.pp = false ∨ th.ss.repc ≠ 0) → u = { th with susp := true }) ∧
    (th.run = .ready → th.froz = false → th.susp = false → (th.ss.skp ≠ 0 ∨ (th.ss.pp = true ∧ th.ss.repc = 0)) →
      u = { th with suspReq := true }) ∧
    (∀ d, th.run = .departing d → th.susp = false → u = { th with run := .ready, susp := true }) ∧
    (∀ w, th.run = .parked w → th.ss.skp = 0 → u = { th with susp := true }) ∧
    (th.susp = true → th.froz = false → r = { th with susp := false }) ∧
    (th.froz = true → r = th) ∧ (th.susp = false → r = th) ∧
    (th.froz = true → threadAt (stopSlot s t) t = th) ∧ (th.froz = false → threadAt (stopSlot s t) t = u)

/-- The slot-control instructions, and the suspension of a deck slot (R321-R325).
The model's own choices of log entries 25, 71 enter it. -/
def Obligations.SlotControl : Prop :=
  Sys2Proof.Claims.SlotControlResults ∧ Sys2Proof.Claims.SuspensionOfADeckSlot

/-- FMT and REP, when the unit that they begin is legal and no marker comes first: the word enters the prefix descriptor, PP is
set, and nothing else of the rider changes (R281-R283, R287). -/
def Sys2Proof.Claims.PrefixesEnterTheDescriptor : Prop :=
  (∀ a b d e c (w : IWord) s s' mk,
    let i := Instr.fmt a b d e c
    let d1 : Descriptor := { (me s).desc with fmt := w }
    canIssue (me s) = true → expired s s.cur = false → unaccepted (me s) < 32 → i.wf = true → encode i = some w →
    (me s).desc = ⟨0, 0⟩ →
    checkUnit s 2 d1 (((me s).pc.toNat + 4 * (if w = 0 then 0 else 1)) % 2 ^ 64) = .ok mk s' →
    (mk = false ∨ (me s).ss.pp = true ∨ (me s).outs = []) →
    ∃ t, exec i s = .next t ∧ (me t).desc = d1 ∧ (me t).ss = { (me s').ss with pp := true } ∧ (me t).pc = (me s').pc ∧
      (me t).g = (me s').g ∧ (me t).v = (me s').v ∧ (me t).pw = (me s').pw ∧ t.dram = s'.dram ∧ t.sram = s'.sram) ∧
  (∀ c d a b (w : IWord) s s' mk,
    let i := Instr.rep c d a b
    let d1 : Descriptor := { (me s).desc with rep := w }
    canIssue (me s) = true → expired s s.cur = false → unaccepted (me s) < 32 → encode i = some w → (me s).desc.rep = 0 →
    checkUnit s 2 d1 (((me s).pc.toNat + 4 * ((if (me s).desc.fmt = 0 then 0 else 1) + (if w = 0 then 0 else 1))) % 2 ^ 64)
      = .ok mk s' →
    (mk = false ∨ (me s).ss.pp = true ∨ (me s).outs = []) →
    ∃ t, exec i s = .next t ∧ (me t).desc = d1 ∧ (me t).ss = { (me s').ss with pp := true } ∧ (me t).pc = (me s').pc ∧
      (me t).g = (me s').g ∧ (me t).v = (me s').v ∧ (me t).pw = (me s').pw ∧ t.dram = s'.dram ∧ t.sram = s'.sram)

/-- Branches, jumps, NOP, BRK and the prefixes (R280-R283, R306-R308, R314, R315). -/
def Obligations.ControlTransferResults : Prop :=
  Sys2Proof.Claims.BranchAndJumpResults ∧ Sys2Proof.Claims.NopAndBreak ∧ Sys2Proof.Claims.PrefixesEnterTheDescriptor

/-! ## Loads, stores and atomics -/

namespace Sys2Proof.Claims

/-- The state in which an access takes its name, and that name. -/
def named_ (s : State) : State := { s with nextId := s.nextId + 1 }

/-- The rider's STAY bit says whether its last `.go` access was performed in place (R194). -/
def withStay (s : State) (b : Bool) : State := modMe s fun th => { th with ss := { th.ss with stay := b } }

/-- An address of a bank region: an access there needs `.bk` or `.go` (R14, R135). -/
def bankRegion (s : State) (va : Nat) : Prop := va < 2 ^ 56 ∧ inDeviceRegion va = true ∧ (deviceBank s.cur.core va).isSome = true

/-- Where an access of the current unit goes. Its policy must suit a bank region (R135); a policy other than `.go` is performed
here; a `.go` access is performed here by a rider that does not travel, and by one whose data lie on its own core; a
travelling rider withdraws its registrations and departs for the core that owns its data (R190, R194, R350). -/
def AccessForms (i : Instr) (s s1 : State) (a : Access) (o : Out) (vector : Bool) : Prop :=
  (bankRegion s a.va → a.pol ≠ 4 → a.pol ≠ 5 → exec i s = .next (preciseFault s .policy 13 0 (some a.va))) ∧
  (¬bankRegion s a.va ∨ a.pol = 5 → a.pol ≠ 4 → exec i s = .next (done i s (launchAccess s1 a o))) ∧
  (a.pol = 4 → travels s1 vector = false →
    exec i s = .next (done i s (launchAccess (modMe (withStay s1 true) fun th => { th with stuck := false }) a o))) ∧
  (∀ c, a.pol = 4 → travels s1 vector = true → goPlace s1 a.va (needOf a) (kindOf a) = .core c →
    (forwarded s1 c = s.cur.core → exec i s = .next (done i s (launchAccess (withStay s1 false) a o))) ∧
    (forwarded s1 c ≠ s.cur.core →
      exec i s = .next (withdraw (modMe s1 fun th => { th with run := .departing (.go (forwarded s1 c)) }) s.cur)))

/-- The effective address of format M (R274). -/
def address (s : State) (i : Instr) (a : Reg) (o : BitVec 10) (size : Nat) : Nat :=
  (srcG s i .a a.toNat + BitVec.ofInt 64 (o.toInt * size)).toNat

/-- Bytes of the 16 elements of a vector access in memory (R337, R338). -/
def vectorBytes (s : State) : Nat := 16 * (codeBits (fmtOf (me s).desc).fd / 8)

/-- An atomic of an operation number of R341: ALIGN for an address that is no multiple of its size; otherwise the access, after
the release that its ORDSC asks for at package or pod scope (R155, R340, R341). -/
def AtomicForms (i : Instr) (op : Nat) (d a : Reg) (p : BitVec 3) (z : BitVec 1) (o : BitVec 4) (s : State) : Prop :=
  let size := if z = 0 then 4 else 8
  let ea := (srcG s i .a a.toNat).toNat
  let x := (srcG s i .d d.toNat).toNat % 2 ^ (8 * size)
  let y := if op = 7 then (srcG s i .d (d.toNat + 1)).toNat % 2 ^ (8 * size) else 0
  let s1 := named_ s
  let s2 := if 6 ≤ o.toNat then beginRelease s1 s.cur ((o.toNat - 1) % 5) else s1
  (ea % size ≠ 0 → exec i s = .next (preciseFault s .align 0 0 (some ea))) ∧
  (ea % size = 0 → AccessForms i s s2
    { accessOf s1 s.nextId .atomic with
        va := ea, n := size, pol := p.toNat, aop := op, ordsc := o.toNat, data := BitVec.ofNat 512 x,
        y := BitVec.ofNat 64 y, mask := BitVec.ofNat 64 (2 ^ size - 1), sackd := true }
    (outFor s1 s.nextId .atomic .g (dstNum s .d d.toNat) ea) false)

end Sys2Proof.Claims

/-- LD and ST: ALIGN for an address that is no multiple of the size; otherwise the access of that size, whose value a store takes
from its register at issue (R291, R332-R335).
The model's own choices of log entries 21, 59, 72 enter it. -/
def Obligations.ScalarAccessesIssue : Prop :=
  (∀ m d a p z o s, Issues (.ld m d a p z o) s →
    let i := Instr.ld m d a p z o
    let size := 2 ^ z.toNat
    let ea := address s i a o size
    let s1 := named_ s
    (ea % size ≠ 0 → exec i s = .next (preciseFault s .align 0 0 (some ea))) ∧
    (ea % size = 0 → AccessForms i s s1
      { accessOf s1 s.nextId .load with va := ea, n := size, pol := p.toNat, scalar := true }
      (outFor s1 s.nextId .ld .g (dstNum s .d d.toNat) ea) false)) ∧
  (∀ m d a p z o s, Issues (.st m d a p z o) s →
    let i := Instr.st m d a p z o
    let size := 2 ^ z.toNat
    let ea := address s i a o size
    let s1 := named_ s
    (ea % size ≠ 0 → exec i s = .next (preciseFault s .align 0 0 (some ea))) ∧
    (ea % size = 0 → AccessForms i s s1
      { accessOf s1 s.nextId .store with
          va := ea, n := size, pol := p.toNat, scalar := true,
          data := BitVec.ofNat 512 ((srcG s i .d d.toNat).toNat % 2 ^ (8 * size)),
          mask := BitVec.ofNat 64 (2 ^ size - 1), sackd := true }
      (outPlain s.nextId .store ea) false))

/-- LDV and STV: 16 elements of the memory format, ALIGN at their own size, the lane mask as byte mask; the narrowing of STV and
its flags are made at issue (R336-R339).
The model's own choices of log entries 21, 59, 72 enter it. -/
def Obligations.VectorAccessesIssue : Prop :=
  (∀ m d a p o s, Issues (.ldv m d a p o) s →
    let i := Instr.ldv m d a p o
    let fd := (fmtOf (me s).desc).fd
    let ea := address s i a o 64
    let s1 := named_ s
    (ea % vectorBytes s ≠ 0 → exec i s = .next (preciseFault s .align 0 0 (some ea))) ∧
    (ea % vectorBytes s = 0 → AccessForms i s s1
      { accessOf s1 s.nextId .load with
          va := ea, n := vectorBytes s, pol := p.toNat, fmt := fd, mask := BitVec.ofNat 64 (laneMask (me s)),
          whole := (me s).desc.fmt == 0 && laneMask (me s) == 0xFFFF }
      { outFor s1 s.nextId .ldv .v (dstNum s .d d.toNat) ea with lanes := BitVec.ofNat 16 (laneMask (me s)) } true)) ∧
  (∀ m d a p o s, Issues (.stv m d a p o) s →
    let i := Instr.stv m d a p o
    let fd := (fmtOf (me s).desc).fd
    let ea := address s i a o 64
    let b := memOfLanes fd (laneMask (me s)) (roundingOf (me s).ss.rnd) (srcV s i .d d.toNat)
    let s1 := named_ (modMe s fun th => orFlags th b.2.2)
    (ea % vectorBytes s ≠ 0 → exec i s = .next (preciseFault s .align 0 0 (some ea))) ∧
    (ea % vectorBytes s = 0 → AccessForms i s s1
      { accessOf s1 s.nextId .store with
          va := ea, n := vectorBytes s, pol := p.toNat, fmt := fd, data := BitVec.ofNat 512 b.1,
          mask := BitVec.ofNat 64 b.2.1, sackd := true, whole := (me s).desc.fmt == 0 && laneMask (me s) == 0xFFFF }
      (outPlain s.nextId .store ea) true))

/-- The atomics, each with its operation (R340-R342). -/
def Sys2Proof.Claims.AtomicsIssue : Prop :=
  (∀ m d a p z o s, Issues (.aadd m d a p z o) s → AtomicForms (.aadd m d a p z o) 0 d a p z o s) ∧
  (∀ m d a p z o s, Issues (.aand m d a p z o) s → AtomicForms (.aand m d a p z o) 1 d a p z o s) ∧
  (∀ m d a p z o s, Issues (.aor m d a p z o) s → AtomicForms (.aor m d a p z o) 2 d a p z o s) ∧
  (∀ m d a p z o s, Issues (.axor m d a p z o) s → AtomicForms (.axor m d a p z o) 3 d a p z o s) ∧
  (∀ m d a p z o s, Issues (.amin m d a p z o) s → AtomicForms (.amin m d a p z o) 4 d a p z o s) ∧
  (∀ m d a p z o s, Issues (.amax m d a p z o) s → AtomicForms (.amax m d a p z o) 5 d a p z o s) ∧
  (∀ m d a p z o s, Issues (.aswp m d a p z o) s → AtomicForms (.aswp m d a p z o) 6 d a p z o s) ∧
  (∀ m d a p z o s, Issues (.acas m d a p z o) s → AtomicForms (.acas m d a p z o) 7 d a p z o s) ∧
  (∀ m d a p z o s, Issues (.afadd m d a p z o) s → AtomicForms (.afadd m d a p z o) 8 d a p z o s)

/-- The new value that an atomic stores and the cases in which it stores none (R341): each operation, of 4 and of 8 bytes, on the old
value and the operand. AFADD rounds in the rider's mode and raises the flags of its sum; no other raises one. -/
def Sys2Proof.Claims.AtomicNewValues : Prop :=
  ∀ (r : Rounding) (x y z : BitVec 64),
    (∀ op n old v w, op < 8 → (atomicNew op n r old v w).2 = 0) ∧
    (∀ old v w, atomicNew 8 8 r old v w = (some (fpAdd fmt64 r old v).1, (fpAdd fmt64 r old v).2) ∧
      atomicNew 8 4 r old v w = (some (fpAdd fmt32 r old v).1, (fpAdd fmt32 r old v).2)) ∧
    (atomicNew 0 8 r x.toNat y.toNat z.toNat).1 = some (x + y).toNat ∧
    (atomicNew 1 8 r x.toNat y.toNat z.toNat).1 = some (x &&& y).toNat ∧
    (atomicNew 2 8 r x.toNat y.toNat z.toNat).1 = some (x ||| y).toNat ∧
    (atomicNew 3 8 r x.toNat y.toNat z.toNat).1 = some (x ^^^ y).toNat ∧
    (atomicNew 4 8 r x.toNat y.toNat z.toNat).1 = some (if y.toInt < x.toInt then y else x).toNat ∧
    (atomicNew 5 8 r x.toNat y.toNat z.toNat).1 = some (if x.toInt < y.toInt then y else x).toNat ∧
    (atomicNew 6 8 r x.toNat y.toNat z.toNat).1 = some y.toNat ∧
    (atomicNew 7 8 r x.toNat y.toNat z.toNat).1 = (if x = y then some z.toNat else none) ∧
    (∀ u v w : BitVec 32,
      (atomicNew 0 4 r u.toNat v.toNat w.toNat).1 = some (u + v).toNat ∧
      (atomicNew 1 4 r u.toNat v.toNat w.toNat).1 = some (u &&& v).toNat ∧
      (atomicNew 2 4 r u.toNat v.toNat w.toNat).1 = some (u ||| v).toNat ∧
      (atomicNew 3 4 r u.toNat v.toNat w.toNat).1 = some (u ^^^ v).toNat ∧
      (atomicNew 4 4 r u.toNat v.toNat w.toNat).1 = some (if v.toInt < u.toInt then v else u).toNat ∧
      (atomicNew 5 4 r u.toNat v.toNat w.toNat).1 = some (if u.toInt < v.toInt then v else u).toNat ∧
      (atomicNew 6 4 r u.toNat v.toNat w.toNat).1 = some v.toNat ∧
      (atomicNew 7 4 r u.toNat v.toNat w.toNat).1 = (if u = v then some w.toNat else none))

/-- Atomics: their issue, and the value that each operation writes (R152, R339-R341).
The model's own choices of log entries 21, 59, 72 enter it. -/
def Obligations.AtomicsReadAndWrite : Prop :=
  Sys2Proof.Claims.AtomicsIssue ∧ Sys2Proof.Claims.AtomicNewValues

/-- An access that is launched is in flight with the address, size and data that its instruction gave it; its thread has one more
result to wait for and, for a store, one more acknowledgement; no byte of memory and no register changes at issue
(R136, R290, R291, R294).
The model's own choices of log entries 3, 72 enter it. -/
def Obligations.LaunchedAccessIsInFlight : Prop :=
  ∀ (s : State) (a : Access) (o : Out), (∀ x ∈ s.inflight, x.id ≠ a.id) →
    let t := launchAccess s a o
    let th := threadAt s a.t
    (∃ x ∈ t.inflight, x.id = a.id ∧ x.va = a.va ∧ x.n = a.n ∧ x.data = a.data ∧ x.mask = a.mask ∧ x.kind = a.kind ∧ x.t = a.t) ∧
    (threadAt t a.t).outs.length = th.outs.length + 1 ∧
    (threadAt t a.t).sack = th.sack + (if a.sackd then 1 else 0) ∧
    (threadAt t a.t).g = th.g ∧ (threadAt t a.t).v = th.v ∧ (threadAt t a.t).pw = th.pw ∧
    (threadAt t a.t).ss = th.ss ∧ (threadAt t a.t).pc = th.pc ∧ (threadAt t a.t).run = th.run ∧
    t.dram = s.dram ∧ t.sram = s.sram ∧ t.cur = s.cur

namespace Sys2Proof.Claims

/-- A cache range instruction with its function number: ILL above 2^32 bytes, nothing for no byte, and otherwise one access that runs
over the lines of the range. -/
def RangeForms (i : Instr) (fn : Nat) (a b : Reg) (s : State) : Prop :=
  let base := (srcG s i .a a.toNat).toNat
  let len := (srcG s i .b b.toNat).toNat
  let s1 := named_ s
  (2 ^ 32 < len → exec i s = .next (preciseFault s .ill 0 0 none)) ∧
  (len = 0 → exec i s = .next (done i s s)) ∧
  (len ≤ 2 ^ 32 → len ≠ 0 → exec i s = .next (done i s (launchAccess s1
    { accessOf s1 s.nextId (.range fn (base / 64) ((base + len - 1) / 64)) with
        va := base / 64 * 64, n := 64, pol := 0, sackd := true }
    (outPlain s.nextId .cacheRange base))))

end Sys2Proof.Claims

/-- CLEAN, INVAL, FLUSH and PREF: a length above 2^32 is ILL, a length of 0 does nothing, and otherwise one access runs over the
lines of the range; PREF has no acceptance (R343, R344). -/
def Obligations.CacheRangesIssue : Prop :=
  (∀ m a b s, Issues (.clean m a b) s → RangeForms (.clean m a b) 0 a b s) ∧
  (∀ m a b s, Issues (.inval m a b) s → RangeForms (.inval m a b) 1 a b s) ∧
  (∀ m a b s, Issues (.flush m a b) s → RangeForms (.flush m a b) 2 a b s) ∧
  (∀ m d a b s, Issues (.pref m d a b) s →
    let i := Instr.pref m d a b
    let base := (srcG s i .a a.toNat).toNat
    let len := (srcG s i .b b.toNat).toNat
    let s1 := named_ s
    (2 ^ 32 < len → exec i s = .next (preciseFault s .ill 0 0 none)) ∧
    (len = 0 → exec i s = .next (done i s s)) ∧
    (len ≤ 2 ^ 32 → len ≠ 0 → exec i s = .next (done i s { s1 with inflight := s.inflight ++
      [{ accessOf s1 s.nextId (.range 3 (base / 64) ((base + len - 1) / 64)) with
           va := base / 64 * 64, n := 64, pol := d.toNat }] })))

/-! ## Fences, barriers, messages, mailboxes and chains -/

namespace Sys2Proof.Claims

/-- The state in which a release at a scope has begun, and the same once its conditions hold (R142, R162). -/
def begun (s : State) (scope : Nat) : State := beginRelease s s.cur scope
def wbsDone (s : State) (scope : Nat) : State := modMe s fun th => { th with wbs := if scope < 3 then th.wbs else [] }

/-- A unit that is a release, of which P holds once the conditions of R162 do; until then it waits. -/
def AfterRelease (i : Instr) (s : State) (scope : Nat) (P : State → Prop) : Prop :=
  (released (begun s scope) s.cur scope = true → P (wbsDone (begun s scope) scope)) ∧
  (released (begun s scope) s.cur scope = false → exec i s = .next (waiting i s (begun s scope) (.release scope)))

/-- Every earlier read of the current rider has returned its value, and its matrix steps have read their operands (R163). -/
def ReadsBack (s : State) : Prop :=
  (∀ a ∈ s.inflight, ofThread s s.cur a = true → a.id < s.nextId → reads a.kind = true → a.stage = .acked ∨ a.stage = .done) ∧
  (s.cur.slot < 7 → ∀ m ∈ (myCore s).mq, m.rid = (me s).rid → m.id < s.nextId → m.want = [])

/-- The acquire half of a fence, from the state t on: the drops, once the reads are back (R163). -/
def Acquires (i : Instr) (s t : State) (scope : Nat) : Prop :=
  (ReadsBack t → exec i s = .next (done i s (acquireDrops t s.cur scope))) ∧
  (¬ReadsBack t → exec i s = .next (waiting i s t .reads))

end Sys2Proof.Claims

/-- The three fences (R162, R163, R347): an acquire waits for the earlier reads and drops what R140 says. A release completes at once;
while its conditions do not hold it stays open, and every access that its thread begins later is held back. A full fence is a release
whose slot waits, and then an acquire. -/
def Sys2Proof.Claims.FencesReleaseAndAcquire : Prop :=
  (∀ m sc s, Issues (.fenceAcq m sc) s → Acquires (.fenceAcq m sc) s s sc.toNat) ∧
  (∀ m sc s, Issues (.fenceRel m sc) s →
    let i := Instr.fenceRel m sc
    let k := sc.toNat
    let t := begun s k
    (released t s.cur k = true → exec i s = .next (done i s t)) ∧
    (released t s.cur k = false → exec i s = .next (done i s { t with
      nextId := t.nextId + 1,
      inflight := t.inflight ++ [{ accessOf t t.nextId (.fence k) with waits := if k < 3 then [] else (me t).wbs }] }))) ∧
  (∀ m sc s, Issues (.fenceFull m sc) s →
    AfterRelease (.fenceFull m sc) s sc.toNat fun t => Acquires (.fenceFull m sc) s t sc.toNat) ∧
  (∀ (s : State) (x a : Access) (k : Nat), x ∈ s.inflight → x.kind = .fence k → x.id < a.id → sameThread x a = true →
    prefetches a.kind = false → heldBack s a = true)

/-- What an acquire drops (R140): at core scope nothing; above it every leased line of the core's L1, while copies in other states stay;
at package scope and above every leased line of the die's L2 too, while its other lines stay. No byte of memory changes. -/
def Sys2Proof.Claims.AcquireDropsLeasedLines : Prop :=
  ∀ (s : State) (t : ThreadRef) (scope : Nat),
    let u := acquireDrops s t scope
    let die := dieOf t.core
    (scope = 0 → u = s) ∧
    (scope = 1 ∨ scope = 2 →
      (coreAt u t.core).l1 = ((coreAt s t.core).l1.filter fun e => e.2.st != .leased) ∧ ∀ d pa, l2At u d pa = l2At s d pa) ∧
    (scope ≠ 0 → ∀ e ∈ (coreAt u t.core).l1, e.2.st ≠ .leased) ∧
    (3 ≤ scope → ∀ pa, (l2At u die pa).st ≠ .leased ∧ ((l2At s die pa).st ≠ .leased → l2At u die pa = l2At s die pa)) ∧
    u.dram = s.dram ∧ u.llc = s.llc ∧ u.sram = s.sram ∧ u.homes = s.homes ∧ (∀ x, threadAt u x = threadAt s x)

/-- Fences, and the leased lines that an acquire drops (R140, R162, R346-R348).
The model's own choices of log entries 15 enter it. -/
def Obligations.FencesAndAcquires : Prop :=
  Sys2Proof.Claims.FencesReleaseAndAcquire ∧ Sys2Proof.Claims.AcquireDropsLeasedLines

namespace Sys2Proof.Claims

/-- The checks that every barrier instruction makes (R349): the object word, the kind of rider at core level, and whether the
object is the rider's to use. -/
def BarrierChecks (i : Instr) (s : State) (level : Nat) (w : Word) : Prop :=
  (32 ≤ w.toNat → exec i s = .next (preciseFault s .ill 0 0 none)) ∧
  (w.toNat < 32 → level = 0 → (me s).ss.roam = true → exec i s = .next (preciseFault s .ill 0 0 none)) ∧
  (w.toNat < 32 → ¬(level = 0 ∧ (me s).ss.roam = true) → barrierAssigned s level w.toNat = false →
    exec i s = .next (preciseFault s .perm 0 0 none))

/-- The object may be used. -/
def usable (s : State) (level : Nat) (w : Word) : Prop :=
  w.toNat < 32 ∧ ¬(level = 0 ∧ (me s).ss.roam = true) ∧ barrierAssigned s level w.toNat = true

/-- The count of an arrival word is legal: 1 to 65,535 in bits 15:0, NOWAIT in bit 32, nothing else (R349). -/
def arrivalLegal (w : Word) : Prop := w.toNat % 2 ^ 16 ≠ 0 ∧ w.toNat / 2 ^ 16 % 2 ^ 16 = 0 ∧ w.toNat / 2 ^ 33 = 0

/-- An arrival is refused while the object holds its last phase, while its phase is full, and, with a registration, while the
rider has one at the level (R351). -/
def refused (b : Barrier) (th : Thread) (level : Nat) (nowait : Bool) : Prop :=
  b.hold = true ∨ (b.npart ≠ 0 ∧ b.arrived = b.npart) ∨ (nowait = false ∧ ∃ r ∈ th.regs, r.level = level)

/-- The acquire fence at a level with which a unit ends (R163): it waits for the earlier reads, and then it drops what R140 says. -/
def Fences (i : Instr) (s t : State) (level : Nat) : Prop :=
  (ReadsBack t → exec i s = .next (done i s (acquireDrops (modMe t fun th => { th with prog := .none }) s.cur level))) ∧
  (¬ReadsBack t → exec i s = .next (waiting i s t .reads))

/-- A BARW, or the second half of a BAR, that does not wait for its phase: without a registration at the object q := false; with one whose
phase has completed the registration is observed, and q := true; either way an acquire fence at the level ends it, and one that waited
there for earlier reads goes on with it (R163, R352). Leased copies of the lines that engines wrote in the observed phase go too (R127). -/
def Leaves (i : Instr) (s s0 : State) (level obj q : Nat) : Prop :=
  let b := barrierAt s0 s.cur.core level obj
  let r := (me s0).regs.find? fun r => r.level == level && r.obj == obj
  ((me s0).prog = .leaving → Fences i s s0 level) ∧
  ((me s0).prog ≠ .leaving → r = none → Fences i s (putQ s0 q false) level) ∧
  (∀ x, (me s0).prog ≠ .leaving → r = some x → b.phase ≠ x.phase →
    Fences i s (modMe (putQ (dropRanges
      (modMe (setBarrier s0 s.cur.core level obj (observe b)) fun th =>
        { th with regs := th.regs.filter fun y => y.level != level }) s.cur.core b.left) q true) fun th =>
          { th with prog := .leaving }) level) ∧
  (∀ x, (me s0).prog ≠ .leaving → r = some x → b.phase = x.phase → exec i s = .next (waiting i s s0 (.barrier level obj q)))

end Sys2Proof.Claims

/-- BARA, BARW, BARX and BARQ where they complete, and the checks of all five barrier instructions (R349-R355). -/
def Sys2Proof.Claims.BarrierInstructions : Prop :=
  (∀ m d a b sc s, Issues (.bara m d a b sc) s →
    let i := Instr.bara m d a b sc
    let w := srcG s i .a a.toNat
    let v := srcG s i .b b.toNat
    let x := barrierAt s s.cur.core sc.toNat w.toNat
    BarrierChecks i s sc.toNat w ∧
    (usable s sc.toNat w → ¬arrivalLegal v → exec i s = .next (preciseFault s .ill 0 0 none)) ∧
    (usable s sc.toNat w → arrivalLegal v → refused x (me s) sc.toNat (v.getLsbD 32) →
      exec i s = .next (done i s (putQ s d.toNat false))) ∧
    (usable s sc.toNat w → arrivalLegal v → ¬refused x (me s) sc.toNat (v.getLsbD 32) →
      AfterRelease i s sc.toNat fun t =>
        exec i s = .next (done i s (putQ (makeArrival t sc.toNat w.toNat (v.toNat % 2 ^ 16) (v.getLsbD 32)) d.toNat true)))) ∧
  (∀ m d a sc s, Issues (.barw m d a sc) s →
    let i := Instr.barw m d a sc
    let w := srcG s i .a a.toNat
    BarrierChecks i s sc.toNat w ∧ (usable s sc.toNat w → Leaves i s s sc.toNat w.toNat d.toNat)) ∧
  (∀ m d a b sc s, Issues (.barx m d a b sc) s →
    let i := Instr.barx m d a b sc
    let w := srcG s i .a a.toNat
    let n := (srcG s i .b b.toNat).toNat
    let x := barrierAt s s.cur.core sc.toNat w.toNat
    BarrierChecks i s sc.toNat w ∧
    (usable s sc.toNat w → (n = 0 ∨ 2 ^ 24 ≤ n) → exec i s = .next (preciseFault s .ill 0 0 none)) ∧
    (usable s sc.toNat w → n ≠ 0 → n < 2 ^ 24 → (x.hold = true ∨ 2 ^ 24 ≤ x.pend + n) →
      exec i s = .next (done i s (putQ s d.toNat false))) ∧
    (usable s sc.toNat w → n ≠ 0 → n < 2 ^ 24 → x.hold = false → x.pend + n < 2 ^ 24 →
      exec i s = .next (done i s
        (putQ (setBarrier s s.cur.core sc.toNat w.toNat { x with pend := x.pend + n }) d.toNat true)))) ∧
  (∀ m d a sc s, Issues (.barq m d a sc) s →
    let i := Instr.barq m d a sc
    let w := srcG s i .a a.toNat
    let x := barrierAt s s.cur.core sc.toNat w.toNat
    BarrierChecks i s sc.toNat w ∧
    (usable s sc.toNat w →
      exec i s = .next (resultG i s d (BitVec.ofNat 64
        (x.arrived + 2 ^ 16 * x.npart + 2 ^ 32 * x.pend + (if x.hold then 2 ^ 61 else 0) + (if x.err then 2 ^ 62 else 0) +
          (if x.phase then 2 ^ 63 else 0))))))

/-- BAR: the arrival of a BARA with registration, and then the wait of a BARW (R351, R352). The arrival parks the thread, and it leaves in
an act of its own, so that HOLD may be seen until then. -/
def Sys2Proof.Claims.BarArrivesAndWaits : Prop :=
  ∀ m d a b sc s, Issues (.bar m d a b sc) s →
    let i := Instr.bar m d a b sc
    let w := srcG s i .a a.toNat
    let v := srcG s i .b b.toNat
    let x := barrierAt s s.cur.core sc.toNat w.toNat
    BarrierChecks i s sc.toNat w ∧
    (usable s sc.toNat w → (¬arrivalLegal v ∨ v.getLsbD 32 = true) → exec i s = .next (preciseFault s .ill 0 0 none)) ∧
    (usable s sc.toNat w → arrivalLegal v → v.getLsbD 32 = false →
      let fresh := (me s).prog ≠ .arrived ∧ (me s).prog ≠ .leaving
      (fresh → refused x (me s) sc.toNat false → exec i s = .next (done i s (putQ s d.toNat false))) ∧
      (fresh → ¬refused x (me s) sc.toNat false →
        released (begun s sc.toNat) s.cur sc.toNat = false →
        exec i s = .next (waiting i s (begun s sc.toNat) (.release sc.toNat))) ∧
      (fresh → ¬refused x (me s) sc.toNat false →
        released (begun s sc.toNat) s.cur sc.toNat = true →
        let s0 := modMe (putQ (makeArrival (wbsDone (begun s sc.toNat) sc.toNat) sc.toNat w.toNat (v.toNat % 2 ^ 16) false)
          d.toNat true) fun th => { th with prog := .arrived }
        ((me s0).outs = [] → exec i s = .next (waiting i s s0 (.barrier sc.toNat w.toNat d.toNat))) ∧
        ((me s0).outs ≠ [] → exec i s = .next (waiting i s s0 .marker))) ∧
      (¬fresh → (me s).outs = [] → Leaves i s s sc.toNat w.toNat d.toNat) ∧
      (¬fresh → (me s).outs ≠ [] → exec i s = .next (waiting i s s .marker)))

/-- The arithmetic of a barrier object (R351, R353, R354): an arrival counts one, sets NPART when it was 0 and registers its rider;
the phase flips when the arrivals are in and no bytes are pending; a completion subtracts its bytes, and more than are pending
set ERR. The ranges that engines wrote in a phase are kept until its last registered rider has observed it (R127). -/
def Sys2Proof.Claims.BarrierObjectArithmetic : Prop :=
  ∀ b : Barrier,
    (b.npart ≠ 0 → b.arrived = b.npart → b.pend = 0 →
      (phaseDone b).phase = !b.phase ∧ (phaseDone b).npart = 0 ∧ (phaseDone b).arrived = 0 ∧ (phaseDone b).err = false ∧
      ((phaseDone b).hold = true ↔ b.waiters ≠ 0) ∧ (phaseDone b).wrote = [] ∧
      (b.waiters ≠ 0 → (phaseDone b).left = b.wrote) ∧ (b.waiters = 0 → (phaseDone b).left = [])) ∧
    ((b.npart = 0 ∨ b.arrived ≠ b.npart ∨ b.pend ≠ 0) → phaseDone b = b) ∧
    (∀ n rs, n < b.pend → subtractBytes b n rs = { b with pend := b.pend - n, wrote := b.wrote ++ rs }) ∧
    (∀ n rs, b.pend < n → (b.npart = 0 ∨ b.arrived ≠ b.npart) →
      subtractBytes b n rs = { b with pend := 0, err := true, wrote := b.wrote ++ rs }) ∧
    (∀ rs, b.npart ≠ 0 → b.arrived = b.npart → b.waiters ≠ 0 → (subtractBytes b b.pend rs).left = b.wrote ++ rs) ∧
    ((observe b).waiters = b.waiters - 1 ∧ (b.waiters ≤ 1 → (observe b).hold = false) ∧ (1 < b.waiters → (observe b).hold = b.hold) ∧
      (observe b).phase = b.phase ∧ (observe b).pend = b.pend ∧ (b.waiters ≤ 1 → (observe b).left = []) ∧
      (1 < b.waiters → (observe b).left = b.left)) ∧
    (∀ (s : State) (level obj count : Nat) (nowait : Bool), b = barrierAt s s.cur.core level obj →
      (∀ x q, (threadAt s x).run ≠ .parked (.barrier level obj q)) →
      let t := makeArrival s level obj count nowait
      barrierAt t s.cur.core level obj =
        phaseDone { b with npart := if b.npart = 0 then count else b.npart, arrived := b.arrived + 1,
                           waiters := if nowait then b.waiters else b.waiters + 1 } ∧
      (me t).regs = (if nowait then (me s).regs else (me s).regs ++ [⟨level, obj, b.phase⟩]))

/-- The act that completes a phase takes every registered thread that is parked at the object, and neither suspended nor FROZEN, out of its
wait (R183, R351, R353): its registration is observed and its predicate is true. With its earlier reads back it is READY at its next unit or
iteration; otherwise its acquire fence waits for them (R163). Its other registers are as they were, and a stopped thread waits on. -/
def Sys2Proof.Claims.CompletedPhaseReleasesWaiters : Prop :=
  ∀ (s : State) (core level obj : Nat) (b : Barrier) (t : ThreadRef) (d : Nat),
    let th := threadAt s t
    let u := threadAt (changeBarrier s core level obj b) t
    let back := readsReturned s t s.nextId = true
    barrierAt (setBarrier s core level obj b) t.core level obj = b → th.run = .parked (.barrier level obj d) →
    (∃ r ∈ th.regs, r.level = level ∧ r.obj = obj ∧ r.phase ≠ b.phase) →
    (th.susp = false → th.froz = false → t = ofTid t.core (tid t) →
      u.regs = (th.regs.filter fun r => r.level != level) ∧
      u.pw = (wrQ th (regNum th .d d) true).pw ∧ u.g = th.g ∧ u.v = th.v ∧ u.ss.flags = th.ss.flags ∧
      (back → u.run = .ready ∧ u.prog = .none ∧ u.pc = (advance th).pc) ∧
      (¬back → u.run = .parked .reads ∧ u.prog = .leaving ∧ u.pc = th.pc)) ∧
    ((th.susp = true ∨ th.froz = true) → u = th)

/-- Barrier instructions, what an arrival and a wait do, the arithmetic of barrier objects, and the end of a wait (R349-R353).
The model's own choices of log entries 15, 69, 71 enter it. -/
def Obligations.BarrierResults : Prop :=
  Sys2Proof.Claims.BarrierInstructions ∧ Sys2Proof.Claims.BarArrivesAndWaits ∧ Sys2Proof.Claims.BarrierObjectArithmetic ∧
  Sys2Proof.Claims.CompletedPhaseReleasesWaiters

/-- SEND, RECV and WAITM; a release fence of the thread that is still open holds back the first two (R162, R200, R357, R358). -/
def Sys2Proof.Claims.MessageInstructions : Prop :=
  (∀ m d a b md s, Issues (.send m d a b md) s →
    let i := Instr.send m d a b md
    let dst := srcG s i .a a.toNat
    (∀ v, (me s).prog = .answered v →
      exec i s = .next (done i s (putG (modMe s fun th => { th with prog := .none }) d (BitVec.ofNat 64 v)))) ∧
    (∀ n, (me s).prog = .asked n → exec i s = .next (waiting i s s .answer)) ∧
    ((me s).prog = .none → 2 ^ 42 ≤ dst.toNat → exec i s = .next (preciseFault s .ill 0 0 none)) ∧
    ((me s).prog = .none → dst.toNat < 2 ^ 42 → fenceOpen s s.cur s.nextId = true → exec i s = .next (waiting i s s .fences)) ∧
    ((me s).prog = .none → dst.toNat < 2 ^ 42 → fenceOpen s s.cur s.nextId = false →
      let msg : Msg :=
        { w0 := srcG s i .b b.toNat, w1 := srcG s i .b (b.toNat + 1), tag := dst.extractLsb' 0 32, system := false,
          engine := false, src := some s.cur, try_ := md == 1, ctx := (myCore s).ctxid, lines := [], cmd := none, came := 0,
          id := s.nextId }
      let asks := modMe (named_ s) fun th => { th with prog := .asked s.nextId }
      exec i s = .next (waiting i s (deliver asks (dst.toNat / 2 ^ 32) msg) .answer))) ∧
  (∀ m d s, Issues (.recv m d) s →
    let i := Instr.recv m d
    let r := dstNum s .d d.toNat
    let give := fun (s : State) (x y : Word) (st : BitVec 3) =>
      modMe (writeG (writeG s r x) (r + 1) y) fun th => commitBst th st
    (fenceOpen s s.cur s.nextId = true → exec i s = .next (waiting i s s .fences)) ∧
    (fenceOpen s s.cur s.nextId = false → ((myCore s).msgs.find? fun x => x.tag == (me s).rid) = none →
      exec i s = .next (done i s (give s 0 0 2))) ∧
    (∀ x, fenceOpen s s.cur s.nextId = false → ((myCore s).msgs.find? fun x => x.tag == (me s).rid) = some x →
      exec i s = .next (done i s (give
        (dropRanges (modCore s s.cur.core fun k => { k with msgs := k.msgs.erase x }) s.cur.core x.lines) x.w0 x.w1 0)))) ∧
  (∀ m s, Issues (.waitm m) s →
    ((∃ x ∈ (myCore s).msgs, x.tag = (me s).rid) → exec (.waitm m) s = .next (done (.waitm m) s s)) ∧
    ((∀ x ∈ (myCore s).msgs, x.tag ≠ (me s).rid) → exec (.waitm m) s = .next (waiting (.waitm m) s s .message)))

namespace Sys2Proof.Claims

/-- The thread leaves the waiters of its core's mailboxes. -/
def served (s : State) : State := mailServed s s.cur

end Sys2Proof.Claims

/-- MBPUT and MBGET: with the mailbox free for it and nobody parked before it the thread puts or takes; otherwise the `.try` form
says so in its predicate, and the other form waits its turn; an open release fence of the thread holds it back (R119, R162, R359). -/
def Sys2Proof.Claims.MailboxInstructions : Prop :=
  (∀ m d a b md s, Issues (.mbput m d a b md) s →
    let i := Instr.mbput m d a b md
    let n := d.toNat
    let put := modCore (served s) s.cur.core fun k =>
      { k with mbox := aset 0 k.mbox n (srcG s i .a a.toNat), mfull := sins k.mfull n }
    let past := fenceOpen s s.cur s.nextId = false
    (¬past → exec i s = .next (waiting i s s .fences)) ∧
    (past → mailTurn s s.cur n true = true → exec i s = .next (done i s (if md = 1 then putQ put b.toNat true else put))) ∧
    (past → mailTurn s s.cur n true = false → md = 1 → exec i s = .next (done i s (putQ s b.toNat false))) ∧
    (past → mailTurn s s.cur n true = false → md = 0 →
      exec i s = .next (waiting i s (mailJoin s s.cur n true) (.mailbox n true)))) ∧
  (∀ m d a b md s, Issues (.mbget m d a b md) s →
    let i := Instr.mbget m d a b md
    let n := a.toNat
    let take := putG (modCore (served s) s.cur.core fun k => { k with mfull := sdel k.mfull n }) d (aget 0 (myCore s).mbox n)
    let past := fenceOpen s s.cur s.nextId = false
    (¬past → exec i s = .next (waiting i s s .fences)) ∧
    (past → mailTurn s s.cur n false = true → exec i s = .next (done i s (if md = 1 then putQ take b.toNat true else take))) ∧
    (past → mailTurn s s.cur n false = false → md = 1 → exec i s = .next (done i s (putQ (putG s d 0) b.toNat false))) ∧
    (past → mailTurn s s.cur n false = false → md = 0 →
      exec i s = .next (waiting i s (mailJoin s s.cur n false) (.mailbox n false)))) ∧
  (∀ (s : State) (t : ThreadRef) (n : Nat) (put : Bool), (coreAt s t.core).mwait = [] →
    (mailTurn s t n put = true ↔ (put = true ↔ n ∉ (coreAt s t.core).mfull)))

/-- CHAIN.set, CHAIN.rel and CHAIN.acq (R196, R197, R360). -/
def Sys2Proof.Claims.ChainInstructions : Prop :=
  (∀ m a s, Issues (.chainSet m a) s →
    let i := Instr.chainSet m a
    let v := srcG s i .a a.toNat
    let up := v.getLsbD 0
    let dn := v.getLsbD 1
    let illegal := 4 ≤ v.toNat ∨ ((up = true ∨ dn = true) ∧ (me s).ss.roam = true) ∨ (dn = true ∧ s.cur.core % 256 = 255)
    (illegal → exec i s = .next (preciseFault s .ill 0 0 none)) ∧
    (¬illegal → exec i s = .next (done i s (modMe s fun th =>
      { th with ss := { th.ss with up := up, dn := dn, anch := th.ss.anch || up || dn } })))) ∧
  (∀ m a s, Issues (.chainRel m a) s →
    let i := Instr.chainRel m a
    let v := srcG s i .a a.toNat
    let c := s.cur.core + 1
    ((me s).ss.dn = false → exec i s = .next (preciseFault s .ill 0 0 none)) ∧
    ((me s).ss.dn = true → mayPush (begun s 2) s.cur = true →
      AfterRelease i s 2 fun t => exec i s = .next (done i s (modCore t c fun k => { k with chain := k.chain ++ [v] }))) ∧
    ((me s).ss.dn = true → mayPush (begun s 2) s.cur = false →
      AfterRelease i s 2 fun t => exec i s = .next (waiting i s t .chainPush)) ∧
    (mayPush (begun s 2) s.cur = true → (coreAt (begun s 2) c).chain.length < 8)) ∧
  (∀ m d s, Issues (.chainAcq m d) s →
    let i := Instr.chainAcq m d
    (((me s).ss.up = false ∨ d = 28) → exec i s = .next (preciseFault s .ill 0 0 none)) ∧
    let begins := (me s).ss.up = true ∧ d ≠ 28 ∧ (me s).prog ≠ .leaving
    let takes := fun (t : State) v => modMe (putG t d v) fun th => { th with popped := [], prog := .leaving }
    ((me s).ss.up = true → d ≠ 28 → (me s).prog = .leaving → Fences i s s 2) ∧
    (begins → (me s).popped = [] → mayPop s s.cur 1 = false → exec i s = .next (waiting i s s (.chainPop 1))) ∧
    (∀ v rest, begins → (me s).popped = [] → mayPop s s.cur 1 = true → (myCore s).chain = v :: rest →
      Fences i s (takes (modCore s s.cur.core fun k => { k with chain := rest }) v) 2) ∧
    (∀ v rest, begins → (me s).popped = v :: rest → Fences i s (takes s v) 2) ∧
    (mayPop s s.cur 1 = true → (myCore s).chain ≠ []))

/-- Messages, mailboxes and chains (R119, R196, R197, R200, R357-R360).
The model's own choices of log entries 15, 23, 65 enter it. -/
def Obligations.MessageMailboxAndChainInstructions : Prop :=
  Sys2Proof.Claims.MessageInstructions ∧ Sys2Proof.Claims.MailboxInstructions ∧ Sys2Proof.Claims.ChainInstructions

/-! ## Riders -/

/-- SPAWN, RQPUT and MIGRATE, the instructions that start, queue and move riders (R195, R328, R331). -/
def Sys2Proof.Claims.RiderInstructions : Prop :=
  (∀ m d a b s, Issues (.spawn m d a b) s →
    let i := Instr.spawn m d a b
    let dst := (srcG s i .b b.toNat).toNat
    let addr := (srcG s i .a a.toNat).toNat
    let core := s.cur.core
    let n := (coreAt s core).serial
    let rid := BitVec.ofNat 32 (core * 2 ^ 22 + n)
    (1024 ≤ dst → exec i s = .next (resultG i s d 0)) ∧
    (dst < 1024 → addr % 64 ≠ 0 → exec i s = .next (preciseFault s .align 0 0 (some addr))) ∧
    (dst < 1024 → addr % 64 = 0 →
      let s1 := modCore s core fun k => { k with serial := if n = 0x3FFFFF then 1 else n + 1 }
      let s2 := { s1 with ended := s.ended.filter fun x => x != rid.toNat, nextId := s.nextId + 1 }
      let s3 := putG s2 d (BitVec.ofNat 64 rid.toNat)
      let s4 := { s3 with spawns := s3.spawns ++ [⟨s.nextId, s.cur, rid, dst, addr⟩] }
      exec i s = .next (done i s (launchAccess s4
        { accessOf s4 s.nextId .spawnRead with va := addr, n := 64, pol := 6 } (outPlain s.nextId .other addr))))) ∧
  (∀ m d a b s, Issues (.rqput m d a b) s →
    let i := Instr.rqput m d a b
    let addr := (srcG s i .a a.toNat).toNat
    let pri := (srcG s i .b b.toNat).toNat % 4
    let p := (me s).ss.priv
    let full := 64 ≤ ((myCore s).rq.filter fun h => h.pri == pri).length
    (p = 0 → exec i s = .next (preciseFault s .priv 0 0 none)) ∧
    (p ≠ 0 → addr % 64 ≠ 0 → exec i s = .next (preciseFault s .align 0 0 (some addr))) ∧
    (p ≠ 0 → addr % 64 = 0 → 2 ^ 56 ≤ addr → exec i s = .next (preciseFault s .ill 0 0 none)) ∧
    (p ≠ 0 → addr % 64 = 0 → addr < 2 ^ 56 → full → exec i s = .next (resultG i s d 0)) ∧
    (p ≠ 0 → addr % 64 = 0 → addr < 2 ^ 56 → ¬full →
      exec i s = .next (done i s (putG (modCore s s.cur.core fun k =>
        { k with rq := k.rq ++ [⟨0, pri, p, (me s).gid, addr, none, 0, none, false⟩] }) d 1)))) ∧
  (∀ m a s, Issues (.migrate m a) s →
    let i := Instr.migrate m a
    let v := (srcG s i .a a.toNat).toNat
    (((me s).ss.anch = true ∨ 1024 ≤ v) → exec i s = .next (done i s (withStay s true))) ∧
    ((me s).ss.anch = false → v < 1024 →
      exec i s = .next (countLeaving s (withdraw (modMe s fun th => { th with run := .departing (.migrate v) }) s.cur))))

/-- EXIT, TRIG, GWAIT and YIELD (R203-R205, R329). -/
def Sys2Proof.Claims.RiderEndInstructions : Prop :=
  (∀ m s, Issues (.exit m) s →
    AfterRelease (.exit m) s 3 fun t => exec (.exit m) s = .next (countLeaving s (endRider t s.cur))) ∧
  (∀ m s, Issues (.trig m) s →
    let i := Instr.trig m
    AfterRelease i s 3 fun t =>
      let u := modMe t fun th => { th with trig := true }
      (∀ g k, (me t).group = some (g, k) → exec i s = .next (done i s (if (me t).trig then u else memberTriggers u g k))) ∧
      ((me t).group = none → exec i s = .next (done i s u))) ∧
  (∀ m s, Issues (.gwait m) s →
    let i := Instr.gwait m
    (predecessorLive s = true → exec i s = .next (waiting i s s .grid)) ∧
    (predecessorLive s = false → (me s).outs ≠ [] → exec i s = .next (waiting i s s .marker)) ∧
    (predecessorLive s = false → (me s).outs = [] → Acquires i s s 3)) ∧
  (∀ m s, Issues (.yield m) s →
    let i := Instr.yield m
    let pri := (me s).ss.prio.toNat
    let k := myCore s
    let waits := (∃ h ∈ k.rq, pri ≤ h.pri) ∨ (∃ h ∈ k.arrivals, pri ≤ h.pri) ∨
      (∃ e ∈ k.berths, ∃ b, e.2 = some b ∧ pri ≤ b.handle.pri)
    (((me s).ss.anch = true ∨ ¬waits) → exec i s = .next (done i s s)) ∧
    ((me s).ss.anch = false → waits →
      exec i s = .next (countLeaving s (enterArrival (freeSlot s s.cur) s.cur.core (packetContext (goTo (me s) (nextUnit (me s))))))))

/-- An instruction with which its rider leaves its slot counts one in the slot's QNTM; a count of 1 that it takes to 0 in a slot now FREE
sends QUANTUM for the rider that left (R224, R298). -/
def Sys2Proof.Claims.LeavingCountsTheIssue : Prop :=
  ∀ (s s' : State),
    let t := s.cur
    let q := aget 0 (coreAt s' t.core).qntm t.slot
    let u := countLeaving s s'
    u.dram = s'.dram ∧ u.sram = s'.sram ∧ aget 0 (coreAt u t.core).qntm t.slot = (if q = 0 then 0 else q - 1) ∧
    (t.slot < 7 → ∀ x, threadAt u x = threadAt s' x) ∧
    (t.slot < 7 → (threadAt s' t).run = .free → q = 1 →
      ∃ x, u = sendEvent x t.core 0x50 t.slot (me s).rid (word (nextUnit (me s))))

/-- Riders: SPAWN, YIELD, TRIG, GWAIT, MIGRATE and RQPUT, and the instructions that end one (R203-R205, R328-R331).
The model's own choices of log entries 15, 71 enter it. -/
def Obligations.RiderInstructionResults : Prop :=
  Sys2Proof.Claims.RiderInstructions ∧ Sys2Proof.Claims.RiderEndInstructions ∧ Sys2Proof.Claims.LeavingCountsTheIssue

/-! ## Bank instructions -/

namespace Sys2Proof.Claims

/-- A bank instruction leaves its unit as a `.bk` access to the bank address in a, with its command; what comes back lands in one
entry, for a register or for BST alone; a command that writes counts as a store (R362, R367, R372). -/
def BankIssues (i : Instr) (s : State) (a : Reg) (cmd : BankCmd) (kind : OutKind) (file : RegFile) (reg : Nat) (writes : Bool) :
    Prop :=
  let s1 := named_ s
  let ea := (srcG s i .a a.toNat).toNat
  exec i s = .next (done i s (launchAccess s1
    { accessOf s1 s.nextId .bank with va := ea, n := 1, pol := 5, cmd := some cmd, sackd := writes }
    (outFor s1 s.nextId kind file reg ea)))

/-- Element k of a push: 8 bytes of a g register, or the low bytes of a v register (R364). -/
def element (s : State) (i : Instr) (d : Reg) (z : BitVec 2) (v : BitVec 1) (k : Nat) : Line :=
  if v = 0 then (srcG s i .d (d.toNat + k)).setWidth 512
  else BitVec.ofNat 512 ((srcV s i .d (d.toNat + k)).toNat % 2 ^ (64 * 2 ^ z.toNat))

/-- The file of a popped element. -/
def elementFile (v : BitVec 1) : RegFile := if v = 0 then .g else .v

end Sys2Proof.Claims

/-- The structure instructions, each with the command that it gives its bank (R68-R74, R363-R366). -/
def Sys2Proof.Claims.StructureInstructionsIssue : Prop :=
  (∀ m d a z v s, Issues (.bpush m d a z v) s →
    BankIssues (.bpush m d a z v) s a (.push (v == 1) z.toNat [element s (.bpush m d a z v) d z v 0]) .struct .none 0 true) ∧
  (∀ m d a n z v s, Issues (.bpushn m d a n z v) s →
    BankIssues (.bpushn m d a n z v) s a
      (.push (v == 1) z.toNat ((List.range (n.toNat + 1)).map (element s (.bpushn m d a n z v) d z v))) .struct .none 0 true) ∧
  (∀ m d a z v s, Issues (.bpop m d a z v) s →
    BankIssues (.bpop m d a z v) s a (.pop (v == 1) z.toNat) .struct (elementFile v) (dstNum s .d d.toNat) true) ∧
  (∀ m d a z v s, Issues (.bpeek m d a z v) s →
    BankIssues (.bpeek m d a z v) s a (.peek (v == 1) z.toNat) .struct (elementFile v) (dstNum s .d d.toNat) false) ∧
  (∀ m d a b s, Issues (.bmput m d a b) s →
    BankIssues (.bmput m d a b) s a
      (.mapPut (srcG s (.bmput m d a b) .b b.toNat) (srcG s (.bmput m d a b) .d d.toNat)) .struct .none 0 true) ∧
  (∀ m d a b s, Issues (.bmget m d a b) s →
    BankIssues (.bmget m d a b) s a (.mapGet (srcG s (.bmget m d a b) .b b.toNat)) .struct .g (dstNum s .d d.toNat) false) ∧
  (∀ m d a b s, Issues (.bmdel m d a b) s →
    BankIssues (.bmdel m d a b) s a (.mapDel (srcG s (.bmdel m d a b) .b b.toNat)) .struct .g (dstNum s .d d.toNat) true) ∧
  (∀ m d a s, Issues (.bhput m d a) s →
    BankIssues (.bhput m d a) s a (.heapPut (srcG s (.bhput m d a) .d d.toNat)) .struct .none 0 true) ∧
  (∀ m d a s, Issues (.bhpop m d a) s →
    BankIssues (.bhpop m d a) s a .heapPop .struct .g (dstNum s .d d.toNat) true) ∧
  (∀ m d a s, Issues (.bhtop m d a) s →
    BankIssues (.bhtop m d a) s a .heapTop .struct .g (dstNum s .d d.toNat) false) ∧
  (∀ m d a b o s, Issues (.bgadd m d a b o) s →
    BankIssues (.bgadd m d a b o) s a (.histAdd (srcG s (.bgadd m d a b o) .d d.toNat)
      (if o = 1 then 1 else (srcG s (.bgadd m d a b o) .b b.toNat).extractLsb' 0 32)) .struct .none 0 true) ∧
  (∀ m d a b s, Issues (.bgrd m d a b) s →
    BankIssues (.bgrd m d a b) s a (.histRead (srcG s (.bgrd m d a b) .b b.toNat)) .struct .g (dstNum s .d d.toNat) false) ∧
  (∀ m a b l s, Issues (.bgclr m a b l) s →
    BankIssues (.bgclr m a b l) s a (if l = 1 then .histClearAll else .histClear (srcG s (.bgclr m a b l) .b b.toNat))
      .struct .none 0 true) ∧
  (∀ m d a b s, Issues (.bpset m d a b) s →
    BankIssues (.bpset m d a b) s a (.change (srcG s (.bpset m d a b) .b b.toNat)) .struct .g (dstNum s .d d.toNat) true) ∧
  (∀ m a b c s, Issues (.blink m a b c) s →
    BankIssues (.blink m a b c) s a (.link ((lanes (srcV s (.blink m a b c) .b b.toNat)).take c.toNat)) .struct .none 0 true) ∧
  (∀ m d a s, Issues (.bstat m d a) s →
    BankIssues (.bstat m d a) s a .stat .struct .g (dstNum s .d d.toNat) false)

namespace Sys2Proof.Claims

/-- The command of a bank ALU instruction: N, NF, DIR and ST of the count word, the vector and scalar operands, and the rounding
mode and seed at issue; a bit of the count word that the command does not use makes it bad (R90, R370, R371). -/
def aluCommand (s : State) (fn : Nat) (int sr : Bool) (count : Word) (vec : Line) (sc : Word) : AluCmd :=
  let used : Word := 0x7FF ||| (if fn = 4 then 0x11F00000000 else 0) ||| (if fn = 7 then 0xFFFF0000 else 0)
  { fn := fn, int := int, sr := sr, off := 0, n := (count.extractLsb' 0 11).toNat, bad := count &&& ~~~used != 0,
    nf := (count.extractLsb' 32 5).toNat, wide := count.getLsbD 40, st := (count.extractLsb' 16 16).toNat, vec := vec,
    sc := sc.extractLsb' 0 32, rnd := (me s).ss.rnd, seed := (myCore s).seed }

end Sys2Proof.Claims

/-- The bank ALU instructions, each with its command (R91-R95, R370-R372). -/
def Sys2Proof.Claims.BankAluInstructionsIssue : Prop :=
  (∀ m a b c t s, Issues (.bvadd m a b c t) s →
    BankIssues (.bvadd m a b c t) s a (.alu (aluCommand s 0 (t == 1) false (srcG s (.bvadd m a b c t) .b b.toNat)
      (srcV s (.bvadd m a b c t) .c c.toNat) 0)) .bankAlu .none 0 true) ∧
  (∀ m d a b t s, Issues (.bvmul m d a b t) s →
    BankIssues (.bvmul m d a b t) s a (.alu (aluCommand s 1 (t == 1) false (srcG s (.bvmul m d a b t) .b b.toNat) 0
      (srcG s (.bvmul m d a b t) .d d.toNat))) .bankAlu .none 0 true) ∧
  (∀ m d a b c t s, Issues (.bvfma m d a b c t) s →
    BankIssues (.bvfma m d a b c t) s a (.alu (aluCommand s 2 (t == 1) false (srcG s (.bvfma m d a b c t) .b b.toNat)
      (srcV s (.bvfma m d a b c t) .c c.toNat) (srcG s (.bvfma m d a b c t) .d d.toNat))) .bankAlu .none 0 true) ∧
  (∀ m a b c s, Issues (.bvfill m a b c) s →
    BankIssues (.bvfill m a b c) s a (.alu (aluCommand s 3 false false (srcG s (.bvfill m a b c) .b b.toNat)
      (srcV s (.bvfill m a b c) .c c.toNat) 0)) .bankAlu .none 0 true) ∧
  (∀ m a b r s, Issues (.bvcvt m a b r) s →
    BankIssues (.bvcvt m a b r) s a (.alu (aluCommand s 4 false (r == 1) (srcG s (.bvcvt m a b r) .b b.toNat) 0 0))
      .bankAlu .none 0 true) ∧
  (∀ m d a b t s, Issues (.bvsum m d a b t) s →
    BankIssues (.bvsum m d a b t) s a (.alu (aluCommand s 5 (t == 1) false (srcG s (.bvsum m d a b t) .b b.toNat) 0 0))
      .bankAlu .v (dstNum s .d d.toNat) true) ∧
  (∀ m d a b t s, Issues (.bvrmax m d a b t) s →
    BankIssues (.bvrmax m d a b t) s a (.alu (aluCommand s 6 (t == 1) false (srcG s (.bvrmax m d a b t) .b b.toNat) 0 0))
      .bankAlu .v (dstNum s .d d.toNat) true) ∧
  (∀ m a b s, Issues (.bsmx m a b) s →
    BankIssues (.bsmx m a b) s a (.alu (aluCommand s 7 false false (srcG s (.bsmx m a b) .b b.toNat) 0 0))
      .bankAlu .none 0 true)

/-- Structure and bank ALU instructions, each with the command that it gives its bank (R68-R74, R91-R95, R363-R372).
The model's own choices of log entries 3, 72 enter it. -/
def Obligations.BankInstructionsIssue : Prop :=
  Sys2Proof.Claims.StructureInstructionsIssue ∧ Sys2Proof.Claims.BankAluInstructionsIssue

/-! ## Engine commands and the quay queues -/

namespace Sys2Proof.Claims

/-- The issue of a row operation, a CPY or a WALK: ILL for a malformed completion word, PERM for a barrier object that is not the
issuer's, ALIGN for a misaligned address, a wait for one of the unit's 8 command slots, and then the command in its slot behind a
release at package scope (R122, R123, R374-R378). -/
def EngineForms (i : Instr) (kind : CmdKind) (al : Nat) (addrs : List Word) (d : Word) (srcs : List Word) (b : Reg)
    (s : State) : Prop :=
  let core := s.cur.core
  let comp := srcG s i .b b.toNat
  let opw := srcG s i .b (b.toNat + 1)
  let good := compBad comp (kind == .walk) = false ∧
    (compKind comp ≠ 2 ∨ barrierAssigned s (compLevel comp) (compObj comp) = true)
  let aligned := ∀ x ∈ addrs, x.toNat % al = 0
  (compBad comp (kind == .walk) = true → exec i s = .next (preciseFault s .ill 0 0 none)) ∧
  (compBad comp (kind == .walk) = false → compKind comp = 2 → barrierAssigned s (compLevel comp) (compObj comp) = false →
    exec i s = .next (preciseFault s .perm 0 0 none)) ∧
  (∀ x, good → addrs.find? (fun a => a.toNat % al != 0) = some x → exec i s = .next (preciseFault s .align 0 0 (some x.toNat))) ∧
  (good → aligned → (∀ n < 8, (cmdAt s core n).isSome = true) → exec i s = .next (waiting i s s .engineLimit)) ∧
  (∀ n, good → aligned → n < 8 → cmdAt s core n = none → (∀ k < n, (cmdAt s core k).isSome = true) →
    let s1 := begun s 3
    let s2 := { s1 with nextId := s1.nextId + 1 }
    exec i s = .next (done i s (addOut (setCmd s2 core n (some (commandOf s s1.nextId kind d srcs comp opw))) s2.cur
      (outPlain s1.nextId .engine d.toNat))))

/-- The g sources of a row operation, from the first on. -/
def sources (i : Instr) (s : State) (ns : List Nat) : List Word := ns.map fun n => srcG s i .a n

/-- A row operation by its function number (R375). -/
def RowForms (i : Instr) (fn : Nat) (d b : Reg) (ns : List Nat) (s : State) : Prop :=
  EngineForms i (.row fn) 1024 (srcG s i .d d.toNat :: sources i s ns) (srcG s i .d d.toNat) (sources i s ns) b s

end Sys2Proof.Claims

/-- The row operations, CPY and WALK at issue (R374-R378). -/
def Sys2Proof.Claims.EngineCommandsIssue : Prop :=
  (∀ m d a b s, Issues (.rowcpy m d a b) s → RowForms (.rowcpy m d a b) 0 d b [a.toNat] s) ∧
  (∀ m d b s, Issues (.rowset m d b) s → RowForms (.rowset m d b) 1 d b [] s) ∧
  (∀ m d a b s, Issues (.rowand m d a b) s → RowForms (.rowand m d a b) 2 d b [a.toNat, a.toNat + 1] s) ∧
  (∀ m d a b s, Issues (.rowor m d a b) s → RowForms (.rowor m d a b) 3 d b [a.toNat, a.toNat + 1] s) ∧
  (∀ m d a b s, Issues (.rowxor m d a b) s → RowForms (.rowxor m d a b) 4 d b [a.toNat, a.toNat + 1] s) ∧
  (∀ m d a b s, Issues (.rownot m d a b) s → RowForms (.rownot m d a b) 5 d b [a.toNat] s) ∧
  (∀ m d a b s, Issues (.rowmaj m d a b) s → RowForms (.rowmaj m d a b) 6 d b [a.toNat, a.toNat + 1, a.toNat + 2] s) ∧
  (∀ m d a b s, Issues (.cpy m d a b) s →
    let i := Instr.cpy m d a b
    EngineForms i .cpy 64 [srcG s i .d d.toNat, srcG s i .a a.toNat] (srcG s i .d d.toNat) [srcG s i .a a.toNat] b s) ∧
  (∀ m d a b s, Issues (.walk m d a b) s →
    let i := Instr.walk m d a b
    EngineForms i .walk 8 [srcG s i .d d.toNat] (srcG s i .d d.toNat) [srcG s i .a a.toNat] b s)

/-- MXV, QLD and QST at issue (R114-R116, R131, R379-R383). -/
def Sys2Proof.Claims.QuayInstructionsIssue : Prop :=
  (∀ m d a b s, Issues (.mxv m d a b) s →
    let i := Instr.mxv m d a b
    let f := fmtOf (me s).desc
    let core := s.cur.core
    let base := srcG s i .a a.toNat
    let va := (srcG s i .b b.toNat).toNat
    let shape := srcG s i .d d.toNat
    let n := mxvVecBytes f.fb (mxvCols shape)
    let fits := mxvShapeOk shape f.fa = true ∧ va % 64 = 0
    let full := 16 ≤ (myCore s).ldq.length ∨ mxvReserving s core = true
    (base.toNat % 1024 ≠ 0 → exec i s = .next (preciseFault s .align 0 0 (some base.toNat))) ∧
    (base.toNat % 1024 = 0 → (¬fits ∨ ownBankRange core va n = none) →
      exec i s = .next (preciseFault s .bankop 0 0 (some va))) ∧
    (∀ w, base.toNat % 1024 = 0 → fits → ownBankRange core va n = some w → full → exec i s = .next (waiting i s s .loadQueue)) ∧
    (∀ w, base.toNat % 1024 = 0 → fits → ownBankRange core va n = some w → ¬full → freeCommand s core = none →
      exec i s = .next (waiting i s s .engineLimit)) ∧
    (∀ bank off k, base.toNat % 1024 = 0 → fits → ownBankRange core va n = some (bank, off) → ¬full →
      freeCommand s core = some k →
      let s1 := begun s 3
      let s2 := { s1 with nextId := s1.nextId + 1 }
      let s3 := setCmd s2 core k (some (commandOf s s1.nextId .mxv shape [base] 0 0))
      exec i s = .next (done i s (launchAccess s3
        { accessOf s3 s1.nextId .bank with va := va, n := n, pol := 5, cmd := some (.vector off ((n + 63) / 64)) }
        (outFor s3 s1.nextId .mxv .none 0 va))))) ∧
  (∀ m a n s, Issues (.qld m a n) s →
    let i := Instr.qld m a n
    let plain := (me s).desc.fmt = 0
    let fd := (fmtOf (me s).desc).fd
    let f := if plain then 64 else vectorBytes s
    let ea := srcG s i .a a.toNat
    let full := 16 ≤ (myCore s).ldq.length ∨ mxvReserving s s.cur.core = true
    (ea.toNat % f ≠ 0 → exec i s = .next (preciseFault s .align 0 0 (some ea.toNat))) ∧
    (ea.toNat % f = 0 → full → exec i s = .next (waiting i s s .loadQueue)) ∧
    (ea.toNat % f = 0 → ¬full →
      let s1 := modCore (named_ s) s.cur.core fun k => { k with ldq := k.ldq ++ [⟨s.nextId, false, 0, 0, false⟩] }
      let s2 := if n = 1 then writeG s1 (dstNum s1 .a a.toNat) (ea + BitVec.ofNat 64 f) else s1
      AccessForms i s s2
        { accessOf s2 s.nextId .qld with va := ea.toNat, n := f, pol := 1, fmt := if plain then 0 else fd }
        (outPlain s.nextId .qld ea.toNat) true)) ∧
  (∀ m a n s, Issues (.qst m a n) s →
    let i := Instr.qst m a n
    let ea := srcG s i .a a.toNat
    ((myCore s).stq = [] → exec i s = .next (waiting i s s .storeEmpty)) ∧
    (∀ e rest, (myCore s).stq = e :: rest →
      (ea.toNat % e.len ≠ 0 → exec i s = .next (preciseFault s .align 0 0 (some ea.toNat))) ∧
      (ea.toNat % e.len = 0 →
        let s1 := modCore (named_ s) s.cur.core fun k => { k with stq := rest }
        let s2 := if n = 1 then writeG s1 (dstNum s1 .a a.toNat) (ea + BitVec.ofNat 64 e.len) else s1
        AccessForms i s s2
          { accessOf s2 s.nextId .qst with
              va := ea.toNat, n := e.len, pol := 1, data := e.data, mask := BitVec.ofNat 64 (2 ^ e.len - 1), sackd := true }
          (outPlain s.nextId .qst ea.toNat) true)))

/-- Row operations, CPY, WALK, MXV and the quay queues (R116, R117, R122, R123, R374-R383).
The model's own choices of log entries 15, 32, 71, 72 enter it. -/
def Obligations.EngineAndQuayInstructionsIssue : Prop :=
  Sys2Proof.Claims.EngineCommandsIssue ∧ Sys2Proof.Claims.QuayInstructionsIssue

/-! ## Vectors -/

namespace Sys2Proof.Claims

/-- The lanes of the a, b and c operands in a type, with the flags of widening (R388). -/
def laneA (s : State) (i : Instr) (a : Reg) (int : Bool) : List LaneResult :=
  laneSrc int (fmtOf (me s).desc).fa (srcV s i .a a.toNat)
def laneB (s : State) (i : Instr) (b : Reg) (int : Bool) : List LaneResult :=
  laneSrc int (fmtOf (me s).desc).fb (srcV s i .b b.toNat)

/-- The state after a vector unit whose lane results are rs, under the lane mask (R385). -/
def resultV (i : Instr) (s : State) (d : Reg) (int : Bool) (rs : List LaneResult) : State :=
  done i s (putLanes s d int (laneMask (me s)) rs)

/-- INT32 arithmetic of two lanes. -/
def int2 (f : Lane → Lane → Lane) (x y : Nat) : LaneResult := ((f (BitVec.ofNat 32 x) (BitVec.ofNat 32 y)).toNat, 0)

/-- An instruction of two v operands: INT32 by g, FP32 by f. -/
def LanesTwo (c : Mark → Reg → Reg → Reg → BitVec 1 → Instr) (g : Nat → Nat → LaneResult)
    (f : Rounding → Nat → Nat → LaneResult) : Prop :=
  ∀ m d a b t s, Issues (c m d a b t) s →
    let i := c m d a b t
    let int := t == 1
    exec i s = .next (resultV i s d int
      (laneOp2 (if t = 1 then g else f (roundingOf (me s).ss.rnd)) (laneA s i a int) (laneB s i b int)))

/-- A special function of FP32 lanes. -/
def LanesSpecial (c : Mark → Reg → Reg → Instr) (f : Fp → Exact) : Prop :=
  ∀ m d a s, Issues (c m d a) s →
    exec (c m d a) s = .next (resultV (c m d a) s d false
      (laneOp1 (fun x => finish fmt32 (roundingOf (me s).ss.rnd) (f (fmt32.read x))) (laneA s (c m d a) a false)))

/-- A bitwise operation of lanes (R395). -/
def LanesBits (c : Mark → Reg → Reg → Reg → Instr) (f : Lane → Lane → Lane) : Prop :=
  ∀ m d a b s, Issues (c m d a b) s →
    exec (c m d a b) s = .next (resultV (c m d a b) s d false
      ((List.range 16).map fun k =>
        ((f (lane (srcV s (c m d a b) .a a.toNat) k) (lane (srcV s (c m d a b) .b b.toNat) k)).toNat, 0)))

/-- The sign operations of FP32 lanes: a NaN gives the canonical NaN (R390). -/
def signed_ (f : Nat → Nat) (x : Nat) : LaneResult :=
  match fmt32.read x with
  | .nan sig => (0x7FC00000, if sig then 16 else 0)
  | _ => (f x, 0)

end Sys2Proof.Claims

/-- The lane arithmetic of R390 and R392: INT32 wraps, FP32 rounds in the slot's mode. -/
def Obligations.VectorArithmeticResults : Prop :=
  LanesTwo .vadd (int2 fun x y => x + y) (fpAdd fmt32) ∧ LanesTwo .vsub (int2 fun x y => x - y) (fpSub fmt32) ∧
  LanesTwo .vmul (int2 fun x y => x * y) (fpMul fmt32) ∧
  LanesTwo .vmin (fun x y => (if (BitVec.ofNat 32 y).toInt < (BitVec.ofNat 32 x).toInt then y else x, 0))
    (fun _ => fpMinMax fmt32 false) ∧
  LanesTwo .vmax (fun x y => (if (BitVec.ofNat 32 x).toInt < (BitVec.ofNat 32 y).toInt then y else x, 0))
    (fun _ => fpMinMax fmt32 true) ∧
  LanesTwo .vdiv (int2 fun x y => if y = 0 then BitVec.allOnes 32 else x.sdiv y) (fpDiv fmt32) ∧
  (∀ m d a b c t s, Issues (.vfma m d a b c t) s →
    let i := Instr.vfma m d a b c t
    let int := t == 1
    exec i s = .next (resultV i s d int (laneOp3
      (if t = 1 then fun x y z => ((BitVec.ofNat 32 x * BitVec.ofNat 32 y + BitVec.ofNat 32 z).toNat, 0)
        else fpFma fmt32 (roundingOf (me s).ss.rnd))
      (laneA s i a int) (laneB s i b int) (laneSrc int 0 (srcV s i .c c.toNat))))) ∧
  (∀ m d a t s, Issues (.vabs m d a t) s →
    let i := Instr.vabs m d a t
    exec i s = .next (resultV i s d (t == 1) (laneOp1
      (if t = 1 then fun x => (if (BitVec.ofNat 32 x).toInt < 0 then (-(BitVec.ofNat 32 x)).toNat else x, 0)
        else signed_ fun x => x % 2 ^ 31) (laneA s i a (t == 1))))) ∧
  (∀ m d a t s, Issues (.vneg m d a t) s →
    let i := Instr.vneg m d a t
    exec i s = .next (resultV i s d (t == 1) (laneOp1
      (if t = 1 then fun x => ((-(BitVec.ofNat 32 x)).toNat, 0) else signed_ fun x => x ^^^ 2 ^ 31) (laneA s i a (t == 1))))) ∧
  LanesSpecial .vsqrt sqrtX ∧ LanesSpecial .vrcp rcpX ∧ LanesSpecial .vrsq rsqX ∧ LanesSpecial .vexp2 exp2X ∧
  LanesSpecial .vlog2 log2X

/-- Logic, compares and lane movement (R395-R398).
The model's own choices of log entries 76 enter it. -/
def Obligations.VectorLogicAndMovement : Prop :=
  LanesBits .vand (fun x y => x &&& y) ∧ LanesBits .vor (fun x y => x ||| y) ∧ LanesBits .vxor (fun x y => x ^^^ y) ∧
  LanesBits .vshl (fun x y => x <<< (y.toNat % 32)) ∧ LanesBits .vshr (fun x y => x >>> (y.toNat % 32)) ∧
  LanesBits .vsra (fun x y => x.sshiftRight (y.toNat % 32)) ∧
  (∀ m a b c s, Issues (.vcmp m a b c) s →
    let i := Instr.vcmp m a b c
    let int := decide (16 ≤ c.toNat)
    let xs := laneA s i a int
    let ys := laneB s i b int
    let test := fun (k : Nat) =>
      let x := (xs.getD k (0, 0)).1
      let y := (ys.getD k (0, 0)).1
      if int then condHolds (c.toNat - 16) ((BitVec.ofNat 32 x).signExtend 64) ((BitVec.ofNat 32 y).signExtend 64)
      else floatHolds fmt32 c.toNat x y
    ∃ t, exec i s = .next t ∧
      (∀ k < 16, (me t).pw.getLsbD k = ((me s).pw.getLsbD k && test k)) ∧
      (∀ k < 32, 16 ≤ k → (me t).pw.getLsbD k = (me s).pw.getLsbD k) ∧
      (me t).g = (me s).g ∧ (me t).v = (me s).v ∧ t.dram = s.dram ∧ t.sram = s.sram) ∧
  (∀ m d a b s, Issues (.vsel m d a b) s →
    let i := Instr.vsel m d a b
    exec i s = .next (done i s (putLanes s d false 0xFFFF ((List.range 16).map fun k =>
      ((if (me s).pw.getLsbD k then lane (srcV s i .a a.toNat) k else lane (srcV s i .b b.toNat) k).toNat, 0))))) ∧
  (∀ m d a s, Issues (.vbcast m d a) s →
    let i := Instr.vbcast m d a
    exec i s = .next (resultV i s d false (List.replicate 16 (((srcG s i .a a.toNat).extractLsb' 0 32).toNat, 0)))) ∧
  (∀ m d a n s, Issues (.vins m d a n) s →
    let i := Instr.vins m d a n
    let r := dstNum s .d d.toNat
    exec i s = .next (done i s (writeV s r (setLane (rdV (me s) r) n.toNat ((srcG s i .a a.toNat).extractLsb' 0 32))))) ∧
  (∀ m d a n s, Issues (.vext m d a n) s →
    let i := Instr.vext m d a n
    exec i s = .next (resultG i s d ((lane (srcV s i .a a.toNat) n.toNat).setWidth 64))) ∧
  (∀ m d a b s, Issues (.vperm m d a b) s →
    let i := Instr.vperm m d a b
    exec i s = .next (resultV i s d false ((List.range 16).map fun k =>
      ((lane (srcV s i .a a.toNat) ((lane (srcV s i .b b.toNat) k).toNat % 16)).toNat, 0)))) ∧
  (∀ m d a b n s, Issues (.vslide m d a b n) s →
    let i := Instr.vslide m d a b n
    exec i s = .next (resultV i s d false ((List.range 16).map fun k =>
      ((if k + n.toNat < 16 then lane (srcV s i .a a.toNat) (k + n.toNat)
        else lane (srcV s i .b b.toNat) (k + n.toNat - 16)).toNat, 0))))

namespace Sys2Proof.Claims

/-- The lanes that take part: those that the mask enables (R400). -/
def taking (s : State) (l : List LaneResult) : List (Option Nat) :=
  l.zipIdx.map fun e => if (me s).pw.getLsbD e.2 then some e.1.1 else none

/-- A result of a reduction or a scan: an FP32 NaN becomes the canonical one, and a signalling one raises NV, even where it has met no
other value (R228). -/
def asDelivered (int : Bool) (x : Nat) : LaneResult := if int then (x, 0) else signed_ id x

/-- A reduction: the balanced tree over the enabled lanes, the identity when none is (R400, R401). -/
def Reduces (c : Mark → Reg → Reg → BitVec 1 → Instr) (op : Bool → Rounding → Nat → Nat → LaneResult) (ident : BitVec 1 → Nat) :
    Prop :=
  ∀ m d a t s, Issues (c m d a t) s →
    let i := c m d a t
    let int := t == 1
    let xs := laneA s i a int
    let r := tree (op int (roundingOf (me s).ss.rnd)) 4 (taking s xs)
    let v := (r.1.map (asDelivered int)).getD (ident t, 0)
    exec i s = .next (done i s (modMe (putG s d (if t = 1 then BitVec.ofInt 64 (signed 32 v.1) else word v.1)) fun th =>
      orFlags th (flagsOf (laneMask (me s)) xs ||| r.2 ||| v.2)))

/-- A scan in log-step order over the enabled lanes (R246, R402). -/
def Scans (c : Mark → Reg → Reg → BitVec 1 → Instr) (op : Bool → Rounding → Nat → Nat → LaneResult) : Prop :=
  ∀ m d a t s, Issues (c m d a t) s →
    let i := c m d a t
    let int := t == 1
    let xs := laneA s i a int
    let r := logScan (op int (roundingOf (me s).ss.rnd)) (laneMask (me s)) (taking s xs)
    let s1 := modMe s fun th => orFlags th (flagsOf (laneMask (me s)) xs ||| r.2)
    exec i s = .next (done i s (putLanes s1 d int (laneMask (me s)) (r.1.map fun v => asDelivered int (v.getD 0))))

end Sys2Proof.Claims

/-- Reductions and scans (R399-R403), and VCVT to a register and to vsq (R393, R394, R404).
The model's own choices of log entries 33 enter it. -/
def Obligations.ReductionsScansConversions : Prop :=
  Reduces .vredadd lanesAdd (fun _ => 0) ∧
  Reduces .vredmax lanesMax (fun t => if t = 1 then 0x80000000 else 0xFF800000) ∧
  Reduces .vredmin lanesMin (fun t => if t = 1 then 0x7FFFFFFF else 0x7F800000) ∧
  Scans .vscan lanesAdd ∧ Scans .vscanm lanesMax ∧
  (∀ m d a b c s, Issues (.vscanl m d a b c) s →
    let i := Instr.vscanl m d a b c
    let xs := laneA s i a false
    let ys := laneB s i b false
    let carry := ((srcG s i .c c.toNat).extractLsb' 0 32).toNat
    let rs := recurrence (roundingOf (me s).ss.rnd) carry
      ((xs.zip ys).zipIdx.map fun e => ((me s).pw.getLsbD e.2, e.1.1.1, e.1.2.1))
    let s1 := modMe s fun th => orFlags th (flagsOf (laneMask (me s)) xs ||| flagsOf (laneMask (me s)) ys)
    exec i s = .next (done i s (putLanes s1 d false (laneMask (me s)) rs))) ∧
  (∀ m d a p s, Issues (.vcvt m d a p) s →
    let i := Instr.vcvt m d a p
    let f := fmtOf (me s).desc
    let src := if f.fa = 0 then 1 else f.fa
    let dst := if f.fd = 0 then 1 else f.fd
    let ws := codeBits src
    let wd := codeBits dst
    let v := (srcV s i .a a.toNat).toNat
    let xs := if ws = 32 then elems 32 16 v else elems ws 16 (v / 2 ^ (16 * ws * p.toNat))
    let rs := xs.map (convert src dst (roundingOf (me s).ss.rnd))
    let s1 := modMe s fun th => orFlags th (flagsOf (laneMask (me s)) rs)
    let n := dstNum s .d d.toNat
    let old := rdV (me s) n
    let new := if wd = 32 then selLanes (laneMask (me s)) (BitVec.ofNat 512 (packElems 32 (rs.map (·.1)))) old
      else rs.zipIdx.foldl (fun v e => if bit (laneMask (me s)) e.2 then setElem v wd (16 * p.toNat + e.2) e.1.1 else v) old
    let pushed := rs.zipIdx.map fun e => ((if bit (laneMask (me s)) e.2 then e.1.1 else 0, 0) : LaneResult)
    (toStq s d = false → exec i s = .next (done i s (if laneMask (me s) = 0 then s1 else writeV s1 n new))) ∧
    (toStq s d = true → exec i s = .next (done i s (pushStore s1 wd pushed))))

/-- The orders of R401, R246 and R247 with every lane enabled: the balanced tree, the log-step scan and the recurrence, as the
operations on the lanes spell them. -/
def Obligations.VectorAssociationOrders : Prop :=
  ∀ (op : Nat → Nat → Nat) (x : Nat → Nat) (r : Rounding) (h : Nat) (a b : Nat → Nat),
    let f := fun (u v : Nat) => ((op u v, 0) : LaneResult)
    let l := (List.range 16).map fun k => some (x k)
    let pair := fun k => op (x k) (x (k + 1))
    let four := fun k => op (pair k) (pair (k + 2))
    let eight := fun k => op (four k) (four (k + 4))
    let step := fun (d : Nat) (y : Nat → Nat) (k : Nat) => if d ≤ k then op (y (k - d)) (y k) else y k
    tree f 4 l = (some (op (eight 0) (eight 8)), 0) ∧
    (logScan f 0xFFFF l).1 = (List.range 16).map (fun k => some (step 8 (step 4 (step 2 (step 1 x))) k)) ∧
    (recurrence r h ((List.range 2).map fun k => (true, a k, b k))).map (·.1) =
      [(fpFma fmt32 r (a 0) h (b 0)).1, (fpFma fmt32 r (a 1) (fpFma fmt32 r (a 0) h (b 0)).1 (b 1)).1]

/-- The lane mask (R385): the enabled lanes of a register destination take their results, and every other lane and register keeps
its value; only enabled lanes raise flags. A result for vsq enters the store queue instead, with zero bits in its excluded
lanes (R404). -/
def Obligations.MaskedLanesKeepTheirValues : Prop :=
  ∀ (s : State) (d : Reg) (int : Bool) (mask : Nat) (rs : List LaneResult),
    rs.length = 16 → mask < 2 ^ 16 →
    let t := putLanes s d int mask rs
    let n := dstNum s .d d.toNat
    (toStq s d = false →
      (∀ k < 16, lane (rdV (me t) n) k =
        (if bit mask k then BitVec.ofNat 32 (rs.getD k (0, 0)).1 else lane (rdV (me s) n) k)) ∧
      (∀ r, r ≠ n → rdV (me t) r = rdV (me s) r) ∧
      (me t).ss.flags = (me s).ss.flags ||| flagsOf mask rs) ∧
    (toStq s d = true → (fmtOf (me s).desc).fd = 0 →
      (coreAt t s.cur.core).stq = (coreAt s s.cur.core).stq ++
        [⟨64, BitVec.ofNat 512 (packElems 32 ((List.range 16).map fun k => if bit mask k then (rs.getD k (0, 0)).1 else 0))⟩] ∧
      (∀ r, rdV (me t) r = rdV (me s) r)) ∧
    (me t).g = (me s).g ∧ (me t).pw = (me s).pw ∧ t.dram = s.dram ∧ t.sram = s.sram

/-! ## The matrix engine -/

namespace Sys2Proof.Claims

/-- The issuing rider may use what a matrix instruction names: its tile and the table are nobody's or its own (R424). -/
def ownsAll (s : State) (tile : Option Nat) (book : Bool) : Prop :=
  (∀ n, tile = some n → (tileAt s s.cur.core n).owner = 0 ∨ (tileAt s s.cur.core n).owner = (me s).rid) ∧
  (book = true → (myCore s).cbtOwner = 0 ∨ (myCore s).cbtOwner = (me s).rid)

/-- A kernel form is for the kernel slot and supervisors; another form is for the owner (R407, R424). -/
def mayUse (s : State) (k : BitVec 1) (tile : Option Nat) (book : Bool) : Prop :=
  if k = 1 then kernelSlotUp s = true else ownsAll s tile book

/-- The state in which the instruction works: the rider owns what it uses, except under the kernel form. -/
def working (s : State) (k : BitVec 1) (tile : Option Nat) (book : Bool) : State :=
  if k = 1 then s else takeOwner s tile book

/-- A transfer's address: aligned, and in the device region only where it lies wholly within one bank of the core (R422). -/
def transferable (s : State) (va n : Nat) : Prop :=
  va % 64 = 0 ∧ ¬(bankRegion s va ∧ ownBankRange s.cur.core va n = none)

end Sys2Proof.Claims

/-- MZERO, MLD, MST and CBLD where they complete: with the right to the tile or table, no work in flight on it, and a legal address; with
work in flight they wait; PRIV without the right of the kernel form (R406, R407, R421-R424). -/
def Sys2Proof.Claims.TileTransfersIssue : Prop :=
  (∀ m d k s, Issues (.mzero m d k) s →
    let i := Instr.mzero m d k
    let n := dstNum s .d d.toNat
    let core := s.cur.core
    (k = 1 → kernelSlotUp s = false → exec i s = .next (preciseFault s .priv 0 0 none)) ∧
    (mayUse s k (some n) false → (tileAt s core n).pend = 0 →
      exec i s = .next (done i s (modTile (working s k (some n) false) core n fun x =>
        { x with data := [], status := 0, owner := if k = 1 then 0 else x.owner }))) ∧
    (mayUse s k (some n) false → (tileAt s core n).pend ≠ 0 →
      exec i s = .next (waiting i s (working s k (some n) false) (.tile n)))) ∧
  (∀ m d a b k s, Issues (.mld m d a b k) s →
    let i := Instr.mld m d a b k
    let n := dstNum s .d d.toNat
    let core := s.cur.core
    let va := (srcG s i .a a.toNat).toNat
    let s1 := named_ (working s k (some n) false)
    (k = 1 → kernelSlotUp s = false → exec i s = .next (preciseFault s .priv 0 0 none)) ∧
    (mayUse s k (some n) false → transferable s va 1024 → (tileAt s core n).pend = 0 →
      let s2 := modTile s1 core n fun x =>
        { x with pend := x.pend + 1, owner := if k = 1 then (srcG s i .b b.toNat).extractLsb' 0 32 else x.owner }
      exec i s = .next (done i s (launchAccess s2
        { accessOf s2 s.nextId (.tileLoad n) with
            va := va, n := 1024, pol := if va < 2 ^ 56 ∧ inDeviceRegion va then 5 else 1,
            cmd := some (.readLines (va % 65536) 16) }
        { outPlain s.nextId .tile va with tile := n }))) ∧
    (mayUse s k (some n) false → transferable s va 1024 → (tileAt s core n).pend ≠ 0 →
      exec i s = .next (waiting i s (working s k (some n) false) (.tile n)))) ∧
  (∀ m d a k s, Issues (.mst m d a k) s →
    let i := Instr.mst m d a k
    let n := dstNum s .d d.toNat
    let core := s.cur.core
    let va := (srcG s i .a a.toNat).toNat
    let fd := (fmtOf (me s).desc).fd
    let len := if fd = 0 then 1024 else 512
    let r := tileLines fd (roundingOf (me s).ss.rnd) (tileAt s core n).data
    let s1 := named_ (modMe (working s k (some n) false) fun th => orFlags th r.2)
    (k = 1 → kernelSlotUp s = false → exec i s = .next (preciseFault s .priv 0 0 none)) ∧
    (mayUse s k (some n) false → transferable s va len → (tileAt s core n).pend = 0 →
      exec i s = .next (done i s (launchAccess s1
        { accessOf s1 s.nextId (.tileStore n) with
            va := va, n := len, pol := if va < 2 ^ 56 ∧ inDeviceRegion va then 5 else 1, lines := r.1, sackd := true,
            cmd := some (.writeLines (va % 65536) r.1) }
        { outPlain s.nextId .tile va with tile := n }))) ∧
    (mayUse s k (some n) false → transferable s va len → (tileAt s core n).pend ≠ 0 →
      exec i s = .next (waiting i s (working s k (some n) false) (.tile n)))) ∧
  (∀ m a b k s, Issues (.cbld m a b k) s →
    let i := Instr.cbld m a b k
    let core := s.cur.core
    let va := (srcG s i .a a.toNat).toNat
    let s1 := named_ (working s k none true)
    (k = 1 → kernelSlotUp s = false → exec i s = .next (preciseFault s .priv 0 0 none)) ∧
    (mayUse s k none true → transferable s va 768 → bookIdle (myCore s) = true →
      let s2 := modCore s1 core fun c =>
        { c with bookLoad := some s.nextId,
                 cbtOwner := if k = 1 then (srcG s i .b b.toNat).extractLsb' 0 32 else c.cbtOwner }
      exec i s = .next (done i s (launchAccess s2
        { accessOf s2 s.nextId .bookLoad with
            va := va, n := 768, pol := if va < 2 ^ 56 ∧ inDeviceRegion va then 5 else 1,
            cmd := some (.readLines (va % 65536) 12) }
        (outPlain s.nextId .tile va)))) ∧
    (mayUse s k none true → transferable s va 768 → bookIdle (myCore s) = false →
      exec i s = .next (waiting i s (working s k none true) .table)))

/-- An instruction on a tile that another rider owns is not performed: its slot is SUSPENDED, and one ACCOWN event names the tile
(R222, R424). -/
def Sys2Proof.Claims.ForeignTileSuspends : Prop :=
  ∀ m d s n, Issues (.mzero m d 0) s → n = dstNum s .d d.toNat →
    (tileAt s s.cur.core n).owner ≠ 0 → (tileAt s s.cur.core n).owner ≠ (me s).rid →
    exec (.mzero m d 0) s = .next (sendEvent (modMe s fun th => { th with susp := true }) s.cur.core 0x52 s.cur.slot (me s).rid
      (word (2 ^ n)))

/-- Tile and table transfers, and the suspension for a tile of another rider (R421-R424).
The model's own choices of log entries 29 enter it. -/
def Obligations.TileInstructionsIssue : Prop :=
  Sys2Proof.Claims.TileTransfersIssue ∧ Sys2Proof.Claims.ForeignTileSuspends

/-- MMA (R408-R412, R415, R418): its operands are aligned blocks of the core's own banks; with the right to its tile, room in the
matrix queue and room for its pins, the step joins the open batch and the queue; in a batch that has failed it only counts. -/
def Sys2Proof.Claims.MatrixStepsIssue : Prop :=
  ∀ m d a b s, Issues (.mma m d a b) s →
    let i := Instr.mma m d a b
    let f := fmtOf (me s).desc
    let fa := if f.fa = 0 then 3 else f.fa
    let fb := if f.fb = 0 then 3 else f.fb
    let core := s.cur.core
    let va := (srcG s i .a a.toNat).toNat
    let vb := (srcG s i .b b.toNat).toNat
    let vs := (baseValue s i).toNat
    let nb := 16 * mmaRowB fa fb
    let na := if f.scl = 1 ∨ f.scl = 3 then scaleBytes fa else 0
    let nsb := if f.scl = 2 ∨ f.scl = 3 then scaleBytes fa else 0
    let tile := dstNum s .d d.toNat
    (va % 64 ≠ 0 → exec i s = .next (preciseFault s .align 0 0 (some va))) ∧
    (va % 64 = 0 → vb % 64 ≠ 0 → exec i s = .next (preciseFault s .align 0 0 (some vb))) ∧
    (∀ ba oa bb ob bs os, va % 64 = 0 → vb % 64 = 0 → (f.scl = 0 ∨ vs % 16 = 0) →
      ownBankRange core va 1536 = some (ba, oa) → ownBankRange core vb nb = some (bb, ob) →
      (if f.scl = 0 then some (0, 0) else ownBankRange core vs (na + nsb)) = some (bs, os) →
      ownsAll s (some tile) (fb == 15) →
      let s1 := takeOwner s (some tile) (fb == 15)
      let want := rangeLines ba oa 1536 ++ rangeLines bb ob nb ++ (if na = 0 then [] else rangeLines bs os na) ++
        (if nsb = 0 then [] else rangeLines bs (os + na) nsb)
      (batchFailed (me s) = true → exec i s = .next (done i s (modMe s1 fun th => countStep th false s.nextId))) ∧
      (batchFailed (me s) = false → 32 ≤ (myCore s).mq.length → exec i s = .next (waiting i s s1 .matrixQueue)) ∧
      (batchFailed (me s) = false → (myCore s).mq.length < 32 → pinsFit s1 core want = false →
        exec i s = .next (waiting i s s1 (.pin want))) ∧
      (batchFailed (me s) = false → (myCore s).mq.length < 32 → pinsFit s1 core want = true →
        ∃ t st, exec i s = .next t ∧ (coreAt t core).mq = (myCore s).mq ++ [st] ∧
          st.id = s.nextId ∧ st.tile = tile ∧ st.fa = fa ∧ st.fb = fb ∧ st.scl = f.scl ∧ st.rnd = (me s).ss.rnd ∧
          st.want = want ∧ st.rid = (me s).rid ∧ st.slot = s.cur.slot ∧
          st.aAddr = bankOff core ba oa ∧ st.bAddr = bankOff core bb ob ∧ st.index = (me s).mx.open_.toNat ∧
          (∃ b ∈ (me t).mx.batches, b.uid = st.bid ∧ b.closed = false ∧ b.live ≠ 0) ∧ st.started = false ∧
          (tileAt t core tile).pend = (tileAt s core tile).pend + 1 ∧ (tileAt t core tile).owner = (me s).rid ∧
          (tileAt t core tile).data = (tileAt s core tile).data ∧ t.dram = s.dram ∧ t.sram = s.sram))

/-- MCOMMIT, MWAITB and MSTAT (R415-R417, R419): a batch closes, and the status words read as laid out; MWAITB clears the failure
record. -/
def Sys2Proof.Claims.MatrixBatchInstructions : Prop :=
  (∀ m s, Issues (.mcommit m) s →
    let live := ∃ b ∈ (me s).mx.batches, b.closed = false ∧ b.live ≠ 0
    (live → 15 ≤ batchesOut (me s) → exec (.mcommit m) s = .next (waiting (.mcommit m) s s (.batches 14))) ∧
    (¬live ∨ batchesOut (me s) < 15 → exec (.mcommit m) s = .next (done (.mcommit m) s (modMe s closeBatch)))) ∧
  (∀ m d n s, Issues (.mwaitb m d n) s →
    let i := Instr.mwaitb m d n
    (n.toNat < batchesOut (me s) → exec i s = .next (waiting i s s (.batches n.toNat))) ∧
    (batchesOut (me s) ≤ n.toNat →
      exec i s = .next (done i s (putG (modMe s fun th =>
        { th with mx := { th.mx with fstep := 0, fbatch := 0, ftile := 0, fstat := 0 } }) d (matrixWord (me s)))))) ∧
  (∀ m d b c s, Issues (.mstat m d b c) s →
    exec (.mstat m d b c) s = .next (resultG (.mstat m d b c) s d
      (if c = 0 then matrixWord (me s) else tileWord (tileAt s s.cur.core b.toNat)))) ∧
  (∀ th : Thread, batchesOut th < 256 → (matrixWord th).extractLsb' 48 16 = th.mx.fstep ∧
    (matrixWord th).extractLsb' 40 8 = th.mx.fbatch ∧ (matrixWord th).extractLsb' 36 4 = th.mx.ftile ∧
    (matrixWord th).extractLsb' 34 2 = th.mx.fstat ∧ (matrixWord th).extractLsb' 24 8 = th.mx.seq ∧
    (matrixWord th).extractLsb' 8 16 = th.mx.open_ ∧ (matrixWord th).extractLsb' 0 8 = BitVec.ofNat 8 (batchesOut th)) ∧
  (∀ x : Tile, (tileWord x).extractLsb' 32 32 = x.owner ∧ (tileWord x).extractLsb' 30 2 = x.status ∧
    (tileWord x).extractLsb' 24 6 = BitVec.ofNat 6 x.pend ∧ (tileWord x).extractLsb' 16 8 = x.batch ∧
    (tileWord x).extractLsb' 0 16 = x.step)

/-- MMA and the instructions of its batches (R411-R419).
The model's own choices of log entries 29, 77 enter it. -/
def Obligations.MatrixInstructionResults : Prop :=
  Sys2Proof.Claims.MatrixStepsIssue ∧ Sys2Proof.Claims.MatrixBatchInstructions

/-! ## Accesses on their way -/

namespace Sys2Proof.Claims

/-- The event goes on to t. -/
def Gives (i : Instr) (s t : State) : Prop := exec i s = .next t

/-- The event goes on to a state of which P holds. -/
def GivesSome (i : Instr) (s : State) (P : State → Prop) : Prop := ∃ t, exec i s = .next t ∧ P t

end Sys2Proof.Claims

namespace Sys2Proof.Claims

/-- The address lies in DRAM. -/
def inDram (a : Nat) : Prop := ∃ w, window a = .iw w ∨ window a = .blw w

/-- An access may leave, in the state s0: no older access of its thread holds it back (R98, R160-R163, R175), it is no store that a grant
would divide (R180), and the conditions of R162 hold
for one that is a release, whose write-backs are then no longer awaited (R123, R155). -/
def MayLeave (s : State) (a : Access) (s0 : State) : Prop :=
  heldBack s a = false ∧ splitsStore s a = false ∧
    ((releaseScope a = none ∧ s0 = s) ∨ (∃ k, releaseScope a = some k ∧ releaseReady s a k = true ∧ s0 = pruneWaits s a.t))

end Sys2Proof.Claims

/-- An access whose checks are over and that nothing holds back leaves for what its address names: a bank, a register of the control
window, a peer or its home; an open release fence whose conditions hold is no more; a release whose conditions do not hold yet has later
deferred lines written back, and waits; a store or a queue access that is held back has passed its checks, and its acceptance returns all
the same; an access port walks on its own; a command whose release is done is taken, and the pin requests of
a matrix step leave, behind the release fences before it (R123, R155, R162, R165, R294, R412, R432).
The model's own choices of log entries 12, 15, 19, 51, 64, 70, 75 enter it. -/
def Obligations.AcceptanceReturnPerformsTheAccess : Prop :=
  (∀ id s a s0, accessAt s id = some a → a.stage = .checked → MayLeave s a s0 → (∀ f l n, a.kind ≠ .range f l n) →
    (∀ k, a.kind ≠ .fence k) →
    (∀ w, window a.pa = .bank w → Gives (.acceptanceReturn id) s (toBank s0 a w)) ∧
    (∀ o, window a.pa = .control o → Gives (.acceptanceReturn id) s (toControl s0 a o)) ∧
    (window a.pa = .peer → Gives (.acceptanceReturn id) s (toPeer s0 a)) ∧
    ((∃ w, window a.pa = .iw w ∨ window a.pa = .blw w) → Gives (.acceptanceReturn id) s (toDram s0 a)) ∧
    (window a.pa = .hole → Gives (.acceptanceReturn id) s (failAccess s0 a.id (Fail.ofCause 6 a.va)))) ∧
  (∀ id s a k s0, accessAt s id = some a → a.stage = .checked → a.kind = .fence k → MayLeave s a s0 →
    Gives (.acceptanceReturn id) s (dropAccess s0 id)) ∧
  (∀ id s a k, accessAt s id = some a → a.stage = .checked → heldBack s a = false → releaseScope a = some k → releaseReady s a k = false →
    Gives (.acceptanceReturn id) s (flushLater s a k)) ∧
  (∀ id s a, accessAt s id = some a → a.stage = .checked → (heldBack s a = true ∨ splitsStore s a = true) →
    (∀ f l n, a.kind ≠ .range f l n) → storesTile a.kind = false →
    ((a.kind = .store ∨ a.kind = .qst ∨ a.kind = .qld) → inDram a.pa → Gives (.acceptanceReturn id) s (acceptOut s a.t id none none)) ∧
    (a.kind ≠ .store → a.kind ≠ .qst → a.kind ≠ .qld → a.kind ≠ .bookLoad → (∀ n, a.kind ≠ .tileLoad n) →
      Gives (.acceptanceReturn id) s s)) ∧
  (∀ id s a f l n, accessAt s id = some a → a.stage = .checked → heldBack s a = false → a.kind = .range f l n → f ≠ 3 →
    ∀ b, accessAt (rangeLine s a f) id = some b → Gives (.acceptanceReturn id) s (nextRangeLine (rangeLine s a f) b)) ∧
  (∀ id s a k, accessAt s id = some a → a.stage = .coal → a.kind = .port k → Gives (.acceptanceReturn id) s (portTranslate s a)) ∧
  (∀ id s c n, accessAt s id = none → waitingCommand s id = some (c, n) →
    Gives (.acceptanceReturn id) s (acceptCommand s c n)) ∧
  (∀ id s c m, accessAt s id = none → waitingCommand s id = none → waitingStep s id = some c → stepAt s c id = some m →
    (fenceOpen s ⟨c, m.slot, 0⟩ id = false → Gives (.acceptanceReturn id) s (sendPins s c id)) ∧
    (fenceOpen s ⟨c, m.slot, 0⟩ id = true → Gives (.acceptanceReturn id) s s))

/-- Replies, results and acknowledgements: a reply waits for what its home sent the die before it; a load's line is kept as its policy says
and the access lands; a landed value waits, done,
for the thread's marker, and leaves the accesses in flight; a queue read fills its entry and a transfer its tile or the table; an
acknowledgement lowers the thread's counter; a clearance ends the wait of its write, and only then are the bytes of a `.wi` store in the
copies of its own die (R114, R136, R160, R164, R290, R422, R423, R446).
The model's own choices of log entries 12, 62 enter it. -/
def Obligations.RepliesAndAcknowledgements : Prop :=
  (∀ id s a r, accessAt s id = some a → a.stage = .reply r → isDram a.pa = true →
    messageAhead s (dieOf a.t.core) (homeLine a.pa / 2 ^ 24) r.seq = true → Gives (.fillReply id) s s) ∧
  (∀ id s a r, accessAt s id = some a → a.stage = .reply r →
    messageAhead s (dieOf a.t.core) (homeLine a.pa / 2 ^ 24) r.seq = false →
    let die := dieOf a.t.core
    let core := a.t.core
    let p := lineAddr a.pa
    let s1 := stageAccess s id .checked
    let owned := takeWords s1 die core p r a.t
    let bad := readBad s1 die p r.bad
    (a.kind = .load →
      (a.pol = 0 → Gives (.fillReply id) s (landRead owned id (l2At owned die p).data (l2At owned die p).poison)) ∧
      (a.pol = 1 → Gives (.fillReply id) s (landRead (refreshCopies s1 die core p r) id (readOver s1 die p r.data) bad)) ∧
      (a.pol = 2 → (coreAt s core).lease ≠ 0 →
        Gives (.fillReply id) s (landRead (fillLeased s1 die core p r true) id (readOver s1 die p r.data) bad)) ∧
      (a.pol = 2 → (coreAt s core).lease = 0 →
        Gives (.fillReply id) s (landRead (refreshCopies s1 die core p r) id (readOver s1 die p r.data) bad)) ∧
      (a.pol = 3 → Gives (.fillReply id) s (landRead (fillShared s1 die core p r true) id (readOver s1 die p r.data) bad))) ∧
    (a.kind = .store → Gives (.fillReply id) s (stageAccess (writeOwned owned die core p (accMask a) (accData a)) id .acked)) ∧
    (a.kind = .qld → Gives (.fillReply id) s (landRead (refreshCopies s1 die core p r) id r.data r.bad))) ∧
  (∀ id s a, accessAt s id = some a → a.stage = .landing → a.kind = .load → forBerth a = false → a.sackd = false →
    (a.poison = true → Gives (.deferredResultLand id) s (failAccess s id (poisonFail a))) ∧
    (a.poison = false → ∀ o, ((threadAt s a.t).outs.find? fun x => x.id == id) = some o → o.kind = .ld →
      GivesSome (.deferredResultLand id) s fun t =>
        accessAt t id = none ∧
        (threadAt t a.t).outs = (threadAt s a.t).outs.map fun x =>
          if x.id = id then { x with done := true, value := a.value, bst := a.bst, flags := a.flags, fail := none } else x)) ∧
  (∀ id s a, accessAt s id = some a → a.stage = .landing → a.kind = .qld → a.fmt = 0 →
    GivesSome (.qldDataArrive id) s fun t =>
      accessAt t id = none ∧
      (coreAt t a.t.core).ldq = (coreAt s a.t.core).ldq.map fun e =>
        if e.id = id then { e with ready := true, data := a.value, flags := 0, poison := a.poison } else e) ∧
  (∀ id s a n, accessAt s id = some a → a.stage = .landing → a.kind = .tileLoad n →
    GivesSome (.tileLoadDone id) s fun t =>
      accessAt t id = none ∧ (tileAt t a.t.core n).status = 0 ∧ (tileAt t a.t.core n).pend = (tileAt s a.t.core n).pend - 1 ∧
      (tileAt t a.t.core n).data = tileData ((a.lines.flatMap fun l => elems 32 16 l.toNat).map (BitVec.ofNat 32))) ∧
  (∀ id s a, accessAt s id = some a → a.stage = .landing → a.kind = .bookLoad →
    GivesSome (.cbldDone id) s fun t =>
      accessAt t id = none ∧ (coreAt t a.t.core).cbtV = true ∧ (coreAt t a.t.core).bookLoad = none ∧
      ∀ i, i < 768 → (coreAt t a.t.core).book.getD i 0 = ((a.lines.flatMap fun l => bytesOf 64 l.toNat).take 768).getD i 0) ∧
  (∀ id s a, accessAt s id = some a → a.stage = .acked → a.kind = .store → a.waits = [] → a.sackd = true →
    (threadAt s a.t).rid = a.rid →
    GivesSome (.storeAck id) s fun t => accessAt t id = none ∧ (threadAt t a.t).sack = (threadAt s a.t).sack - 1) ∧
  (∀ id s c, (s.clears.find? fun c => c.id == id && c.acks == 0) = some c →
    (c.wi = false → Gives (.clearance id) s { s with clears := s.clears.erase c }) ∧
    (∀ a, c.wi = true → accessAt s id = some a →
      Gives (.clearance id) s (storePerformed (storeIntoCopies { s with clears := s.clears.erase c } (dieOf a.t.core) a.t.core
        (lineAddr a.pa) (accMask a) (accData a)) id)))

/-- A marker commits what has landed, in program order: each result goes to its register, with its flags and status, and the thread then
goes on. The results before a failed one commit, and that one freezes the thread with one late packet; in precise mode a failed access
freezes it at the unit (R292, R295, R296, R323). -/
def Obligations.MarkerCommitsResults : Prop :=
  (∀ t s, (threadAt s t).run = .parked .marker → (threadAt s t).froz = false →
    (∀ o ∈ (threadAt s t).outs, o.done = true ∧ o.fail = none ∧ pushesOut o = false) →
    GivesSome (.markerCommit t) s fun s' =>
      threadAt s' t =
        { (threadAt s t).outs.foldl commitResult (threadAt s t) with outs := [], run := .ready, back := none }) ∧
  (∀ t s os o rest f, (threadAt s t).run = .parked .marker → (threadAt s t).froz = false → (threadAt s t).outs = os ++ o :: rest →
    (∀ x ∈ os ++ o :: rest, x.done = true) → (∀ x ∈ os, x.fail = none ∧ pushesOut x = false) → o.fail = some f →
    ((threadAt s t).back = none ∨ o.late = true) → (∀ x, (threadAt s t).prog ≠ .faulted x) →
    GivesSome (.markerCommit t) s fun s' =>
      threadAt s' t = { os.foldl commitResult (threadAt s t) with outs := o :: rest, froz := true, fault := lateFault o f false }) ∧
  (∀ t s o rest f b, (threadAt s t).run = .parked .marker → (threadAt s t).froz = false → (threadAt s t).outs = o :: rest →
    (∀ x ∈ o :: rest, x.done = true) → o.fail = some f → o.late = false → (threadAt s t).back = some b →
    Gives (.markerCommit t) s (freezePrecise s t o f b)) ∧
  (∀ t s, (threadAt s t).run = .parked .marker → (threadAt s t).susp = false → (∃ o ∈ (threadAt s t).outs, o.done = false) →
    Gives (.markerCommit t) s s)

/-! ## Homes and copies -/

/-- A home serves the request at its head, once the line is in its LLC (R51, R149): a `.wt` read of a line that no die owns is answered with
the home's data. A reservation is granted once the agent of a line in host bias has answered (R461). An eviction writes a modified line to DRAM, and the line is in the LLC no more (R54). -/
def Sys2Proof.Claims.HomeServesItsQueue : Prop :=
  (∀ line s r rest,
    let awake := wakeStack s line
    let s1 := if (llcAt s line).isSome then awake else fetchLlc awake line
    ((llcAt s line).isSome = true ∨ (llcMates s line).length < 16) →
    (homeAt s line).queue = r :: rest → (homeAt s line).act = none → (homeAt s line).own = 0 → (homeAt s line).snoop = none →
    (homeAt s line).snooped = [] → (homeAt s line).unanswered = [] → homeFree s line = true → r.bias = false →
    (r.ns = true → secureLine s line = false) → r.host = none → r.kind = .readWt → (dieAt s (dieOf r.t.core)).fenced = false →
    Gives (.homeRequest line) s
      (stageAccess { (modHome s1 line fun h => { h with queue := rest }) with nextId := s.nextId + 1 } r.id
        (.reply ⟨homeData s line, 0, 0, false, linePoison s line, s.nextId⟩))) ∧
  (∀ line s r rest l, s.memOk = true → (homeAt s line).queue = r :: rest → (homeAt s line).act = none → homeFree s line = true →
    r.kind = .evict → (homeAt s line).own = 0 → (homeAt s line).shr = 0 → llcAt s line = some l →
    GivesSome (.homeRequest line) s fun t =>
      llcAt t line = none ∧ (homeAt t line).queue = rest ∧
      ∀ a, rdByte t.dram a = if a / 64 = line ∧ l.dirty = true then l.data.extractLsb' (8 * (a % 64)) 8 else rdByte s.dram a) ∧
  (∀ line s r rest, (homeAt s line).queue = r :: rest → (homeAt s line).act = none → homeFree s line = true → r.host = none →
    r.kind ≠ .evict → r.kind ≠ .flip → r.ns = true → secureLine s line = true →
    let s1 := wakeStack s line
    Gives (.homeRequest line) s (refuseReq (modHome s1 line fun h => { h with queue := rest }) r .world 12)) ∧
  (∀ line word s x, (homeAt s line).act = none → homeFree s line = true → grantable (homeAt s line).resv word = some x →
    (llcAt s line).isSome = true → x.req.bias = false → (homeAt s line).snoop = none → (homeAt s line).snooped = [] →
    (homeAt s line).unanswered = [] → Gives (.reservationGrant line word) s (startHome s line x.req)) ∧
  (∀ line word s x, (homeAt s line).act = none → homeFree s line = true → grantable (homeAt s line).resv word = some x →
    (llcAt s line).isSome = true → x.req.bias = true → (homeAt s line).snoop = none → (homeAt s line).snooped = [] →
    (homeAt s line).unanswered = [] →
    Gives (.reservationGrant line word) s (sendSnoop s line (.req x.req.seq) true x.req.ns)) ∧
  (∀ line word s x y a, (homeAt s line).act = none → homeFree s line = true →
    ((homeAt s line).resv.find? fun x => x.word == word && resvApplied s x) = some x →
    resvNext (homeAt s line).resv x = some y → (homeAt s line).odie = x.req.die → (homeAt s line).shr = 0 →
    grantable ((homeAt s line).resv.erase x) y.word = some y → y.req.host = none → y.req.die = x.req.die → y.req.pa = x.req.pa →
    accessAt s y.req.id = some a → dieOwns s x.req.die x.req.pa (x.req.words ||| y.req.words) = true →
    let s0 := modHome s line fun h => { h with resv := h.resv.erase x }
    Gives (.forwardWord line word) s
      (applyAtomic (modHome s0 line fun h => { h with resv := h.resv.map fun z => if z == y then { z with granted := true } else z }) a))

/-- The messages of a home to a die, taken behind the replies that the home sent before: an invalidation leaves no S copy of the line, a
recall no recalled word owned; a discard leaves neither, and writes nothing to its home. A leased copy whose time has run is dropped
(R54, R106, R138, R147, R148). -/
def Sys2Proof.Claims.DiesObeyTheirHomes : Prop :=
  (∀ die home s m, headMsg s die home = some m → replyAhead s die home m.seq = true →
    Gives (.invalidate die home) s s ∧ Gives (.recallWords die home) s s ∧ Gives (.recallAndDiscard die home) s s) ∧
  (∀ die home s m, headMsg s die home = some m → replyAhead s die home m.seq = false → m.kind = .invalidate →
    GivesSome (.invalidate die home) s fun t =>
      (∀ pa ∈ aliasesOf m.line, (l2At t die pa).st ≠ .shared) ∧
      (die < 4 → sharedTo s die m.line = false → (homeAt t m.line).shr.getLsbD die = false) ∧ t.dram = s.dram ∧ t.llc = s.llc) ∧
  (∀ die home s m pa, headMsg s die home = some m → replyAhead s die home m.seq = false → m.kind = .aliasCopy pa →
    GivesSome (.invalidate die home) s fun t =>
      (l2At t die (otherAlias pa)).st ≠ .shared ∧ t.dram = s.dram ∧ t.llc = s.llc) ∧
  (∀ die home s m w, headMsg s die home = some m → replyAhead s die home m.seq = false → m.kind = .recall w →
    GivesSome (.recallWords die home) s fun t => ∀ pa ∈ aliasesOf m.line, (l2At t die pa).own &&& w = 0) ∧
  (∀ die home s m w, headMsg s die home = some m → replyAhead s die home m.seq = false → m.kind = .discard w →
    GivesSome (.recallAndDiscard die home) s fun t =>
      t.dram = s.dram ∧ t.llc = s.llc ∧ ∀ pa ∈ aliasesOf m.line, (l2At t die pa).own &&& w = 0 ∧ (l2At t die pa).st ≠ .shared) ∧
  (∀ core line s c, l1At s core (64 * line) = some c → c.st = .leased → (coreAt s core).lease.toNat ≤ s.now - c.fill →
    GivesSome (.leaseExpiry (.l1 core) line) s fun t => l1At t core (64 * line) = none) ∧
  (∀ die line s, (l2At s die (64 * line)).st = .leased →
    (l2At s die (64 * line)).len ≤ s.now - (l2At s die (64 * line)).fill →
    GivesSome (.leaseExpiry (.l2 die) line) s fun t =>
      (l2At t die (64 * line)).st = .inv ∧ (l2At t die (64 * line)).dmask = (l2At s die (64 * line)).dmask ∧
      (l2At t die (64 * line)).ddata = (if (l2At s die (64 * line)).dmask = 0 then 0 else (l2At s die (64 * line)).ddata))

/-- What a home does for a request, and what a die does with the home's messages (R54, R106, R138, R147-R153).
The model's own choices of log entries 5, 9, 12, 17, 31, 40, 62 enter it. -/
def Obligations.HomesAndCopies : Prop :=
  Sys2Proof.Claims.HomeServesItsQueue ∧ Sys2Proof.Claims.DiesObeyTheirHomes

/-! ## Banks and the matrix queue -/

namespace Sys2Proof.Claims

/-- The bank has its turn with the request q: the cycle of its arrival is over, its core is awake, its die is not fenced, it does not serve the L1, and no arrival waits
before it. -/
def Heads (s : State) (core bank : Nat) (q : BankReq) (kind : Nat) : Prop :=
  turnReq s core bank = some q ∧ q.came < s.now ∧ (bankAt s core bank).net = [] ∧
  (coreAt s core).idle = false ∧ (dieAt s (dieOf core)).fenced = false ∧ servesL1 s core bank = false ∧ turnKind q = kind

/-- The request leaves the queue and its answer goes to whoever waits. -/
def Performs (i : Instr) (s : State) (core bank : Nat) (q : BankReq) : Prop :=
  ∀ s' r, bankPerform s core bank q = .done s' r →
    Gives i s (bankReply (modBank s' core bank fun b => { b with queue := b.queue.erase q }) q r)

end Sys2Proof.Claims

/-- A bank performs the request that has its turn and answers it; pins and MXV vectors have events of their own, and a held write proceeds
the same way; a request for another bank of the composite goes there; a bank ALU command runs one line step at a time. The turn is that of
the head of the queue; while an ALU command runs no request of its own slot passes it. The queue holds 32 entries, and further arrivals
wait before it (R58, R67, R85, R97, R380, R412, R413).
The model's own choices of log entries 12, 19, 22, 28 enter it. -/
def Obligations.BankTurns : Prop :=
  (∀ s c b q rest, (bankAt s c b).queue = q :: rest → (bankAt s c b).chg = none → (bankAt s c b).alu = none →
    turnReq s c b = some q) ∧
  (∀ s c b u q, (bankAt s c b).chg = none → (bankAt s c b).alu = some u → turnReq s c b = some q →
    q ∈ (bankAt s c b).queue ∧ q.t ≠ u.req.t ∧ writesRegion u c b q = false) ∧
  (∀ s c b q, 32 ≤ (bankAt s (forwarded s c) b).queue.length →
    (bankAt (admitBank s c b q) (forwarded s c) b).queue = (bankAt s (forwarded s c) b).queue ∧
    (bankAt (admitBank s c b q) (forwarded s c) b).net.length = (bankAt s (forwarded s c) b).net.length + 1) ∧
  (∀ c b q s, Heads s c b q 0 → Performs (.bankOperation c b) s c b q) ∧
  (∀ c b q s, Heads s c b q 0 → ∀ c' b', bankPerform s c b q = .forward c' b' →
    Gives (.bankOperation c b) s
      (admitBank (blockRole (modBank s c b fun x => { x with queue := x.queue.erase q }) c b q) c' b' { q with fwd := true })) ∧
  (∀ c b q s, Heads s c b q 0 → bankPerform s c b q = .held → Gives (.bankOperation c b) s s) ∧
  (∀ c b q s, Heads s c b q 1 → Performs (.pinAccept c b) s c b q) ∧
  (∀ c b q s, Heads s c b q 0 → aluWrites s c b = false → Performs (.heldWriteProceed c b) s c b q) ∧
  (∀ c b q s, Heads s c b q 2 →
    ((List.range 16).find? fun n => match turnReq s c n with
      | some x => turnKind x == 2
      | none => false) = some b → Performs (.mxvAccept c) s c b q) ∧
  (∀ c b s u s' u', (bankAt s c b).alu = some u → aluStep s c b u = .ran s' u' →
    (u'.step = aluSteps u'.c →
      Gives (.bankAluLineStep c b) s
        (bankReply (modBank s' c b fun x => { x with alu := none }) u'.req ⟨some 0, aluValue u', [], u'.flags, none⟩)) ∧
    (u'.step ≠ aluSteps u'.c → Gives (.bankAluLineStep c b) s (modBank s' c b fun x => { x with alu := some u' }))) ∧
  (∀ c b s u l, (bankAt s c b).alu = some u → aluStep s c b u = .poison l →
    Gives (.bankAluLineStep c b) s (bankReply (modBank s c b fun x => { x with alu := none }) u.req (.ofFail .poison l)))

/-- A change of personality is applied, answered with its status and drop count, and leaves no bank of its composite BUSY; one that meets
a poisoned line performs nothing; a link is one
act that gives every named bank the same composite, or BADPARAM (R77, R78, R81, R85).
The model's own choices of log entries 27, 28 enter it. -/
def Obligations.PersonalityChangesAndLinks : Prop :=
  (∀ c b s u w, (bankAt s c b).chg = some u → u.isLink = false → u.mode < 3 → u.carve = false → u.req.cmd = .change w →
    othersDrained s c b = true → pinsAllow s (bankOf u.req.addr).1 (bankOf u.req.addr).2 u.mode = true →
    changePoisoned s (bankOf u.req.addr).1 (bankOf u.req.addr).2 u.mode = false →
    let x := changeNow (modBank s c b fun b => { b with chg := none }) (bankOf u.req.addr).1 (bankOf u.req.addr).2 u.p u.mode
    Gives (.personalityChange c b) s
      (bankReply (sendBack x.1 c b) u.req { BankResult.ofStatus x.2.1 with value := BitVec.ofNat 512 x.2.2 })) ∧
  (∀ c b s u, (bankAt s c b).chg = some u → u.isLink = false → u.mode < 3 → u.carve = false → othersDrained s c b = true →
    pinsAllow s (bankOf u.req.addr).1 (bankOf u.req.addr).2 u.mode = true →
    changePoisoned s (bankOf u.req.addr).1 (bankOf u.req.addr).2 u.mode = true →
    Gives (.personalityChange c b) s (bankReply ((compositeOf s c b).foldl (fun s x => modBank s x.1 x.2 fun y => { y with busy := false })
      (modBank s c b fun b => { b with chg := none })) u.req (.ofFail .poison 0))) ∧
  (∀ c b s u, (bankAt s c b).chg = some u → u.isLink = true →
    let free := ((c, b) :: u.names).foldl (fun s x => modBank s x.1 x.2 fun y => { y with busy := false }) s
    let s1 := modBank free c b fun y => { y with chg := none }
    (linkOk s1 c b u.names = true → Gives (.link c b) s (bankReply (linkNow s1 c b u.names) u.req (.ofStatus 0))) ∧
    (linkOk s1 c b u.names = false → Gives (.link c b) s (bankReply s1 u.req (.ofStatus 5)))) ∧
  (∀ s c b p, (bankAt s c b).comp = [] →
    let x := changeNow s c b p 0
    x.2 = (0, 0) ∧ (bankAt x.1 c b).p = p ∧ (bankAt x.1 c b).count = 0 ∧ (bankAt x.1 c b).busy = false ∧
    ∀ o, o < 65536 → rdByte x.1.sram (bankOff c b o) = 0)

/-- A matrix step starts by reading its lines and dropping its pins, fails on an uncorrectable one, and ends with its contribution in
its tile, the first to start first; an MXV fills its next load-queue entry, once a table that it waits for is loaded (R132, R380, R414,
R418, R423).
The model's own choices of log entries 12, 29, 32, 74 enter it. -/
def Obligations.MatrixEngineActs : Prop :=
  (∀ core s m, ((coreAt s core).mq.filter fun x => x.started).length < 2 → (coreAt s core).mq.find? (mayStart s core) = some m →
    stepAt s core m.id = some m → blockPoison s m.aAddr 1536 = false → blockPoison s m.bAddr (16 * mmaRowB m.fa m.fb) = false →
    (m.scl = 0 ∨ blockPoison s m.sAddr (stepScales m) = false) →
    GivesSome (.matrixStepStart core) s fun t =>
      stepAt t core m.id = some { m with
        started := true, begun := s.nextId, pins := [], aVal := blockLines s m.aAddr 1536, bVal := blockLines s m.bAddr (16 * mmaRowB m.fa m.fb),
        sVal := rdBytes s.sram m.sAddr (stepScales m) }) ∧
  (∀ core s m, ((coreAt s core).mq.filter fun x => x.started).length < 2 → (coreAt s core).mq.find? (mayStart s core) = some m →
    blockPoison s m.aAddr 1536 = true → Gives (.matrixStepStart core) s (failStep s core m 1)) ∧
  (∀ core s m, m ∈ (coreAt s core).mq → m.started = true →
    (∀ x ∈ (coreAt s core).mq, x.started = true → x ≠ m → m.begun < x.begun) →
    let r := stepResult (coreAt s core).book m (tileAt s core m.tile).data
    Gives (.matrixStepEnd core) s
      (removeStep (modTile s core m.tile fun x => { x with data := tileData r.1 }) core m r.2 none)) ∧
  (∀ core n s c s' c',
    let k := coreAt s c.t.core
    mxvSlot s core = some n → cmdAt s core n = some c → k.ldq.length < 16 → c.stage = .running →
    (c.phase = 1 → k.bookLoad = none) →
    mxvEntryRows core n (mxvRows c.d) 16 s (if c.phase = 1 then { c with phase := 0, book := k.book } else c) = .done s' c' →
    GivesSome (.mxvEntryReserve core) s fun t =>
      (coreAt t c'.t.core).ldq = (coreAt s' c'.t.core).ldq ++
        [⟨c'.id, true, BitVec.ofNat 512 (packElems 32 (c'.outs.map BitVec.toNat)), 0, c'.bad⟩]) ∧
  (∀ core n s c, mxvSlot s core = some n → cmdAt s core n = some c → c.stage = .running → c.phase = 1 →
    (coreAt s c.t.core).bookLoad.isSome = true → Gives (.mxvEntryReserve core) s s) ∧
  (∀ core n s c k, mxvSlot s core = some n → cmdAt s core n = some c → (coreAt s c.t.core).ldq.length < 16 → c.stage = .finished k →
    GivesSome (.mxvEntryReserve core) s fun t =>
      (coreAt t c.t.core).ldq = (coreAt s c.t.core).ldq ++ [⟨c.id, true, 0, 0, true⟩])

/-! ## Engines -/

/-- A row step that its command sends while its sequencers are empty is performed: it writes its destination row as its operation says of
the source rows, all in one act, where no die owns a word of them (R100, R102, R106).
The model's own choices of log entries 5, 12 enter it. -/
def Obligations.RowStepComputesTheRow : Prop :=
  ∀ (core cmd : Nat) (s : State) (c : Cmd) (fn : Nat) (bs : List Nat),
    let i := nextRow c.ahead (c.ahead.length + 1) c.next
    let srcs := c.srcs.map fun a => (a.toNat + 1024 * i) % 2 ^ 64
    let dst := (c.d.toNat + 1024 * i) % 2 ^ 64
    s.memOk = true → cmdAt s core cmd = some c → c.kind = .row fn → c.stage = .running → i < c.opw.toNat % 2 ^ 17 →
    (∀ e ∈ s.qdies, e.2.rows = []) → sentSteps s core cmd = [] →
    rowPlaces s core cmd c (srcs.map (fun a => (a, Need.load)) ++ [(dst, Need.store)]) = .ok s bs →
    ¬(fn = 0 ∧ rowPath bs = 2) → bs.length = srcs.length + 1 → (∀ b ∈ bs, b % 1024 = 0) →
    (∀ l ∈ bs.flatMap rowLines, lineQuiet s l = true ∧ (homeAt s l).own = 0 ∧ hostBias s l = false ∧ linePoison s l = false ∧
      (ctxNs c.ctx = true → secureLine s l = false)) →
    GivesSome (.rowStep core cmd) s fun t =>
      ∀ j, j < 16 →
        let row := fun (k : Nat) => if k < srcs.length then homeData s (bs.getD k 0 / 64 + j) else 0
        homeData t (bs.getLastD 0 / 64 + j) = rowValue fn (bit c.opw.toNat 32) (row 0) (row 1) (row 2)

/-- Engine commands: a copy keeps its turn for 4 KiB, a FALLBACK row copy takes one, 32 walks of a quay die run, each making one read at
a time and ending at its limit, a completion subtracts
its bytes from its barrier object or inserts its message and frees its slot, a stopped command goes on or ends as it is told; a dead
quay slot freezes both threads with class QDEAD (R118, R124-R130, R438).
The model's own choices of log entries 12, 32, 61 enter it. -/
def Obligations.EngineActs : Prop :=
  (∀ stack core n rest s c c', (stackAt s stack).turns = ⟨core, n, none⟩ :: rest → cmdAt s core n = some c → c.stage = .running →
    c.kind = .cpy → cmdAt (copyTurn core n 64 s c) core n = some c' → c'.stage = .running → c'.count % 4096 = 0 → c'.count ≠ c.count →
    Gives (.copyEngineTurn stack) s
      (modStack (copyTurn core n 64 s c) stack fun k => { k with turns := rest ++ [⟨core, n, none⟩] })) ∧
  (∀ stack core n r rest s, (stackAt s stack).turns = ⟨core, n, some r⟩ :: rest →
    (rowReady s r = true → Gives (.copyEngineTurn stack) s (rowStepNow (modStack s stack fun k => { k with turns := rest }) r)) ∧
    (rowReady s r = false → Gives (.copyEngineTurn stack) s s)) ∧
  (∀ core n s c, cmdAt s core n = some c → c.kind = .walk → (core, n) ∉ (stackAt s (core / 64)).walks.take 32 →
    Gives (.traversalHop core n) s s) ∧
  (∀ core n s c, cmdAt s core n = some c → c.stage = .running → c.kind = .walk → (core, n) ∈ (stackAt s (core / 64)).walks.take 32 →
    (∀ st r, walkWants c = .ends st r → Gives (.traversalHop core n) s (endCommand s core n c st r)) ∧
    (∀ a k, walkWants c = .read a k → walkLimit c.opw ≤ c.count → Gives (.traversalHop core n) s (endCommand s core n c 2 a)) ∧
    (∀ a k s1 pa s2 ls, walkWants c = .read a k → c.count < walkLimit c.opw →
      engineDram s core n (engineCtx s core c) c.priv a Need.load 1 = .ok s1 pa → isDram pa = true →
      readLines s1 (.engine c.id) (ctxNs (engineCtx s core c)) [homeLine pa] = .got s2 ls false →
      Gives (.traversalHop core n) s
        (walkGot (answerUsed s2 (homeLine pa) (.engine c.id)) core n c a (lineBytes (ls.headD 0) (pa % 64) k)))) ∧
  (∀ core n s c st, cmdAt s core n = some c → c.stage = .finished st → c.kind ≠ .mxv →
    (compKind c.comp = 2 →
      Gives (.engineCompletion core n) s (setCmd (changeBarrier s (forwarded s core) (compLevel c.comp) (compObj c.comp)
        (subtractBytes (barrierAt s (forwarded s core) (compLevel c.comp) (compObj c.comp)) (completionBytes c st) c.wrote)) core n none)) ∧
    (compKind c.comp ≠ 2 → queueRoom (coreAt s (forwarded s core)) false = true → (coreAt s (forwarded s core)).inserted < s.now →
      (∀ m ∈ (coreAt s (forwarded s core)).ni, s.now ≤ m.came) →
      Gives (.engineCompletion core n) s (setCmd (insertMessage s (forwarded s core) (completionMessage c st)) core n none))) ∧
  (∀ core n s c r k va, cmdAt s core n = some c → c.stage = .stopped r k va →
    (GivesSome (.engineResume core n) s fun t =>
      cmdAt t core n = some { c with stage := .running } ∧
      (c.kind = .cpy → (stackAt t (core / 64)).turns = (stackAt s (core / 64)).turns ++ [⟨core, n, none⟩]) ∧
      (c.kind = .walk → (core, n) ∈ (stackAt t (core / 64)).walks)) ∧
    (GivesSome (.engineEnd core n) s fun t => cmdAt t core n = some { c with stage := .finished 6, result := 0 })) ∧
  (∀ core s row, deadRow s core = some row → (threadAt s ⟨core, 7, 0⟩).run ≠ .free → (threadAt s ⟨core, 7, 1⟩).run ≠ .free →
    GivesSome (.qdead core) s fun t =>
      (threadAt t ⟨core, 7, 0⟩).froz = true ∧ (threadAt t ⟨core, 7, 1⟩).froz = true ∧
      (threadAt t ⟨core, 7, 0⟩).fault.cls = some .qdead ∧ (threadAt t ⟨core, 7, 0⟩).fault.detail = row)

/-! ## Walks, faults and wakes -/

/-- A walk of a coalescing entry that has one of its die's 64 walkers installs its leaf and replays what waited, or fails and tells the
supervisor, unless only PREFs wait for it, which skip their lines; where a buffered leaf lacks DTY the walk sets it, or drops the leaf if its entry has changed; a failed entry is walked
again, behind the others, or ended with every waiter (R24, R30, R35, R37-R39). RESUME lets a frozen thread go on, END frees its slot (R434); a parked thread whose
condition holds is READY (R183); a write of XINV waits for the accesses that used the leaves (R33).
The model's own choices of log entries 16, 23, 63 enter it. -/
def Obligations.WalksFaultsAndWakes : Prop :=
  (∀ die n s e, coalAt s die n = some e → e.walking = true → hasWalker s die n = false → Gives (.tableWalk die n) s s) ∧
  (∀ die n s e, coalAt s die n = some e → e.walking = true → hasWalker s die n = true → e.leaf = none →
    (∀ s1 l, walkNow s (.walk die n) e.ctx (e.vpn * 65536) (entryStores s e) = .leaf s1 l →
      Gives (.tableWalk die n) s (satisfy (installLeaf s1 e.core l) die l n)) ∧
    (∀ s1 c, walkNow s (.walk die n) e.ctx (e.vpn * 65536) (entryStores s e) = .fail s1 c →
      ((∀ w ∈ e.waiters, waitsToPrefetch s1 w = false) →
        Gives (.tableWalk die n) s
          (tellFault (modCoal s1 die e.index fun _ => { e with walking := false, cause := c }) die { e with walking := false, cause := c })) ∧
      (e.waiters ≠ [] → (∀ w ∈ e.waiters, waitsToPrefetch s1 w = true) →
        Gives (.tableWalk die n) s (e.waiters.foldl skipWaiter (coalRemove s1 die e.index))))) ∧
  (∀ die n s e l, coalAt s die n = some e → e.walking = true → hasWalker s die n = true → e.leaf = some l →
    (∀ s1 l', setDirty s (.walk die n) (ctxNs e.ctx) l = .leaf s1 l' →
      Gives (.tableWalk die n) s (satisfy (installLeaf s1 e.core l') die l' n)) ∧
    (∀ s1, setDirty s (.walk die n) (ctxNs e.ctx) l = .changed s1 → Gives (.tableWalk die n) s (walkAgain s1 die e l))) ∧
  (∀ die n s e, coalAt s die n = some e → e.walking = false →
    (e.cause ≠ 7 → GivesSome (.replay die n) s fun t =>
      coalAt t die n = some { e with walking := true, leaf := none } ∧ (dieAt t die).coal.getLast? = coalAt t die n) ∧
    (e.cause = 7 → Gives (.replay die n) s (tellFault s die e)) ∧
    Gives (.faultAction die n) s (e.waiters.foldl (failWaiter e) (coalRemove s die n))) ∧
  (∀ die n s e, coalAt s die n = some e → e.walking = true → Gives (.replay die n) s s ∧ Gives (.faultAction die n) s s) ∧
  (∀ t s, (threadAt s t).run ≠ .free → (threadAt s t).froz = true → (threadAt s t).outs = [] →
    GivesSome (.resumeThread t) s fun s' => threadAt s' t = { threadAt s t with froz := false }) ∧
  (∀ t s o, (threadAt s t).run ≠ .free → (threadAt s t).froz = true → (threadAt s t).outs = [o] → holdsEntry o.kind = true →
    o.fail.isSome = true → o.act = 1 → o.file = .g → o.kind ≠ .struct →
    GivesSome (.resumeThread t) s fun s' =>
      (threadAt s' t).outs = [{ o with fail := none, act := 0, flags := 0, bst := none }] ∧ (threadAt s' t).froz = false) ∧
  (∀ t s, (threadAt s t).run ≠ .free → ((threadAt s t).froz = true ∨ (threadAt s t).susp = true) →
    GivesSome (.endThread t) s fun s' => threadAt s' t = Thread.reset) ∧
  (∀ t s w, (threadAt s t).run = .parked w → (∀ c, w ≠ .copy c) → (∀ n, w ≠ .chainPop n) → w ≠ .chainPush → w ≠ .marker →
    (threadAt s t).froz = false → parkEnds s t w = true →
    GivesSome (.slotWake t) s fun s' => threadAt s' t = { threadAt s t with run := .ready }) ∧
  (∀ t s n, (threadAt s t).run = .parked (.chainPop n) → (threadAt s t).froz = false → parkEnds s t (.chainPop n) = true →
    GivesSome (.slotWake t) s fun s' =>
      threadAt s' t = { threadAt s t with popped := (coreAt s t.core).chain.take n, run := .ready } ∧
      (coreAt s' t.core).chain = (coreAt s t.core).chain.drop n) ∧
  (∀ t s, (threadAt s t).run = .parked .chainPush → (threadAt s t).froz = false → parkEnds s t .chainPush = true →
    GivesSome (.slotWake t) s fun s' => threadAt s' t = { threadAt s t with claim := true, run := .ready }) ∧
  (∀ t s, (threadAt s t).run = .parked .marker → (threadAt s t).froz = false → parkEnds s t .marker = true →
    GivesSome (.slotWake t) s fun s' => threadAt s' t = { threadAt s t with back := none, run := .ready }) ∧
  (∀ t v s, canIssue (threadAt s t) = true →
    GivesSome (.xinvWrite t v) s fun s' =>
      (threadAt s' t).run = .parked .xinv ∧ s'.xinvs.map (·.t) = s.xinvs.map (·.t) ++ [t] ∧
      ∀ l ∈ (coreAt s' t.core).tlb, xinvCores v t.core t.core = true → xinvNames v l = false) ∧
  (∀ t s x, (s.xinvs.find? fun x => x.t == t) = some x → xinvReady s x = true → (threadAt s t).run = .parked .xinv →
    GivesSome (.xinvComplete t) s fun s' => (threadAt s' t).run = .ready ∧ s'.xinvs = s.xinvs.erase x) ∧
  (∀ t v s,
    let th := threadAt s t
    let pol := field v.toNat 6 4
    let size := 2 ^ field v.toNat 3 2
    (th.run ≠ .free ∧ (th.froz = true ∨ th.susp = true)) → th.port.busy = false → bit v.toNat 63 = true → v.toNat % 4 < 2 →
    th.port.paddr.toNat % size = 0 → pol < 4 → inDeviceRegion th.port.paddr.toNat = false →
    GivesSome (.accessPortGo t v) s fun s' =>
      (threadAt s' t).port.busy = true ∧
      ∃ a ∈ s'.inflight, a.t = t ∧ a.kind = .port (v.toNat % 4) ∧ a.stage = .coal ∧ a.va = th.port.paddr.toNat ∧ a.n = size ∧
        a.pol = pol) ∧
  (∀ t s a, (s.inflight.find? fun a => a.t == t && (a.kind == .port 0 || a.kind == .port 1 || a.kind == .port 2)) = some a →
    a.stage = .landing → a.poison = false → (threadAt s t).rid = a.rid →
    GivesSome (.accessPortDone t) s fun s' =>
      (threadAt s' t).port = { (threadAt s t).port with
        pdata := a.value.extractLsb' 0 64, busy := false, done := true, cls := 0, cause := 0 })

/-! ## Riders between their units -/

/-- Messages: one that finds room is inserted in its turn, after the cycle of its arrival and at most one in a cycle, the sender learns the answer, a blocking SEND that met a full queue offers its
message again (R199, R201, R357). -/
def Sys2Proof.Claims.MessagesMove : Prop :=
  (∀ core s, ((coreAt s core).idle = true ∨ s.now ≤ (coreAt s core).inserted) → Gives (.messageInsert core) s s) ∧
  (∀ core s m rest, (coreAt s core).idle = false → (coreAt s core).inserted < s.now → (coreAt s core).evq = m :: rest → queueRoom (coreAt s core) true = true →
    s.ended.contains m.tag.toNat = false → srtHolds (coreAt s core) m.tag = false →
    GivesSome (.messageInsert core) s fun t =>
      (coreAt t core).evq = rest ∧ (coreAt t core).msgs = (coreAt s core).msgs ++ [m] ∧ (coreAt t core).inserted = s.now) ∧
  (∀ core s m rest, (coreAt s core).idle = false → (coreAt s core).inserted < s.now → (coreAt s core).evq = [] →
    (coreAt s core).ni = m :: rest → m.came < s.now → m.src = none → queueRoom (coreAt s core) m.system = true → s.ended.contains m.tag.toNat = false → srtHolds (coreAt s core) m.tag = false →
    GivesSome (.messageInsert core) s fun t =>
      (coreAt t core).ni = rest ∧ (coreAt t core).msgs = (coreAt s core).msgs ++ [m] ∧ (coreAt t core).inserted = s.now) ∧
  (∀ core s m rest x, (coreAt s core).idle = false → (coreAt s core).inserted < s.now → (coreAt s core).evq = [] →
    (coreAt s core).ni = m :: rest → m.came < s.now → m.src = some x →
    (coreAt s core).ctxid ≠ m.ctx → (threadAt s x).run = .parked .answer → (threadAt s x).prog = .asked m.id →
    GivesSome (.messageInsert core) s fun t => (threadAt t x).prog = .answered 2 ∧ (coreAt t core).ni = rest ∧
      (coreAt t core).msgs = (coreAt s core).msgs) ∧
  (∀ t s v, (threadAt s t).run = .parked .answer → (threadAt s t).prog = .answered v → v ≠ 3 →
    GivesSome (.sendAnswer t) s fun s' => threadAt s' t = { threadAt s t with run := .ready }) ∧
  (∀ t s, (threadAt s t).run = .parked .answer → (threadAt s t).prog = .answered 3 →
    GivesSome (.sendRetry t) s fun s' => threadAt s' t = { threadAt s t with run := .ready, prog := .none })

/-- Travel: a rider that departs has committed its results and released at package scope, and leaves its slot FREE; one that arrives
enters the ready queue; one that its destination does not take goes back, and then stays (R190-R193, R328). -/
def Sys2Proof.Claims.RidersTravel : Prop :=
  (∀ t s c, (threadAt s t).run = .departing (.migrate c) → (threadAt s t).susp = false → (threadAt s t).froz = false →
    (threadAt s t).outs = [] → released (beginRelease s t 3) t 3 = true → c ≠ t.core →
    GivesSome (.travelDepart t) s fun s' =>
      threadAt s' t = Thread.reset ∧ ∃ x, s'.travels = s.travels ++ [x] ∧ x.dst = c ∧ x.src = t.core ∧ x.spawn = false ∧
        x.back = false ∧ x.go = false ∧ x.ctx.rid = (threadAt s t).rid ∧ x.ctx.ss.stay = false ∧
        x.ctx.pc = word (nextUnit (threadAt s t))) ∧
  (∀ t s c, (threadAt s t).run = .departing (.go c) → (threadAt s t).susp = false → (threadAt s t).froz = false →
    (threadAt s t).outs = [] → released (beginRelease s t 3) t 3 = true → c ≠ t.core →
    GivesSome (.travelDepart t) s fun s' =>
      threadAt s' t = Thread.reset ∧ ∃ x, s'.travels = s.travels ++ [x] ∧ x.dst = c ∧ x.src = t.core ∧ x.go = true ∧
        x.ctx.pc = (packetContext (threadAt s t)).pc ∧ x.ctx.rid = (threadAt s t).rid) ∧
  (∀ n s x, (s.travels.find? fun x => x.id == n) = some x → x.back = false → x.spawn = false →
    takesContext s (forwarded s x.dst) x = true → (coreAt s (forwarded s x.dst)).killed = false →
    Gives (.travelArrival n) s
      (enterArrival { s with travels := s.travels.filter fun y => y.id != x.id } (forwarded s x.dst) { x.ctx with arrival := s.now })) ∧
  (∀ n s x, (s.travels.find? fun x => x.id == n) = some x → x.back = false → x.spawn = true →
    takesContext s (forwarded s x.dst) x = true → (coreAt s (forwarded s x.dst)).killed = false →
    Gives (.spawnArrival n) s
      (enterArrival { s with travels := s.travels.filter fun y => y.id != x.id } (forwarded s x.dst) { x.ctx with arrival := s.now })) ∧
  (∀ n s x, (s.travels.find? fun x => x.id == n) = some x → x.back = false → takesContext s (forwarded s x.dst) x = false →
    let t := { s with travels := s.travels.map fun y => if y.id = x.id then { y with back := true } else y }
    (x.spawn = false → Gives (.travelArrival n) s t) ∧ (x.spawn = true → Gives (.spawnArrival n) s t)) ∧
  (∀ n s x, (s.travels.find? fun x => x.id == n) = some x → x.back = true → x.spawn = false →
    (dieAt s (dieOf (forwarded s x.src))).fenced = false → (coreAt s (forwarded s x.src)).killed = false →
    let home := { s with travels := s.travels.filter fun y => y.id != x.id }
    (x.go = true →
      Gives (.travelReturn n) s (enterArrival home (forwarded s x.src) { x.ctx with stuck := true, arrival := s.now })) ∧
    (x.go = false →
      Gives (.travelReturn n) s (enterArrival home (forwarded s x.src)
        { x.ctx with ss := { x.ctx.ss with stay := true }, arrival := s.now })))

/-- Messages on their way, and riders on theirs (R190-R193, R199, R201, R328, R357).
The model's own choices of log entries 59, 73 enter it. -/
def Obligations.MessagesAndTravel : Prop :=
  Sys2Proof.Claims.MessagesMove ∧ Sys2Proof.Claims.RidersTravel

/-- Slots and berths: an expired quantum suspends its slot; a berth takes the head of the ready queue, loads its record line by line, and
a FREE slot takes the berthed rider (R219-R221, R224).
The model's own choices of log entries 53 enter it. -/
def Obligations.BerthsFillSlots : Prop :=
  (∀ core slot n k s, ((coreAt s core).qexp.find? fun e => e.1 == slot) = some (k, n) → (threadAt s (ofTid core n)).ss.skp = 0 →
    (threadAt s (ofTid core n)).run = .ready → (ofTid core n).slot ≠ 7 →
    GivesSome (.quantumExpiry core slot) s fun t =>
      (threadAt t (ofTid core n)).susp = true ∧ (threadAt t (ofTid core n)).g = (threadAt s (ofTid core n)).g ∧
      (threadAt t (ofTid core n)).pc = (threadAt s (ofTid core n)).pc ∧ ∀ e ∈ (coreAt t core).qexp, e.1 ≠ slot) ∧
  (∀ core s h, (coreAt s core).idle = false → (coreAt s core).arrivals = [] → headOf (coreAt s core).rq = some h →
    berthAt s core 0 = none →
    GivesSome (.berthTake core) s fun t =>
      berthAt t core 0 = some ⟨h, s.nextId, h.kind != 0, [], 0, none⟩ ∧ (coreAt t core).rq = (coreAt s core).rq.erase h) ∧
  (∀ core n s b d s1, berthAt s core n = some b → b.fault = none → b.loaded = false →
    takeLoad s (loadRef core n) = .value d false s1 →
    GivesSome (.berthPrefetchDone core n) s fun t =>
      berthAt t core n = some { b with lines := b.lines ++ [d], loaded := recordWhole (b.lines ++ [d]) }) ∧
  (∀ core n s b, berthAt s core n = some b → b.fault = none → b.loaded = false → takeLoad s (loadRef core n) = .idle →
    Gives (.berthPrefetchDone core n) s
      (startRead s (loadRef core n) (recordLineAddr b b.lines.length) 64 6 (coreAt s core).ctxid b.handle.gid b.handle.rqp)) ∧
  (∀ core slot n s b th, slot < 7 → chosenBerth s core slot = some (n, b) → b.fault = none → b.handle.ctx = some th →
    b.handle.pair = none → (∀ h, headOf (coreAt s core).rq = some h → h.pri ≤ b.handle.pri) →
    (∀ e ∈ s.evacs, e.1 ≠ core) →
    GivesSome (.slotTakesRider core slot) s fun t =>
      threadAt t ⟨core, slot, 0⟩ = { th with run := .ready } ∧ berthAt t core n = none)

/-! ## Grids, dies and contexts -/

/-- The launch queue: a well-formed entry becomes a grid in flight, another is reported, and where operations are ahead of the front end's
pop it waits its turn in the bank's queue; the pilot hands out batches, a dispatcher places
a group where it fits, a grid whose groups have ended and whose accesses are performed is reported complete and leaves the table; an
election ends with the lowest die that is not fenced (R205, R209-R217).
The model's own choices of log entries 35, 47, 67, 78 enter it. -/
def Obligations.DispatcherActs : Prop :=
  (∀ s,
    let core := s.lqCore.toNat
    let bank := s.lqBank.toNat
    let b := bankAt s core bank
    let x := popEntries s core bank (min (headGroup b).1 b.count)
    let s1 := { (modBank x.2 core bank fun y => { y with facts := y.facts.drop (headGroup b).1 }) with seq := x.2.seq + 1 }
    s.electing = false → s.grids.length < 64 → b.p.pers = 1 → b.p.esz = 3 → b.busy = false → b.count ≠ 0 → bankIdle b = true →
    (packetCode s1 x.1 (headGroup b).2 = 0 →
      Gives .frontEndPop s
        (storeArgs { s1 with grids := s1.grids ++ [gridOfPacket s1 x.1], gridKey := s1.gridKey + 1 } s1.gridKey 4)) ∧
    (packetCode s1 x.1 (headGroup b).2 ≠ 0 →
      Gives .frontEndPop s (report s1 0x40 (packetCode s1 x.1 (headGroup b).2) (BitVec.ofNat 16 (field (entryAt x.1 0 0) 52 37))
        (word (entryAt x.1 0 0))))) ∧
  (∀ s,
    let core := s.lqCore.toNat
    let bank := s.lqBank.toNat
    let b := bankAt s core bank
    frontMayPop s = true → bankIdle b = false → (∀ q ∈ b.queue ++ b.net, q.cmd ≠ .launch) →
    Gives .frontEndPop s (admitBank s core bank (launchReq s))) ∧
  (∀ die s g, (∀ x ∈ s.grids, x.inline = []) → s.electing = false → chosenGrid s = some g →
    (((List.range 4).map fun i => (s.served + 1 + i) % 4).find? (requests s g)) = some die →
    GivesSome (.batchHandout die) s fun t =>
      (dieAt t die).batches = (dieAt s die).batches ++ [⟨g.key, batchFor s die g⟩] ∧ t.served = die) ∧
  (∀ die s key i rest more g c, (dieAt s die).batches = ⟨key, i :: rest⟩ :: more → gridAt s key = some g → placeFor s die g = some c →
    ((banksOf g.banks).all (bankQuiet s c) = true →
      Gives (.groupPlace die) s
        (placeGroup (modDie s die fun d => { d with batches := if rest.isEmpty then more else ⟨key, rest⟩ :: more }) c g i)) ∧
    ((banksOf g.banks).all (bankQuiet s c) = false → Gives (.groupPlace die) s s)) ∧
  (∀ gid s g, (s.grids.find? fun g => g.gid.toNat == gid) = some g → g.argFail = false → g.noMore = false →
    g.ended = gridTotal g.size → gridSettled s g = true →
    GivesSome (.gridComplete gid) s fun t =>
      (∀ x ∈ t.grids, x.key ≠ g.key) ∧
      t.reports = s.reports ++ [(word (0x41 * 2 ^ 56 + g.gid.toNat * 2 ^ 32 + s.seq.toNat), word (gridTotal g.size))]) ∧
  (∀ s d, s.electing = true → ((List.range 4).find? fun d => !(dieAt s d).fenced) = some d →
    Gives .pilotElection s { s with pilot := d, electing := false })

/-- Fencing makes a die fenced and leaves none of its riders, and fencing it again changes nothing; a kill of a context is reported when its writes are over; an evacuation
begins with every slot told to suspend, moves the core's state, and leaves a forwarding entry until it is cleared (R218, R326, R440-R445,
R465, R493).
The model's own choices of log entries 34, 44, 49 enter it. -/
def Obligations.FencesKillsAndEvacuations : Prop :=
  (∀ who die s, mayFence who die = true → die < 4 → (dieAt s die).fenced = false →
    GivesSome (.dieFence who die) s fun t => (dieAt t die).fenced = true ∧ ∀ x, dieOf x.core = die → (threadAt t x).run = .free) ∧
  (∀ die s, die ≠ s.pilot → die < 4 → (dieAt s die).fenced = false →
    GivesSome (.dispatcherTimeout die) s fun t =>
      (dieAt t die).fenced = true ∧ ∀ x, dieOf x.core = die → (threadAt t x).run = .free) ∧
  (∀ die s, die < 4 → (dieAt s die).fenced = false →
    GivesSome (.parityError die) s fun t =>
      (dieAt t die).fenced = true ∧ ∀ x, dieOf x.core = die → (threadAt t x).run = .free) ∧
  (∀ who die s, (dieAt s die).fenced = true →
    Gives (.dieFence who die) s s ∧ Gives (.dispatcherTimeout die) s s ∧ Gives (.parityError die) s s) ∧
  (∀ who v s, (who.ns = true → bit v.toNat 16 = true) →
    Gives (.hkill who v) s (killContext s (bit v.toNat 16) (v.extractLsb' 0 16) none 0)) ∧
  (∀ s k rest, s.kills = k :: rest → killSettled s k = true →
    let w0 := word (0x60 * 2 ^ 56 + b01 k.ns * 2 ^ 16 + k.asid.toNat)
    (∀ t, k.issuer = some t →
      Gives (.ctxkillComplete 0) s (deliver { s with kills := rest } t.core (Msg.plain w0 (word k.ended) k.tag true))) ∧
    (k.issuer = none → Gives (.ctxkillComplete 0) s (tellHost { s with kills := rest } w0 (word k.ended)))) ∧
  (∀ who core v s,
    let tgt := v.toNat % 1024
    let s1 := modCore s core fun k => { k with evTarget := BitVec.ofNat 10 tgt }
    (coreAt s core).evSt ≠ 1 → v.getLsbD 10 = true →
    (evacWhy s1 who core tgt = 0 →
      GivesSome (.evacGo who core v) s fun t =>
        (coreAt t core).evSt = 1 ∧ (coreAt t core).evTarget.toNat = tgt ∧ (t.evacs.map fun e => (e.1, e.2.1)) =
          (s.evacs.map fun e => (e.1, e.2.1)) ++ [(core, tgt)] ∧
        ∀ n, n < 9 → threadAt t (ofTid core n) = suspendThread (threadAt s (ofTid core n))) ∧
    (evacWhy s1 who core tgt ≠ 0 →
      GivesSome (.evacGo who core v) s fun t =>
        (coreAt t core).evSt = 3 ∧ (coreAt t core).evWhy = BitVec.ofNat 3 (evacWhy s1 who core tgt) ∧ t.evacs = s.evacs)) ∧
  (∀ core s tgt before, (s.evacs.find? fun e => e.1 == core) = some (core, tgt, before) → evacReady s core = true →
    tgt < 1024 → tgt ≠ core →
    GivesSome (.evacuationComplete core) s fun t =>
      (coreAt t core).fwdV = true ∧ (coreAt t core).fwdTarget.toNat = tgt ∧ (coreAt t core).evSt = 2 ∧
      (∀ n, (threadAt t ⟨core, n, 0⟩).run = .free) ∧ (coreAt t tgt).ctxid = (coreAt s core).ctxid ∧
      (coreAt t tgt).msgs = (coreAt s core).msgs) ∧
  (∀ core s, GivesSome (.fwdClear core) s fun t => (coreAt t core).fwdV = false)

/-! ## Registers that an agent writes -/

/-- Writes of the control window as events of their own (R17, R18, R33, R45, R47, R61, R320, R460, R465).
The model's own choices of log entries 45, 46 enter it. -/
def Obligations.AgentsWriteRegisters : Prop :=
  (∀ core v s, (coreAt s core).carveBusy = none →
    (16 < v.toNat % 32 → GivesSome (.carveWrite core v) s fun t =>
      (coreAt t core).carveRef = true ∧ (coreAt t core).carveK = (coreAt s core).carveK) ∧
    (v.toNat % 32 < (coreAt s core).carveK → v.toNat % 32 ≤ 16 →
      GivesSome (.carveWrite core v) s fun t => (coreAt t core).carveK = v.toNat % 32 ∧ (coreAt t core).carveRef = false) ∧
    ((coreAt s core).carveK < v.toNat % 32 → v.toNat % 32 ≤ 16 →
      GivesSome (.carveWrite core v) s fun t => (coreAt t core).carveBusy = some (v.toNat % 32, .agent))) ∧
  (∀ core v s, (coreAt s core).carveBusy.isSome = true →
    GivesSome (.carveWrite core v) s fun t => (coreAt t core).carveWait = (coreAt s core).carveWait ++ [(v.toNat, .agent)]) ∧
  (∀ who core v s, (who.ns = true → ctxNs (coreAt s core).ctxid = true ∧ ctxNs v = true) →
    GivesSome (.ctxidWrite who core v) s fun t =>
      (coreAt t core).ctxid = word (field v.toNat 63 24 * 2 ^ 24 + v.toNat % 2 ^ 17) ∧ (coreAt t core).killed = false ∧
      ((coreAt t core).ctxid ≠ (coreAt s core).ctxid → (coreAt t core).cbtV = false ∧
        ∀ n, n < 16 → tileAt t core n = { tileAt s core n with data := [], owner := 0 })) ∧
  (∀ who core bank v s,
    let q := { agentReq .agent core bank (.config v who.ns) with came := s.now }
    (servesL1 s core bank = true → Gives (.bpcfgWrite who core bank v) s s) ∧
    (servesL1 s core bank = false → mustWait s core bank = false →
      GivesSome (.bpcfgWrite who core bank v) s fun t => (bankAt t core bank).queue = (bankAt s core bank).queue ++ [q]) ∧
    (servesL1 s core bank = false → mustWait s core bank = true →
      GivesSome (.bpcfgWrite who core bank v) s fun t =>
        (bankAt t core bank).net = (bankAt s core bank).net ++ [q] ∧ (bankAt t core bank).queue = (bankAt s core bank).queue)) ∧
  (∀ q v s, GivesSome (.vpoolWrite q v) s fun t => (quadAt t q).members = v.extractLsb' 0 4) ∧
  (∀ core n v s, GivesSome (.srtWrite core n v) s fun t =>
    aget 0 (coreAt t core).srt n = v.extractLsb' 0 32 ∧
    ∀ m, m ≠ n → aget 0 (coreAt t core).srt m = aget 0 (coreAt s core).srt m) ∧
  (∀ k v s, GivesSome (.biasTableWrite k v) s fun t =>
    ∀ i, t.bias.contains i = if i / 64 = k then v.getLsbD (i % 64) else s.bias.contains i) ∧
  (∀ v s, Gives (.rsync v) s { s with rsyncs := s.rsyncs ++ [word (field v.toNat 42 6 * 64)] }) ∧
  (∀ s n, s.rsyncLen = some n → (∀ a ∈ s.inflight, a.t ≠ resyncRef) →
    Gives .resyncRecordWritten s (report { s with rsyncLen := none } 0x44 0 0 (word n))) ∧
  (∀ s v rest, s.rsyncLen = none → s.rsyncs = v :: rest → s.electing = false →
    Gives .resyncRecordWritten s (collectRecord s v)) ∧
  (∀ who off v s t, regWrite s who off v .agent = some t → Gives (.registerWrite who off v) s t) ∧
  (∀ who off v s i, regPlace off = .node i →
    GivesSome (.registerWrite who off v) s fun t =>
      aget Node.reset t.nodes i = ⟨v.getLsbD 63, v.getLsbD 62, v.extractLsb' 0 16⟩)

/-! ## The device -/

/-- Resets and boot (R487-R489): COLD leaves DRAM zero, WARM writes the modified LLC lines and then keeps all of it but what a region
register marks secure; after both the LLC is empty; the boot starts the
secure supervisor of each die at 0x10000.
The model's own choices of log entries 5, 8, 60 enter it. -/
def Obligations.ResetsAndBoot : Prop :=
  (∀ s, GivesSome .powerOn s fun t => t.prst = 1 ∧ (∀ a, rdByte t.dram a = 0) ∧ (∀ x, (threadAt t x).run = .free)) ∧
  (∀ who s, mayReset who = true →
    GivesSome (.cold who) s fun t => t.prst = 1 ∧ t.llc = [] ∧ (∀ a, rdByte t.dram a = 0) ∧ (∀ x, (threadAt t x).run = .free)) ∧
  (∀ who s, mayReset who = true →
    let written := s.llc.foldl (fun s e => cleanLlc s e.1) s
    GivesSome (.warm who) s fun t => t.prst = 1 ∧ t.llc = [] ∧ (∀ x, (threadAt t x).run = .free) ∧
      (∀ a n r, n < 256 → secureRange s (n / 16) (n % 16) = some r → r.1 ≤ a → a < r.1 + r.2 → rdByte t.dram a = 0) ∧
      ∀ a, (∀ n r, n < 256 → secureRange s (n / 16) (n % 16) = some r → a < r.1 ∨ r.1 + r.2 ≤ a) →
        rdByte t.dram a = rdByte written.dram a) ∧
  (∀ ports s, s.prst = 1 →
    (GivesSome (.bootDone true ports) s fun t => t.prst = 2 ∧
      ∀ d, d < 4 → (threadAt t ⟨256 * d + 1, 0, 0⟩).pc = 0x10000 ∧ (threadAt t ⟨256 * d + 1, 0, 0⟩).ss.priv = 2 ∧
        rdG (threadAt t ⟨256 * d + 1, 0, 0⟩) 3 = word d ∧ (threadAt t ⟨256 * d + 1, 0, 0⟩).run = .ready ∧
        (threadAt t ⟨256 * d, 0, 0⟩).froz = true ∧ (threadAt t ⟨256 * d, 0, 0⟩).fault.cls = some .brk ∧
        (threadAt t ⟨256 * d, 0, 0⟩).fault.detail = 0x3FF) ∧
    Gives (.bootDone false ports) s { s with prst := 3 })

/-- Background activity, clocks and errors change only what R490-R495 name: counters, marks, telemetry, the clock gate, self-refresh and
port states.
The model's own choices of log entries 18, 57, 58 enter it. -/
def Obligations.DeviceActs : Prop :=
  (∀ pch b s, (stackAt s (pch / 64)).refresh = false → pch < 1024 → b < 16 →
    Gives (.refresh pch b) s { s with refreshes := s.refreshes + 1 }) ∧
  (∀ pch s, Gives (.recalibration pch) s s) ∧
  (∀ place s, Gives (.patrolScrub place .clean) s { s with scrubs := s.scrubs + 1 }) ∧
  (∀ place found s, GivesSome (.patrolScrub place found) s fun t =>
    (∀ x, threadAt t x = threadAt s x) ∧ t.dram = s.dram ∧ t.sram = s.sram ∧ t.homes = s.homes ∧ t.inflight = s.inflight) ∧
  (∀ line s, GivesSome (.patrolScrub (.dram line) .uncorrectable) s fun t => t.dramBad.contains line = true ∧ t.dram = s.dram ∧
    (aget 0 (dieAt t (dieOfLine line)).counters 1).toNat = min (2 ^ 64 - 1) ((aget 0 (dieAt s (dieOfLine line)).counters 1).toNat + 1)) ∧
  (∀ line s, GivesSome (.patrolScrub (.dram line) .correctable) s fun t => t.dram = s.dram ∧ t.dramBad = s.dramBad ∧
    (aget 0 (dieAt t (dieOfLine line)).counters 0).toNat = min (2 ^ 64 - 1) ((aget 0 (dieAt s (dieOfLine line)).counters 0).toNat + 1)) ∧
  (∀ line s l, llcAt s line = some l → GivesSome (.patrolScrub (.llc line) .uncorrectable) s fun t =>
    llcAt t line = some { l with bad := true } ∧ linePoison t line = true ∧ t.dram = s.dram) ∧
  (∀ die line s, (l2At s die (64 * line)).st ≠ .inv → GivesSome (.patrolScrub (.l2 die line) .uncorrectable) s fun t =>
    (l2At t die (64 * line)).poison = true ∧ (l2At t die (64 * line)).data = (l2At s die (64 * line)).data) ∧
  (∀ core bank line s, (coreAt s core).carveK ≤ bank → GivesSome (.patrolScrub (.bank core bank line) .uncorrectable) s fun t =>
    t.sramBad.contains (bankOff core bank 0 / 64 + line % 1024) = true ∧ t.sram = s.sram) ∧
  (∀ core bank line s, bank < (coreAt s core).carveK → GivesSome (.patrolScrub (.bank core bank line) .uncorrectable) s fun t =>
    t.sramBad = s.sramBad ∧ t.sram = s.sram ∧
    ∀ e ∈ (coreAt t core).l1, e.1 % 1024 = line % 1024 → e.2.way = bank → e.2.poison = true) ∧
  (∀ die pwr temp s, die < 4 → ∃ thr ≤ 100, (s.throttle = 0 → thr = 0) ∧
    Gives (.telemetrySample die pwr temp) s
      { modDie s die (fun d =>
          { d with tsamp := word (s.now % 2 ^ 32 * 2 ^ 32 + pwr.toNat * 2 ^ 16 + temp.toNat * 2 ^ 8 + thr) }) with
        samples := s.samples + 1 }) ∧
  (∀ s, Gives (.powerWindow false) s { s with throttle := s.throttle - 1 }) ∧
  (∀ s, Gives (.powerWindow true) s
    { s with throttle := if s.throttle < largestFigure then s.throttle + 1 else s.throttle }) ∧
  (∀ core s, core < 1024 → hasArrival (coreAt s core) = false →
    Gives (.coreIdle core) s (modCore s core fun k => { k with idle := true })) ∧
  (∀ core s, hasArrival (coreAt s core) = true →
    Gives (.coreIdle core) s s ∧ Gives (.coreWake core) s (modCore s core fun k => { k with idle := false })) ∧
  (∀ k s, k < 16 →
    (stackQuiet s k = true → Gives (.stackSelfRefresh k) s (modStack s k fun q => { q with refresh := true })) ∧
    (stackQuiet s k = false → Gives (.stackSelfRefresh k) s s)) ∧
  (∀ port s, port < 16 → ∃ n,
    let k := countError s (port / 4) 5 n
    Gives (.linkRetraining port .up4) s
      { k with ports := aset PortState.down k.ports port .up4, retrain := k.retrain &&& ~~~word (2 ^ port) } ∧
    Gives (.linkRetraining port .training) s
      { k with ports := aset PortState.down k.ports port .training, retrain := k.retrain ||| word (2 ^ port) } ∧
    Gives (.linkRetraining port .down) s
      (countError { k with ports := aset PortState.down k.ports port .down, retrain := k.retrain &&& ~~~word (2 ^ port) }
        (port / 4) 7 1)) ∧
  (∀ die s, die < 4 → ∃ n, Gives (.flitResend die) s (countError (countError s die 5 n) die 6 1)) ∧
  (∀ s die i n, i < 8 →
    (aget 0 (dieAt (countError s die i n) die).counters i).toNat = min (2 ^ 64 - 1) ((aget 0 (dieAt s die).counters i).toNat + n) ∧
    (∀ d j, (d ≠ die ∨ j ≠ i) → aget 0 (dieAt (countError s die i n) d).counters j = aget 0 (dieAt s d).counters j) ∧
    { countError s die i n with dies := s.dies } = s)

/-! ## The fabric -/

namespace Sys2Proof.Claims

/-- A packet of a code reaches this package from another node, well formed. -/
def Reaches (p : Packet) (s : State) (opc : Nat) : Prop :=
  p.dst = s.nid ∧ p.src ≠ s.nid ∧ p.opc.toNat = opc ∧ headerOk p = true

/-- The request of n bytes joins the queue of its home. -/
def Joins (i : Instr) (s : State) (p : Packet) (n : Nat) (k : ReqKind) : Prop :=
  let a := p.addr.toNat
  Gives i s (modHome { s with nextId := s.nextId + 1 } (homeLine a) fun h =>
    { h with queue := h.queue ++
        [⟨0, nobody 0, 4, 0, lineAddr a, wordsTouched (a % 64) n, k, p.ns || p.hostn, some p, false, s.nextId,
          hostBias s (homeLine a)⟩] })

end Sys2Proof.Claims

/-- Requests of the fabric (R450-R455): one for DRAM joins its home's queue as what its code says, one for a bank goes to that bank; a
code that is for devices only, or for hosts only, is refused to others, and so are a host's messages and snoops; an atomic operation is a
reservation at its home; a misaligned one is refused. -/
def Sys2Proof.Claims.FabricRequestsJoinTheirHomes : Prop :=
  (∀ p s, Reaches p s 1 → p.addr.toNat % packetBytes p = 0 → inDram p.addr.toNat → Joins (.rd p) s p (packetBytes p) (.hostRead 0)) ∧
  (∀ p s, Reaches p s 2 → p.addr.toNat % 64 = 0 → inDram p.addr.toNat → p.hostn = false → Joins (.rdl p) s p 64 (.hostRead 3)) ∧
  (∀ p s, Reaches p s 2 → p.hostn = true → Gives (.rdl p) s (respondErr s p 2)) ∧
  (∀ p s, Reaches p s 3 → p.addr.toNat % packetBytes p = 0 → inDram p.addr.toNat → p.flits.length = (if p.size = 4 then 1 else 0) →
    Joins (.wr p) s p (packetBytes p) (.hostWrite (packetData p).2 (packetData p).1)) ∧
  (∀ p s, Reaches p s 4 → p.addr.toNat % 64 = 0 → inDram p.addr.toNat → p.hostn = false → p.size = 4 → p.flits.length = 1 →
    Joins (.wrd p) s p 64 (.hostWrite p.mask (p.flits.getD 0 0))) ∧
  (∀ p s, Reaches p s 5 → p.addr.toNat % packetBytes p = 0 → inDram p.addr.toNat → p.hostn = false → (p.size = 2 ∨ p.size = 3) →
    Joins (.atm p) s p (packetBytes p) (.reserve (p.addr.toNat % 64 / 4))) ∧
  (∀ p s w, Reaches p s 6 → p.addr.toNat % packetBytes p = 0 → window p.addr.toNat = .bank w → (p.flits = [] ∨ p.size = 4) →
    Gives (.bka p) s (atBankOf s p (bankOf w).1 (bankOf w).2 (bkaCmd s p (bankOf w).1 (bankOf w).2 (w % 65536)))) ∧
  (∀ p s, Reaches p s 8 → p.addr.toNat % 64 = 0 → inDram p.addr.toNat → p.hostn = true → Joins (.rds p) s p 64 (.hostRead 1)) ∧
  (∀ p s, Reaches p s 9 → p.addr.toNat % 64 = 0 → inDram p.addr.toNat → p.hostn = true → Joins (.rdx p) s p 64 (.hostRead 2)) ∧
  (∀ p s, Reaches p s 10 → p.addr.toNat % 64 = 0 → inDram p.addr.toNat → p.hostn = true → p.flits.length = 1 →
    Joins (.wb p) s p 64 (.hostWrite p.mask (p.flits.getD 0 0))) ∧
  (∀ p s, Reaches p s 1 → p.addr.toNat % packetBytes p ≠ 0 → Gives (.rd p) s (respondErr s p 2)) ∧
  (∀ p s, p.dst = s.nid → p.src ≠ s.nid → p.hostn = true → (p.opc = 0x07 ∨ p.opc = 0x10) →
    Gives (.rd p) s (respondErr s p 2)) ∧
  (∀ p s, p.dst = s.nid → p.src ≠ s.nid → p.opc = 0x7F → Gives (.rd p) s (respondErr s p 6))

/-- Responses of the fabric (R20, R156, R240, R448, R451, R452): data land at the access that asked, and fill copies unless they may be older
than what the die has, an acknowledgement acknowledges it, an error
fails it with its class, a request without a route fails as XLAT with cause NODE, a snoop's answer lets its home go on, and an agent that
stays silent fails the device requests that wait for it. -/
def Sys2Proof.Claims.FabricResponsesReachTheirAccess : Prop :=
  (∀ p s a, Reaches p s 0x81 → answeredBy s p.tag = some a → a.kind = .atomic →
    GivesSome (.data p) s fun t =>
      ∀ b ∈ t.inflight, b.id = a.id → b.stage = .landing ∧ b.value = p.opd0.zeroExtend 512 ∧
        b.flags = (atomicNew a.aop a.n .rne p.opd0.toNat a.data.toNat a.y.toNat).2) ∧
  (∀ p s a, Reaches p s 0x81 → answeredBy s p.tag = some a → a.kind = .load → a.pol ≠ 2 → p.flits = [] →
    let d := BitVec.ofNat 512 (p.opd0.toNat % 2 ^ (8 * a.n) * 2 ^ (8 * (a.pa % 64)))
    let s0 := notePeer s a
    let s1 := if olderReply s a then s0
      else storeIntoCopies s0 (dieOf a.t.core) a.t.core (lineAddr a.pa) (BitVec.ofNat 64 (ones a.n * 2 ^ (a.pa % 64))) d
    Gives (.data p) s (landRead s1 a.id (readOver s1 (dieOf a.t.core) (lineAddr a.pa) d)
      (readBad s1 (dieOf a.t.core) (lineAddr a.pa) false))) ∧
  (∀ p s a, Reaches p s 0x82 → answeredBy s p.tag = some a → a.kind = .writeBack →
    Gives (.ack p) s (stageAccess (notePeer s a) a.id .acked)) ∧
  (∀ p s a, Reaches p s 0x82 → answeredBy s p.tag = some a → a.kind = .store →
    Gives (.ack p) s
      (stageAccess (storeIntoCopies (notePeer s a) (dieOf a.t.core) a.t.core (lineAddr a.pa) (accMask a) (accData a)) a.id .acked)) ∧
  (∀ p s a, Reaches p s 0x83 → answeredBy s p.tag = some a → a.t.slot ≠ 14 → a.kind = .load →
    (p.stat = 3 → Gives (.err p) s (failAccess s a.id ⟨.world, 12, a.va % 2 ^ 56, 0⟩)) ∧
    (p.stat = 4 → Gives (.err p) s (modAccess s a.id fun x => { x with poison := true, stage := .landing })) ∧
    (p.stat ≠ 3 → p.stat ≠ 4 → Gives (.err p) s (failAccess s a.id ⟨.xlat, 14, a.va % 2 ^ 56, 0⟩))) ∧
  (∀ tag s a, answeredBy s tag = some a → a.t.slot ≠ 14 → Gives (.noroute tag) s (failAccess s a.id ⟨.xlat, 14, a.va % 2 ^ 56, 0⟩)) ∧
  (∀ p s line, Reaches p s 0x90 → snoopedLine s p.tag = some line →
    let answered := fun (s : State) => modHome s line fun h =>
      { h with snoop := none, snooped := h.snooped ++ (h.snoop.map fun x => (x.who, x.excl)).toList }
    (p.stat ≠ 1 → Gives (.snprsp p) s (answered s)) ∧
    (p.stat = 1 → Gives (.snprsp p) s (answered (writeHome s line p.mask (p.flits.getD 0 0))))) ∧
  (∀ line s, (homeAt s line).snoop.isSome = true →
    GivesSome (.agentTimeout line) s fun t =>
      (homeAt t line).snoop = none ∧ (∀ r ∈ (homeAt t line).queue, deviceReq r = false) ∧
      ∀ x ∈ (homeAt t line).resv, x.granted = true)

/-- Requests and responses of the fabric (R20, R156, R448-R455).
The model's own choices of log entries 17, 42, 55, 70 enter it. -/
def Obligations.FabricPackets : Prop :=
  Sys2Proof.Claims.FabricRequestsJoinTheirHomes ∧ Sys2Proof.Claims.FabricResponsesReachTheirAccess

/-! ## Frames -/

/-- A `.wt` store that its home performs, with no die owning or sharing the line, which is in the LLC or finds a way free there, writes its
bytes and no other byte that a home holds; the DRAM array and the banks keep theirs (R51, R147).
The model's own choices of log entries 5 enter it. -/
def Obligations.HomeWriteStoresOnlyItsBytes : Prop :=
  ∀ (line : Nat) (s : State) (r : HomeReq) (rest : List HomeReq) (m : BitVec 64) (d : Line),
    s.memOk = true → (homeAt s line).queue = r :: rest → r.kind = .write 1 m d → r.host = none → homeLine r.pa = line →
    (homeAt s line).act = none → (homeAt s line).own = 0 → (homeAt s line).shr = 0 → (homeAt s line).snoop = none →
    (homeAt s line).snooped = [] → (homeAt s line).unanswered = [] → homeFree s line = true → r.bias = false →
    (r.ns = true → secureLine s line = false) →
    ((llcAt s line).isSome = true ∨ (llcMates s line).length < 16) →
    let byteOf := fun (s : State) (a : Nat) => (homeData s (a / 64)).extractLsb' (8 * (a % 64)) 8
    GivesSome (.homeRequest line) s fun t =>
      (∀ a, byteOf t a = if a / 64 = line ∧ m.getLsbD (a % 64) = true then d.extractLsb' (8 * (a % 64)) 8 else byteOf s a) ∧
      t.dram = s.dram ∧ t.sram = s.sram ∧ (homeAt t line).queue = rest

namespace Sys2Proof.Claims

/-- The instructions that only write a register, a predicate or a flag of their own thread. -/
def registersOnly : Instr → Bool
  | .add .. | .sub .. | .and .. | .or .. | .xor .. | .andn .. | .shl .. | .shr .. | .sra .. | .min .. | .max .. | .minu .. | .maxu ..
  | .clz .. | .ctz .. | .popc .. | .sext .. | .addi .. | .andi .. | .ori .. | .xori .. | .shli .. | .shri .. | .srai .. | .lui ..
  | .mul .. | .mulh .. | .mulhu .. | .div .. | .divu .. | .rem .. | .remu .. => true
  | _ => false

/-- The g register that such an instruction writes. -/
def writtenG (s : State) : Instr → Nat
  | .add _ d _ _ | .sub _ d _ _ | .and _ d _ _ | .or _ d _ _ | .xor _ d _ _ | .andn _ d _ _ | .shl _ d _ _ | .shr _ d _ _
  | .sra _ d _ _ | .min _ d _ _ | .max _ d _ _ | .minu _ d _ _ | .maxu _ d _ _ | .clz _ d _ | .ctz _ d _ | .popc _ d _
  | .sext _ d _ _ | .addi _ d _ _ | .andi _ d _ _ | .ori _ d _ _ | .xori _ d _ _ | .shli _ d _ _ | .shri _ d _ _ | .srai _ d _ _
  | .lui _ d _ | .mul _ d _ _ | .mulh _ d _ _ | .mulhu _ d _ _ | .div _ d _ _ | .divu _ d _ _ | .rem _ d _ _ | .remu _ d _ _ =>
    dstNum s .d d.toNat
  | _ => 0

end Sys2Proof.Claims

/-- The frame of the integer register instructions: when one issues and has its effect, no register but its destination changes, nor any
vector register, predicate, flag, status field or privilege, no thread but the current one, no special register, no accelerator tile and
no byte of either memory. -/
def Obligations.IntegerInstructionsFrame : Prop :=
  ∀ (i : Instr) (s t : State), registersOnly i = true → Issues i s → exec i s = .next t →
    (∀ r, r ≠ writtenG s i → rdG (me t) r = rdG (me s) r) ∧ (∀ r, rdV (me t) r = rdV (me s) r) ∧
    (me t).pw = (me s).pw ∧ (me t).ss.flags = (me s).ss.flags ∧ (me t).ss.bst = (me s).ss.bst ∧
    (me t).ss.priv = (me s).ss.priv ∧ (me t).ss.rnd = (me s).ss.rnd ∧ (me t).ss.ns = (me s).ss.ns ∧
    t.cur = s.cur ∧ (∀ x, (x.core ≠ s.cur.core ∨ tid x ≠ tid s.cur) → threadAt t x = threadAt s x) ∧
    (∀ a, rdByte t.dram a = rdByte s.dram a) ∧ (∀ a, rdByte t.sram a = rdByte s.sram a) ∧
    (myCore t).tiles = (myCore s).tiles ∧ (myCore t).tvec = (myCore s).tvec ∧ (myCore t).seed = (myCore s).seed ∧
    (myCore t).lease = (myCore s).lease ∧ (myCore t).ctxid = (myCore s).ctxid ∧ t.inflight = s.inflight ∧ t.homes = s.homes ∧
    t.dies = s.dies
end

