-- ==== Sys2Proof/Laws/Assoc.lean ====
section
/-! SUPPORT. The laws of sparse tables and of memory: reading after writing, and the canonical form, which every operation
keeps. -/

namespace Sys2Proof.Machine

variable {α : Type}

/-! ### Reading after writing -/

theorem aget_aput (d : α) (l : Assoc α) (k k' : Nat) (v : α) :
    aget d (aput l k v) k' = if k' = k then v else aget d l k' := by
  induction l with
  | nil => simp [aput, aget]
  | cons e r ih =>
    obtain ⟨k₀, v₀⟩ := e
    simp only [aput]
    split
    · simp [aget]
    · split
      · subst_vars; simp only [aget]; split <;> rfl
      · simp only [aget, ih]
        split_ifs <;> first | rfl | omega

theorem aget_adel (d : α) (l : Assoc α) (k k' : Nat) :
    aget d (adel l k) k' = if k' = k then d else aget d l k' := by
  induction l with
  | nil => simp [adel, aget]
  | cons e r ih =>
    obtain ⟨k₀, v₀⟩ := e
    simp only [adel]
    split
    · subst_vars; rw [ih]; simp only [aget]; split_ifs <;> rfl
    · simp only [aget, ih]
      split_ifs <;> first | rfl | omega

/-- The table reads the written value at its key and the old value elsewhere. -/
theorem aget_aset [DecidableEq α] (d : α) (l : Assoc α) (k k' : Nat) (v : α) :
    aget d (aset d l k v) k' = if k' = k then v else aget d l k' := by
  unfold aset
  split
  · subst_vars; exact aget_adel _ _ _ _
  · exact aget_aput _ _ _ _ _

@[simp] theorem aget_aset_same [DecidableEq α] (d : α) (l : Assoc α) (k : Nat) (v : α) :
    aget d (aset d l k v) k = v := by simp [aget_aset]

theorem aget_aset_other [DecidableEq α] (d : α) (l : Assoc α) {k k' : Nat} (v : α) (h : k' ≠ k) :
    aget d (aset d l k v) k' = aget d l k' := by simp [aget_aset, h]

/-! ### The canonical form -/

/-- Keys rise from a bound: what `risingFrom` says, in terms of the head. -/
theorem risingFrom_some_cons (b k : Nat) (v : α) (r : Assoc α) :
    risingFrom (some b) ((k, v) :: r) = true ↔ b < k ∧ risingFrom (some k) r = true := by simp [risingFrom]

theorem risingFrom_weaken {b b' : Nat} {l : Assoc α} (h : risingFrom (some b) l = true) (hb : b' ≤ b) :
    risingFrom (some b') l = true := by
  cases l with
  | nil => rfl
  | cons e r =>
    obtain ⟨k, v⟩ := e
    rw [risingFrom_some_cons] at h ⊢
    exact ⟨by omega, h.2⟩

theorem risingFrom_none_of_some {b : Nat} {l : Assoc α} (h : risingFrom (some b) l = true) :
    risingFrom none l = true := by
  cases l with
  | nil => rfl
  | cons e r => exact ((risingFrom_some_cons _ _ _ _).1 h).2

theorem risingFrom_aput {b : Nat} {l : Assoc α} {k : Nat} {v : α} (hk : b < k)
    (h : risingFrom (some b) l = true) : risingFrom (some b) (aput l k v) = true := by
  induction l generalizing b with
  | nil => simp [aput, risingFrom, hk]
  | cons e r ih =>
    obtain ⟨k₀, v₀⟩ := e
    rw [risingFrom_some_cons] at h
    simp only [aput]
    split
    · next h₁ => simp [risingFrom, hk, h₁, h.2]
    · split
      · subst_vars; simp [risingFrom, hk, h.2]
      · rw [risingFrom_some_cons]; exact ⟨h.1, ih (by omega) h.2⟩

theorem risingFrom_none_aput {l : Assoc α} {k : Nat} {v : α} (h : risingFrom none l = true) :
    risingFrom none (aput l k v) = true := by
  cases l with
  | nil => simp [aput, risingFrom]
  | cons e r =>
    obtain ⟨k₀, v₀⟩ := e
    have h : risingFrom (some k₀) r = true := h
    simp only [aput]
    split
    · next h₁ => simp [risingFrom, h₁, h]
    · split
      · subst_vars; exact h
      · exact risingFrom_aput (by omega) h

theorem risingFrom_filter {b : Nat} {l : Assoc α} (p : Nat × α → Bool) (h : risingFrom (some b) l = true) :
    risingFrom (some b) (l.filter p) = true := by
  induction l generalizing b with
  | nil => rfl
  | cons e r ih =>
    obtain ⟨k, v⟩ := e
    rw [risingFrom_some_cons] at h
    rw [List.filter_cons]
    split
    · rw [risingFrom_some_cons]; exact ⟨h.1, ih h.2⟩
    · exact risingFrom_weaken (ih h.2) (by omega)

theorem risingFrom_none_filter {l : Assoc α} (p : Nat × α → Bool) (h : risingFrom none l = true) :
    risingFrom none (l.filter p) = true := by
  cases l with
  | nil => rfl
  | cons e r =>
    obtain ⟨k, v⟩ := e
    have h : risingFrom (some k) r = true := h
    rw [List.filter_cons]
    split
    · exact risingFrom_filter p h
    · exact risingFrom_none_of_some (risingFrom_filter p h)

theorem adel_eq_filter (l : Assoc α) (k : Nat) : adel l k = l.filter fun e => k != e.1 := by
  induction l with
  | nil => rfl
  | cons e r ih =>
    obtain ⟨k₀, v₀⟩ := e
    by_cases h : k = k₀
    · subst h; simp [adel, ih]
    · simp [adel, ih, h]

theorem all_aput {p : Nat × α → Bool} {l : Assoc α} {k : Nat} {v : α} (hv : p (k, v) = true) (h : l.all p = true) :
    (aput l k v).all p = true := by
  induction l with
  | nil => simp [aput, hv]
  | cons e r ih =>
    obtain ⟨k₀, v₀⟩ := e
    rw [List.all_cons, Bool.and_eq_true] at h
    simp only [aput]
    split
    · simp only [List.all_cons, hv, h.1, Bool.true_and]; exact h.2
    · split
      · simp only [List.all_cons, hv, Bool.true_and]; exact h.2
      · simp only [List.all_cons, h.1, Bool.true_and]; exact ih h.2

/-- Writing one entry keeps the canonical form. -/
theorem canonical_aset [DecidableEq α] (d : α) (l : Assoc α) (k : Nat) (v : α) (h : canonical d l = true) :
    canonical d (aset d l k v) = true := by
  unfold canonical at h ⊢
  rw [Bool.and_eq_true] at h ⊢
  unfold aset
  split
  · rw [adel_eq_filter]
    refine ⟨risingFrom_none_filter _ h.1, ?_⟩
    rw [List.all_eq_true] at h ⊢
    exact fun e he => h.2 e (List.mem_of_mem_filter he)
  · next hv => exact ⟨risingFrom_none_aput h.1, all_aput (by simpa using hv) h.2⟩

/-- Keeping some of the entries keeps the canonical form. -/
theorem canonical_filter [DecidableEq α] (d : α) (l : Assoc α) (p : Nat × α → Bool) (h : canonical d l = true) :
    canonical d (l.filter p) = true := by
  unfold canonical at h ⊢
  rw [Bool.and_eq_true] at h ⊢
  refine ⟨risingFrom_none_filter _ h.1, ?_⟩
  rw [List.all_eq_true] at h ⊢
  exact fun e he => h.2 e (List.mem_of_mem_filter he)

/-! ### Memory -/

@[simp] theorem rdByte_nil (a : Nat) : rdByte [] a = 0 := rfl

theorem rdByte_wrByte (m : Memory) (a a' : Nat) (b : Byte) :
    rdByte (wrByte m a b) a' = if a' = a then b else rdByte m a' := aget_aset _ _ _ _ _

@[simp] theorem rdByte_wrByte_same (m : Memory) (a : Nat) (b : Byte) : rdByte (wrByte m a b) a = b := by
  simp [rdByte_wrByte]

theorem rdByte_wrByte_other (m : Memory) {a a' : Nat} (b : Byte) (h : a' ≠ a) :
    rdByte (wrByte m a b) a' = rdByte m a' := by simp [rdByte_wrByte, h]

/-- A masked write leaves every byte outside its range as it was. -/
theorem rdByte_wrMasked_outside (m : Memory) (a n mask v x : Nat) (h : x < a ∨ a + n ≤ x) :
    rdByte (wrMasked m a n mask v) x = rdByte m x := by
  induction n generalizing m a mask v with
  | zero => rfl
  | succ n ih =>
    simp only [wrMasked]
    rw [ih _ _ _ _ (by omega)]
    split
    · exact rdByte_wrByte_other _ _ (by omega)
    · rfl

/-- A write of bytes leaves every byte outside its range as it was. -/
theorem rdByte_wrBytes_outside (m : Memory) (a : Nat) (bs : List Byte) (x : Nat) (h : x < a ∨ a + bs.length ≤ x) :
    rdByte (wrBytes m a bs) x = rdByte m x := by
  induction bs generalizing m a with
  | nil => rfl
  | cons b bs ih =>
    simp only [List.length_cons] at h
    simp only [wrBytes]
    rw [ih _ _ (by omega)]
    exact rdByte_wrByte_other _ _ (by omega)

theorem wrByte_wf {m : Memory} (a : Nat) (b : Byte) (h : m.wf = true) : Memory.wf (wrByte m a b) = true :=
  canonical_aset _ _ _ _ h

theorem wrMasked_wf {m : Memory} (a n mask v : Nat) (h : m.wf = true) :
    Memory.wf (wrMasked m a n mask v) = true := by
  induction n generalizing m a mask v with
  | zero => exact h
  | succ n ih =>
    simp only [wrMasked]
    refine ih _ _ _ ?_
    split
    · exact wrByte_wf _ _ h
    · exact h

theorem wrNat_wf {m : Memory} (a n v : Nat) (h : m.wf = true) : Memory.wf (wrNat m a n v) = true :=
  wrMasked_wf _ _ _ _ h

theorem wrBytes_wf {m : Memory} (a : Nat) (bs : List Byte) (h : m.wf = true) :
    Memory.wf (wrBytes m a bs) = true := by
  induction bs generalizing m a with
  | nil => exact h
  | cons b bs ih => exact ih _ (wrByte_wf _ _ h)

theorem zeroRange_wf {m : Memory} (a n : Nat) (h : m.wf = true) : Memory.wf (zeroRange m a n) = true :=
  canonical_filter _ _ _ h

/-- Memory at reset has the canonical form. -/
theorem reset_mem_wf : State.reset.dram.wf = true ∧ State.reset.sram.wf = true := ⟨rfl, rfl⟩

end Sys2Proof.Machine
end

