-- ==== Sys2Proof/Laws/State.lean ====
section
/-! SUPPORT. What each update of the state leaves alone, one lemma per field and update, and what is read back after it. No
later proof unfolds a record update. -/

namespace Sys2Proof.Machine

/-! ### Fields that an update of one part leaves alone -/


@[simp] theorem setCore_agenda (s : State) (c : Nat) (v : Core) : (setCore s c v).agenda = s.agenda := rfl
@[simp] theorem setCore_stepNo (s : State) (c : Nat) (v : Core) : (setCore s c v).stepNo = s.stepNo := rfl
@[simp] theorem setCore_cur (s : State) (c : Nat) (v : Core) : (setCore s c v).cur = s.cur := rfl
@[simp] theorem setCore_nextId (s : State) (c : Nat) (v : Core) : (setCore s c v).nextId = s.nextId := rfl
@[simp] theorem setCore_now (s : State) (c : Nat) (v : Core) : (setCore s c v).now = s.now := rfl
@[simp] theorem setCore_dram (s : State) (c : Nat) (v : Core) : (setCore s c v).dram = s.dram := rfl
@[simp] theorem setCore_dramBad (s : State) (c : Nat) (v : Core) : (setCore s c v).dramBad = s.dramBad := rfl
@[simp] theorem setCore_sram (s : State) (c : Nat) (v : Core) : (setCore s c v).sram = s.sram := rfl
@[simp] theorem setCore_sramBad (s : State) (c : Nat) (v : Core) : (setCore s c v).sramBad = s.sramBad := rfl
@[simp] theorem setCore_quads (s : State) (c : Nat) (v : Core) : (setCore s c v).quads = s.quads := rfl
@[simp] theorem setCore_dies (s : State) (c : Nat) (v : Core) : (setCore s c v).dies = s.dies := rfl
@[simp] theorem setCore_qdies (s : State) (c : Nat) (v : Core) : (setCore s c v).qdies = s.qdies := rfl
@[simp] theorem setCore_homes (s : State) (c : Nat) (v : Core) : (setCore s c v).homes = s.homes := rfl
@[simp] theorem setCore_llc (s : State) (c : Nat) (v : Core) : (setCore s c v).llc = s.llc := rfl
@[simp] theorem setCore_inflight (s : State) (c : Nat) (v : Core) : (setCore s c v).inflight = s.inflight := rfl
@[simp] theorem setCore_clears (s : State) (c : Nat) (v : Core) : (setCore s c v).clears = s.clears := rfl
@[simp] theorem setCore_spawns (s : State) (c : Nat) (v : Core) : (setCore s c v).spawns = s.spawns := rfl
@[simp] theorem setCore_travels (s : State) (c : Nat) (v : Core) : (setCore s c v).travels = s.travels := rfl
@[simp] theorem setCore_saved (s : State) (c : Nat) (v : Core) : (setCore s c v).saved = s.saved := rfl
@[simp] theorem setCore_xinvs (s : State) (c : Nat) (v : Core) : (setCore s c v).xinvs = s.xinvs := rfl
@[simp] theorem setCore_kills (s : State) (c : Nat) (v : Core) : (setCore s c v).kills = s.kills := rfl
@[simp] theorem setCore_evacs (s : State) (c : Nat) (v : Core) : (setCore s c v).evacs = s.evacs := rfl
@[simp] theorem setCore_ended (s : State) (c : Nat) (v : Core) : (setCore s c v).ended = s.ended := rfl
@[simp] theorem setCore_bias (s : State) (c : Nat) (v : Core) : (setCore s c v).bias = s.bias := rfl
@[simp] theorem setCore_flips (s : State) (c : Nat) (v : Core) : (setCore s c v).flips = s.flips := rfl
@[simp] theorem setCore_nodes (s : State) (c : Nat) (v : Core) : (setCore s c v).nodes = s.nodes := rfl
@[simp] theorem setCore_ecfgLocked (s : State) (c : Nat) (v : Core) : (setCore s c v).ecfgLocked = s.ecfgLocked := rfl
@[simp] theorem setCore_lqCore (s : State) (c : Nat) (v : Core) : (setCore s c v).lqCore = s.lqCore := rfl
@[simp] theorem setCore_lqBank (s : State) (c : Nat) (v : Core) : (setCore s c v).lqBank = s.lqBank := rfl
@[simp] theorem setCore_repNode (s : State) (c : Nat) (v : Core) : (setCore s c v).repNode = s.repNode := rfl
@[simp] theorem setCore_nid (s : State) (c : Nat) (v : Core) : (setCore s c v).nid = s.nid := rfl
@[simp] theorem setCore_agent (s : State) (c : Nat) (v : Core) : (setCore s c v).agent = s.agent := rfl
@[simp] theorem setCore_pbar (s : State) (c : Nat) (v : Core) : (setCore s c v).pbar = s.pbar := rfl
@[simp] theorem setCore_prst (s : State) (c : Nat) (v : Core) : (setCore s c v).prst = s.prst := rfl
@[simp] theorem setCore_pbars (s : State) (c : Nat) (v : Core) : (setCore s c v).pbars = s.pbars := rfl
@[simp] theorem setCore_podBars (s : State) (c : Nat) (v : Core) : (setCore s c v).podBars = s.podBars := rfl
@[simp] theorem setCore_flash (s : State) (c : Nat) (v : Core) : (setCore s c v).flash = s.flash := rfl
@[simp] theorem setCore_pilot (s : State) (c : Nat) (v : Core) : (setCore s c v).pilot = s.pilot := rfl
@[simp] theorem setCore_served (s : State) (c : Nat) (v : Core) : (setCore s c v).served = s.served := rfl
@[simp] theorem setCore_electing (s : State) (c : Nat) (v : Core) : (setCore s c v).electing = s.electing := rfl
@[simp] theorem setCore_seq (s : State) (c : Nat) (v : Core) : (setCore s c v).seq = s.seq := rfl
@[simp] theorem setCore_grids (s : State) (c : Nat) (v : Core) : (setCore s c v).grids = s.grids := rfl
@[simp] theorem setCore_groups (s : State) (c : Nat) (v : Core) : (setCore s c v).groups = s.groups := rfl
@[simp] theorem setCore_gridKey (s : State) (c : Nat) (v : Core) : (setCore s c v).gridKey = s.gridKey := rfl
@[simp] theorem setCore_reports (s : State) (c : Nat) (v : Core) : (setCore s c v).reports = s.reports := rfl
@[simp] theorem setCore_sent (s : State) (c : Nat) (v : Core) : (setCore s c v).sent = s.sent := rfl
@[simp] theorem setCore_rsyncs (s : State) (c : Nat) (v : Core) : (setCore s c v).rsyncs = s.rsyncs := rfl
@[simp] theorem setCore_rsyncLen (s : State) (c : Nat) (v : Core) : (setCore s c v).rsyncLen = s.rsyncLen := rfl
@[simp] theorem setCore_ports (s : State) (c : Nat) (v : Core) : (setCore s c v).ports = s.ports := rfl
@[simp] theorem setCore_scrubs (s : State) (c : Nat) (v : Core) : (setCore s c v).scrubs = s.scrubs := rfl
@[simp] theorem setCore_refreshes (s : State) (c : Nat) (v : Core) : (setCore s c v).refreshes = s.refreshes := rfl
@[simp] theorem setCore_retrain (s : State) (c : Nat) (v : Core) : (setCore s c v).retrain = s.retrain := rfl
@[simp] theorem setCore_samples (s : State) (c : Nat) (v : Core) : (setCore s c v).samples = s.samples := rfl
@[simp] theorem setCore_throttle (s : State) (c : Nat) (v : Core) : (setCore s c v).throttle = s.throttle := rfl

@[simp] theorem modCore_agenda (s : State) (c : Nat) (f : Core → Core) : (modCore s c f).agenda = s.agenda := rfl
@[simp] theorem modCore_stepNo (s : State) (c : Nat) (f : Core → Core) : (modCore s c f).stepNo = s.stepNo := rfl
@[simp] theorem modCore_cur (s : State) (c : Nat) (f : Core → Core) : (modCore s c f).cur = s.cur := rfl
@[simp] theorem modCore_nextId (s : State) (c : Nat) (f : Core → Core) : (modCore s c f).nextId = s.nextId := rfl
@[simp] theorem modCore_now (s : State) (c : Nat) (f : Core → Core) : (modCore s c f).now = s.now := rfl
@[simp] theorem modCore_dram (s : State) (c : Nat) (f : Core → Core) : (modCore s c f).dram = s.dram := rfl
@[simp] theorem modCore_dramBad (s : State) (c : Nat) (f : Core → Core) : (modCore s c f).dramBad = s.dramBad := rfl
@[simp] theorem modCore_sram (s : State) (c : Nat) (f : Core → Core) : (modCore s c f).sram = s.sram := rfl
@[simp] theorem modCore_sramBad (s : State) (c : Nat) (f : Core → Core) : (modCore s c f).sramBad = s.sramBad := rfl
@[simp] theorem modCore_quads (s : State) (c : Nat) (f : Core → Core) : (modCore s c f).quads = s.quads := rfl
@[simp] theorem modCore_dies (s : State) (c : Nat) (f : Core → Core) : (modCore s c f).dies = s.dies := rfl
@[simp] theorem modCore_qdies (s : State) (c : Nat) (f : Core → Core) : (modCore s c f).qdies = s.qdies := rfl
@[simp] theorem modCore_homes (s : State) (c : Nat) (f : Core → Core) : (modCore s c f).homes = s.homes := rfl
@[simp] theorem modCore_llc (s : State) (c : Nat) (f : Core → Core) : (modCore s c f).llc = s.llc := rfl
@[simp] theorem modCore_inflight (s : State) (c : Nat) (f : Core → Core) : (modCore s c f).inflight = s.inflight := rfl
@[simp] theorem modCore_clears (s : State) (c : Nat) (f : Core → Core) : (modCore s c f).clears = s.clears := rfl
@[simp] theorem modCore_spawns (s : State) (c : Nat) (f : Core → Core) : (modCore s c f).spawns = s.spawns := rfl
@[simp] theorem modCore_travels (s : State) (c : Nat) (f : Core → Core) : (modCore s c f).travels = s.travels := rfl
@[simp] theorem modCore_saved (s : State) (c : Nat) (f : Core → Core) : (modCore s c f).saved = s.saved := rfl
@[simp] theorem modCore_xinvs (s : State) (c : Nat) (f : Core → Core) : (modCore s c f).xinvs = s.xinvs := rfl
@[simp] theorem modCore_kills (s : State) (c : Nat) (f : Core → Core) : (modCore s c f).kills = s.kills := rfl
@[simp] theorem modCore_evacs (s : State) (c : Nat) (f : Core → Core) : (modCore s c f).evacs = s.evacs := rfl
@[simp] theorem modCore_ended (s : State) (c : Nat) (f : Core → Core) : (modCore s c f).ended = s.ended := rfl
@[simp] theorem modCore_bias (s : State) (c : Nat) (f : Core → Core) : (modCore s c f).bias = s.bias := rfl
@[simp] theorem modCore_flips (s : State) (c : Nat) (f : Core → Core) : (modCore s c f).flips = s.flips := rfl
@[simp] theorem modCore_nodes (s : State) (c : Nat) (f : Core → Core) : (modCore s c f).nodes = s.nodes := rfl
@[simp] theorem modCore_ecfgLocked (s : State) (c : Nat) (f : Core → Core) : (modCore s c f).ecfgLocked = s.ecfgLocked := rfl
@[simp] theorem modCore_lqCore (s : State) (c : Nat) (f : Core → Core) : (modCore s c f).lqCore = s.lqCore := rfl
@[simp] theorem modCore_lqBank (s : State) (c : Nat) (f : Core → Core) : (modCore s c f).lqBank = s.lqBank := rfl
@[simp] theorem modCore_repNode (s : State) (c : Nat) (f : Core → Core) : (modCore s c f).repNode = s.repNode := rfl
@[simp] theorem modCore_nid (s : State) (c : Nat) (f : Core → Core) : (modCore s c f).nid = s.nid := rfl
@[simp] theorem modCore_agent (s : State) (c : Nat) (f : Core → Core) : (modCore s c f).agent = s.agent := rfl
@[simp] theorem modCore_pbar (s : State) (c : Nat) (f : Core → Core) : (modCore s c f).pbar = s.pbar := rfl
@[simp] theorem modCore_prst (s : State) (c : Nat) (f : Core → Core) : (modCore s c f).prst = s.prst := rfl
@[simp] theorem modCore_pbars (s : State) (c : Nat) (f : Core → Core) : (modCore s c f).pbars = s.pbars := rfl
@[simp] theorem modCore_podBars (s : State) (c : Nat) (f : Core → Core) : (modCore s c f).podBars = s.podBars := rfl
@[simp] theorem modCore_flash (s : State) (c : Nat) (f : Core → Core) : (modCore s c f).flash = s.flash := rfl
@[simp] theorem modCore_pilot (s : State) (c : Nat) (f : Core → Core) : (modCore s c f).pilot = s.pilot := rfl
@[simp] theorem modCore_served (s : State) (c : Nat) (f : Core → Core) : (modCore s c f).served = s.served := rfl
@[simp] theorem modCore_electing (s : State) (c : Nat) (f : Core → Core) : (modCore s c f).electing = s.electing := rfl
@[simp] theorem modCore_seq (s : State) (c : Nat) (f : Core → Core) : (modCore s c f).seq = s.seq := rfl
@[simp] theorem modCore_grids (s : State) (c : Nat) (f : Core → Core) : (modCore s c f).grids = s.grids := rfl
@[simp] theorem modCore_groups (s : State) (c : Nat) (f : Core → Core) : (modCore s c f).groups = s.groups := rfl
@[simp] theorem modCore_gridKey (s : State) (c : Nat) (f : Core → Core) : (modCore s c f).gridKey = s.gridKey := rfl
@[simp] theorem modCore_reports (s : State) (c : Nat) (f : Core → Core) : (modCore s c f).reports = s.reports := rfl
@[simp] theorem modCore_sent (s : State) (c : Nat) (f : Core → Core) : (modCore s c f).sent = s.sent := rfl
@[simp] theorem modCore_rsyncs (s : State) (c : Nat) (f : Core → Core) : (modCore s c f).rsyncs = s.rsyncs := rfl
@[simp] theorem modCore_rsyncLen (s : State) (c : Nat) (f : Core → Core) : (modCore s c f).rsyncLen = s.rsyncLen := rfl
@[simp] theorem modCore_ports (s : State) (c : Nat) (f : Core → Core) : (modCore s c f).ports = s.ports := rfl
@[simp] theorem modCore_scrubs (s : State) (c : Nat) (f : Core → Core) : (modCore s c f).scrubs = s.scrubs := rfl
@[simp] theorem modCore_refreshes (s : State) (c : Nat) (f : Core → Core) : (modCore s c f).refreshes = s.refreshes := rfl
@[simp] theorem modCore_retrain (s : State) (c : Nat) (f : Core → Core) : (modCore s c f).retrain = s.retrain := rfl
@[simp] theorem modCore_samples (s : State) (c : Nat) (f : Core → Core) : (modCore s c f).samples = s.samples := rfl
@[simp] theorem modCore_throttle (s : State) (c : Nat) (f : Core → Core) : (modCore s c f).throttle = s.throttle := rfl

@[simp] theorem setThread_agenda (s : State) (t : ThreadRef) (v : Thread) : (setThread s t v).agenda = s.agenda := rfl
@[simp] theorem setThread_stepNo (s : State) (t : ThreadRef) (v : Thread) : (setThread s t v).stepNo = s.stepNo := rfl
@[simp] theorem setThread_cur (s : State) (t : ThreadRef) (v : Thread) : (setThread s t v).cur = s.cur := rfl
@[simp] theorem setThread_nextId (s : State) (t : ThreadRef) (v : Thread) : (setThread s t v).nextId = s.nextId := rfl
@[simp] theorem setThread_now (s : State) (t : ThreadRef) (v : Thread) : (setThread s t v).now = s.now := rfl
@[simp] theorem setThread_dram (s : State) (t : ThreadRef) (v : Thread) : (setThread s t v).dram = s.dram := rfl
@[simp] theorem setThread_dramBad (s : State) (t : ThreadRef) (v : Thread) : (setThread s t v).dramBad = s.dramBad := rfl
@[simp] theorem setThread_sram (s : State) (t : ThreadRef) (v : Thread) : (setThread s t v).sram = s.sram := rfl
@[simp] theorem setThread_sramBad (s : State) (t : ThreadRef) (v : Thread) : (setThread s t v).sramBad = s.sramBad := rfl
@[simp] theorem setThread_quads (s : State) (t : ThreadRef) (v : Thread) : (setThread s t v).quads = s.quads := rfl
@[simp] theorem setThread_dies (s : State) (t : ThreadRef) (v : Thread) : (setThread s t v).dies = s.dies := rfl
@[simp] theorem setThread_qdies (s : State) (t : ThreadRef) (v : Thread) : (setThread s t v).qdies = s.qdies := rfl
@[simp] theorem setThread_homes (s : State) (t : ThreadRef) (v : Thread) : (setThread s t v).homes = s.homes := rfl
@[simp] theorem setThread_llc (s : State) (t : ThreadRef) (v : Thread) : (setThread s t v).llc = s.llc := rfl
@[simp] theorem setThread_inflight (s : State) (t : ThreadRef) (v : Thread) : (setThread s t v).inflight = s.inflight := rfl
@[simp] theorem setThread_clears (s : State) (t : ThreadRef) (v : Thread) : (setThread s t v).clears = s.clears := rfl
@[simp] theorem setThread_spawns (s : State) (t : ThreadRef) (v : Thread) : (setThread s t v).spawns = s.spawns := rfl
@[simp] theorem setThread_travels (s : State) (t : ThreadRef) (v : Thread) : (setThread s t v).travels = s.travels := rfl
@[simp] theorem setThread_saved (s : State) (t : ThreadRef) (v : Thread) : (setThread s t v).saved = s.saved := rfl
@[simp] theorem setThread_xinvs (s : State) (t : ThreadRef) (v : Thread) : (setThread s t v).xinvs = s.xinvs := rfl
@[simp] theorem setThread_kills (s : State) (t : ThreadRef) (v : Thread) : (setThread s t v).kills = s.kills := rfl
@[simp] theorem setThread_evacs (s : State) (t : ThreadRef) (v : Thread) : (setThread s t v).evacs = s.evacs := rfl
@[simp] theorem setThread_ended (s : State) (t : ThreadRef) (v : Thread) : (setThread s t v).ended = s.ended := rfl
@[simp] theorem setThread_bias (s : State) (t : ThreadRef) (v : Thread) : (setThread s t v).bias = s.bias := rfl
@[simp] theorem setThread_flips (s : State) (t : ThreadRef) (v : Thread) : (setThread s t v).flips = s.flips := rfl
@[simp] theorem setThread_nodes (s : State) (t : ThreadRef) (v : Thread) : (setThread s t v).nodes = s.nodes := rfl
@[simp] theorem setThread_ecfgLocked (s : State) (t : ThreadRef) (v : Thread) : (setThread s t v).ecfgLocked = s.ecfgLocked := rfl
@[simp] theorem setThread_lqCore (s : State) (t : ThreadRef) (v : Thread) : (setThread s t v).lqCore = s.lqCore := rfl
@[simp] theorem setThread_lqBank (s : State) (t : ThreadRef) (v : Thread) : (setThread s t v).lqBank = s.lqBank := rfl
@[simp] theorem setThread_repNode (s : State) (t : ThreadRef) (v : Thread) : (setThread s t v).repNode = s.repNode := rfl
@[simp] theorem setThread_nid (s : State) (t : ThreadRef) (v : Thread) : (setThread s t v).nid = s.nid := rfl
@[simp] theorem setThread_agent (s : State) (t : ThreadRef) (v : Thread) : (setThread s t v).agent = s.agent := rfl
@[simp] theorem setThread_pbar (s : State) (t : ThreadRef) (v : Thread) : (setThread s t v).pbar = s.pbar := rfl
@[simp] theorem setThread_prst (s : State) (t : ThreadRef) (v : Thread) : (setThread s t v).prst = s.prst := rfl
@[simp] theorem setThread_pbars (s : State) (t : ThreadRef) (v : Thread) : (setThread s t v).pbars = s.pbars := rfl
@[simp] theorem setThread_podBars (s : State) (t : ThreadRef) (v : Thread) : (setThread s t v).podBars = s.podBars := rfl
@[simp] theorem setThread_flash (s : State) (t : ThreadRef) (v : Thread) : (setThread s t v).flash = s.flash := rfl
@[simp] theorem setThread_pilot (s : State) (t : ThreadRef) (v : Thread) : (setThread s t v).pilot = s.pilot := rfl
@[simp] theorem setThread_served (s : State) (t : ThreadRef) (v : Thread) : (setThread s t v).served = s.served := rfl
@[simp] theorem setThread_electing (s : State) (t : ThreadRef) (v : Thread) : (setThread s t v).electing = s.electing := rfl
@[simp] theorem setThread_seq (s : State) (t : ThreadRef) (v : Thread) : (setThread s t v).seq = s.seq := rfl
@[simp] theorem setThread_grids (s : State) (t : ThreadRef) (v : Thread) : (setThread s t v).grids = s.grids := rfl
@[simp] theorem setThread_groups (s : State) (t : ThreadRef) (v : Thread) : (setThread s t v).groups = s.groups := rfl
@[simp] theorem setThread_gridKey (s : State) (t : ThreadRef) (v : Thread) : (setThread s t v).gridKey = s.gridKey := rfl
@[simp] theorem setThread_reports (s : State) (t : ThreadRef) (v : Thread) : (setThread s t v).reports = s.reports := rfl
@[simp] theorem setThread_sent (s : State) (t : ThreadRef) (v : Thread) : (setThread s t v).sent = s.sent := rfl
@[simp] theorem setThread_rsyncs (s : State) (t : ThreadRef) (v : Thread) : (setThread s t v).rsyncs = s.rsyncs := rfl
@[simp] theorem setThread_rsyncLen (s : State) (t : ThreadRef) (v : Thread) : (setThread s t v).rsyncLen = s.rsyncLen := rfl
@[simp] theorem setThread_ports (s : State) (t : ThreadRef) (v : Thread) : (setThread s t v).ports = s.ports := rfl
@[simp] theorem setThread_scrubs (s : State) (t : ThreadRef) (v : Thread) : (setThread s t v).scrubs = s.scrubs := rfl
@[simp] theorem setThread_refreshes (s : State) (t : ThreadRef) (v : Thread) : (setThread s t v).refreshes = s.refreshes := rfl
@[simp] theorem setThread_retrain (s : State) (t : ThreadRef) (v : Thread) : (setThread s t v).retrain = s.retrain := rfl
@[simp] theorem setThread_samples (s : State) (t : ThreadRef) (v : Thread) : (setThread s t v).samples = s.samples := rfl
@[simp] theorem setThread_throttle (s : State) (t : ThreadRef) (v : Thread) : (setThread s t v).throttle = s.throttle := rfl

@[simp] theorem modThread_agenda (s : State) (t : ThreadRef) (f : Thread → Thread) : (modThread s t f).agenda = s.agenda := rfl
@[simp] theorem modThread_stepNo (s : State) (t : ThreadRef) (f : Thread → Thread) : (modThread s t f).stepNo = s.stepNo := rfl
@[simp] theorem modThread_cur (s : State) (t : ThreadRef) (f : Thread → Thread) : (modThread s t f).cur = s.cur := rfl
@[simp] theorem modThread_nextId (s : State) (t : ThreadRef) (f : Thread → Thread) : (modThread s t f).nextId = s.nextId := rfl
@[simp] theorem modThread_now (s : State) (t : ThreadRef) (f : Thread → Thread) : (modThread s t f).now = s.now := rfl
@[simp] theorem modThread_dram (s : State) (t : ThreadRef) (f : Thread → Thread) : (modThread s t f).dram = s.dram := rfl
@[simp] theorem modThread_dramBad (s : State) (t : ThreadRef) (f : Thread → Thread) : (modThread s t f).dramBad = s.dramBad := rfl
@[simp] theorem modThread_sram (s : State) (t : ThreadRef) (f : Thread → Thread) : (modThread s t f).sram = s.sram := rfl
@[simp] theorem modThread_sramBad (s : State) (t : ThreadRef) (f : Thread → Thread) : (modThread s t f).sramBad = s.sramBad := rfl
@[simp] theorem modThread_quads (s : State) (t : ThreadRef) (f : Thread → Thread) : (modThread s t f).quads = s.quads := rfl
@[simp] theorem modThread_dies (s : State) (t : ThreadRef) (f : Thread → Thread) : (modThread s t f).dies = s.dies := rfl
@[simp] theorem modThread_qdies (s : State) (t : ThreadRef) (f : Thread → Thread) : (modThread s t f).qdies = s.qdies := rfl
@[simp] theorem modThread_homes (s : State) (t : ThreadRef) (f : Thread → Thread) : (modThread s t f).homes = s.homes := rfl
@[simp] theorem modThread_llc (s : State) (t : ThreadRef) (f : Thread → Thread) : (modThread s t f).llc = s.llc := rfl
@[simp] theorem modThread_inflight (s : State) (t : ThreadRef) (f : Thread → Thread) : (modThread s t f).inflight = s.inflight := rfl
@[simp] theorem modThread_clears (s : State) (t : ThreadRef) (f : Thread → Thread) : (modThread s t f).clears = s.clears := rfl
@[simp] theorem modThread_spawns (s : State) (t : ThreadRef) (f : Thread → Thread) : (modThread s t f).spawns = s.spawns := rfl
@[simp] theorem modThread_travels (s : State) (t : ThreadRef) (f : Thread → Thread) : (modThread s t f).travels = s.travels := rfl
@[simp] theorem modThread_saved (s : State) (t : ThreadRef) (f : Thread → Thread) : (modThread s t f).saved = s.saved := rfl
@[simp] theorem modThread_xinvs (s : State) (t : ThreadRef) (f : Thread → Thread) : (modThread s t f).xinvs = s.xinvs := rfl
@[simp] theorem modThread_kills (s : State) (t : ThreadRef) (f : Thread → Thread) : (modThread s t f).kills = s.kills := rfl
@[simp] theorem modThread_evacs (s : State) (t : ThreadRef) (f : Thread → Thread) : (modThread s t f).evacs = s.evacs := rfl
@[simp] theorem modThread_ended (s : State) (t : ThreadRef) (f : Thread → Thread) : (modThread s t f).ended = s.ended := rfl
@[simp] theorem modThread_bias (s : State) (t : ThreadRef) (f : Thread → Thread) : (modThread s t f).bias = s.bias := rfl
@[simp] theorem modThread_flips (s : State) (t : ThreadRef) (f : Thread → Thread) : (modThread s t f).flips = s.flips := rfl
@[simp] theorem modThread_nodes (s : State) (t : ThreadRef) (f : Thread → Thread) : (modThread s t f).nodes = s.nodes := rfl
@[simp] theorem modThread_ecfgLocked (s : State) (t : ThreadRef) (f : Thread → Thread) : (modThread s t f).ecfgLocked = s.ecfgLocked := rfl
@[simp] theorem modThread_lqCore (s : State) (t : ThreadRef) (f : Thread → Thread) : (modThread s t f).lqCore = s.lqCore := rfl
@[simp] theorem modThread_lqBank (s : State) (t : ThreadRef) (f : Thread → Thread) : (modThread s t f).lqBank = s.lqBank := rfl
@[simp] theorem modThread_repNode (s : State) (t : ThreadRef) (f : Thread → Thread) : (modThread s t f).repNode = s.repNode := rfl
@[simp] theorem modThread_nid (s : State) (t : ThreadRef) (f : Thread → Thread) : (modThread s t f).nid = s.nid := rfl
@[simp] theorem modThread_agent (s : State) (t : ThreadRef) (f : Thread → Thread) : (modThread s t f).agent = s.agent := rfl
@[simp] theorem modThread_pbar (s : State) (t : ThreadRef) (f : Thread → Thread) : (modThread s t f).pbar = s.pbar := rfl
@[simp] theorem modThread_prst (s : State) (t : ThreadRef) (f : Thread → Thread) : (modThread s t f).prst = s.prst := rfl
@[simp] theorem modThread_pbars (s : State) (t : ThreadRef) (f : Thread → Thread) : (modThread s t f).pbars = s.pbars := rfl
@[simp] theorem modThread_podBars (s : State) (t : ThreadRef) (f : Thread → Thread) : (modThread s t f).podBars = s.podBars := rfl
@[simp] theorem modThread_flash (s : State) (t : ThreadRef) (f : Thread → Thread) : (modThread s t f).flash = s.flash := rfl
@[simp] theorem modThread_pilot (s : State) (t : ThreadRef) (f : Thread → Thread) : (modThread s t f).pilot = s.pilot := rfl
@[simp] theorem modThread_served (s : State) (t : ThreadRef) (f : Thread → Thread) : (modThread s t f).served = s.served := rfl
@[simp] theorem modThread_electing (s : State) (t : ThreadRef) (f : Thread → Thread) : (modThread s t f).electing = s.electing := rfl
@[simp] theorem modThread_seq (s : State) (t : ThreadRef) (f : Thread → Thread) : (modThread s t f).seq = s.seq := rfl
@[simp] theorem modThread_grids (s : State) (t : ThreadRef) (f : Thread → Thread) : (modThread s t f).grids = s.grids := rfl
@[simp] theorem modThread_groups (s : State) (t : ThreadRef) (f : Thread → Thread) : (modThread s t f).groups = s.groups := rfl
@[simp] theorem modThread_gridKey (s : State) (t : ThreadRef) (f : Thread → Thread) : (modThread s t f).gridKey = s.gridKey := rfl
@[simp] theorem modThread_reports (s : State) (t : ThreadRef) (f : Thread → Thread) : (modThread s t f).reports = s.reports := rfl
@[simp] theorem modThread_sent (s : State) (t : ThreadRef) (f : Thread → Thread) : (modThread s t f).sent = s.sent := rfl
@[simp] theorem modThread_rsyncs (s : State) (t : ThreadRef) (f : Thread → Thread) : (modThread s t f).rsyncs = s.rsyncs := rfl
@[simp] theorem modThread_rsyncLen (s : State) (t : ThreadRef) (f : Thread → Thread) : (modThread s t f).rsyncLen = s.rsyncLen := rfl
@[simp] theorem modThread_ports (s : State) (t : ThreadRef) (f : Thread → Thread) : (modThread s t f).ports = s.ports := rfl
@[simp] theorem modThread_scrubs (s : State) (t : ThreadRef) (f : Thread → Thread) : (modThread s t f).scrubs = s.scrubs := rfl
@[simp] theorem modThread_refreshes (s : State) (t : ThreadRef) (f : Thread → Thread) : (modThread s t f).refreshes = s.refreshes := rfl
@[simp] theorem modThread_retrain (s : State) (t : ThreadRef) (f : Thread → Thread) : (modThread s t f).retrain = s.retrain := rfl
@[simp] theorem modThread_samples (s : State) (t : ThreadRef) (f : Thread → Thread) : (modThread s t f).samples = s.samples := rfl
@[simp] theorem modThread_throttle (s : State) (t : ThreadRef) (f : Thread → Thread) : (modThread s t f).throttle = s.throttle := rfl

@[simp] theorem modMe_agenda (s : State) (f : Thread → Thread) : (modMe s f).agenda = s.agenda := rfl
@[simp] theorem modMe_stepNo (s : State) (f : Thread → Thread) : (modMe s f).stepNo = s.stepNo := rfl
@[simp] theorem modMe_cur (s : State) (f : Thread → Thread) : (modMe s f).cur = s.cur := rfl
@[simp] theorem modMe_nextId (s : State) (f : Thread → Thread) : (modMe s f).nextId = s.nextId := rfl
@[simp] theorem modMe_now (s : State) (f : Thread → Thread) : (modMe s f).now = s.now := rfl
@[simp] theorem modMe_dram (s : State) (f : Thread → Thread) : (modMe s f).dram = s.dram := rfl
@[simp] theorem modMe_dramBad (s : State) (f : Thread → Thread) : (modMe s f).dramBad = s.dramBad := rfl
@[simp] theorem modMe_sram (s : State) (f : Thread → Thread) : (modMe s f).sram = s.sram := rfl
@[simp] theorem modMe_sramBad (s : State) (f : Thread → Thread) : (modMe s f).sramBad = s.sramBad := rfl
@[simp] theorem modMe_quads (s : State) (f : Thread → Thread) : (modMe s f).quads = s.quads := rfl
@[simp] theorem modMe_dies (s : State) (f : Thread → Thread) : (modMe s f).dies = s.dies := rfl
@[simp] theorem modMe_qdies (s : State) (f : Thread → Thread) : (modMe s f).qdies = s.qdies := rfl
@[simp] theorem modMe_homes (s : State) (f : Thread → Thread) : (modMe s f).homes = s.homes := rfl
@[simp] theorem modMe_llc (s : State) (f : Thread → Thread) : (modMe s f).llc = s.llc := rfl
@[simp] theorem modMe_inflight (s : State) (f : Thread → Thread) : (modMe s f).inflight = s.inflight := rfl
@[simp] theorem modMe_clears (s : State) (f : Thread → Thread) : (modMe s f).clears = s.clears := rfl
@[simp] theorem modMe_spawns (s : State) (f : Thread → Thread) : (modMe s f).spawns = s.spawns := rfl
@[simp] theorem modMe_travels (s : State) (f : Thread → Thread) : (modMe s f).travels = s.travels := rfl
@[simp] theorem modMe_saved (s : State) (f : Thread → Thread) : (modMe s f).saved = s.saved := rfl
@[simp] theorem modMe_xinvs (s : State) (f : Thread → Thread) : (modMe s f).xinvs = s.xinvs := rfl
@[simp] theorem modMe_kills (s : State) (f : Thread → Thread) : (modMe s f).kills = s.kills := rfl
@[simp] theorem modMe_evacs (s : State) (f : Thread → Thread) : (modMe s f).evacs = s.evacs := rfl
@[simp] theorem modMe_ended (s : State) (f : Thread → Thread) : (modMe s f).ended = s.ended := rfl
@[simp] theorem modMe_bias (s : State) (f : Thread → Thread) : (modMe s f).bias = s.bias := rfl
@[simp] theorem modMe_flips (s : State) (f : Thread → Thread) : (modMe s f).flips = s.flips := rfl
@[simp] theorem modMe_nodes (s : State) (f : Thread → Thread) : (modMe s f).nodes = s.nodes := rfl
@[simp] theorem modMe_ecfgLocked (s : State) (f : Thread → Thread) : (modMe s f).ecfgLocked = s.ecfgLocked := rfl
@[simp] theorem modMe_lqCore (s : State) (f : Thread → Thread) : (modMe s f).lqCore = s.lqCore := rfl
@[simp] theorem modMe_lqBank (s : State) (f : Thread → Thread) : (modMe s f).lqBank = s.lqBank := rfl
@[simp] theorem modMe_repNode (s : State) (f : Thread → Thread) : (modMe s f).repNode = s.repNode := rfl
@[simp] theorem modMe_nid (s : State) (f : Thread → Thread) : (modMe s f).nid = s.nid := rfl
@[simp] theorem modMe_agent (s : State) (f : Thread → Thread) : (modMe s f).agent = s.agent := rfl
@[simp] theorem modMe_pbar (s : State) (f : Thread → Thread) : (modMe s f).pbar = s.pbar := rfl
@[simp] theorem modMe_prst (s : State) (f : Thread → Thread) : (modMe s f).prst = s.prst := rfl
@[simp] theorem modMe_pbars (s : State) (f : Thread → Thread) : (modMe s f).pbars = s.pbars := rfl
@[simp] theorem modMe_podBars (s : State) (f : Thread → Thread) : (modMe s f).podBars = s.podBars := rfl
@[simp] theorem modMe_flash (s : State) (f : Thread → Thread) : (modMe s f).flash = s.flash := rfl
@[simp] theorem modMe_pilot (s : State) (f : Thread → Thread) : (modMe s f).pilot = s.pilot := rfl
@[simp] theorem modMe_served (s : State) (f : Thread → Thread) : (modMe s f).served = s.served := rfl
@[simp] theorem modMe_electing (s : State) (f : Thread → Thread) : (modMe s f).electing = s.electing := rfl
@[simp] theorem modMe_seq (s : State) (f : Thread → Thread) : (modMe s f).seq = s.seq := rfl
@[simp] theorem modMe_grids (s : State) (f : Thread → Thread) : (modMe s f).grids = s.grids := rfl
@[simp] theorem modMe_groups (s : State) (f : Thread → Thread) : (modMe s f).groups = s.groups := rfl
@[simp] theorem modMe_gridKey (s : State) (f : Thread → Thread) : (modMe s f).gridKey = s.gridKey := rfl
@[simp] theorem modMe_reports (s : State) (f : Thread → Thread) : (modMe s f).reports = s.reports := rfl
@[simp] theorem modMe_sent (s : State) (f : Thread → Thread) : (modMe s f).sent = s.sent := rfl
@[simp] theorem modMe_rsyncs (s : State) (f : Thread → Thread) : (modMe s f).rsyncs = s.rsyncs := rfl
@[simp] theorem modMe_rsyncLen (s : State) (f : Thread → Thread) : (modMe s f).rsyncLen = s.rsyncLen := rfl
@[simp] theorem modMe_ports (s : State) (f : Thread → Thread) : (modMe s f).ports = s.ports := rfl
@[simp] theorem modMe_scrubs (s : State) (f : Thread → Thread) : (modMe s f).scrubs = s.scrubs := rfl
@[simp] theorem modMe_refreshes (s : State) (f : Thread → Thread) : (modMe s f).refreshes = s.refreshes := rfl
@[simp] theorem modMe_retrain (s : State) (f : Thread → Thread) : (modMe s f).retrain = s.retrain := rfl
@[simp] theorem modMe_samples (s : State) (f : Thread → Thread) : (modMe s f).samples = s.samples := rfl
@[simp] theorem modMe_throttle (s : State) (f : Thread → Thread) : (modMe s f).throttle = s.throttle := rfl

@[simp] theorem modBank_agenda (s : State) (c b : Nat) (f : Bank → Bank) : (modBank s c b f).agenda = s.agenda := rfl
@[simp] theorem modBank_stepNo (s : State) (c b : Nat) (f : Bank → Bank) : (modBank s c b f).stepNo = s.stepNo := rfl
@[simp] theorem modBank_cur (s : State) (c b : Nat) (f : Bank → Bank) : (modBank s c b f).cur = s.cur := rfl
@[simp] theorem modBank_nextId (s : State) (c b : Nat) (f : Bank → Bank) : (modBank s c b f).nextId = s.nextId := rfl
@[simp] theorem modBank_now (s : State) (c b : Nat) (f : Bank → Bank) : (modBank s c b f).now = s.now := rfl
@[simp] theorem modBank_dram (s : State) (c b : Nat) (f : Bank → Bank) : (modBank s c b f).dram = s.dram := rfl
@[simp] theorem modBank_dramBad (s : State) (c b : Nat) (f : Bank → Bank) : (modBank s c b f).dramBad = s.dramBad := rfl
@[simp] theorem modBank_sram (s : State) (c b : Nat) (f : Bank → Bank) : (modBank s c b f).sram = s.sram := rfl
@[simp] theorem modBank_sramBad (s : State) (c b : Nat) (f : Bank → Bank) : (modBank s c b f).sramBad = s.sramBad := rfl
@[simp] theorem modBank_quads (s : State) (c b : Nat) (f : Bank → Bank) : (modBank s c b f).quads = s.quads := rfl
@[simp] theorem modBank_dies (s : State) (c b : Nat) (f : Bank → Bank) : (modBank s c b f).dies = s.dies := rfl
@[simp] theorem modBank_qdies (s : State) (c b : Nat) (f : Bank → Bank) : (modBank s c b f).qdies = s.qdies := rfl
@[simp] theorem modBank_homes (s : State) (c b : Nat) (f : Bank → Bank) : (modBank s c b f).homes = s.homes := rfl
@[simp] theorem modBank_llc (s : State) (c b : Nat) (f : Bank → Bank) : (modBank s c b f).llc = s.llc := rfl
@[simp] theorem modBank_inflight (s : State) (c b : Nat) (f : Bank → Bank) : (modBank s c b f).inflight = s.inflight := rfl
@[simp] theorem modBank_clears (s : State) (c b : Nat) (f : Bank → Bank) : (modBank s c b f).clears = s.clears := rfl
@[simp] theorem modBank_spawns (s : State) (c b : Nat) (f : Bank → Bank) : (modBank s c b f).spawns = s.spawns := rfl
@[simp] theorem modBank_travels (s : State) (c b : Nat) (f : Bank → Bank) : (modBank s c b f).travels = s.travels := rfl
@[simp] theorem modBank_saved (s : State) (c b : Nat) (f : Bank → Bank) : (modBank s c b f).saved = s.saved := rfl
@[simp] theorem modBank_xinvs (s : State) (c b : Nat) (f : Bank → Bank) : (modBank s c b f).xinvs = s.xinvs := rfl
@[simp] theorem modBank_kills (s : State) (c b : Nat) (f : Bank → Bank) : (modBank s c b f).kills = s.kills := rfl
@[simp] theorem modBank_evacs (s : State) (c b : Nat) (f : Bank → Bank) : (modBank s c b f).evacs = s.evacs := rfl
@[simp] theorem modBank_ended (s : State) (c b : Nat) (f : Bank → Bank) : (modBank s c b f).ended = s.ended := rfl
@[simp] theorem modBank_bias (s : State) (c b : Nat) (f : Bank → Bank) : (modBank s c b f).bias = s.bias := rfl
@[simp] theorem modBank_flips (s : State) (c b : Nat) (f : Bank → Bank) : (modBank s c b f).flips = s.flips := rfl
@[simp] theorem modBank_nodes (s : State) (c b : Nat) (f : Bank → Bank) : (modBank s c b f).nodes = s.nodes := rfl
@[simp] theorem modBank_ecfgLocked (s : State) (c b : Nat) (f : Bank → Bank) : (modBank s c b f).ecfgLocked = s.ecfgLocked := rfl
@[simp] theorem modBank_lqCore (s : State) (c b : Nat) (f : Bank → Bank) : (modBank s c b f).lqCore = s.lqCore := rfl
@[simp] theorem modBank_lqBank (s : State) (c b : Nat) (f : Bank → Bank) : (modBank s c b f).lqBank = s.lqBank := rfl
@[simp] theorem modBank_repNode (s : State) (c b : Nat) (f : Bank → Bank) : (modBank s c b f).repNode = s.repNode := rfl
@[simp] theorem modBank_nid (s : State) (c b : Nat) (f : Bank → Bank) : (modBank s c b f).nid = s.nid := rfl
@[simp] theorem modBank_agent (s : State) (c b : Nat) (f : Bank → Bank) : (modBank s c b f).agent = s.agent := rfl
@[simp] theorem modBank_pbar (s : State) (c b : Nat) (f : Bank → Bank) : (modBank s c b f).pbar = s.pbar := rfl
@[simp] theorem modBank_prst (s : State) (c b : Nat) (f : Bank → Bank) : (modBank s c b f).prst = s.prst := rfl
@[simp] theorem modBank_pbars (s : State) (c b : Nat) (f : Bank → Bank) : (modBank s c b f).pbars = s.pbars := rfl
@[simp] theorem modBank_podBars (s : State) (c b : Nat) (f : Bank → Bank) : (modBank s c b f).podBars = s.podBars := rfl
@[simp] theorem modBank_flash (s : State) (c b : Nat) (f : Bank → Bank) : (modBank s c b f).flash = s.flash := rfl
@[simp] theorem modBank_pilot (s : State) (c b : Nat) (f : Bank → Bank) : (modBank s c b f).pilot = s.pilot := rfl
@[simp] theorem modBank_served (s : State) (c b : Nat) (f : Bank → Bank) : (modBank s c b f).served = s.served := rfl
@[simp] theorem modBank_electing (s : State) (c b : Nat) (f : Bank → Bank) : (modBank s c b f).electing = s.electing := rfl
@[simp] theorem modBank_seq (s : State) (c b : Nat) (f : Bank → Bank) : (modBank s c b f).seq = s.seq := rfl
@[simp] theorem modBank_grids (s : State) (c b : Nat) (f : Bank → Bank) : (modBank s c b f).grids = s.grids := rfl
@[simp] theorem modBank_groups (s : State) (c b : Nat) (f : Bank → Bank) : (modBank s c b f).groups = s.groups := rfl
@[simp] theorem modBank_gridKey (s : State) (c b : Nat) (f : Bank → Bank) : (modBank s c b f).gridKey = s.gridKey := rfl
@[simp] theorem modBank_reports (s : State) (c b : Nat) (f : Bank → Bank) : (modBank s c b f).reports = s.reports := rfl
@[simp] theorem modBank_sent (s : State) (c b : Nat) (f : Bank → Bank) : (modBank s c b f).sent = s.sent := rfl
@[simp] theorem modBank_rsyncs (s : State) (c b : Nat) (f : Bank → Bank) : (modBank s c b f).rsyncs = s.rsyncs := rfl
@[simp] theorem modBank_rsyncLen (s : State) (c b : Nat) (f : Bank → Bank) : (modBank s c b f).rsyncLen = s.rsyncLen := rfl
@[simp] theorem modBank_ports (s : State) (c b : Nat) (f : Bank → Bank) : (modBank s c b f).ports = s.ports := rfl
@[simp] theorem modBank_scrubs (s : State) (c b : Nat) (f : Bank → Bank) : (modBank s c b f).scrubs = s.scrubs := rfl
@[simp] theorem modBank_refreshes (s : State) (c b : Nat) (f : Bank → Bank) : (modBank s c b f).refreshes = s.refreshes := rfl
@[simp] theorem modBank_retrain (s : State) (c b : Nat) (f : Bank → Bank) : (modBank s c b f).retrain = s.retrain := rfl
@[simp] theorem modBank_samples (s : State) (c b : Nat) (f : Bank → Bank) : (modBank s c b f).samples = s.samples := rfl
@[simp] theorem modBank_throttle (s : State) (c b : Nat) (f : Bank → Bank) : (modBank s c b f).throttle = s.throttle := rfl

@[simp] theorem modTile_agenda (s : State) (c n : Nat) (f : Tile → Tile) : (modTile s c n f).agenda = s.agenda := rfl
@[simp] theorem modTile_stepNo (s : State) (c n : Nat) (f : Tile → Tile) : (modTile s c n f).stepNo = s.stepNo := rfl
@[simp] theorem modTile_cur (s : State) (c n : Nat) (f : Tile → Tile) : (modTile s c n f).cur = s.cur := rfl
@[simp] theorem modTile_nextId (s : State) (c n : Nat) (f : Tile → Tile) : (modTile s c n f).nextId = s.nextId := rfl
@[simp] theorem modTile_now (s : State) (c n : Nat) (f : Tile → Tile) : (modTile s c n f).now = s.now := rfl
@[simp] theorem modTile_dram (s : State) (c n : Nat) (f : Tile → Tile) : (modTile s c n f).dram = s.dram := rfl
@[simp] theorem modTile_dramBad (s : State) (c n : Nat) (f : Tile → Tile) : (modTile s c n f).dramBad = s.dramBad := rfl
@[simp] theorem modTile_sram (s : State) (c n : Nat) (f : Tile → Tile) : (modTile s c n f).sram = s.sram := rfl
@[simp] theorem modTile_sramBad (s : State) (c n : Nat) (f : Tile → Tile) : (modTile s c n f).sramBad = s.sramBad := rfl
@[simp] theorem modTile_quads (s : State) (c n : Nat) (f : Tile → Tile) : (modTile s c n f).quads = s.quads := rfl
@[simp] theorem modTile_dies (s : State) (c n : Nat) (f : Tile → Tile) : (modTile s c n f).dies = s.dies := rfl
@[simp] theorem modTile_qdies (s : State) (c n : Nat) (f : Tile → Tile) : (modTile s c n f).qdies = s.qdies := rfl
@[simp] theorem modTile_homes (s : State) (c n : Nat) (f : Tile → Tile) : (modTile s c n f).homes = s.homes := rfl
@[simp] theorem modTile_llc (s : State) (c n : Nat) (f : Tile → Tile) : (modTile s c n f).llc = s.llc := rfl
@[simp] theorem modTile_inflight (s : State) (c n : Nat) (f : Tile → Tile) : (modTile s c n f).inflight = s.inflight := rfl
@[simp] theorem modTile_clears (s : State) (c n : Nat) (f : Tile → Tile) : (modTile s c n f).clears = s.clears := rfl
@[simp] theorem modTile_spawns (s : State) (c n : Nat) (f : Tile → Tile) : (modTile s c n f).spawns = s.spawns := rfl
@[simp] theorem modTile_travels (s : State) (c n : Nat) (f : Tile → Tile) : (modTile s c n f).travels = s.travels := rfl
@[simp] theorem modTile_saved (s : State) (c n : Nat) (f : Tile → Tile) : (modTile s c n f).saved = s.saved := rfl
@[simp] theorem modTile_xinvs (s : State) (c n : Nat) (f : Tile → Tile) : (modTile s c n f).xinvs = s.xinvs := rfl
@[simp] theorem modTile_kills (s : State) (c n : Nat) (f : Tile → Tile) : (modTile s c n f).kills = s.kills := rfl
@[simp] theorem modTile_evacs (s : State) (c n : Nat) (f : Tile → Tile) : (modTile s c n f).evacs = s.evacs := rfl
@[simp] theorem modTile_ended (s : State) (c n : Nat) (f : Tile → Tile) : (modTile s c n f).ended = s.ended := rfl
@[simp] theorem modTile_bias (s : State) (c n : Nat) (f : Tile → Tile) : (modTile s c n f).bias = s.bias := rfl
@[simp] theorem modTile_flips (s : State) (c n : Nat) (f : Tile → Tile) : (modTile s c n f).flips = s.flips := rfl
@[simp] theorem modTile_nodes (s : State) (c n : Nat) (f : Tile → Tile) : (modTile s c n f).nodes = s.nodes := rfl
@[simp] theorem modTile_ecfgLocked (s : State) (c n : Nat) (f : Tile → Tile) : (modTile s c n f).ecfgLocked = s.ecfgLocked := rfl
@[simp] theorem modTile_lqCore (s : State) (c n : Nat) (f : Tile → Tile) : (modTile s c n f).lqCore = s.lqCore := rfl
@[simp] theorem modTile_lqBank (s : State) (c n : Nat) (f : Tile → Tile) : (modTile s c n f).lqBank = s.lqBank := rfl
@[simp] theorem modTile_repNode (s : State) (c n : Nat) (f : Tile → Tile) : (modTile s c n f).repNode = s.repNode := rfl
@[simp] theorem modTile_nid (s : State) (c n : Nat) (f : Tile → Tile) : (modTile s c n f).nid = s.nid := rfl
@[simp] theorem modTile_agent (s : State) (c n : Nat) (f : Tile → Tile) : (modTile s c n f).agent = s.agent := rfl
@[simp] theorem modTile_pbar (s : State) (c n : Nat) (f : Tile → Tile) : (modTile s c n f).pbar = s.pbar := rfl
@[simp] theorem modTile_prst (s : State) (c n : Nat) (f : Tile → Tile) : (modTile s c n f).prst = s.prst := rfl
@[simp] theorem modTile_pbars (s : State) (c n : Nat) (f : Tile → Tile) : (modTile s c n f).pbars = s.pbars := rfl
@[simp] theorem modTile_podBars (s : State) (c n : Nat) (f : Tile → Tile) : (modTile s c n f).podBars = s.podBars := rfl
@[simp] theorem modTile_flash (s : State) (c n : Nat) (f : Tile → Tile) : (modTile s c n f).flash = s.flash := rfl
@[simp] theorem modTile_pilot (s : State) (c n : Nat) (f : Tile → Tile) : (modTile s c n f).pilot = s.pilot := rfl
@[simp] theorem modTile_served (s : State) (c n : Nat) (f : Tile → Tile) : (modTile s c n f).served = s.served := rfl
@[simp] theorem modTile_electing (s : State) (c n : Nat) (f : Tile → Tile) : (modTile s c n f).electing = s.electing := rfl
@[simp] theorem modTile_seq (s : State) (c n : Nat) (f : Tile → Tile) : (modTile s c n f).seq = s.seq := rfl
@[simp] theorem modTile_grids (s : State) (c n : Nat) (f : Tile → Tile) : (modTile s c n f).grids = s.grids := rfl
@[simp] theorem modTile_groups (s : State) (c n : Nat) (f : Tile → Tile) : (modTile s c n f).groups = s.groups := rfl
@[simp] theorem modTile_gridKey (s : State) (c n : Nat) (f : Tile → Tile) : (modTile s c n f).gridKey = s.gridKey := rfl
@[simp] theorem modTile_reports (s : State) (c n : Nat) (f : Tile → Tile) : (modTile s c n f).reports = s.reports := rfl
@[simp] theorem modTile_sent (s : State) (c n : Nat) (f : Tile → Tile) : (modTile s c n f).sent = s.sent := rfl
@[simp] theorem modTile_rsyncs (s : State) (c n : Nat) (f : Tile → Tile) : (modTile s c n f).rsyncs = s.rsyncs := rfl
@[simp] theorem modTile_rsyncLen (s : State) (c n : Nat) (f : Tile → Tile) : (modTile s c n f).rsyncLen = s.rsyncLen := rfl
@[simp] theorem modTile_ports (s : State) (c n : Nat) (f : Tile → Tile) : (modTile s c n f).ports = s.ports := rfl
@[simp] theorem modTile_scrubs (s : State) (c n : Nat) (f : Tile → Tile) : (modTile s c n f).scrubs = s.scrubs := rfl
@[simp] theorem modTile_refreshes (s : State) (c n : Nat) (f : Tile → Tile) : (modTile s c n f).refreshes = s.refreshes := rfl
@[simp] theorem modTile_retrain (s : State) (c n : Nat) (f : Tile → Tile) : (modTile s c n f).retrain = s.retrain := rfl
@[simp] theorem modTile_samples (s : State) (c n : Nat) (f : Tile → Tile) : (modTile s c n f).samples = s.samples := rfl
@[simp] theorem modTile_throttle (s : State) (c n : Nat) (f : Tile → Tile) : (modTile s c n f).throttle = s.throttle := rfl

@[simp] theorem setCmd_agenda (s : State) (c n : Nat) (v : Option Cmd) : (setCmd s c n v).agenda = s.agenda := rfl
@[simp] theorem setCmd_stepNo (s : State) (c n : Nat) (v : Option Cmd) : (setCmd s c n v).stepNo = s.stepNo := rfl
@[simp] theorem setCmd_cur (s : State) (c n : Nat) (v : Option Cmd) : (setCmd s c n v).cur = s.cur := rfl
@[simp] theorem setCmd_nextId (s : State) (c n : Nat) (v : Option Cmd) : (setCmd s c n v).nextId = s.nextId := rfl
@[simp] theorem setCmd_now (s : State) (c n : Nat) (v : Option Cmd) : (setCmd s c n v).now = s.now := rfl
@[simp] theorem setCmd_dram (s : State) (c n : Nat) (v : Option Cmd) : (setCmd s c n v).dram = s.dram := rfl
@[simp] theorem setCmd_dramBad (s : State) (c n : Nat) (v : Option Cmd) : (setCmd s c n v).dramBad = s.dramBad := rfl
@[simp] theorem setCmd_sram (s : State) (c n : Nat) (v : Option Cmd) : (setCmd s c n v).sram = s.sram := rfl
@[simp] theorem setCmd_sramBad (s : State) (c n : Nat) (v : Option Cmd) : (setCmd s c n v).sramBad = s.sramBad := rfl
@[simp] theorem setCmd_quads (s : State) (c n : Nat) (v : Option Cmd) : (setCmd s c n v).quads = s.quads := rfl
@[simp] theorem setCmd_dies (s : State) (c n : Nat) (v : Option Cmd) : (setCmd s c n v).dies = s.dies := rfl
@[simp] theorem setCmd_qdies (s : State) (c n : Nat) (v : Option Cmd) : (setCmd s c n v).qdies = s.qdies := rfl
@[simp] theorem setCmd_homes (s : State) (c n : Nat) (v : Option Cmd) : (setCmd s c n v).homes = s.homes := rfl
@[simp] theorem setCmd_llc (s : State) (c n : Nat) (v : Option Cmd) : (setCmd s c n v).llc = s.llc := rfl
@[simp] theorem setCmd_inflight (s : State) (c n : Nat) (v : Option Cmd) : (setCmd s c n v).inflight = s.inflight := rfl
@[simp] theorem setCmd_clears (s : State) (c n : Nat) (v : Option Cmd) : (setCmd s c n v).clears = s.clears := rfl
@[simp] theorem setCmd_spawns (s : State) (c n : Nat) (v : Option Cmd) : (setCmd s c n v).spawns = s.spawns := rfl
@[simp] theorem setCmd_travels (s : State) (c n : Nat) (v : Option Cmd) : (setCmd s c n v).travels = s.travels := rfl
@[simp] theorem setCmd_saved (s : State) (c n : Nat) (v : Option Cmd) : (setCmd s c n v).saved = s.saved := rfl
@[simp] theorem setCmd_xinvs (s : State) (c n : Nat) (v : Option Cmd) : (setCmd s c n v).xinvs = s.xinvs := rfl
@[simp] theorem setCmd_kills (s : State) (c n : Nat) (v : Option Cmd) : (setCmd s c n v).kills = s.kills := rfl
@[simp] theorem setCmd_evacs (s : State) (c n : Nat) (v : Option Cmd) : (setCmd s c n v).evacs = s.evacs := rfl
@[simp] theorem setCmd_ended (s : State) (c n : Nat) (v : Option Cmd) : (setCmd s c n v).ended = s.ended := rfl
@[simp] theorem setCmd_bias (s : State) (c n : Nat) (v : Option Cmd) : (setCmd s c n v).bias = s.bias := rfl
@[simp] theorem setCmd_flips (s : State) (c n : Nat) (v : Option Cmd) : (setCmd s c n v).flips = s.flips := rfl
@[simp] theorem setCmd_nodes (s : State) (c n : Nat) (v : Option Cmd) : (setCmd s c n v).nodes = s.nodes := rfl
@[simp] theorem setCmd_ecfgLocked (s : State) (c n : Nat) (v : Option Cmd) : (setCmd s c n v).ecfgLocked = s.ecfgLocked := rfl
@[simp] theorem setCmd_lqCore (s : State) (c n : Nat) (v : Option Cmd) : (setCmd s c n v).lqCore = s.lqCore := rfl
@[simp] theorem setCmd_lqBank (s : State) (c n : Nat) (v : Option Cmd) : (setCmd s c n v).lqBank = s.lqBank := rfl
@[simp] theorem setCmd_repNode (s : State) (c n : Nat) (v : Option Cmd) : (setCmd s c n v).repNode = s.repNode := rfl
@[simp] theorem setCmd_nid (s : State) (c n : Nat) (v : Option Cmd) : (setCmd s c n v).nid = s.nid := rfl
@[simp] theorem setCmd_agent (s : State) (c n : Nat) (v : Option Cmd) : (setCmd s c n v).agent = s.agent := rfl
@[simp] theorem setCmd_pbar (s : State) (c n : Nat) (v : Option Cmd) : (setCmd s c n v).pbar = s.pbar := rfl
@[simp] theorem setCmd_prst (s : State) (c n : Nat) (v : Option Cmd) : (setCmd s c n v).prst = s.prst := rfl
@[simp] theorem setCmd_pbars (s : State) (c n : Nat) (v : Option Cmd) : (setCmd s c n v).pbars = s.pbars := rfl
@[simp] theorem setCmd_podBars (s : State) (c n : Nat) (v : Option Cmd) : (setCmd s c n v).podBars = s.podBars := rfl
@[simp] theorem setCmd_flash (s : State) (c n : Nat) (v : Option Cmd) : (setCmd s c n v).flash = s.flash := rfl
@[simp] theorem setCmd_pilot (s : State) (c n : Nat) (v : Option Cmd) : (setCmd s c n v).pilot = s.pilot := rfl
@[simp] theorem setCmd_served (s : State) (c n : Nat) (v : Option Cmd) : (setCmd s c n v).served = s.served := rfl
@[simp] theorem setCmd_electing (s : State) (c n : Nat) (v : Option Cmd) : (setCmd s c n v).electing = s.electing := rfl
@[simp] theorem setCmd_seq (s : State) (c n : Nat) (v : Option Cmd) : (setCmd s c n v).seq = s.seq := rfl
@[simp] theorem setCmd_grids (s : State) (c n : Nat) (v : Option Cmd) : (setCmd s c n v).grids = s.grids := rfl
@[simp] theorem setCmd_groups (s : State) (c n : Nat) (v : Option Cmd) : (setCmd s c n v).groups = s.groups := rfl
@[simp] theorem setCmd_gridKey (s : State) (c n : Nat) (v : Option Cmd) : (setCmd s c n v).gridKey = s.gridKey := rfl
@[simp] theorem setCmd_reports (s : State) (c n : Nat) (v : Option Cmd) : (setCmd s c n v).reports = s.reports := rfl
@[simp] theorem setCmd_sent (s : State) (c n : Nat) (v : Option Cmd) : (setCmd s c n v).sent = s.sent := rfl
@[simp] theorem setCmd_rsyncs (s : State) (c n : Nat) (v : Option Cmd) : (setCmd s c n v).rsyncs = s.rsyncs := rfl
@[simp] theorem setCmd_rsyncLen (s : State) (c n : Nat) (v : Option Cmd) : (setCmd s c n v).rsyncLen = s.rsyncLen := rfl
@[simp] theorem setCmd_ports (s : State) (c n : Nat) (v : Option Cmd) : (setCmd s c n v).ports = s.ports := rfl
@[simp] theorem setCmd_scrubs (s : State) (c n : Nat) (v : Option Cmd) : (setCmd s c n v).scrubs = s.scrubs := rfl
@[simp] theorem setCmd_refreshes (s : State) (c n : Nat) (v : Option Cmd) : (setCmd s c n v).refreshes = s.refreshes := rfl
@[simp] theorem setCmd_retrain (s : State) (c n : Nat) (v : Option Cmd) : (setCmd s c n v).retrain = s.retrain := rfl
@[simp] theorem setCmd_samples (s : State) (c n : Nat) (v : Option Cmd) : (setCmd s c n v).samples = s.samples := rfl
@[simp] theorem setCmd_throttle (s : State) (c n : Nat) (v : Option Cmd) : (setCmd s c n v).throttle = s.throttle := rfl

@[simp] theorem modDie_agenda (s : State) (d : Nat) (f : Die → Die) : (modDie s d f).agenda = s.agenda := rfl
@[simp] theorem modDie_stepNo (s : State) (d : Nat) (f : Die → Die) : (modDie s d f).stepNo = s.stepNo := rfl
@[simp] theorem modDie_cur (s : State) (d : Nat) (f : Die → Die) : (modDie s d f).cur = s.cur := rfl
@[simp] theorem modDie_nextId (s : State) (d : Nat) (f : Die → Die) : (modDie s d f).nextId = s.nextId := rfl
@[simp] theorem modDie_now (s : State) (d : Nat) (f : Die → Die) : (modDie s d f).now = s.now := rfl
@[simp] theorem modDie_dram (s : State) (d : Nat) (f : Die → Die) : (modDie s d f).dram = s.dram := rfl
@[simp] theorem modDie_dramBad (s : State) (d : Nat) (f : Die → Die) : (modDie s d f).dramBad = s.dramBad := rfl
@[simp] theorem modDie_sram (s : State) (d : Nat) (f : Die → Die) : (modDie s d f).sram = s.sram := rfl
@[simp] theorem modDie_sramBad (s : State) (d : Nat) (f : Die → Die) : (modDie s d f).sramBad = s.sramBad := rfl
@[simp] theorem modDie_cores (s : State) (d : Nat) (f : Die → Die) : (modDie s d f).cores = s.cores := rfl
@[simp] theorem modDie_quads (s : State) (d : Nat) (f : Die → Die) : (modDie s d f).quads = s.quads := rfl
@[simp] theorem modDie_qdies (s : State) (d : Nat) (f : Die → Die) : (modDie s d f).qdies = s.qdies := rfl
@[simp] theorem modDie_homes (s : State) (d : Nat) (f : Die → Die) : (modDie s d f).homes = s.homes := rfl
@[simp] theorem modDie_llc (s : State) (d : Nat) (f : Die → Die) : (modDie s d f).llc = s.llc := rfl
@[simp] theorem modDie_inflight (s : State) (d : Nat) (f : Die → Die) : (modDie s d f).inflight = s.inflight := rfl
@[simp] theorem modDie_clears (s : State) (d : Nat) (f : Die → Die) : (modDie s d f).clears = s.clears := rfl
@[simp] theorem modDie_spawns (s : State) (d : Nat) (f : Die → Die) : (modDie s d f).spawns = s.spawns := rfl
@[simp] theorem modDie_travels (s : State) (d : Nat) (f : Die → Die) : (modDie s d f).travels = s.travels := rfl
@[simp] theorem modDie_saved (s : State) (d : Nat) (f : Die → Die) : (modDie s d f).saved = s.saved := rfl
@[simp] theorem modDie_xinvs (s : State) (d : Nat) (f : Die → Die) : (modDie s d f).xinvs = s.xinvs := rfl
@[simp] theorem modDie_kills (s : State) (d : Nat) (f : Die → Die) : (modDie s d f).kills = s.kills := rfl
@[simp] theorem modDie_evacs (s : State) (d : Nat) (f : Die → Die) : (modDie s d f).evacs = s.evacs := rfl
@[simp] theorem modDie_ended (s : State) (d : Nat) (f : Die → Die) : (modDie s d f).ended = s.ended := rfl
@[simp] theorem modDie_bias (s : State) (d : Nat) (f : Die → Die) : (modDie s d f).bias = s.bias := rfl
@[simp] theorem modDie_flips (s : State) (d : Nat) (f : Die → Die) : (modDie s d f).flips = s.flips := rfl
@[simp] theorem modDie_nodes (s : State) (d : Nat) (f : Die → Die) : (modDie s d f).nodes = s.nodes := rfl
@[simp] theorem modDie_ecfgLocked (s : State) (d : Nat) (f : Die → Die) : (modDie s d f).ecfgLocked = s.ecfgLocked := rfl
@[simp] theorem modDie_lqCore (s : State) (d : Nat) (f : Die → Die) : (modDie s d f).lqCore = s.lqCore := rfl
@[simp] theorem modDie_lqBank (s : State) (d : Nat) (f : Die → Die) : (modDie s d f).lqBank = s.lqBank := rfl
@[simp] theorem modDie_repNode (s : State) (d : Nat) (f : Die → Die) : (modDie s d f).repNode = s.repNode := rfl
@[simp] theorem modDie_nid (s : State) (d : Nat) (f : Die → Die) : (modDie s d f).nid = s.nid := rfl
@[simp] theorem modDie_agent (s : State) (d : Nat) (f : Die → Die) : (modDie s d f).agent = s.agent := rfl
@[simp] theorem modDie_pbar (s : State) (d : Nat) (f : Die → Die) : (modDie s d f).pbar = s.pbar := rfl
@[simp] theorem modDie_prst (s : State) (d : Nat) (f : Die → Die) : (modDie s d f).prst = s.prst := rfl
@[simp] theorem modDie_pbars (s : State) (d : Nat) (f : Die → Die) : (modDie s d f).pbars = s.pbars := rfl
@[simp] theorem modDie_podBars (s : State) (d : Nat) (f : Die → Die) : (modDie s d f).podBars = s.podBars := rfl
@[simp] theorem modDie_flash (s : State) (d : Nat) (f : Die → Die) : (modDie s d f).flash = s.flash := rfl
@[simp] theorem modDie_pilot (s : State) (d : Nat) (f : Die → Die) : (modDie s d f).pilot = s.pilot := rfl
@[simp] theorem modDie_served (s : State) (d : Nat) (f : Die → Die) : (modDie s d f).served = s.served := rfl
@[simp] theorem modDie_electing (s : State) (d : Nat) (f : Die → Die) : (modDie s d f).electing = s.electing := rfl
@[simp] theorem modDie_seq (s : State) (d : Nat) (f : Die → Die) : (modDie s d f).seq = s.seq := rfl
@[simp] theorem modDie_grids (s : State) (d : Nat) (f : Die → Die) : (modDie s d f).grids = s.grids := rfl
@[simp] theorem modDie_groups (s : State) (d : Nat) (f : Die → Die) : (modDie s d f).groups = s.groups := rfl
@[simp] theorem modDie_gridKey (s : State) (d : Nat) (f : Die → Die) : (modDie s d f).gridKey = s.gridKey := rfl
@[simp] theorem modDie_reports (s : State) (d : Nat) (f : Die → Die) : (modDie s d f).reports = s.reports := rfl
@[simp] theorem modDie_sent (s : State) (d : Nat) (f : Die → Die) : (modDie s d f).sent = s.sent := rfl
@[simp] theorem modDie_rsyncs (s : State) (d : Nat) (f : Die → Die) : (modDie s d f).rsyncs = s.rsyncs := rfl
@[simp] theorem modDie_rsyncLen (s : State) (d : Nat) (f : Die → Die) : (modDie s d f).rsyncLen = s.rsyncLen := rfl
@[simp] theorem modDie_ports (s : State) (d : Nat) (f : Die → Die) : (modDie s d f).ports = s.ports := rfl
@[simp] theorem modDie_scrubs (s : State) (d : Nat) (f : Die → Die) : (modDie s d f).scrubs = s.scrubs := rfl
@[simp] theorem modDie_refreshes (s : State) (d : Nat) (f : Die → Die) : (modDie s d f).refreshes = s.refreshes := rfl
@[simp] theorem modDie_retrain (s : State) (d : Nat) (f : Die → Die) : (modDie s d f).retrain = s.retrain := rfl
@[simp] theorem modDie_samples (s : State) (d : Nat) (f : Die → Die) : (modDie s d f).samples = s.samples := rfl
@[simp] theorem modDie_throttle (s : State) (d : Nat) (f : Die → Die) : (modDie s d f).throttle = s.throttle := rfl

@[simp] theorem modQuad_agenda (s : State) (q : Nat) (f : Quad → Quad) : (modQuad s q f).agenda = s.agenda := rfl
@[simp] theorem modQuad_stepNo (s : State) (q : Nat) (f : Quad → Quad) : (modQuad s q f).stepNo = s.stepNo := rfl
@[simp] theorem modQuad_cur (s : State) (q : Nat) (f : Quad → Quad) : (modQuad s q f).cur = s.cur := rfl
@[simp] theorem modQuad_nextId (s : State) (q : Nat) (f : Quad → Quad) : (modQuad s q f).nextId = s.nextId := rfl
@[simp] theorem modQuad_now (s : State) (q : Nat) (f : Quad → Quad) : (modQuad s q f).now = s.now := rfl
@[simp] theorem modQuad_dram (s : State) (q : Nat) (f : Quad → Quad) : (modQuad s q f).dram = s.dram := rfl
@[simp] theorem modQuad_dramBad (s : State) (q : Nat) (f : Quad → Quad) : (modQuad s q f).dramBad = s.dramBad := rfl
@[simp] theorem modQuad_sram (s : State) (q : Nat) (f : Quad → Quad) : (modQuad s q f).sram = s.sram := rfl
@[simp] theorem modQuad_sramBad (s : State) (q : Nat) (f : Quad → Quad) : (modQuad s q f).sramBad = s.sramBad := rfl
@[simp] theorem modQuad_cores (s : State) (q : Nat) (f : Quad → Quad) : (modQuad s q f).cores = s.cores := rfl
@[simp] theorem modQuad_dies (s : State) (q : Nat) (f : Quad → Quad) : (modQuad s q f).dies = s.dies := rfl
@[simp] theorem modQuad_qdies (s : State) (q : Nat) (f : Quad → Quad) : (modQuad s q f).qdies = s.qdies := rfl
@[simp] theorem modQuad_homes (s : State) (q : Nat) (f : Quad → Quad) : (modQuad s q f).homes = s.homes := rfl
@[simp] theorem modQuad_llc (s : State) (q : Nat) (f : Quad → Quad) : (modQuad s q f).llc = s.llc := rfl
@[simp] theorem modQuad_inflight (s : State) (q : Nat) (f : Quad → Quad) : (modQuad s q f).inflight = s.inflight := rfl
@[simp] theorem modQuad_clears (s : State) (q : Nat) (f : Quad → Quad) : (modQuad s q f).clears = s.clears := rfl
@[simp] theorem modQuad_spawns (s : State) (q : Nat) (f : Quad → Quad) : (modQuad s q f).spawns = s.spawns := rfl
@[simp] theorem modQuad_travels (s : State) (q : Nat) (f : Quad → Quad) : (modQuad s q f).travels = s.travels := rfl
@[simp] theorem modQuad_saved (s : State) (q : Nat) (f : Quad → Quad) : (modQuad s q f).saved = s.saved := rfl
@[simp] theorem modQuad_xinvs (s : State) (q : Nat) (f : Quad → Quad) : (modQuad s q f).xinvs = s.xinvs := rfl
@[simp] theorem modQuad_kills (s : State) (q : Nat) (f : Quad → Quad) : (modQuad s q f).kills = s.kills := rfl
@[simp] theorem modQuad_evacs (s : State) (q : Nat) (f : Quad → Quad) : (modQuad s q f).evacs = s.evacs := rfl
@[simp] theorem modQuad_ended (s : State) (q : Nat) (f : Quad → Quad) : (modQuad s q f).ended = s.ended := rfl
@[simp] theorem modQuad_bias (s : State) (q : Nat) (f : Quad → Quad) : (modQuad s q f).bias = s.bias := rfl
@[simp] theorem modQuad_flips (s : State) (q : Nat) (f : Quad → Quad) : (modQuad s q f).flips = s.flips := rfl
@[simp] theorem modQuad_nodes (s : State) (q : Nat) (f : Quad → Quad) : (modQuad s q f).nodes = s.nodes := rfl
@[simp] theorem modQuad_ecfgLocked (s : State) (q : Nat) (f : Quad → Quad) : (modQuad s q f).ecfgLocked = s.ecfgLocked := rfl
@[simp] theorem modQuad_lqCore (s : State) (q : Nat) (f : Quad → Quad) : (modQuad s q f).lqCore = s.lqCore := rfl
@[simp] theorem modQuad_lqBank (s : State) (q : Nat) (f : Quad → Quad) : (modQuad s q f).lqBank = s.lqBank := rfl
@[simp] theorem modQuad_repNode (s : State) (q : Nat) (f : Quad → Quad) : (modQuad s q f).repNode = s.repNode := rfl
@[simp] theorem modQuad_nid (s : State) (q : Nat) (f : Quad → Quad) : (modQuad s q f).nid = s.nid := rfl
@[simp] theorem modQuad_agent (s : State) (q : Nat) (f : Quad → Quad) : (modQuad s q f).agent = s.agent := rfl
@[simp] theorem modQuad_pbar (s : State) (q : Nat) (f : Quad → Quad) : (modQuad s q f).pbar = s.pbar := rfl
@[simp] theorem modQuad_prst (s : State) (q : Nat) (f : Quad → Quad) : (modQuad s q f).prst = s.prst := rfl
@[simp] theorem modQuad_pbars (s : State) (q : Nat) (f : Quad → Quad) : (modQuad s q f).pbars = s.pbars := rfl
@[simp] theorem modQuad_podBars (s : State) (q : Nat) (f : Quad → Quad) : (modQuad s q f).podBars = s.podBars := rfl
@[simp] theorem modQuad_flash (s : State) (q : Nat) (f : Quad → Quad) : (modQuad s q f).flash = s.flash := rfl
@[simp] theorem modQuad_pilot (s : State) (q : Nat) (f : Quad → Quad) : (modQuad s q f).pilot = s.pilot := rfl
@[simp] theorem modQuad_served (s : State) (q : Nat) (f : Quad → Quad) : (modQuad s q f).served = s.served := rfl
@[simp] theorem modQuad_electing (s : State) (q : Nat) (f : Quad → Quad) : (modQuad s q f).electing = s.electing := rfl
@[simp] theorem modQuad_seq (s : State) (q : Nat) (f : Quad → Quad) : (modQuad s q f).seq = s.seq := rfl
@[simp] theorem modQuad_grids (s : State) (q : Nat) (f : Quad → Quad) : (modQuad s q f).grids = s.grids := rfl
@[simp] theorem modQuad_groups (s : State) (q : Nat) (f : Quad → Quad) : (modQuad s q f).groups = s.groups := rfl
@[simp] theorem modQuad_gridKey (s : State) (q : Nat) (f : Quad → Quad) : (modQuad s q f).gridKey = s.gridKey := rfl
@[simp] theorem modQuad_reports (s : State) (q : Nat) (f : Quad → Quad) : (modQuad s q f).reports = s.reports := rfl
@[simp] theorem modQuad_sent (s : State) (q : Nat) (f : Quad → Quad) : (modQuad s q f).sent = s.sent := rfl
@[simp] theorem modQuad_rsyncs (s : State) (q : Nat) (f : Quad → Quad) : (modQuad s q f).rsyncs = s.rsyncs := rfl
@[simp] theorem modQuad_rsyncLen (s : State) (q : Nat) (f : Quad → Quad) : (modQuad s q f).rsyncLen = s.rsyncLen := rfl
@[simp] theorem modQuad_ports (s : State) (q : Nat) (f : Quad → Quad) : (modQuad s q f).ports = s.ports := rfl
@[simp] theorem modQuad_scrubs (s : State) (q : Nat) (f : Quad → Quad) : (modQuad s q f).scrubs = s.scrubs := rfl
@[simp] theorem modQuad_refreshes (s : State) (q : Nat) (f : Quad → Quad) : (modQuad s q f).refreshes = s.refreshes := rfl
@[simp] theorem modQuad_retrain (s : State) (q : Nat) (f : Quad → Quad) : (modQuad s q f).retrain = s.retrain := rfl
@[simp] theorem modQuad_samples (s : State) (q : Nat) (f : Quad → Quad) : (modQuad s q f).samples = s.samples := rfl
@[simp] theorem modQuad_throttle (s : State) (q : Nat) (f : Quad → Quad) : (modQuad s q f).throttle = s.throttle := rfl

@[simp] theorem modStack_agenda (s : State) (n : Nat) (f : Stack → Stack) : (modStack s n f).agenda = s.agenda := rfl
@[simp] theorem modStack_stepNo (s : State) (n : Nat) (f : Stack → Stack) : (modStack s n f).stepNo = s.stepNo := rfl
@[simp] theorem modStack_cur (s : State) (n : Nat) (f : Stack → Stack) : (modStack s n f).cur = s.cur := rfl
@[simp] theorem modStack_nextId (s : State) (n : Nat) (f : Stack → Stack) : (modStack s n f).nextId = s.nextId := rfl
@[simp] theorem modStack_now (s : State) (n : Nat) (f : Stack → Stack) : (modStack s n f).now = s.now := rfl
@[simp] theorem modStack_dram (s : State) (n : Nat) (f : Stack → Stack) : (modStack s n f).dram = s.dram := rfl
@[simp] theorem modStack_dramBad (s : State) (n : Nat) (f : Stack → Stack) : (modStack s n f).dramBad = s.dramBad := rfl
@[simp] theorem modStack_sram (s : State) (n : Nat) (f : Stack → Stack) : (modStack s n f).sram = s.sram := rfl
@[simp] theorem modStack_sramBad (s : State) (n : Nat) (f : Stack → Stack) : (modStack s n f).sramBad = s.sramBad := rfl
@[simp] theorem modStack_cores (s : State) (n : Nat) (f : Stack → Stack) : (modStack s n f).cores = s.cores := rfl
@[simp] theorem modStack_quads (s : State) (n : Nat) (f : Stack → Stack) : (modStack s n f).quads = s.quads := rfl
@[simp] theorem modStack_dies (s : State) (n : Nat) (f : Stack → Stack) : (modStack s n f).dies = s.dies := rfl
@[simp] theorem modStack_homes (s : State) (n : Nat) (f : Stack → Stack) : (modStack s n f).homes = s.homes := rfl
@[simp] theorem modStack_llc (s : State) (n : Nat) (f : Stack → Stack) : (modStack s n f).llc = s.llc := rfl
@[simp] theorem modStack_inflight (s : State) (n : Nat) (f : Stack → Stack) : (modStack s n f).inflight = s.inflight := rfl
@[simp] theorem modStack_clears (s : State) (n : Nat) (f : Stack → Stack) : (modStack s n f).clears = s.clears := rfl
@[simp] theorem modStack_spawns (s : State) (n : Nat) (f : Stack → Stack) : (modStack s n f).spawns = s.spawns := rfl
@[simp] theorem modStack_travels (s : State) (n : Nat) (f : Stack → Stack) : (modStack s n f).travels = s.travels := rfl
@[simp] theorem modStack_saved (s : State) (n : Nat) (f : Stack → Stack) : (modStack s n f).saved = s.saved := rfl
@[simp] theorem modStack_xinvs (s : State) (n : Nat) (f : Stack → Stack) : (modStack s n f).xinvs = s.xinvs := rfl
@[simp] theorem modStack_kills (s : State) (n : Nat) (f : Stack → Stack) : (modStack s n f).kills = s.kills := rfl
@[simp] theorem modStack_evacs (s : State) (n : Nat) (f : Stack → Stack) : (modStack s n f).evacs = s.evacs := rfl
@[simp] theorem modStack_ended (s : State) (n : Nat) (f : Stack → Stack) : (modStack s n f).ended = s.ended := rfl
@[simp] theorem modStack_bias (s : State) (n : Nat) (f : Stack → Stack) : (modStack s n f).bias = s.bias := rfl
@[simp] theorem modStack_flips (s : State) (n : Nat) (f : Stack → Stack) : (modStack s n f).flips = s.flips := rfl
@[simp] theorem modStack_nodes (s : State) (n : Nat) (f : Stack → Stack) : (modStack s n f).nodes = s.nodes := rfl
@[simp] theorem modStack_ecfgLocked (s : State) (n : Nat) (f : Stack → Stack) : (modStack s n f).ecfgLocked = s.ecfgLocked := rfl
@[simp] theorem modStack_lqCore (s : State) (n : Nat) (f : Stack → Stack) : (modStack s n f).lqCore = s.lqCore := rfl
@[simp] theorem modStack_lqBank (s : State) (n : Nat) (f : Stack → Stack) : (modStack s n f).lqBank = s.lqBank := rfl
@[simp] theorem modStack_repNode (s : State) (n : Nat) (f : Stack → Stack) : (modStack s n f).repNode = s.repNode := rfl
@[simp] theorem modStack_nid (s : State) (n : Nat) (f : Stack → Stack) : (modStack s n f).nid = s.nid := rfl
@[simp] theorem modStack_agent (s : State) (n : Nat) (f : Stack → Stack) : (modStack s n f).agent = s.agent := rfl
@[simp] theorem modStack_pbar (s : State) (n : Nat) (f : Stack → Stack) : (modStack s n f).pbar = s.pbar := rfl
@[simp] theorem modStack_prst (s : State) (n : Nat) (f : Stack → Stack) : (modStack s n f).prst = s.prst := rfl
@[simp] theorem modStack_pbars (s : State) (n : Nat) (f : Stack → Stack) : (modStack s n f).pbars = s.pbars := rfl
@[simp] theorem modStack_podBars (s : State) (n : Nat) (f : Stack → Stack) : (modStack s n f).podBars = s.podBars := rfl
@[simp] theorem modStack_flash (s : State) (n : Nat) (f : Stack → Stack) : (modStack s n f).flash = s.flash := rfl
@[simp] theorem modStack_pilot (s : State) (n : Nat) (f : Stack → Stack) : (modStack s n f).pilot = s.pilot := rfl
@[simp] theorem modStack_served (s : State) (n : Nat) (f : Stack → Stack) : (modStack s n f).served = s.served := rfl
@[simp] theorem modStack_electing (s : State) (n : Nat) (f : Stack → Stack) : (modStack s n f).electing = s.electing := rfl
@[simp] theorem modStack_seq (s : State) (n : Nat) (f : Stack → Stack) : (modStack s n f).seq = s.seq := rfl
@[simp] theorem modStack_grids (s : State) (n : Nat) (f : Stack → Stack) : (modStack s n f).grids = s.grids := rfl
@[simp] theorem modStack_groups (s : State) (n : Nat) (f : Stack → Stack) : (modStack s n f).groups = s.groups := rfl
@[simp] theorem modStack_gridKey (s : State) (n : Nat) (f : Stack → Stack) : (modStack s n f).gridKey = s.gridKey := rfl
@[simp] theorem modStack_reports (s : State) (n : Nat) (f : Stack → Stack) : (modStack s n f).reports = s.reports := rfl
@[simp] theorem modStack_sent (s : State) (n : Nat) (f : Stack → Stack) : (modStack s n f).sent = s.sent := rfl
@[simp] theorem modStack_rsyncs (s : State) (n : Nat) (f : Stack → Stack) : (modStack s n f).rsyncs = s.rsyncs := rfl
@[simp] theorem modStack_rsyncLen (s : State) (n : Nat) (f : Stack → Stack) : (modStack s n f).rsyncLen = s.rsyncLen := rfl
@[simp] theorem modStack_ports (s : State) (n : Nat) (f : Stack → Stack) : (modStack s n f).ports = s.ports := rfl
@[simp] theorem modStack_scrubs (s : State) (n : Nat) (f : Stack → Stack) : (modStack s n f).scrubs = s.scrubs := rfl
@[simp] theorem modStack_refreshes (s : State) (n : Nat) (f : Stack → Stack) : (modStack s n f).refreshes = s.refreshes := rfl
@[simp] theorem modStack_retrain (s : State) (n : Nat) (f : Stack → Stack) : (modStack s n f).retrain = s.retrain := rfl
@[simp] theorem modStack_samples (s : State) (n : Nat) (f : Stack → Stack) : (modStack s n f).samples = s.samples := rfl
@[simp] theorem modStack_throttle (s : State) (n : Nat) (f : Stack → Stack) : (modStack s n f).throttle = s.throttle := rfl

@[simp] theorem setHome_agenda (s : State) (l : Nat) (h : Home) : (setHome s l h).agenda = s.agenda := rfl
@[simp] theorem setHome_stepNo (s : State) (l : Nat) (h : Home) : (setHome s l h).stepNo = s.stepNo := rfl
@[simp] theorem setHome_cur (s : State) (l : Nat) (h : Home) : (setHome s l h).cur = s.cur := rfl
@[simp] theorem setHome_nextId (s : State) (l : Nat) (h : Home) : (setHome s l h).nextId = s.nextId := rfl
@[simp] theorem setHome_now (s : State) (l : Nat) (h : Home) : (setHome s l h).now = s.now := rfl
@[simp] theorem setHome_dram (s : State) (l : Nat) (h : Home) : (setHome s l h).dram = s.dram := rfl
@[simp] theorem setHome_dramBad (s : State) (l : Nat) (h : Home) : (setHome s l h).dramBad = s.dramBad := rfl
@[simp] theorem setHome_sram (s : State) (l : Nat) (h : Home) : (setHome s l h).sram = s.sram := rfl
@[simp] theorem setHome_sramBad (s : State) (l : Nat) (h : Home) : (setHome s l h).sramBad = s.sramBad := rfl
@[simp] theorem setHome_cores (s : State) (l : Nat) (h : Home) : (setHome s l h).cores = s.cores := rfl
@[simp] theorem setHome_quads (s : State) (l : Nat) (h : Home) : (setHome s l h).quads = s.quads := rfl
@[simp] theorem setHome_dies (s : State) (l : Nat) (h : Home) : (setHome s l h).dies = s.dies := rfl
@[simp] theorem setHome_qdies (s : State) (l : Nat) (h : Home) : (setHome s l h).qdies = s.qdies := rfl
@[simp] theorem setHome_llc (s : State) (l : Nat) (h : Home) : (setHome s l h).llc = s.llc := rfl
@[simp] theorem setHome_inflight (s : State) (l : Nat) (h : Home) : (setHome s l h).inflight = s.inflight := rfl
@[simp] theorem setHome_clears (s : State) (l : Nat) (h : Home) : (setHome s l h).clears = s.clears := rfl
@[simp] theorem setHome_spawns (s : State) (l : Nat) (h : Home) : (setHome s l h).spawns = s.spawns := rfl
@[simp] theorem setHome_travels (s : State) (l : Nat) (h : Home) : (setHome s l h).travels = s.travels := rfl
@[simp] theorem setHome_saved (s : State) (l : Nat) (h : Home) : (setHome s l h).saved = s.saved := rfl
@[simp] theorem setHome_xinvs (s : State) (l : Nat) (h : Home) : (setHome s l h).xinvs = s.xinvs := rfl
@[simp] theorem setHome_kills (s : State) (l : Nat) (h : Home) : (setHome s l h).kills = s.kills := rfl
@[simp] theorem setHome_evacs (s : State) (l : Nat) (h : Home) : (setHome s l h).evacs = s.evacs := rfl
@[simp] theorem setHome_ended (s : State) (l : Nat) (h : Home) : (setHome s l h).ended = s.ended := rfl
@[simp] theorem setHome_bias (s : State) (l : Nat) (h : Home) : (setHome s l h).bias = s.bias := rfl
@[simp] theorem setHome_flips (s : State) (l : Nat) (h : Home) : (setHome s l h).flips = s.flips := rfl
@[simp] theorem setHome_nodes (s : State) (l : Nat) (h : Home) : (setHome s l h).nodes = s.nodes := rfl
@[simp] theorem setHome_ecfgLocked (s : State) (l : Nat) (h : Home) : (setHome s l h).ecfgLocked = s.ecfgLocked := rfl
@[simp] theorem setHome_lqCore (s : State) (l : Nat) (h : Home) : (setHome s l h).lqCore = s.lqCore := rfl
@[simp] theorem setHome_lqBank (s : State) (l : Nat) (h : Home) : (setHome s l h).lqBank = s.lqBank := rfl
@[simp] theorem setHome_repNode (s : State) (l : Nat) (h : Home) : (setHome s l h).repNode = s.repNode := rfl
@[simp] theorem setHome_nid (s : State) (l : Nat) (h : Home) : (setHome s l h).nid = s.nid := rfl
@[simp] theorem setHome_agent (s : State) (l : Nat) (h : Home) : (setHome s l h).agent = s.agent := rfl
@[simp] theorem setHome_pbar (s : State) (l : Nat) (h : Home) : (setHome s l h).pbar = s.pbar := rfl
@[simp] theorem setHome_prst (s : State) (l : Nat) (h : Home) : (setHome s l h).prst = s.prst := rfl
@[simp] theorem setHome_pbars (s : State) (l : Nat) (h : Home) : (setHome s l h).pbars = s.pbars := rfl
@[simp] theorem setHome_podBars (s : State) (l : Nat) (h : Home) : (setHome s l h).podBars = s.podBars := rfl
@[simp] theorem setHome_flash (s : State) (l : Nat) (h : Home) : (setHome s l h).flash = s.flash := rfl
@[simp] theorem setHome_pilot (s : State) (l : Nat) (h : Home) : (setHome s l h).pilot = s.pilot := rfl
@[simp] theorem setHome_served (s : State) (l : Nat) (h : Home) : (setHome s l h).served = s.served := rfl
@[simp] theorem setHome_electing (s : State) (l : Nat) (h : Home) : (setHome s l h).electing = s.electing := rfl
@[simp] theorem setHome_seq (s : State) (l : Nat) (h : Home) : (setHome s l h).seq = s.seq := rfl
@[simp] theorem setHome_grids (s : State) (l : Nat) (h : Home) : (setHome s l h).grids = s.grids := rfl
@[simp] theorem setHome_groups (s : State) (l : Nat) (h : Home) : (setHome s l h).groups = s.groups := rfl
@[simp] theorem setHome_gridKey (s : State) (l : Nat) (h : Home) : (setHome s l h).gridKey = s.gridKey := rfl
@[simp] theorem setHome_reports (s : State) (l : Nat) (h : Home) : (setHome s l h).reports = s.reports := rfl
@[simp] theorem setHome_sent (s : State) (l : Nat) (h : Home) : (setHome s l h).sent = s.sent := rfl
@[simp] theorem setHome_rsyncs (s : State) (l : Nat) (h : Home) : (setHome s l h).rsyncs = s.rsyncs := rfl
@[simp] theorem setHome_rsyncLen (s : State) (l : Nat) (h : Home) : (setHome s l h).rsyncLen = s.rsyncLen := rfl
@[simp] theorem setHome_ports (s : State) (l : Nat) (h : Home) : (setHome s l h).ports = s.ports := rfl
@[simp] theorem setHome_scrubs (s : State) (l : Nat) (h : Home) : (setHome s l h).scrubs = s.scrubs := rfl
@[simp] theorem setHome_refreshes (s : State) (l : Nat) (h : Home) : (setHome s l h).refreshes = s.refreshes := rfl
@[simp] theorem setHome_retrain (s : State) (l : Nat) (h : Home) : (setHome s l h).retrain = s.retrain := rfl
@[simp] theorem setHome_samples (s : State) (l : Nat) (h : Home) : (setHome s l h).samples = s.samples := rfl
@[simp] theorem setHome_throttle (s : State) (l : Nat) (h : Home) : (setHome s l h).throttle = s.throttle := rfl

@[simp] theorem modHome_agenda (s : State) (l : Nat) (f : Home → Home) : (modHome s l f).agenda = s.agenda := rfl
@[simp] theorem modHome_stepNo (s : State) (l : Nat) (f : Home → Home) : (modHome s l f).stepNo = s.stepNo := rfl
@[simp] theorem modHome_cur (s : State) (l : Nat) (f : Home → Home) : (modHome s l f).cur = s.cur := rfl
@[simp] theorem modHome_nextId (s : State) (l : Nat) (f : Home → Home) : (modHome s l f).nextId = s.nextId := rfl
@[simp] theorem modHome_now (s : State) (l : Nat) (f : Home → Home) : (modHome s l f).now = s.now := rfl
@[simp] theorem modHome_dram (s : State) (l : Nat) (f : Home → Home) : (modHome s l f).dram = s.dram := rfl
@[simp] theorem modHome_dramBad (s : State) (l : Nat) (f : Home → Home) : (modHome s l f).dramBad = s.dramBad := rfl
@[simp] theorem modHome_sram (s : State) (l : Nat) (f : Home → Home) : (modHome s l f).sram = s.sram := rfl
@[simp] theorem modHome_sramBad (s : State) (l : Nat) (f : Home → Home) : (modHome s l f).sramBad = s.sramBad := rfl
@[simp] theorem modHome_cores (s : State) (l : Nat) (f : Home → Home) : (modHome s l f).cores = s.cores := rfl
@[simp] theorem modHome_quads (s : State) (l : Nat) (f : Home → Home) : (modHome s l f).quads = s.quads := rfl
@[simp] theorem modHome_dies (s : State) (l : Nat) (f : Home → Home) : (modHome s l f).dies = s.dies := rfl
@[simp] theorem modHome_qdies (s : State) (l : Nat) (f : Home → Home) : (modHome s l f).qdies = s.qdies := rfl
@[simp] theorem modHome_llc (s : State) (l : Nat) (f : Home → Home) : (modHome s l f).llc = s.llc := rfl
@[simp] theorem modHome_inflight (s : State) (l : Nat) (f : Home → Home) : (modHome s l f).inflight = s.inflight := rfl
@[simp] theorem modHome_clears (s : State) (l : Nat) (f : Home → Home) : (modHome s l f).clears = s.clears := rfl
@[simp] theorem modHome_spawns (s : State) (l : Nat) (f : Home → Home) : (modHome s l f).spawns = s.spawns := rfl
@[simp] theorem modHome_travels (s : State) (l : Nat) (f : Home → Home) : (modHome s l f).travels = s.travels := rfl
@[simp] theorem modHome_saved (s : State) (l : Nat) (f : Home → Home) : (modHome s l f).saved = s.saved := rfl
@[simp] theorem modHome_xinvs (s : State) (l : Nat) (f : Home → Home) : (modHome s l f).xinvs = s.xinvs := rfl
@[simp] theorem modHome_kills (s : State) (l : Nat) (f : Home → Home) : (modHome s l f).kills = s.kills := rfl
@[simp] theorem modHome_evacs (s : State) (l : Nat) (f : Home → Home) : (modHome s l f).evacs = s.evacs := rfl
@[simp] theorem modHome_ended (s : State) (l : Nat) (f : Home → Home) : (modHome s l f).ended = s.ended := rfl
@[simp] theorem modHome_bias (s : State) (l : Nat) (f : Home → Home) : (modHome s l f).bias = s.bias := rfl
@[simp] theorem modHome_flips (s : State) (l : Nat) (f : Home → Home) : (modHome s l f).flips = s.flips := rfl
@[simp] theorem modHome_nodes (s : State) (l : Nat) (f : Home → Home) : (modHome s l f).nodes = s.nodes := rfl
@[simp] theorem modHome_ecfgLocked (s : State) (l : Nat) (f : Home → Home) : (modHome s l f).ecfgLocked = s.ecfgLocked := rfl
@[simp] theorem modHome_lqCore (s : State) (l : Nat) (f : Home → Home) : (modHome s l f).lqCore = s.lqCore := rfl
@[simp] theorem modHome_lqBank (s : State) (l : Nat) (f : Home → Home) : (modHome s l f).lqBank = s.lqBank := rfl
@[simp] theorem modHome_repNode (s : State) (l : Nat) (f : Home → Home) : (modHome s l f).repNode = s.repNode := rfl
@[simp] theorem modHome_nid (s : State) (l : Nat) (f : Home → Home) : (modHome s l f).nid = s.nid := rfl
@[simp] theorem modHome_agent (s : State) (l : Nat) (f : Home → Home) : (modHome s l f).agent = s.agent := rfl
@[simp] theorem modHome_pbar (s : State) (l : Nat) (f : Home → Home) : (modHome s l f).pbar = s.pbar := rfl
@[simp] theorem modHome_prst (s : State) (l : Nat) (f : Home → Home) : (modHome s l f).prst = s.prst := rfl
@[simp] theorem modHome_pbars (s : State) (l : Nat) (f : Home → Home) : (modHome s l f).pbars = s.pbars := rfl
@[simp] theorem modHome_podBars (s : State) (l : Nat) (f : Home → Home) : (modHome s l f).podBars = s.podBars := rfl
@[simp] theorem modHome_flash (s : State) (l : Nat) (f : Home → Home) : (modHome s l f).flash = s.flash := rfl
@[simp] theorem modHome_pilot (s : State) (l : Nat) (f : Home → Home) : (modHome s l f).pilot = s.pilot := rfl
@[simp] theorem modHome_served (s : State) (l : Nat) (f : Home → Home) : (modHome s l f).served = s.served := rfl
@[simp] theorem modHome_electing (s : State) (l : Nat) (f : Home → Home) : (modHome s l f).electing = s.electing := rfl
@[simp] theorem modHome_seq (s : State) (l : Nat) (f : Home → Home) : (modHome s l f).seq = s.seq := rfl
@[simp] theorem modHome_grids (s : State) (l : Nat) (f : Home → Home) : (modHome s l f).grids = s.grids := rfl
@[simp] theorem modHome_groups (s : State) (l : Nat) (f : Home → Home) : (modHome s l f).groups = s.groups := rfl
@[simp] theorem modHome_gridKey (s : State) (l : Nat) (f : Home → Home) : (modHome s l f).gridKey = s.gridKey := rfl
@[simp] theorem modHome_reports (s : State) (l : Nat) (f : Home → Home) : (modHome s l f).reports = s.reports := rfl
@[simp] theorem modHome_sent (s : State) (l : Nat) (f : Home → Home) : (modHome s l f).sent = s.sent := rfl
@[simp] theorem modHome_rsyncs (s : State) (l : Nat) (f : Home → Home) : (modHome s l f).rsyncs = s.rsyncs := rfl
@[simp] theorem modHome_rsyncLen (s : State) (l : Nat) (f : Home → Home) : (modHome s l f).rsyncLen = s.rsyncLen := rfl
@[simp] theorem modHome_ports (s : State) (l : Nat) (f : Home → Home) : (modHome s l f).ports = s.ports := rfl
@[simp] theorem modHome_scrubs (s : State) (l : Nat) (f : Home → Home) : (modHome s l f).scrubs = s.scrubs := rfl
@[simp] theorem modHome_refreshes (s : State) (l : Nat) (f : Home → Home) : (modHome s l f).refreshes = s.refreshes := rfl
@[simp] theorem modHome_retrain (s : State) (l : Nat) (f : Home → Home) : (modHome s l f).retrain = s.retrain := rfl
@[simp] theorem modHome_samples (s : State) (l : Nat) (f : Home → Home) : (modHome s l f).samples = s.samples := rfl
@[simp] theorem modHome_throttle (s : State) (l : Nat) (f : Home → Home) : (modHome s l f).throttle = s.throttle := rfl

@[simp] theorem modAccess_agenda (s : State) (id : Nat) (f : Access → Access) : (modAccess s id f).agenda = s.agenda := rfl
@[simp] theorem modAccess_stepNo (s : State) (id : Nat) (f : Access → Access) : (modAccess s id f).stepNo = s.stepNo := rfl
@[simp] theorem modAccess_cur (s : State) (id : Nat) (f : Access → Access) : (modAccess s id f).cur = s.cur := rfl
@[simp] theorem modAccess_nextId (s : State) (id : Nat) (f : Access → Access) : (modAccess s id f).nextId = s.nextId := rfl
@[simp] theorem modAccess_now (s : State) (id : Nat) (f : Access → Access) : (modAccess s id f).now = s.now := rfl
@[simp] theorem modAccess_dram (s : State) (id : Nat) (f : Access → Access) : (modAccess s id f).dram = s.dram := rfl
@[simp] theorem modAccess_dramBad (s : State) (id : Nat) (f : Access → Access) : (modAccess s id f).dramBad = s.dramBad := rfl
@[simp] theorem modAccess_sram (s : State) (id : Nat) (f : Access → Access) : (modAccess s id f).sram = s.sram := rfl
@[simp] theorem modAccess_sramBad (s : State) (id : Nat) (f : Access → Access) : (modAccess s id f).sramBad = s.sramBad := rfl
@[simp] theorem modAccess_cores (s : State) (id : Nat) (f : Access → Access) : (modAccess s id f).cores = s.cores := rfl
@[simp] theorem modAccess_quads (s : State) (id : Nat) (f : Access → Access) : (modAccess s id f).quads = s.quads := rfl
@[simp] theorem modAccess_dies (s : State) (id : Nat) (f : Access → Access) : (modAccess s id f).dies = s.dies := rfl
@[simp] theorem modAccess_qdies (s : State) (id : Nat) (f : Access → Access) : (modAccess s id f).qdies = s.qdies := rfl
@[simp] theorem modAccess_homes (s : State) (id : Nat) (f : Access → Access) : (modAccess s id f).homes = s.homes := rfl
@[simp] theorem modAccess_llc (s : State) (id : Nat) (f : Access → Access) : (modAccess s id f).llc = s.llc := rfl
@[simp] theorem modAccess_clears (s : State) (id : Nat) (f : Access → Access) : (modAccess s id f).clears = s.clears := rfl
@[simp] theorem modAccess_spawns (s : State) (id : Nat) (f : Access → Access) : (modAccess s id f).spawns = s.spawns := rfl
@[simp] theorem modAccess_travels (s : State) (id : Nat) (f : Access → Access) : (modAccess s id f).travels = s.travels := rfl
@[simp] theorem modAccess_saved (s : State) (id : Nat) (f : Access → Access) : (modAccess s id f).saved = s.saved := rfl
@[simp] theorem modAccess_xinvs (s : State) (id : Nat) (f : Access → Access) : (modAccess s id f).xinvs = s.xinvs := rfl
@[simp] theorem modAccess_kills (s : State) (id : Nat) (f : Access → Access) : (modAccess s id f).kills = s.kills := rfl
@[simp] theorem modAccess_evacs (s : State) (id : Nat) (f : Access → Access) : (modAccess s id f).evacs = s.evacs := rfl
@[simp] theorem modAccess_ended (s : State) (id : Nat) (f : Access → Access) : (modAccess s id f).ended = s.ended := rfl
@[simp] theorem modAccess_bias (s : State) (id : Nat) (f : Access → Access) : (modAccess s id f).bias = s.bias := rfl
@[simp] theorem modAccess_flips (s : State) (id : Nat) (f : Access → Access) : (modAccess s id f).flips = s.flips := rfl
@[simp] theorem modAccess_nodes (s : State) (id : Nat) (f : Access → Access) : (modAccess s id f).nodes = s.nodes := rfl
@[simp] theorem modAccess_ecfgLocked (s : State) (id : Nat) (f : Access → Access) : (modAccess s id f).ecfgLocked = s.ecfgLocked := rfl
@[simp] theorem modAccess_lqCore (s : State) (id : Nat) (f : Access → Access) : (modAccess s id f).lqCore = s.lqCore := rfl
@[simp] theorem modAccess_lqBank (s : State) (id : Nat) (f : Access → Access) : (modAccess s id f).lqBank = s.lqBank := rfl
@[simp] theorem modAccess_repNode (s : State) (id : Nat) (f : Access → Access) : (modAccess s id f).repNode = s.repNode := rfl
@[simp] theorem modAccess_nid (s : State) (id : Nat) (f : Access → Access) : (modAccess s id f).nid = s.nid := rfl
@[simp] theorem modAccess_agent (s : State) (id : Nat) (f : Access → Access) : (modAccess s id f).agent = s.agent := rfl
@[simp] theorem modAccess_pbar (s : State) (id : Nat) (f : Access → Access) : (modAccess s id f).pbar = s.pbar := rfl
@[simp] theorem modAccess_prst (s : State) (id : Nat) (f : Access → Access) : (modAccess s id f).prst = s.prst := rfl
@[simp] theorem modAccess_pbars (s : State) (id : Nat) (f : Access → Access) : (modAccess s id f).pbars = s.pbars := rfl
@[simp] theorem modAccess_podBars (s : State) (id : Nat) (f : Access → Access) : (modAccess s id f).podBars = s.podBars := rfl
@[simp] theorem modAccess_flash (s : State) (id : Nat) (f : Access → Access) : (modAccess s id f).flash = s.flash := rfl
@[simp] theorem modAccess_pilot (s : State) (id : Nat) (f : Access → Access) : (modAccess s id f).pilot = s.pilot := rfl
@[simp] theorem modAccess_served (s : State) (id : Nat) (f : Access → Access) : (modAccess s id f).served = s.served := rfl
@[simp] theorem modAccess_electing (s : State) (id : Nat) (f : Access → Access) : (modAccess s id f).electing = s.electing := rfl
@[simp] theorem modAccess_seq (s : State) (id : Nat) (f : Access → Access) : (modAccess s id f).seq = s.seq := rfl
@[simp] theorem modAccess_grids (s : State) (id : Nat) (f : Access → Access) : (modAccess s id f).grids = s.grids := rfl
@[simp] theorem modAccess_groups (s : State) (id : Nat) (f : Access → Access) : (modAccess s id f).groups = s.groups := rfl
@[simp] theorem modAccess_gridKey (s : State) (id : Nat) (f : Access → Access) : (modAccess s id f).gridKey = s.gridKey := rfl
@[simp] theorem modAccess_reports (s : State) (id : Nat) (f : Access → Access) : (modAccess s id f).reports = s.reports := rfl
@[simp] theorem modAccess_sent (s : State) (id : Nat) (f : Access → Access) : (modAccess s id f).sent = s.sent := rfl
@[simp] theorem modAccess_rsyncs (s : State) (id : Nat) (f : Access → Access) : (modAccess s id f).rsyncs = s.rsyncs := rfl
@[simp] theorem modAccess_rsyncLen (s : State) (id : Nat) (f : Access → Access) : (modAccess s id f).rsyncLen = s.rsyncLen := rfl
@[simp] theorem modAccess_ports (s : State) (id : Nat) (f : Access → Access) : (modAccess s id f).ports = s.ports := rfl
@[simp] theorem modAccess_scrubs (s : State) (id : Nat) (f : Access → Access) : (modAccess s id f).scrubs = s.scrubs := rfl
@[simp] theorem modAccess_refreshes (s : State) (id : Nat) (f : Access → Access) : (modAccess s id f).refreshes = s.refreshes := rfl
@[simp] theorem modAccess_retrain (s : State) (id : Nat) (f : Access → Access) : (modAccess s id f).retrain = s.retrain := rfl
@[simp] theorem modAccess_samples (s : State) (id : Nat) (f : Access → Access) : (modAccess s id f).samples = s.samples := rfl
@[simp] theorem modAccess_throttle (s : State) (id : Nat) (f : Access → Access) : (modAccess s id f).throttle = s.throttle := rfl

@[simp] theorem dropAccess_agenda (s : State) (id : Nat) : (dropAccess s id).agenda = s.agenda := rfl
@[simp] theorem dropAccess_stepNo (s : State) (id : Nat) : (dropAccess s id).stepNo = s.stepNo := rfl
@[simp] theorem dropAccess_cur (s : State) (id : Nat) : (dropAccess s id).cur = s.cur := rfl
@[simp] theorem dropAccess_nextId (s : State) (id : Nat) : (dropAccess s id).nextId = s.nextId := rfl
@[simp] theorem dropAccess_now (s : State) (id : Nat) : (dropAccess s id).now = s.now := rfl
@[simp] theorem dropAccess_dram (s : State) (id : Nat) : (dropAccess s id).dram = s.dram := rfl
@[simp] theorem dropAccess_dramBad (s : State) (id : Nat) : (dropAccess s id).dramBad = s.dramBad := rfl
@[simp] theorem dropAccess_sram (s : State) (id : Nat) : (dropAccess s id).sram = s.sram := rfl
@[simp] theorem dropAccess_sramBad (s : State) (id : Nat) : (dropAccess s id).sramBad = s.sramBad := rfl
@[simp] theorem dropAccess_cores (s : State) (id : Nat) : (dropAccess s id).cores = s.cores := rfl
@[simp] theorem dropAccess_quads (s : State) (id : Nat) : (dropAccess s id).quads = s.quads := rfl
@[simp] theorem dropAccess_dies (s : State) (id : Nat) : (dropAccess s id).dies = s.dies := rfl
@[simp] theorem dropAccess_qdies (s : State) (id : Nat) : (dropAccess s id).qdies = s.qdies := rfl
@[simp] theorem dropAccess_homes (s : State) (id : Nat) : (dropAccess s id).homes = s.homes := rfl
@[simp] theorem dropAccess_llc (s : State) (id : Nat) : (dropAccess s id).llc = s.llc := rfl
@[simp] theorem dropAccess_clears (s : State) (id : Nat) : (dropAccess s id).clears = s.clears := rfl
@[simp] theorem dropAccess_spawns (s : State) (id : Nat) : (dropAccess s id).spawns = s.spawns := rfl
@[simp] theorem dropAccess_travels (s : State) (id : Nat) : (dropAccess s id).travels = s.travels := rfl
@[simp] theorem dropAccess_saved (s : State) (id : Nat) : (dropAccess s id).saved = s.saved := rfl
@[simp] theorem dropAccess_xinvs (s : State) (id : Nat) : (dropAccess s id).xinvs = s.xinvs := rfl
@[simp] theorem dropAccess_kills (s : State) (id : Nat) : (dropAccess s id).kills = s.kills := rfl
@[simp] theorem dropAccess_evacs (s : State) (id : Nat) : (dropAccess s id).evacs = s.evacs := rfl
@[simp] theorem dropAccess_ended (s : State) (id : Nat) : (dropAccess s id).ended = s.ended := rfl
@[simp] theorem dropAccess_bias (s : State) (id : Nat) : (dropAccess s id).bias = s.bias := rfl
@[simp] theorem dropAccess_flips (s : State) (id : Nat) : (dropAccess s id).flips = s.flips := rfl
@[simp] theorem dropAccess_nodes (s : State) (id : Nat) : (dropAccess s id).nodes = s.nodes := rfl
@[simp] theorem dropAccess_ecfgLocked (s : State) (id : Nat) : (dropAccess s id).ecfgLocked = s.ecfgLocked := rfl
@[simp] theorem dropAccess_lqCore (s : State) (id : Nat) : (dropAccess s id).lqCore = s.lqCore := rfl
@[simp] theorem dropAccess_lqBank (s : State) (id : Nat) : (dropAccess s id).lqBank = s.lqBank := rfl
@[simp] theorem dropAccess_repNode (s : State) (id : Nat) : (dropAccess s id).repNode = s.repNode := rfl
@[simp] theorem dropAccess_nid (s : State) (id : Nat) : (dropAccess s id).nid = s.nid := rfl
@[simp] theorem dropAccess_agent (s : State) (id : Nat) : (dropAccess s id).agent = s.agent := rfl
@[simp] theorem dropAccess_pbar (s : State) (id : Nat) : (dropAccess s id).pbar = s.pbar := rfl
@[simp] theorem dropAccess_prst (s : State) (id : Nat) : (dropAccess s id).prst = s.prst := rfl
@[simp] theorem dropAccess_pbars (s : State) (id : Nat) : (dropAccess s id).pbars = s.pbars := rfl
@[simp] theorem dropAccess_podBars (s : State) (id : Nat) : (dropAccess s id).podBars = s.podBars := rfl
@[simp] theorem dropAccess_flash (s : State) (id : Nat) : (dropAccess s id).flash = s.flash := rfl
@[simp] theorem dropAccess_pilot (s : State) (id : Nat) : (dropAccess s id).pilot = s.pilot := rfl
@[simp] theorem dropAccess_served (s : State) (id : Nat) : (dropAccess s id).served = s.served := rfl
@[simp] theorem dropAccess_electing (s : State) (id : Nat) : (dropAccess s id).electing = s.electing := rfl
@[simp] theorem dropAccess_seq (s : State) (id : Nat) : (dropAccess s id).seq = s.seq := rfl
@[simp] theorem dropAccess_grids (s : State) (id : Nat) : (dropAccess s id).grids = s.grids := rfl
@[simp] theorem dropAccess_groups (s : State) (id : Nat) : (dropAccess s id).groups = s.groups := rfl
@[simp] theorem dropAccess_gridKey (s : State) (id : Nat) : (dropAccess s id).gridKey = s.gridKey := rfl
@[simp] theorem dropAccess_reports (s : State) (id : Nat) : (dropAccess s id).reports = s.reports := rfl
@[simp] theorem dropAccess_sent (s : State) (id : Nat) : (dropAccess s id).sent = s.sent := rfl
@[simp] theorem dropAccess_rsyncs (s : State) (id : Nat) : (dropAccess s id).rsyncs = s.rsyncs := rfl
@[simp] theorem dropAccess_rsyncLen (s : State) (id : Nat) : (dropAccess s id).rsyncLen = s.rsyncLen := rfl
@[simp] theorem dropAccess_ports (s : State) (id : Nat) : (dropAccess s id).ports = s.ports := rfl
@[simp] theorem dropAccess_scrubs (s : State) (id : Nat) : (dropAccess s id).scrubs = s.scrubs := rfl
@[simp] theorem dropAccess_refreshes (s : State) (id : Nat) : (dropAccess s id).refreshes = s.refreshes := rfl
@[simp] theorem dropAccess_retrain (s : State) (id : Nat) : (dropAccess s id).retrain = s.retrain := rfl
@[simp] theorem dropAccess_samples (s : State) (id : Nat) : (dropAccess s id).samples = s.samples := rfl
@[simp] theorem dropAccess_throttle (s : State) (id : Nat) : (dropAccess s id).throttle = s.throttle := rfl

@[simp] theorem addOut_agenda (s : State) (t : ThreadRef) (o : Out) : (addOut s t o).agenda = s.agenda := rfl
@[simp] theorem addOut_stepNo (s : State) (t : ThreadRef) (o : Out) : (addOut s t o).stepNo = s.stepNo := rfl
@[simp] theorem addOut_cur (s : State) (t : ThreadRef) (o : Out) : (addOut s t o).cur = s.cur := rfl
@[simp] theorem addOut_nextId (s : State) (t : ThreadRef) (o : Out) : (addOut s t o).nextId = s.nextId := rfl
@[simp] theorem addOut_now (s : State) (t : ThreadRef) (o : Out) : (addOut s t o).now = s.now := rfl
@[simp] theorem addOut_dram (s : State) (t : ThreadRef) (o : Out) : (addOut s t o).dram = s.dram := rfl
@[simp] theorem addOut_dramBad (s : State) (t : ThreadRef) (o : Out) : (addOut s t o).dramBad = s.dramBad := rfl
@[simp] theorem addOut_sram (s : State) (t : ThreadRef) (o : Out) : (addOut s t o).sram = s.sram := rfl
@[simp] theorem addOut_sramBad (s : State) (t : ThreadRef) (o : Out) : (addOut s t o).sramBad = s.sramBad := rfl
@[simp] theorem addOut_quads (s : State) (t : ThreadRef) (o : Out) : (addOut s t o).quads = s.quads := rfl
@[simp] theorem addOut_dies (s : State) (t : ThreadRef) (o : Out) : (addOut s t o).dies = s.dies := rfl
@[simp] theorem addOut_qdies (s : State) (t : ThreadRef) (o : Out) : (addOut s t o).qdies = s.qdies := rfl
@[simp] theorem addOut_homes (s : State) (t : ThreadRef) (o : Out) : (addOut s t o).homes = s.homes := rfl
@[simp] theorem addOut_llc (s : State) (t : ThreadRef) (o : Out) : (addOut s t o).llc = s.llc := rfl
@[simp] theorem addOut_inflight (s : State) (t : ThreadRef) (o : Out) : (addOut s t o).inflight = s.inflight := rfl
@[simp] theorem addOut_clears (s : State) (t : ThreadRef) (o : Out) : (addOut s t o).clears = s.clears := rfl
@[simp] theorem addOut_spawns (s : State) (t : ThreadRef) (o : Out) : (addOut s t o).spawns = s.spawns := rfl
@[simp] theorem addOut_travels (s : State) (t : ThreadRef) (o : Out) : (addOut s t o).travels = s.travels := rfl
@[simp] theorem addOut_saved (s : State) (t : ThreadRef) (o : Out) : (addOut s t o).saved = s.saved := rfl
@[simp] theorem addOut_xinvs (s : State) (t : ThreadRef) (o : Out) : (addOut s t o).xinvs = s.xinvs := rfl
@[simp] theorem addOut_kills (s : State) (t : ThreadRef) (o : Out) : (addOut s t o).kills = s.kills := rfl
@[simp] theorem addOut_evacs (s : State) (t : ThreadRef) (o : Out) : (addOut s t o).evacs = s.evacs := rfl
@[simp] theorem addOut_ended (s : State) (t : ThreadRef) (o : Out) : (addOut s t o).ended = s.ended := rfl
@[simp] theorem addOut_bias (s : State) (t : ThreadRef) (o : Out) : (addOut s t o).bias = s.bias := rfl
@[simp] theorem addOut_flips (s : State) (t : ThreadRef) (o : Out) : (addOut s t o).flips = s.flips := rfl
@[simp] theorem addOut_nodes (s : State) (t : ThreadRef) (o : Out) : (addOut s t o).nodes = s.nodes := rfl
@[simp] theorem addOut_ecfgLocked (s : State) (t : ThreadRef) (o : Out) : (addOut s t o).ecfgLocked = s.ecfgLocked := rfl
@[simp] theorem addOut_lqCore (s : State) (t : ThreadRef) (o : Out) : (addOut s t o).lqCore = s.lqCore := rfl
@[simp] theorem addOut_lqBank (s : State) (t : ThreadRef) (o : Out) : (addOut s t o).lqBank = s.lqBank := rfl
@[simp] theorem addOut_repNode (s : State) (t : ThreadRef) (o : Out) : (addOut s t o).repNode = s.repNode := rfl
@[simp] theorem addOut_nid (s : State) (t : ThreadRef) (o : Out) : (addOut s t o).nid = s.nid := rfl
@[simp] theorem addOut_agent (s : State) (t : ThreadRef) (o : Out) : (addOut s t o).agent = s.agent := rfl
@[simp] theorem addOut_pbar (s : State) (t : ThreadRef) (o : Out) : (addOut s t o).pbar = s.pbar := rfl
@[simp] theorem addOut_prst (s : State) (t : ThreadRef) (o : Out) : (addOut s t o).prst = s.prst := rfl
@[simp] theorem addOut_pbars (s : State) (t : ThreadRef) (o : Out) : (addOut s t o).pbars = s.pbars := rfl
@[simp] theorem addOut_podBars (s : State) (t : ThreadRef) (o : Out) : (addOut s t o).podBars = s.podBars := rfl
@[simp] theorem addOut_flash (s : State) (t : ThreadRef) (o : Out) : (addOut s t o).flash = s.flash := rfl
@[simp] theorem addOut_pilot (s : State) (t : ThreadRef) (o : Out) : (addOut s t o).pilot = s.pilot := rfl
@[simp] theorem addOut_served (s : State) (t : ThreadRef) (o : Out) : (addOut s t o).served = s.served := rfl
@[simp] theorem addOut_electing (s : State) (t : ThreadRef) (o : Out) : (addOut s t o).electing = s.electing := rfl
@[simp] theorem addOut_seq (s : State) (t : ThreadRef) (o : Out) : (addOut s t o).seq = s.seq := rfl
@[simp] theorem addOut_grids (s : State) (t : ThreadRef) (o : Out) : (addOut s t o).grids = s.grids := rfl
@[simp] theorem addOut_groups (s : State) (t : ThreadRef) (o : Out) : (addOut s t o).groups = s.groups := rfl
@[simp] theorem addOut_gridKey (s : State) (t : ThreadRef) (o : Out) : (addOut s t o).gridKey = s.gridKey := rfl
@[simp] theorem addOut_reports (s : State) (t : ThreadRef) (o : Out) : (addOut s t o).reports = s.reports := rfl
@[simp] theorem addOut_sent (s : State) (t : ThreadRef) (o : Out) : (addOut s t o).sent = s.sent := rfl
@[simp] theorem addOut_rsyncs (s : State) (t : ThreadRef) (o : Out) : (addOut s t o).rsyncs = s.rsyncs := rfl
@[simp] theorem addOut_rsyncLen (s : State) (t : ThreadRef) (o : Out) : (addOut s t o).rsyncLen = s.rsyncLen := rfl
@[simp] theorem addOut_ports (s : State) (t : ThreadRef) (o : Out) : (addOut s t o).ports = s.ports := rfl
@[simp] theorem addOut_scrubs (s : State) (t : ThreadRef) (o : Out) : (addOut s t o).scrubs = s.scrubs := rfl
@[simp] theorem addOut_refreshes (s : State) (t : ThreadRef) (o : Out) : (addOut s t o).refreshes = s.refreshes := rfl
@[simp] theorem addOut_retrain (s : State) (t : ThreadRef) (o : Out) : (addOut s t o).retrain = s.retrain := rfl
@[simp] theorem addOut_samples (s : State) (t : ThreadRef) (o : Out) : (addOut s t o).samples = s.samples := rfl
@[simp] theorem addOut_throttle (s : State) (t : ThreadRef) (o : Out) : (addOut s t o).throttle = s.throttle := rfl

@[simp] theorem modOut_agenda (s : State) (t : ThreadRef) (id : Nat) (f : Out → Out) : (modOut s t id f).agenda = s.agenda := rfl
@[simp] theorem modOut_stepNo (s : State) (t : ThreadRef) (id : Nat) (f : Out → Out) : (modOut s t id f).stepNo = s.stepNo := rfl
@[simp] theorem modOut_cur (s : State) (t : ThreadRef) (id : Nat) (f : Out → Out) : (modOut s t id f).cur = s.cur := rfl
@[simp] theorem modOut_nextId (s : State) (t : ThreadRef) (id : Nat) (f : Out → Out) : (modOut s t id f).nextId = s.nextId := rfl
@[simp] theorem modOut_now (s : State) (t : ThreadRef) (id : Nat) (f : Out → Out) : (modOut s t id f).now = s.now := rfl
@[simp] theorem modOut_dram (s : State) (t : ThreadRef) (id : Nat) (f : Out → Out) : (modOut s t id f).dram = s.dram := rfl
@[simp] theorem modOut_dramBad (s : State) (t : ThreadRef) (id : Nat) (f : Out → Out) : (modOut s t id f).dramBad = s.dramBad := rfl
@[simp] theorem modOut_sram (s : State) (t : ThreadRef) (id : Nat) (f : Out → Out) : (modOut s t id f).sram = s.sram := rfl
@[simp] theorem modOut_sramBad (s : State) (t : ThreadRef) (id : Nat) (f : Out → Out) : (modOut s t id f).sramBad = s.sramBad := rfl
@[simp] theorem modOut_quads (s : State) (t : ThreadRef) (id : Nat) (f : Out → Out) : (modOut s t id f).quads = s.quads := rfl
@[simp] theorem modOut_dies (s : State) (t : ThreadRef) (id : Nat) (f : Out → Out) : (modOut s t id f).dies = s.dies := rfl
@[simp] theorem modOut_qdies (s : State) (t : ThreadRef) (id : Nat) (f : Out → Out) : (modOut s t id f).qdies = s.qdies := rfl
@[simp] theorem modOut_homes (s : State) (t : ThreadRef) (id : Nat) (f : Out → Out) : (modOut s t id f).homes = s.homes := rfl
@[simp] theorem modOut_llc (s : State) (t : ThreadRef) (id : Nat) (f : Out → Out) : (modOut s t id f).llc = s.llc := rfl
@[simp] theorem modOut_inflight (s : State) (t : ThreadRef) (id : Nat) (f : Out → Out) : (modOut s t id f).inflight = s.inflight := rfl
@[simp] theorem modOut_clears (s : State) (t : ThreadRef) (id : Nat) (f : Out → Out) : (modOut s t id f).clears = s.clears := rfl
@[simp] theorem modOut_spawns (s : State) (t : ThreadRef) (id : Nat) (f : Out → Out) : (modOut s t id f).spawns = s.spawns := rfl
@[simp] theorem modOut_travels (s : State) (t : ThreadRef) (id : Nat) (f : Out → Out) : (modOut s t id f).travels = s.travels := rfl
@[simp] theorem modOut_saved (s : State) (t : ThreadRef) (id : Nat) (f : Out → Out) : (modOut s t id f).saved = s.saved := rfl
@[simp] theorem modOut_xinvs (s : State) (t : ThreadRef) (id : Nat) (f : Out → Out) : (modOut s t id f).xinvs = s.xinvs := rfl
@[simp] theorem modOut_kills (s : State) (t : ThreadRef) (id : Nat) (f : Out → Out) : (modOut s t id f).kills = s.kills := rfl
@[simp] theorem modOut_evacs (s : State) (t : ThreadRef) (id : Nat) (f : Out → Out) : (modOut s t id f).evacs = s.evacs := rfl
@[simp] theorem modOut_ended (s : State) (t : ThreadRef) (id : Nat) (f : Out → Out) : (modOut s t id f).ended = s.ended := rfl
@[simp] theorem modOut_bias (s : State) (t : ThreadRef) (id : Nat) (f : Out → Out) : (modOut s t id f).bias = s.bias := rfl
@[simp] theorem modOut_flips (s : State) (t : ThreadRef) (id : Nat) (f : Out → Out) : (modOut s t id f).flips = s.flips := rfl
@[simp] theorem modOut_nodes (s : State) (t : ThreadRef) (id : Nat) (f : Out → Out) : (modOut s t id f).nodes = s.nodes := rfl
@[simp] theorem modOut_ecfgLocked (s : State) (t : ThreadRef) (id : Nat) (f : Out → Out) : (modOut s t id f).ecfgLocked = s.ecfgLocked := rfl
@[simp] theorem modOut_lqCore (s : State) (t : ThreadRef) (id : Nat) (f : Out → Out) : (modOut s t id f).lqCore = s.lqCore := rfl
@[simp] theorem modOut_lqBank (s : State) (t : ThreadRef) (id : Nat) (f : Out → Out) : (modOut s t id f).lqBank = s.lqBank := rfl
@[simp] theorem modOut_repNode (s : State) (t : ThreadRef) (id : Nat) (f : Out → Out) : (modOut s t id f).repNode = s.repNode := rfl
@[simp] theorem modOut_nid (s : State) (t : ThreadRef) (id : Nat) (f : Out → Out) : (modOut s t id f).nid = s.nid := rfl
@[simp] theorem modOut_agent (s : State) (t : ThreadRef) (id : Nat) (f : Out → Out) : (modOut s t id f).agent = s.agent := rfl
@[simp] theorem modOut_pbar (s : State) (t : ThreadRef) (id : Nat) (f : Out → Out) : (modOut s t id f).pbar = s.pbar := rfl
@[simp] theorem modOut_prst (s : State) (t : ThreadRef) (id : Nat) (f : Out → Out) : (modOut s t id f).prst = s.prst := rfl
@[simp] theorem modOut_pbars (s : State) (t : ThreadRef) (id : Nat) (f : Out → Out) : (modOut s t id f).pbars = s.pbars := rfl
@[simp] theorem modOut_podBars (s : State) (t : ThreadRef) (id : Nat) (f : Out → Out) : (modOut s t id f).podBars = s.podBars := rfl
@[simp] theorem modOut_flash (s : State) (t : ThreadRef) (id : Nat) (f : Out → Out) : (modOut s t id f).flash = s.flash := rfl
@[simp] theorem modOut_pilot (s : State) (t : ThreadRef) (id : Nat) (f : Out → Out) : (modOut s t id f).pilot = s.pilot := rfl
@[simp] theorem modOut_served (s : State) (t : ThreadRef) (id : Nat) (f : Out → Out) : (modOut s t id f).served = s.served := rfl
@[simp] theorem modOut_electing (s : State) (t : ThreadRef) (id : Nat) (f : Out → Out) : (modOut s t id f).electing = s.electing := rfl
@[simp] theorem modOut_seq (s : State) (t : ThreadRef) (id : Nat) (f : Out → Out) : (modOut s t id f).seq = s.seq := rfl
@[simp] theorem modOut_grids (s : State) (t : ThreadRef) (id : Nat) (f : Out → Out) : (modOut s t id f).grids = s.grids := rfl
@[simp] theorem modOut_groups (s : State) (t : ThreadRef) (id : Nat) (f : Out → Out) : (modOut s t id f).groups = s.groups := rfl
@[simp] theorem modOut_gridKey (s : State) (t : ThreadRef) (id : Nat) (f : Out → Out) : (modOut s t id f).gridKey = s.gridKey := rfl
@[simp] theorem modOut_reports (s : State) (t : ThreadRef) (id : Nat) (f : Out → Out) : (modOut s t id f).reports = s.reports := rfl
@[simp] theorem modOut_sent (s : State) (t : ThreadRef) (id : Nat) (f : Out → Out) : (modOut s t id f).sent = s.sent := rfl
@[simp] theorem modOut_rsyncs (s : State) (t : ThreadRef) (id : Nat) (f : Out → Out) : (modOut s t id f).rsyncs = s.rsyncs := rfl
@[simp] theorem modOut_rsyncLen (s : State) (t : ThreadRef) (id : Nat) (f : Out → Out) : (modOut s t id f).rsyncLen = s.rsyncLen := rfl
@[simp] theorem modOut_ports (s : State) (t : ThreadRef) (id : Nat) (f : Out → Out) : (modOut s t id f).ports = s.ports := rfl
@[simp] theorem modOut_scrubs (s : State) (t : ThreadRef) (id : Nat) (f : Out → Out) : (modOut s t id f).scrubs = s.scrubs := rfl
@[simp] theorem modOut_refreshes (s : State) (t : ThreadRef) (id : Nat) (f : Out → Out) : (modOut s t id f).refreshes = s.refreshes := rfl
@[simp] theorem modOut_retrain (s : State) (t : ThreadRef) (id : Nat) (f : Out → Out) : (modOut s t id f).retrain = s.retrain := rfl
@[simp] theorem modOut_samples (s : State) (t : ThreadRef) (id : Nat) (f : Out → Out) : (modOut s t id f).samples = s.samples := rfl
@[simp] theorem modOut_throttle (s : State) (t : ThreadRef) (id : Nat) (f : Out → Out) : (modOut s t id f).throttle = s.throttle := rfl

/-! ### Reading back -/

@[simp] theorem coreAt_setCore (s : State) (c c' : Nat) (v : Core) :
    coreAt (setCore s c v) c' = if c' = c then v else coreAt s c' := aget_aset _ _ _ _ _

@[simp] theorem coreAt_modCore (s : State) (c c' : Nat) (f : Core → Core) :
    coreAt (modCore s c f) c' = if c' = c then f (coreAt s c) else coreAt s c' := coreAt_setCore _ _ _ _

@[simp] theorem dieAt_modDie (s : State) (d d' : Nat) (f : Die → Die) :
    dieAt (modDie s d f) d' = if d' = d then f (dieAt s d) else dieAt s d' := aget_aset _ _ _ _ _

@[simp] theorem quadAt_modQuad (s : State) (q q' : Nat) (f : Quad → Quad) :
    quadAt (modQuad s q f) q' = if q' = q then f (quadAt s q) else quadAt s q' := aget_aset _ _ _ _ _

@[simp] theorem stackAt_modStack (s : State) (n n' : Nat) (f : Stack → Stack) :
    stackAt (modStack s n f) n' = if n' = n then f (stackAt s n) else stackAt s n' := aget_aset _ _ _ _ _

@[simp] theorem homeAt_setHome (s : State) (l l' : Nat) (h : Home) :
    homeAt (setHome s l h) l' = if l' = l then h else homeAt s l' := aget_aset _ _ _ _ _

@[simp] theorem homeAt_modHome (s : State) (l l' : Nat) (f : Home → Home) :
    homeAt (modHome s l f) l' = if l' = l then f (homeAt s l) else homeAt s l' := homeAt_setHome _ _ _ _

@[simp] theorem threadAt_setThread_same (s : State) (t : ThreadRef) (v : Thread) :
    threadAt (setThread s t v) t = v := by simp [threadAt, setThread]

@[simp] theorem threadAt_modThread_same (s : State) (t : ThreadRef) (f : Thread → Thread) :
    threadAt (modThread s t f) t = f (threadAt s t) := by simp [modThread]

/-- A thread other than the one written: another core, or another place of the same core. -/
theorem threadAt_setThread_other (s : State) {t t' : ThreadRef} (v : Thread)
    (h : t'.core ≠ t.core ∨ tid t' ≠ tid t) : threadAt (setThread s t v) t' = threadAt s t' := by
  unfold threadAt setThread
  rw [coreAt_modCore]
  split
  · next hc =>
    rw [hc]
    exact aget_aset_other _ _ _ (h.resolve_left (by simp [hc]))
  · rfl

theorem threadAt_modThread_other (s : State) {t t' : ThreadRef} (f : Thread → Thread)
    (h : t'.core ≠ t.core ∨ tid t' ≠ tid t) : threadAt (modThread s t f) t' = threadAt s t' :=
  threadAt_setThread_other _ _ h

@[simp] theorem me_modMe (s : State) (f : Thread → Thread) : me (modMe s f) = f (me s) := by
  simp [me, modMe]

/-- A change of a core that keeps its threads keeps the current thread. -/
theorem me_modCore (s : State) (c : Nat) (f : Core → Core) (h : (f (coreAt s c)).threads = (coreAt s c).threads) :
    me (modCore s c f) = me s := by
  unfold me threadAt
  rw [coreAt_modCore]
  show aget _ (if s.cur.core = c then f (coreAt s c) else coreAt s s.cur.core).threads _ = _
  split
  · next hc => rw [h, hc]; rfl
  · rfl

@[simp] theorem coreAt_setThread_qntm (s : State) (t : ThreadRef) (v : Thread) (c : Nat) :
    (coreAt (setThread s t v) c).qntm = (coreAt s c).qntm := by
  unfold setThread; rw [coreAt_modCore]; split <;> simp_all
@[simp] theorem coreAt_setThread_qexp (s : State) (t : ThreadRef) (v : Thread) (c : Nat) :
    (coreAt (setThread s t v) c).qexp = (coreAt s c).qexp := by
  unfold setThread; rw [coreAt_modCore]; split <;> simp_all
@[simp] theorem coreAt_setThread_carveK (s : State) (t : ThreadRef) (v : Thread) (c : Nat) :
    (coreAt (setThread s t v) c).carveK = (coreAt s c).carveK := by
  unfold setThread; rw [coreAt_modCore]; split <;> simp_all
@[simp] theorem coreAt_setThread_carveRef (s : State) (t : ThreadRef) (v : Thread) (c : Nat) :
    (coreAt (setThread s t v) c).carveRef = (coreAt s c).carveRef := by
  unfold setThread; rw [coreAt_modCore]; split <;> simp_all
@[simp] theorem coreAt_setThread_carveBusy (s : State) (t : ThreadRef) (v : Thread) (c : Nat) :
    (coreAt (setThread s t v) c).carveBusy = (coreAt s c).carveBusy := by
  unfold setThread; rw [coreAt_modCore]; split <;> simp_all
@[simp] theorem coreAt_setThread_carveWait (s : State) (t : ThreadRef) (v : Thread) (c : Nat) :
    (coreAt (setThread s t v) c).carveWait = (coreAt s c).carveWait := by
  unfold setThread; rw [coreAt_modCore]; split <;> simp_all
@[simp] theorem coreAt_setThread_lease (s : State) (t : ThreadRef) (v : Thread) (c : Nat) :
    (coreAt (setThread s t v) c).lease = (coreAt s c).lease := by
  unfold setThread; rw [coreAt_modCore]; split <;> simp_all
@[simp] theorem coreAt_setThread_seed (s : State) (t : ThreadRef) (v : Thread) (c : Nat) :
    (coreAt (setThread s t v) c).seed = (coreAt s c).seed := by
  unfold setThread; rw [coreAt_modCore]; split <;> simp_all
@[simp] theorem coreAt_setThread_ctxid (s : State) (t : ThreadRef) (v : Thread) (c : Nat) :
    (coreAt (setThread s t v) c).ctxid = (coreAt s c).ctxid := by
  unfold setThread; rw [coreAt_modCore]; split <;> simp_all
@[simp] theorem coreAt_setThread_cbtV (s : State) (t : ThreadRef) (v : Thread) (c : Nat) :
    (coreAt (setThread s t v) c).cbtV = (coreAt s c).cbtV := by
  unfold setThread; rw [coreAt_modCore]; split <;> simp_all
@[simp] theorem coreAt_setThread_cbtOwner (s : State) (t : ThreadRef) (v : Thread) (c : Nat) :
    (coreAt (setThread s t v) c).cbtOwner = (coreAt s c).cbtOwner := by
  unfold setThread; rw [coreAt_modCore]; split <;> simp_all
@[simp] theorem coreAt_setThread_tvec (s : State) (t : ThreadRef) (v : Thread) (c : Nat) :
    (coreAt (setThread s t v) c).tvec = (coreAt s c).tvec := by
  unfold setThread; rw [coreAt_modCore]; split <;> simp_all
@[simp] theorem coreAt_setThread_evTarget (s : State) (t : ThreadRef) (v : Thread) (c : Nat) :
    (coreAt (setThread s t v) c).evTarget = (coreAt s c).evTarget := by
  unfold setThread; rw [coreAt_modCore]; split <;> simp_all
@[simp] theorem coreAt_setThread_evWhy (s : State) (t : ThreadRef) (v : Thread) (c : Nat) :
    (coreAt (setThread s t v) c).evWhy = (coreAt s c).evWhy := by
  unfold setThread; rw [coreAt_modCore]; split <;> simp_all
@[simp] theorem coreAt_setThread_evSt (s : State) (t : ThreadRef) (v : Thread) (c : Nat) :
    (coreAt (setThread s t v) c).evSt = (coreAt s c).evSt := by
  unfold setThread; rw [coreAt_modCore]; split <;> simp_all
@[simp] theorem coreAt_setThread_fwdV (s : State) (t : ThreadRef) (v : Thread) (c : Nat) :
    (coreAt (setThread s t v) c).fwdV = (coreAt s c).fwdV := by
  unfold setThread; rw [coreAt_modCore]; split <;> simp_all
@[simp] theorem coreAt_setThread_fwdTarget (s : State) (t : ThreadRef) (v : Thread) (c : Nat) :
    (coreAt (setThread s t v) c).fwdTarget = (coreAt s c).fwdTarget := by
  unfold setThread; rw [coreAt_modCore]; split <;> simp_all
@[simp] theorem coreAt_setThread_cycleOff (s : State) (t : ThreadRef) (v : Thread) (c : Nat) :
    (coreAt (setThread s t v) c).cycleOff = (coreAt s c).cycleOff := by
  unfold setThread; rw [coreAt_modCore]; split <;> simp_all
@[simp] theorem coreAt_setThread_srt (s : State) (t : ThreadRef) (v : Thread) (c : Nat) :
    (coreAt (setThread s t v) c).srt = (coreAt s c).srt := by
  unfold setThread; rw [coreAt_modCore]; split <;> simp_all
@[simp] theorem coreAt_setThread_wake (s : State) (t : ThreadRef) (v : Thread) (c : Nat) :
    (coreAt (setThread s t v) c).wake = (coreAt s c).wake := by
  unfold setThread; rw [coreAt_modCore]; split <;> simp_all
@[simp] theorem coreAt_setThread_serial (s : State) (t : ThreadRef) (v : Thread) (c : Nat) :
    (coreAt (setThread s t v) c).serial = (coreAt s c).serial := by
  unfold setThread; rw [coreAt_modCore]; split <;> simp_all
@[simp] theorem coreAt_setThread_rr (s : State) (t : ThreadRef) (v : Thread) (c : Nat) :
    (coreAt (setThread s t v) c).rr = (coreAt s c).rr := by
  unfold setThread; rw [coreAt_modCore]; split <;> simp_all
@[simp] theorem coreAt_setThread_mbox (s : State) (t : ThreadRef) (v : Thread) (c : Nat) :
    (coreAt (setThread s t v) c).mbox = (coreAt s c).mbox := by
  unfold setThread; rw [coreAt_modCore]; split <;> simp_all
@[simp] theorem coreAt_setThread_mfull (s : State) (t : ThreadRef) (v : Thread) (c : Nat) :
    (coreAt (setThread s t v) c).mfull = (coreAt s c).mfull := by
  unfold setThread; rw [coreAt_modCore]; split <;> simp_all
@[simp] theorem coreAt_setThread_mwait (s : State) (t : ThreadRef) (v : Thread) (c : Nat) :
    (coreAt (setThread s t v) c).mwait = (coreAt s c).mwait := by
  unfold setThread; rw [coreAt_modCore]; split <;> simp_all
@[simp] theorem coreAt_setThread_chain (s : State) (t : ThreadRef) (v : Thread) (c : Nat) :
    (coreAt (setThread s t v) c).chain = (coreAt s c).chain := by
  unfold setThread; rw [coreAt_modCore]; split <;> simp_all
@[simp] theorem coreAt_setThread_msgs (s : State) (t : ThreadRef) (v : Thread) (c : Nat) :
    (coreAt (setThread s t v) c).msgs = (coreAt s c).msgs := by
  unfold setThread; rw [coreAt_modCore]; split <;> simp_all
@[simp] theorem coreAt_setThread_ni (s : State) (t : ThreadRef) (v : Thread) (c : Nat) :
    (coreAt (setThread s t v) c).ni = (coreAt s c).ni := by
  unfold setThread; rw [coreAt_modCore]; split <;> simp_all
@[simp] theorem coreAt_setThread_inserted (s : State) (t : ThreadRef) (v : Thread) (c : Nat) :
    (coreAt (setThread s t v) c).inserted = (coreAt s c).inserted := by
  unfold setThread; rw [coreAt_modCore]; split <;> simp_all
@[simp] theorem coreAt_setThread_evq (s : State) (t : ThreadRef) (v : Thread) (c : Nat) :
    (coreAt (setThread s t v) c).evq = (coreAt s c).evq := by
  unfold setThread; rw [coreAt_modCore]; split <;> simp_all
@[simp] theorem coreAt_setThread_rq (s : State) (t : ThreadRef) (v : Thread) (c : Nat) :
    (coreAt (setThread s t v) c).rq = (coreAt s c).rq := by
  unfold setThread; rw [coreAt_modCore]; split <;> simp_all
@[simp] theorem coreAt_setThread_arrivals (s : State) (t : ThreadRef) (v : Thread) (c : Nat) :
    (coreAt (setThread s t v) c).arrivals = (coreAt s c).arrivals := by
  unfold setThread; rw [coreAt_modCore]; split <;> simp_all
@[simp] theorem coreAt_setThread_berths (s : State) (t : ThreadRef) (v : Thread) (c : Nat) :
    (coreAt (setThread s t v) c).berths = (coreAt s c).berths := by
  unfold setThread; rw [coreAt_modCore]; split <;> simp_all
@[simp] theorem coreAt_setThread_kernel (s : State) (t : ThreadRef) (v : Thread) (c : Nat) :
    (coreAt (setThread s t v) c).kernel = (coreAt s c).kernel := by
  unfold setThread; rw [coreAt_modCore]; split <;> simp_all
@[simp] theorem coreAt_setThread_bars (s : State) (t : ThreadRef) (v : Thread) (c : Nat) :
    (coreAt (setThread s t v) c).bars = (coreAt s c).bars := by
  unfold setThread; rw [coreAt_modCore]; split <;> simp_all
@[simp] theorem coreAt_setThread_tlb (s : State) (t : ThreadRef) (v : Thread) (c : Nat) :
    (coreAt (setThread s t v) c).tlb = (coreAt s c).tlb := by
  unfold setThread; rw [coreAt_modCore]; split <;> simp_all
@[simp] theorem coreAt_setThread_l1 (s : State) (t : ThreadRef) (v : Thread) (c : Nat) :
    (coreAt (setThread s t v) c).l1 = (coreAt s c).l1 := by
  unfold setThread; rw [coreAt_modCore]; split <;> simp_all
@[simp] theorem coreAt_setThread_banks (s : State) (t : ThreadRef) (v : Thread) (c : Nat) :
    (coreAt (setThread s t v) c).banks = (coreAt s c).banks := by
  unfold setThread; rw [coreAt_modCore]; split <;> simp_all
@[simp] theorem coreAt_setThread_tiles (s : State) (t : ThreadRef) (v : Thread) (c : Nat) :
    (coreAt (setThread s t v) c).tiles = (coreAt s c).tiles := by
  unfold setThread; rw [coreAt_modCore]; split <;> simp_all
@[simp] theorem coreAt_setThread_book (s : State) (t : ThreadRef) (v : Thread) (c : Nat) :
    (coreAt (setThread s t v) c).book = (coreAt s c).book := by
  unfold setThread; rw [coreAt_modCore]; split <;> simp_all
@[simp] theorem coreAt_setThread_bookLoad (s : State) (t : ThreadRef) (v : Thread) (c : Nat) :
    (coreAt (setThread s t v) c).bookLoad = (coreAt s c).bookLoad := by
  unfold setThread; rw [coreAt_modCore]; split <;> simp_all
@[simp] theorem coreAt_setThread_mq (s : State) (t : ThreadRef) (v : Thread) (c : Nat) :
    (coreAt (setThread s t v) c).mq = (coreAt s c).mq := by
  unfold setThread; rw [coreAt_modCore]; split <;> simp_all
@[simp] theorem coreAt_setThread_ldq (s : State) (t : ThreadRef) (v : Thread) (c : Nat) :
    (coreAt (setThread s t v) c).ldq = (coreAt s c).ldq := by
  unfold setThread; rw [coreAt_modCore]; split <;> simp_all
@[simp] theorem coreAt_setThread_stq (s : State) (t : ThreadRef) (v : Thread) (c : Nat) :
    (coreAt (setThread s t v) c).stq = (coreAt s c).stq := by
  unfold setThread; rw [coreAt_modCore]; split <;> simp_all
@[simp] theorem coreAt_setThread_cmds (s : State) (t : ThreadRef) (v : Thread) (c : Nat) :
    (coreAt (setThread s t v) c).cmds = (coreAt s c).cmds := by
  unfold setThread; rw [coreAt_modCore]; split <;> simp_all
@[simp] theorem coreAt_setThread_idle (s : State) (t : ThreadRef) (v : Thread) (c : Nat) :
    (coreAt (setThread s t v) c).idle = (coreAt s c).idle := by
  unfold setThread; rw [coreAt_modCore]; split <;> simp_all
@[simp] theorem coreAt_setThread_killed (s : State) (t : ThreadRef) (v : Thread) (c : Nat) :
    (coreAt (setThread s t v) c).killed = (coreAt s c).killed := by
  unfold setThread; rw [coreAt_modCore]; split <;> simp_all
@[simp] theorem coreAt_modThread_qntm (s : State) (t : ThreadRef) (f : Thread → Thread) (c : Nat) :
    (coreAt (modThread s t f) c).qntm = (coreAt s c).qntm := by
  unfold modThread; simp
@[simp] theorem coreAt_modThread_qexp (s : State) (t : ThreadRef) (f : Thread → Thread) (c : Nat) :
    (coreAt (modThread s t f) c).qexp = (coreAt s c).qexp := by
  unfold modThread; simp
@[simp] theorem coreAt_modThread_carveK (s : State) (t : ThreadRef) (f : Thread → Thread) (c : Nat) :
    (coreAt (modThread s t f) c).carveK = (coreAt s c).carveK := by
  unfold modThread; simp
@[simp] theorem coreAt_modThread_carveRef (s : State) (t : ThreadRef) (f : Thread → Thread) (c : Nat) :
    (coreAt (modThread s t f) c).carveRef = (coreAt s c).carveRef := by
  unfold modThread; simp
@[simp] theorem coreAt_modThread_carveBusy (s : State) (t : ThreadRef) (f : Thread → Thread) (c : Nat) :
    (coreAt (modThread s t f) c).carveBusy = (coreAt s c).carveBusy := by
  unfold modThread; simp
@[simp] theorem coreAt_modThread_carveWait (s : State) (t : ThreadRef) (f : Thread → Thread) (c : Nat) :
    (coreAt (modThread s t f) c).carveWait = (coreAt s c).carveWait := by
  unfold modThread; simp
@[simp] theorem coreAt_modThread_lease (s : State) (t : ThreadRef) (f : Thread → Thread) (c : Nat) :
    (coreAt (modThread s t f) c).lease = (coreAt s c).lease := by
  unfold modThread; simp
@[simp] theorem coreAt_modThread_seed (s : State) (t : ThreadRef) (f : Thread → Thread) (c : Nat) :
    (coreAt (modThread s t f) c).seed = (coreAt s c).seed := by
  unfold modThread; simp
@[simp] theorem coreAt_modThread_ctxid (s : State) (t : ThreadRef) (f : Thread → Thread) (c : Nat) :
    (coreAt (modThread s t f) c).ctxid = (coreAt s c).ctxid := by
  unfold modThread; simp
@[simp] theorem coreAt_modThread_cbtV (s : State) (t : ThreadRef) (f : Thread → Thread) (c : Nat) :
    (coreAt (modThread s t f) c).cbtV = (coreAt s c).cbtV := by
  unfold modThread; simp
@[simp] theorem coreAt_modThread_cbtOwner (s : State) (t : ThreadRef) (f : Thread → Thread) (c : Nat) :
    (coreAt (modThread s t f) c).cbtOwner = (coreAt s c).cbtOwner := by
  unfold modThread; simp
@[simp] theorem coreAt_modThread_tvec (s : State) (t : ThreadRef) (f : Thread → Thread) (c : Nat) :
    (coreAt (modThread s t f) c).tvec = (coreAt s c).tvec := by
  unfold modThread; simp
@[simp] theorem coreAt_modThread_evTarget (s : State) (t : ThreadRef) (f : Thread → Thread) (c : Nat) :
    (coreAt (modThread s t f) c).evTarget = (coreAt s c).evTarget := by
  unfold modThread; simp
@[simp] theorem coreAt_modThread_evWhy (s : State) (t : ThreadRef) (f : Thread → Thread) (c : Nat) :
    (coreAt (modThread s t f) c).evWhy = (coreAt s c).evWhy := by
  unfold modThread; simp
@[simp] theorem coreAt_modThread_evSt (s : State) (t : ThreadRef) (f : Thread → Thread) (c : Nat) :
    (coreAt (modThread s t f) c).evSt = (coreAt s c).evSt := by
  unfold modThread; simp
@[simp] theorem coreAt_modThread_fwdV (s : State) (t : ThreadRef) (f : Thread → Thread) (c : Nat) :
    (coreAt (modThread s t f) c).fwdV = (coreAt s c).fwdV := by
  unfold modThread; simp
@[simp] theorem coreAt_modThread_fwdTarget (s : State) (t : ThreadRef) (f : Thread → Thread) (c : Nat) :
    (coreAt (modThread s t f) c).fwdTarget = (coreAt s c).fwdTarget := by
  unfold modThread; simp
@[simp] theorem coreAt_modThread_cycleOff (s : State) (t : ThreadRef) (f : Thread → Thread) (c : Nat) :
    (coreAt (modThread s t f) c).cycleOff = (coreAt s c).cycleOff := by
  unfold modThread; simp
@[simp] theorem coreAt_modThread_srt (s : State) (t : ThreadRef) (f : Thread → Thread) (c : Nat) :
    (coreAt (modThread s t f) c).srt = (coreAt s c).srt := by
  unfold modThread; simp
@[simp] theorem coreAt_modThread_wake (s : State) (t : ThreadRef) (f : Thread → Thread) (c : Nat) :
    (coreAt (modThread s t f) c).wake = (coreAt s c).wake := by
  unfold modThread; simp
@[simp] theorem coreAt_modThread_serial (s : State) (t : ThreadRef) (f : Thread → Thread) (c : Nat) :
    (coreAt (modThread s t f) c).serial = (coreAt s c).serial := by
  unfold modThread; simp
@[simp] theorem coreAt_modThread_rr (s : State) (t : ThreadRef) (f : Thread → Thread) (c : Nat) :
    (coreAt (modThread s t f) c).rr = (coreAt s c).rr := by
  unfold modThread; simp
@[simp] theorem coreAt_modThread_mbox (s : State) (t : ThreadRef) (f : Thread → Thread) (c : Nat) :
    (coreAt (modThread s t f) c).mbox = (coreAt s c).mbox := by
  unfold modThread; simp
@[simp] theorem coreAt_modThread_mfull (s : State) (t : ThreadRef) (f : Thread → Thread) (c : Nat) :
    (coreAt (modThread s t f) c).mfull = (coreAt s c).mfull := by
  unfold modThread; simp
@[simp] theorem coreAt_modThread_mwait (s : State) (t : ThreadRef) (f : Thread → Thread) (c : Nat) :
    (coreAt (modThread s t f) c).mwait = (coreAt s c).mwait := by
  unfold modThread; simp
@[simp] theorem coreAt_modThread_chain (s : State) (t : ThreadRef) (f : Thread → Thread) (c : Nat) :
    (coreAt (modThread s t f) c).chain = (coreAt s c).chain := by
  unfold modThread; simp
@[simp] theorem coreAt_modThread_msgs (s : State) (t : ThreadRef) (f : Thread → Thread) (c : Nat) :
    (coreAt (modThread s t f) c).msgs = (coreAt s c).msgs := by
  unfold modThread; simp
@[simp] theorem coreAt_modThread_ni (s : State) (t : ThreadRef) (f : Thread → Thread) (c : Nat) :
    (coreAt (modThread s t f) c).ni = (coreAt s c).ni := by
  unfold modThread; simp
@[simp] theorem coreAt_modThread_inserted (s : State) (t : ThreadRef) (f : Thread → Thread) (c : Nat) :
    (coreAt (modThread s t f) c).inserted = (coreAt s c).inserted := by
  unfold modThread; simp
@[simp] theorem coreAt_modThread_evq (s : State) (t : ThreadRef) (f : Thread → Thread) (c : Nat) :
    (coreAt (modThread s t f) c).evq = (coreAt s c).evq := by
  unfold modThread; simp
@[simp] theorem coreAt_modThread_rq (s : State) (t : ThreadRef) (f : Thread → Thread) (c : Nat) :
    (coreAt (modThread s t f) c).rq = (coreAt s c).rq := by
  unfold modThread; simp
@[simp] theorem coreAt_modThread_arrivals (s : State) (t : ThreadRef) (f : Thread → Thread) (c : Nat) :
    (coreAt (modThread s t f) c).arrivals = (coreAt s c).arrivals := by
  unfold modThread; simp
@[simp] theorem coreAt_modThread_berths (s : State) (t : ThreadRef) (f : Thread → Thread) (c : Nat) :
    (coreAt (modThread s t f) c).berths = (coreAt s c).berths := by
  unfold modThread; simp
@[simp] theorem coreAt_modThread_kernel (s : State) (t : ThreadRef) (f : Thread → Thread) (c : Nat) :
    (coreAt (modThread s t f) c).kernel = (coreAt s c).kernel := by
  unfold modThread; simp
@[simp] theorem coreAt_modThread_bars (s : State) (t : ThreadRef) (f : Thread → Thread) (c : Nat) :
    (coreAt (modThread s t f) c).bars = (coreAt s c).bars := by
  unfold modThread; simp
@[simp] theorem coreAt_modThread_tlb (s : State) (t : ThreadRef) (f : Thread → Thread) (c : Nat) :
    (coreAt (modThread s t f) c).tlb = (coreAt s c).tlb := by
  unfold modThread; simp
@[simp] theorem coreAt_modThread_l1 (s : State) (t : ThreadRef) (f : Thread → Thread) (c : Nat) :
    (coreAt (modThread s t f) c).l1 = (coreAt s c).l1 := by
  unfold modThread; simp
@[simp] theorem coreAt_modThread_banks (s : State) (t : ThreadRef) (f : Thread → Thread) (c : Nat) :
    (coreAt (modThread s t f) c).banks = (coreAt s c).banks := by
  unfold modThread; simp
@[simp] theorem coreAt_modThread_tiles (s : State) (t : ThreadRef) (f : Thread → Thread) (c : Nat) :
    (coreAt (modThread s t f) c).tiles = (coreAt s c).tiles := by
  unfold modThread; simp
@[simp] theorem coreAt_modThread_book (s : State) (t : ThreadRef) (f : Thread → Thread) (c : Nat) :
    (coreAt (modThread s t f) c).book = (coreAt s c).book := by
  unfold modThread; simp
@[simp] theorem coreAt_modThread_bookLoad (s : State) (t : ThreadRef) (f : Thread → Thread) (c : Nat) :
    (coreAt (modThread s t f) c).bookLoad = (coreAt s c).bookLoad := by
  unfold modThread; simp
@[simp] theorem coreAt_modThread_mq (s : State) (t : ThreadRef) (f : Thread → Thread) (c : Nat) :
    (coreAt (modThread s t f) c).mq = (coreAt s c).mq := by
  unfold modThread; simp
@[simp] theorem coreAt_modThread_ldq (s : State) (t : ThreadRef) (f : Thread → Thread) (c : Nat) :
    (coreAt (modThread s t f) c).ldq = (coreAt s c).ldq := by
  unfold modThread; simp
@[simp] theorem coreAt_modThread_stq (s : State) (t : ThreadRef) (f : Thread → Thread) (c : Nat) :
    (coreAt (modThread s t f) c).stq = (coreAt s c).stq := by
  unfold modThread; simp
@[simp] theorem coreAt_modThread_cmds (s : State) (t : ThreadRef) (f : Thread → Thread) (c : Nat) :
    (coreAt (modThread s t f) c).cmds = (coreAt s c).cmds := by
  unfold modThread; simp
@[simp] theorem coreAt_modThread_idle (s : State) (t : ThreadRef) (f : Thread → Thread) (c : Nat) :
    (coreAt (modThread s t f) c).idle = (coreAt s c).idle := by
  unfold modThread; simp
@[simp] theorem coreAt_modThread_killed (s : State) (t : ThreadRef) (f : Thread → Thread) (c : Nat) :
    (coreAt (modThread s t f) c).killed = (coreAt s c).killed := by
  unfold modThread; simp
@[simp] theorem coreAt_modMe_qntm (s : State) (f : Thread → Thread) (c : Nat) :
    (coreAt (modMe s f) c).qntm = (coreAt s c).qntm := by
  unfold modMe; simp
@[simp] theorem coreAt_modMe_qexp (s : State) (f : Thread → Thread) (c : Nat) :
    (coreAt (modMe s f) c).qexp = (coreAt s c).qexp := by
  unfold modMe; simp
@[simp] theorem coreAt_modMe_carveK (s : State) (f : Thread → Thread) (c : Nat) :
    (coreAt (modMe s f) c).carveK = (coreAt s c).carveK := by
  unfold modMe; simp
@[simp] theorem coreAt_modMe_carveRef (s : State) (f : Thread → Thread) (c : Nat) :
    (coreAt (modMe s f) c).carveRef = (coreAt s c).carveRef := by
  unfold modMe; simp
@[simp] theorem coreAt_modMe_carveBusy (s : State) (f : Thread → Thread) (c : Nat) :
    (coreAt (modMe s f) c).carveBusy = (coreAt s c).carveBusy := by
  unfold modMe; simp
@[simp] theorem coreAt_modMe_carveWait (s : State) (f : Thread → Thread) (c : Nat) :
    (coreAt (modMe s f) c).carveWait = (coreAt s c).carveWait := by
  unfold modMe; simp
@[simp] theorem coreAt_modMe_lease (s : State) (f : Thread → Thread) (c : Nat) :
    (coreAt (modMe s f) c).lease = (coreAt s c).lease := by
  unfold modMe; simp
@[simp] theorem coreAt_modMe_seed (s : State) (f : Thread → Thread) (c : Nat) :
    (coreAt (modMe s f) c).seed = (coreAt s c).seed := by
  unfold modMe; simp
@[simp] theorem coreAt_modMe_ctxid (s : State) (f : Thread → Thread) (c : Nat) :
    (coreAt (modMe s f) c).ctxid = (coreAt s c).ctxid := by
  unfold modMe; simp
@[simp] theorem coreAt_modMe_cbtV (s : State) (f : Thread → Thread) (c : Nat) :
    (coreAt (modMe s f) c).cbtV = (coreAt s c).cbtV := by
  unfold modMe; simp
@[simp] theorem coreAt_modMe_cbtOwner (s : State) (f : Thread → Thread) (c : Nat) :
    (coreAt (modMe s f) c).cbtOwner = (coreAt s c).cbtOwner := by
  unfold modMe; simp
@[simp] theorem coreAt_modMe_tvec (s : State) (f : Thread → Thread) (c : Nat) :
    (coreAt (modMe s f) c).tvec = (coreAt s c).tvec := by
  unfold modMe; simp
@[simp] theorem coreAt_modMe_evTarget (s : State) (f : Thread → Thread) (c : Nat) :
    (coreAt (modMe s f) c).evTarget = (coreAt s c).evTarget := by
  unfold modMe; simp
@[simp] theorem coreAt_modMe_evWhy (s : State) (f : Thread → Thread) (c : Nat) :
    (coreAt (modMe s f) c).evWhy = (coreAt s c).evWhy := by
  unfold modMe; simp
@[simp] theorem coreAt_modMe_evSt (s : State) (f : Thread → Thread) (c : Nat) :
    (coreAt (modMe s f) c).evSt = (coreAt s c).evSt := by
  unfold modMe; simp
@[simp] theorem coreAt_modMe_fwdV (s : State) (f : Thread → Thread) (c : Nat) :
    (coreAt (modMe s f) c).fwdV = (coreAt s c).fwdV := by
  unfold modMe; simp
@[simp] theorem coreAt_modMe_fwdTarget (s : State) (f : Thread → Thread) (c : Nat) :
    (coreAt (modMe s f) c).fwdTarget = (coreAt s c).fwdTarget := by
  unfold modMe; simp
@[simp] theorem coreAt_modMe_cycleOff (s : State) (f : Thread → Thread) (c : Nat) :
    (coreAt (modMe s f) c).cycleOff = (coreAt s c).cycleOff := by
  unfold modMe; simp
@[simp] theorem coreAt_modMe_srt (s : State) (f : Thread → Thread) (c : Nat) :
    (coreAt (modMe s f) c).srt = (coreAt s c).srt := by
  unfold modMe; simp
@[simp] theorem coreAt_modMe_wake (s : State) (f : Thread → Thread) (c : Nat) :
    (coreAt (modMe s f) c).wake = (coreAt s c).wake := by
  unfold modMe; simp
@[simp] theorem coreAt_modMe_serial (s : State) (f : Thread → Thread) (c : Nat) :
    (coreAt (modMe s f) c).serial = (coreAt s c).serial := by
  unfold modMe; simp
@[simp] theorem coreAt_modMe_rr (s : State) (f : Thread → Thread) (c : Nat) :
    (coreAt (modMe s f) c).rr = (coreAt s c).rr := by
  unfold modMe; simp
@[simp] theorem coreAt_modMe_mbox (s : State) (f : Thread → Thread) (c : Nat) :
    (coreAt (modMe s f) c).mbox = (coreAt s c).mbox := by
  unfold modMe; simp
@[simp] theorem coreAt_modMe_mfull (s : State) (f : Thread → Thread) (c : Nat) :
    (coreAt (modMe s f) c).mfull = (coreAt s c).mfull := by
  unfold modMe; simp
@[simp] theorem coreAt_modMe_mwait (s : State) (f : Thread → Thread) (c : Nat) :
    (coreAt (modMe s f) c).mwait = (coreAt s c).mwait := by
  unfold modMe; simp
@[simp] theorem coreAt_modMe_chain (s : State) (f : Thread → Thread) (c : Nat) :
    (coreAt (modMe s f) c).chain = (coreAt s c).chain := by
  unfold modMe; simp
@[simp] theorem coreAt_modMe_msgs (s : State) (f : Thread → Thread) (c : Nat) :
    (coreAt (modMe s f) c).msgs = (coreAt s c).msgs := by
  unfold modMe; simp
@[simp] theorem coreAt_modMe_ni (s : State) (f : Thread → Thread) (c : Nat) :
    (coreAt (modMe s f) c).ni = (coreAt s c).ni := by
  unfold modMe; simp
@[simp] theorem coreAt_modMe_inserted (s : State) (f : Thread → Thread) (c : Nat) :
    (coreAt (modMe s f) c).inserted = (coreAt s c).inserted := by
  unfold modMe; simp
@[simp] theorem coreAt_modMe_evq (s : State) (f : Thread → Thread) (c : Nat) :
    (coreAt (modMe s f) c).evq = (coreAt s c).evq := by
  unfold modMe; simp
@[simp] theorem coreAt_modMe_rq (s : State) (f : Thread → Thread) (c : Nat) :
    (coreAt (modMe s f) c).rq = (coreAt s c).rq := by
  unfold modMe; simp
@[simp] theorem coreAt_modMe_arrivals (s : State) (f : Thread → Thread) (c : Nat) :
    (coreAt (modMe s f) c).arrivals = (coreAt s c).arrivals := by
  unfold modMe; simp
@[simp] theorem coreAt_modMe_berths (s : State) (f : Thread → Thread) (c : Nat) :
    (coreAt (modMe s f) c).berths = (coreAt s c).berths := by
  unfold modMe; simp
@[simp] theorem coreAt_modMe_kernel (s : State) (f : Thread → Thread) (c : Nat) :
    (coreAt (modMe s f) c).kernel = (coreAt s c).kernel := by
  unfold modMe; simp
@[simp] theorem coreAt_modMe_bars (s : State) (f : Thread → Thread) (c : Nat) :
    (coreAt (modMe s f) c).bars = (coreAt s c).bars := by
  unfold modMe; simp
@[simp] theorem coreAt_modMe_tlb (s : State) (f : Thread → Thread) (c : Nat) :
    (coreAt (modMe s f) c).tlb = (coreAt s c).tlb := by
  unfold modMe; simp
@[simp] theorem coreAt_modMe_l1 (s : State) (f : Thread → Thread) (c : Nat) :
    (coreAt (modMe s f) c).l1 = (coreAt s c).l1 := by
  unfold modMe; simp
@[simp] theorem coreAt_modMe_banks (s : State) (f : Thread → Thread) (c : Nat) :
    (coreAt (modMe s f) c).banks = (coreAt s c).banks := by
  unfold modMe; simp
@[simp] theorem coreAt_modMe_tiles (s : State) (f : Thread → Thread) (c : Nat) :
    (coreAt (modMe s f) c).tiles = (coreAt s c).tiles := by
  unfold modMe; simp
@[simp] theorem coreAt_modMe_book (s : State) (f : Thread → Thread) (c : Nat) :
    (coreAt (modMe s f) c).book = (coreAt s c).book := by
  unfold modMe; simp
@[simp] theorem coreAt_modMe_bookLoad (s : State) (f : Thread → Thread) (c : Nat) :
    (coreAt (modMe s f) c).bookLoad = (coreAt s c).bookLoad := by
  unfold modMe; simp
@[simp] theorem coreAt_modMe_mq (s : State) (f : Thread → Thread) (c : Nat) :
    (coreAt (modMe s f) c).mq = (coreAt s c).mq := by
  unfold modMe; simp
@[simp] theorem coreAt_modMe_ldq (s : State) (f : Thread → Thread) (c : Nat) :
    (coreAt (modMe s f) c).ldq = (coreAt s c).ldq := by
  unfold modMe; simp
@[simp] theorem coreAt_modMe_stq (s : State) (f : Thread → Thread) (c : Nat) :
    (coreAt (modMe s f) c).stq = (coreAt s c).stq := by
  unfold modMe; simp
@[simp] theorem coreAt_modMe_cmds (s : State) (f : Thread → Thread) (c : Nat) :
    (coreAt (modMe s f) c).cmds = (coreAt s c).cmds := by
  unfold modMe; simp
@[simp] theorem coreAt_modMe_idle (s : State) (f : Thread → Thread) (c : Nat) :
    (coreAt (modMe s f) c).idle = (coreAt s c).idle := by
  unfold modMe; simp
@[simp] theorem coreAt_modMe_killed (s : State) (f : Thread → Thread) (c : Nat) :
    (coreAt (modMe s f) c).killed = (coreAt s c).killed := by
  unfold modMe; simp

/-! ### Registers of a thread -/


@[simp] theorem wrG_run (th : Thread) (r : Nat) (v : Word) : (wrG th r v).run = th.run := by unfold wrG; split <;> rfl
@[simp] theorem wrG_susp (th : Thread) (r : Nat) (v : Word) : (wrG th r v).susp = th.susp := by unfold wrG; split <;> rfl
@[simp] theorem wrG_froz (th : Thread) (r : Nat) (v : Word) : (wrG th r v).froz = th.froz := by unfold wrG; split <;> rfl
@[simp] theorem wrG_pc (th : Thread) (r : Nat) (v : Word) : (wrG th r v).pc = th.pc := by unfold wrG; split <;> rfl
@[simp] theorem wrG_pw (th : Thread) (r : Nat) (v : Word) : (wrG th r v).pw = th.pw := by unfold wrG; split <;> rfl
@[simp] theorem wrG_ss (th : Thread) (r : Nat) (v : Word) : (wrG th r v).ss = th.ss := by unfold wrG; split <;> rfl
@[simp] theorem wrG_v (th : Thread) (r : Nat) (v : Word) : (wrG th r v).v = th.v := by unfold wrG; split <;> rfl
@[simp] theorem wrG_desc (th : Thread) (r : Nat) (v : Word) : (wrG th r v).desc = th.desc := by unfold wrG; split <;> rfl
@[simp] theorem wrG_gid (th : Thread) (r : Nat) (v : Word) : (wrG th r v).gid = th.gid := by unfold wrG; split <;> rfl
@[simp] theorem wrG_rid (th : Thread) (r : Nat) (v : Word) : (wrG th r v).rid = th.rid := by unfold wrG; split <;> rfl
@[simp] theorem wrG_vsave (th : Thread) (r : Nat) (v : Word) : (wrG th r v).vsave = th.vsave := by unfold wrG; split <;> rfl
@[simp] theorem wrG_asave (th : Thread) (r : Nat) (v : Word) : (wrG th r v).asave = th.asave := by unfold wrG; split <;> rfl
@[simp] theorem wrG_outs (th : Thread) (r : Nat) (v : Word) : (wrG th r v).outs = th.outs := by unfold wrG; split <;> rfl
@[simp] theorem wrG_sack (th : Thread) (r : Nat) (v : Word) : (wrG th r v).sack = th.sack := by unfold wrG; split <;> rfl
@[simp] theorem wrG_wbs (th : Thread) (r : Nat) (v : Word) : (wrG th r v).wbs = th.wbs := by unfold wrG; split <;> rfl
@[simp] theorem wrG_dlines (th : Thread) (r : Nat) (v : Word) : (wrG th r v).dlines = th.dlines := by unfold wrG; split <;> rfl
@[simp] theorem wrG_mx (th : Thread) (r : Nat) (v : Word) : (wrG th r v).mx = th.mx := by unfold wrG; split <;> rfl
@[simp] theorem wrG_regs (th : Thread) (r : Nat) (v : Word) : (wrG th r v).regs = th.regs := by unfold wrG; split <;> rfl
@[simp] theorem wrG_fault (th : Thread) (r : Nat) (v : Word) : (wrG th r v).fault = th.fault := by unfold wrG; split <;> rfl
@[simp] theorem wrG_port (th : Thread) (r : Nat) (v : Word) : (wrG th r v).port = th.port := by unfold wrG; split <;> rfl
@[simp] theorem wrG_prog (th : Thread) (r : Nat) (v : Word) : (wrG th r v).prog = th.prog := by unfold wrG; split <;> rfl
@[simp] theorem wrG_popped (th : Thread) (r : Nat) (v : Word) : (wrG th r v).popped = th.popped := by unfold wrG; split <;> rfl
@[simp] theorem wrG_claim (th : Thread) (r : Nat) (v : Word) : (wrG th r v).claim = th.claim := by unfold wrG; split <;> rfl
@[simp] theorem wrG_arrival (th : Thread) (r : Nat) (v : Word) : (wrG th r v).arrival = th.arrival := by unfold wrG; split <;> rfl
@[simp] theorem wrG_group (th : Thread) (r : Nat) (v : Word) : (wrG th r v).group = th.group := by unfold wrG; split <;> rfl
@[simp] theorem wrG_index (th : Thread) (r : Nat) (v : Word) : (wrG th r v).index = th.index := by unfold wrG; split <;> rfl
@[simp] theorem wrG_trig (th : Thread) (r : Nat) (v : Word) : (wrG th r v).trig = th.trig := by unfold wrG; split <;> rfl
@[simp] theorem wrG_suspReq (th : Thread) (r : Nat) (v : Word) : (wrG th r v).suspReq = th.suspReq := by unfold wrG; split <;> rfl
@[simp] theorem wrG_stuck (th : Thread) (r : Nat) (v : Word) : (wrG th r v).stuck = th.stuck := by unfold wrG; split <;> rfl
@[simp] theorem wrG_back (th : Thread) (r : Nat) (v : Word) : (wrG th r v).back = th.back := by unfold wrG; split <;> rfl

@[simp] theorem wrV_run (th : Thread) (r : Nat) (v : Line) : (wrV th r v).run = th.run := rfl
@[simp] theorem wrV_susp (th : Thread) (r : Nat) (v : Line) : (wrV th r v).susp = th.susp := rfl
@[simp] theorem wrV_froz (th : Thread) (r : Nat) (v : Line) : (wrV th r v).froz = th.froz := rfl
@[simp] theorem wrV_pc (th : Thread) (r : Nat) (v : Line) : (wrV th r v).pc = th.pc := rfl
@[simp] theorem wrV_pw (th : Thread) (r : Nat) (v : Line) : (wrV th r v).pw = th.pw := rfl
@[simp] theorem wrV_ss (th : Thread) (r : Nat) (v : Line) : (wrV th r v).ss = th.ss := rfl
@[simp] theorem wrV_g (th : Thread) (r : Nat) (v : Line) : (wrV th r v).g = th.g := rfl
@[simp] theorem wrV_desc (th : Thread) (r : Nat) (v : Line) : (wrV th r v).desc = th.desc := rfl
@[simp] theorem wrV_gid (th : Thread) (r : Nat) (v : Line) : (wrV th r v).gid = th.gid := rfl
@[simp] theorem wrV_rid (th : Thread) (r : Nat) (v : Line) : (wrV th r v).rid = th.rid := rfl
@[simp] theorem wrV_vsave (th : Thread) (r : Nat) (v : Line) : (wrV th r v).vsave = th.vsave := rfl
@[simp] theorem wrV_asave (th : Thread) (r : Nat) (v : Line) : (wrV th r v).asave = th.asave := rfl
@[simp] theorem wrV_outs (th : Thread) (r : Nat) (v : Line) : (wrV th r v).outs = th.outs := rfl
@[simp] theorem wrV_sack (th : Thread) (r : Nat) (v : Line) : (wrV th r v).sack = th.sack := rfl
@[simp] theorem wrV_wbs (th : Thread) (r : Nat) (v : Line) : (wrV th r v).wbs = th.wbs := rfl
@[simp] theorem wrV_dlines (th : Thread) (r : Nat) (v : Line) : (wrV th r v).dlines = th.dlines := rfl
@[simp] theorem wrV_mx (th : Thread) (r : Nat) (v : Line) : (wrV th r v).mx = th.mx := rfl
@[simp] theorem wrV_regs (th : Thread) (r : Nat) (v : Line) : (wrV th r v).regs = th.regs := rfl
@[simp] theorem wrV_fault (th : Thread) (r : Nat) (v : Line) : (wrV th r v).fault = th.fault := rfl
@[simp] theorem wrV_port (th : Thread) (r : Nat) (v : Line) : (wrV th r v).port = th.port := rfl
@[simp] theorem wrV_prog (th : Thread) (r : Nat) (v : Line) : (wrV th r v).prog = th.prog := rfl
@[simp] theorem wrV_popped (th : Thread) (r : Nat) (v : Line) : (wrV th r v).popped = th.popped := rfl
@[simp] theorem wrV_claim (th : Thread) (r : Nat) (v : Line) : (wrV th r v).claim = th.claim := rfl
@[simp] theorem wrV_arrival (th : Thread) (r : Nat) (v : Line) : (wrV th r v).arrival = th.arrival := rfl
@[simp] theorem wrV_group (th : Thread) (r : Nat) (v : Line) : (wrV th r v).group = th.group := rfl
@[simp] theorem wrV_index (th : Thread) (r : Nat) (v : Line) : (wrV th r v).index = th.index := rfl
@[simp] theorem wrV_trig (th : Thread) (r : Nat) (v : Line) : (wrV th r v).trig = th.trig := rfl
@[simp] theorem wrV_suspReq (th : Thread) (r : Nat) (v : Line) : (wrV th r v).suspReq = th.suspReq := rfl
@[simp] theorem wrV_stuck (th : Thread) (r : Nat) (v : Line) : (wrV th r v).stuck = th.stuck := rfl
@[simp] theorem wrV_back (th : Thread) (r : Nat) (v : Line) : (wrV th r v).back = th.back := rfl

@[simp] theorem wrQ_run (th : Thread) (i : Nat) (b : Bool) : (wrQ th i b).run = th.run := rfl
@[simp] theorem wrQ_susp (th : Thread) (i : Nat) (b : Bool) : (wrQ th i b).susp = th.susp := rfl
@[simp] theorem wrQ_froz (th : Thread) (i : Nat) (b : Bool) : (wrQ th i b).froz = th.froz := rfl
@[simp] theorem wrQ_pc (th : Thread) (i : Nat) (b : Bool) : (wrQ th i b).pc = th.pc := rfl
@[simp] theorem wrQ_ss (th : Thread) (i : Nat) (b : Bool) : (wrQ th i b).ss = th.ss := rfl
@[simp] theorem wrQ_g (th : Thread) (i : Nat) (b : Bool) : (wrQ th i b).g = th.g := rfl
@[simp] theorem wrQ_v (th : Thread) (i : Nat) (b : Bool) : (wrQ th i b).v = th.v := rfl
@[simp] theorem wrQ_desc (th : Thread) (i : Nat) (b : Bool) : (wrQ th i b).desc = th.desc := rfl
@[simp] theorem wrQ_gid (th : Thread) (i : Nat) (b : Bool) : (wrQ th i b).gid = th.gid := rfl
@[simp] theorem wrQ_rid (th : Thread) (i : Nat) (b : Bool) : (wrQ th i b).rid = th.rid := rfl
@[simp] theorem wrQ_vsave (th : Thread) (i : Nat) (b : Bool) : (wrQ th i b).vsave = th.vsave := rfl
@[simp] theorem wrQ_asave (th : Thread) (i : Nat) (b : Bool) : (wrQ th i b).asave = th.asave := rfl
@[simp] theorem wrQ_outs (th : Thread) (i : Nat) (b : Bool) : (wrQ th i b).outs = th.outs := rfl
@[simp] theorem wrQ_sack (th : Thread) (i : Nat) (b : Bool) : (wrQ th i b).sack = th.sack := rfl
@[simp] theorem wrQ_wbs (th : Thread) (i : Nat) (b : Bool) : (wrQ th i b).wbs = th.wbs := rfl
@[simp] theorem wrQ_dlines (th : Thread) (i : Nat) (b : Bool) : (wrQ th i b).dlines = th.dlines := rfl
@[simp] theorem wrQ_mx (th : Thread) (i : Nat) (b : Bool) : (wrQ th i b).mx = th.mx := rfl
@[simp] theorem wrQ_regs (th : Thread) (i : Nat) (b : Bool) : (wrQ th i b).regs = th.regs := rfl
@[simp] theorem wrQ_fault (th : Thread) (i : Nat) (b : Bool) : (wrQ th i b).fault = th.fault := rfl
@[simp] theorem wrQ_port (th : Thread) (i : Nat) (b : Bool) : (wrQ th i b).port = th.port := rfl
@[simp] theorem wrQ_prog (th : Thread) (i : Nat) (b : Bool) : (wrQ th i b).prog = th.prog := rfl
@[simp] theorem wrQ_popped (th : Thread) (i : Nat) (b : Bool) : (wrQ th i b).popped = th.popped := rfl
@[simp] theorem wrQ_claim (th : Thread) (i : Nat) (b : Bool) : (wrQ th i b).claim = th.claim := rfl
@[simp] theorem wrQ_arrival (th : Thread) (i : Nat) (b : Bool) : (wrQ th i b).arrival = th.arrival := rfl
@[simp] theorem wrQ_group (th : Thread) (i : Nat) (b : Bool) : (wrQ th i b).group = th.group := rfl
@[simp] theorem wrQ_index (th : Thread) (i : Nat) (b : Bool) : (wrQ th i b).index = th.index := rfl
@[simp] theorem wrQ_trig (th : Thread) (i : Nat) (b : Bool) : (wrQ th i b).trig = th.trig := rfl
@[simp] theorem wrQ_suspReq (th : Thread) (i : Nat) (b : Bool) : (wrQ th i b).suspReq = th.suspReq := rfl
@[simp] theorem wrQ_stuck (th : Thread) (i : Nat) (b : Bool) : (wrQ th i b).stuck = th.stuck := rfl
@[simp] theorem wrQ_back (th : Thread) (i : Nat) (b : Bool) : (wrQ th i b).back = th.back := rfl

@[simp] theorem orFlags_run (th : Thread) (f : BitVec 5) : (orFlags th f).run = th.run := rfl
@[simp] theorem orFlags_susp (th : Thread) (f : BitVec 5) : (orFlags th f).susp = th.susp := rfl
@[simp] theorem orFlags_froz (th : Thread) (f : BitVec 5) : (orFlags th f).froz = th.froz := rfl
@[simp] theorem orFlags_pc (th : Thread) (f : BitVec 5) : (orFlags th f).pc = th.pc := rfl
@[simp] theorem orFlags_pw (th : Thread) (f : BitVec 5) : (orFlags th f).pw = th.pw := rfl
@[simp] theorem orFlags_g (th : Thread) (f : BitVec 5) : (orFlags th f).g = th.g := rfl
@[simp] theorem orFlags_v (th : Thread) (f : BitVec 5) : (orFlags th f).v = th.v := rfl
@[simp] theorem orFlags_desc (th : Thread) (f : BitVec 5) : (orFlags th f).desc = th.desc := rfl
@[simp] theorem orFlags_gid (th : Thread) (f : BitVec 5) : (orFlags th f).gid = th.gid := rfl
@[simp] theorem orFlags_rid (th : Thread) (f : BitVec 5) : (orFlags th f).rid = th.rid := rfl
@[simp] theorem orFlags_vsave (th : Thread) (f : BitVec 5) : (orFlags th f).vsave = th.vsave := rfl
@[simp] theorem orFlags_asave (th : Thread) (f : BitVec 5) : (orFlags th f).asave = th.asave := rfl
@[simp] theorem orFlags_outs (th : Thread) (f : BitVec 5) : (orFlags th f).outs = th.outs := rfl
@[simp] theorem orFlags_sack (th : Thread) (f : BitVec 5) : (orFlags th f).sack = th.sack := rfl
@[simp] theorem orFlags_wbs (th : Thread) (f : BitVec 5) : (orFlags th f).wbs = th.wbs := rfl
@[simp] theorem orFlags_dlines (th : Thread) (f : BitVec 5) : (orFlags th f).dlines = th.dlines := rfl
@[simp] theorem orFlags_mx (th : Thread) (f : BitVec 5) : (orFlags th f).mx = th.mx := rfl
@[simp] theorem orFlags_regs (th : Thread) (f : BitVec 5) : (orFlags th f).regs = th.regs := rfl
@[simp] theorem orFlags_fault (th : Thread) (f : BitVec 5) : (orFlags th f).fault = th.fault := rfl
@[simp] theorem orFlags_port (th : Thread) (f : BitVec 5) : (orFlags th f).port = th.port := rfl
@[simp] theorem orFlags_prog (th : Thread) (f : BitVec 5) : (orFlags th f).prog = th.prog := rfl
@[simp] theorem orFlags_popped (th : Thread) (f : BitVec 5) : (orFlags th f).popped = th.popped := rfl
@[simp] theorem orFlags_claim (th : Thread) (f : BitVec 5) : (orFlags th f).claim = th.claim := rfl
@[simp] theorem orFlags_arrival (th : Thread) (f : BitVec 5) : (orFlags th f).arrival = th.arrival := rfl
@[simp] theorem orFlags_group (th : Thread) (f : BitVec 5) : (orFlags th f).group = th.group := rfl
@[simp] theorem orFlags_index (th : Thread) (f : BitVec 5) : (orFlags th f).index = th.index := rfl
@[simp] theorem orFlags_trig (th : Thread) (f : BitVec 5) : (orFlags th f).trig = th.trig := rfl
@[simp] theorem orFlags_suspReq (th : Thread) (f : BitVec 5) : (orFlags th f).suspReq = th.suspReq := rfl
@[simp] theorem orFlags_stuck (th : Thread) (f : BitVec 5) : (orFlags th f).stuck = th.stuck := rfl
@[simp] theorem orFlags_back (th : Thread) (f : BitVec 5) : (orFlags th f).back = th.back := rfl

@[simp] theorem commitBst_run (th : Thread) (st : BitVec 3) : (commitBst th st).run = th.run := by rw [commitBst, wrQ_run]
@[simp] theorem commitBst_susp (th : Thread) (st : BitVec 3) : (commitBst th st).susp = th.susp := by rw [commitBst, wrQ_susp]
@[simp] theorem commitBst_froz (th : Thread) (st : BitVec 3) : (commitBst th st).froz = th.froz := by rw [commitBst, wrQ_froz]
@[simp] theorem commitBst_pc (th : Thread) (st : BitVec 3) : (commitBst th st).pc = th.pc := by rw [commitBst, wrQ_pc]
@[simp] theorem commitBst_g (th : Thread) (st : BitVec 3) : (commitBst th st).g = th.g := by rw [commitBst, wrQ_g]
@[simp] theorem commitBst_v (th : Thread) (st : BitVec 3) : (commitBst th st).v = th.v := by rw [commitBst, wrQ_v]
@[simp] theorem commitBst_desc (th : Thread) (st : BitVec 3) : (commitBst th st).desc = th.desc := by rw [commitBst, wrQ_desc]
@[simp] theorem commitBst_gid (th : Thread) (st : BitVec 3) : (commitBst th st).gid = th.gid := by rw [commitBst, wrQ_gid]
@[simp] theorem commitBst_rid (th : Thread) (st : BitVec 3) : (commitBst th st).rid = th.rid := by rw [commitBst, wrQ_rid]
@[simp] theorem commitBst_vsave (th : Thread) (st : BitVec 3) : (commitBst th st).vsave = th.vsave := by rw [commitBst, wrQ_vsave]
@[simp] theorem commitBst_asave (th : Thread) (st : BitVec 3) : (commitBst th st).asave = th.asave := by rw [commitBst, wrQ_asave]
@[simp] theorem commitBst_outs (th : Thread) (st : BitVec 3) : (commitBst th st).outs = th.outs := by rw [commitBst, wrQ_outs]
@[simp] theorem commitBst_sack (th : Thread) (st : BitVec 3) : (commitBst th st).sack = th.sack := by rw [commitBst, wrQ_sack]
@[simp] theorem commitBst_wbs (th : Thread) (st : BitVec 3) : (commitBst th st).wbs = th.wbs := by rw [commitBst, wrQ_wbs]
@[simp] theorem commitBst_dlines (th : Thread) (st : BitVec 3) : (commitBst th st).dlines = th.dlines := by rw [commitBst, wrQ_dlines]
@[simp] theorem commitBst_mx (th : Thread) (st : BitVec 3) : (commitBst th st).mx = th.mx := by rw [commitBst, wrQ_mx]
@[simp] theorem commitBst_regs (th : Thread) (st : BitVec 3) : (commitBst th st).regs = th.regs := by rw [commitBst, wrQ_regs]
@[simp] theorem commitBst_fault (th : Thread) (st : BitVec 3) : (commitBst th st).fault = th.fault := by rw [commitBst, wrQ_fault]
@[simp] theorem commitBst_port (th : Thread) (st : BitVec 3) : (commitBst th st).port = th.port := by rw [commitBst, wrQ_port]
@[simp] theorem commitBst_prog (th : Thread) (st : BitVec 3) : (commitBst th st).prog = th.prog := by rw [commitBst, wrQ_prog]
@[simp] theorem commitBst_popped (th : Thread) (st : BitVec 3) : (commitBst th st).popped = th.popped := by rw [commitBst, wrQ_popped]
@[simp] theorem commitBst_claim (th : Thread) (st : BitVec 3) : (commitBst th st).claim = th.claim := by rw [commitBst, wrQ_claim]
@[simp] theorem commitBst_arrival (th : Thread) (st : BitVec 3) : (commitBst th st).arrival = th.arrival := by rw [commitBst, wrQ_arrival]
@[simp] theorem commitBst_group (th : Thread) (st : BitVec 3) : (commitBst th st).group = th.group := by rw [commitBst, wrQ_group]
@[simp] theorem commitBst_index (th : Thread) (st : BitVec 3) : (commitBst th st).index = th.index := by rw [commitBst, wrQ_index]
@[simp] theorem commitBst_trig (th : Thread) (st : BitVec 3) : (commitBst th st).trig = th.trig := by rw [commitBst, wrQ_trig]
@[simp] theorem commitBst_suspReq (th : Thread) (st : BitVec 3) : (commitBst th st).suspReq = th.suspReq := by rw [commitBst, wrQ_suspReq]
@[simp] theorem commitBst_stuck (th : Thread) (st : BitVec 3) : (commitBst th st).stuck = th.stuck := by rw [commitBst, wrQ_stuck]
@[simp] theorem commitBst_back (th : Thread) (st : BitVec 3) : (commitBst th st).back = th.back := by rw [commitBst, wrQ_back]

@[simp] theorem discardOlder_run (th : Thread) (f : RegFile) (r : Nat) : (discardOlder th f r).run = th.run := rfl
@[simp] theorem discardOlder_susp (th : Thread) (f : RegFile) (r : Nat) : (discardOlder th f r).susp = th.susp := rfl
@[simp] theorem discardOlder_froz (th : Thread) (f : RegFile) (r : Nat) : (discardOlder th f r).froz = th.froz := rfl
@[simp] theorem discardOlder_pc (th : Thread) (f : RegFile) (r : Nat) : (discardOlder th f r).pc = th.pc := rfl
@[simp] theorem discardOlder_pw (th : Thread) (f : RegFile) (r : Nat) : (discardOlder th f r).pw = th.pw := rfl
@[simp] theorem discardOlder_ss (th : Thread) (f : RegFile) (r : Nat) : (discardOlder th f r).ss = th.ss := rfl
@[simp] theorem discardOlder_g (th : Thread) (f : RegFile) (r : Nat) : (discardOlder th f r).g = th.g := rfl
@[simp] theorem discardOlder_v (th : Thread) (f : RegFile) (r : Nat) : (discardOlder th f r).v = th.v := rfl
@[simp] theorem discardOlder_desc (th : Thread) (f : RegFile) (r : Nat) : (discardOlder th f r).desc = th.desc := rfl
@[simp] theorem discardOlder_gid (th : Thread) (f : RegFile) (r : Nat) : (discardOlder th f r).gid = th.gid := rfl
@[simp] theorem discardOlder_rid (th : Thread) (f : RegFile) (r : Nat) : (discardOlder th f r).rid = th.rid := rfl
@[simp] theorem discardOlder_vsave (th : Thread) (f : RegFile) (r : Nat) : (discardOlder th f r).vsave = th.vsave := rfl
@[simp] theorem discardOlder_asave (th : Thread) (f : RegFile) (r : Nat) : (discardOlder th f r).asave = th.asave := rfl
@[simp] theorem discardOlder_sack (th : Thread) (f : RegFile) (r : Nat) : (discardOlder th f r).sack = th.sack := rfl
@[simp] theorem discardOlder_wbs (th : Thread) (f : RegFile) (r : Nat) : (discardOlder th f r).wbs = th.wbs := rfl
@[simp] theorem discardOlder_dlines (th : Thread) (f : RegFile) (r : Nat) : (discardOlder th f r).dlines = th.dlines := rfl
@[simp] theorem discardOlder_mx (th : Thread) (f : RegFile) (r : Nat) : (discardOlder th f r).mx = th.mx := rfl
@[simp] theorem discardOlder_regs (th : Thread) (f : RegFile) (r : Nat) : (discardOlder th f r).regs = th.regs := rfl
@[simp] theorem discardOlder_fault (th : Thread) (f : RegFile) (r : Nat) : (discardOlder th f r).fault = th.fault := rfl
@[simp] theorem discardOlder_port (th : Thread) (f : RegFile) (r : Nat) : (discardOlder th f r).port = th.port := rfl
@[simp] theorem discardOlder_prog (th : Thread) (f : RegFile) (r : Nat) : (discardOlder th f r).prog = th.prog := rfl
@[simp] theorem discardOlder_popped (th : Thread) (f : RegFile) (r : Nat) : (discardOlder th f r).popped = th.popped := rfl
@[simp] theorem discardOlder_claim (th : Thread) (f : RegFile) (r : Nat) : (discardOlder th f r).claim = th.claim := rfl
@[simp] theorem discardOlder_arrival (th : Thread) (f : RegFile) (r : Nat) : (discardOlder th f r).arrival = th.arrival := rfl
@[simp] theorem discardOlder_group (th : Thread) (f : RegFile) (r : Nat) : (discardOlder th f r).group = th.group := rfl
@[simp] theorem discardOlder_index (th : Thread) (f : RegFile) (r : Nat) : (discardOlder th f r).index = th.index := rfl
@[simp] theorem discardOlder_trig (th : Thread) (f : RegFile) (r : Nat) : (discardOlder th f r).trig = th.trig := rfl
@[simp] theorem discardOlder_suspReq (th : Thread) (f : RegFile) (r : Nat) : (discardOlder th f r).suspReq = th.suspReq := rfl
@[simp] theorem discardOlder_stuck (th : Thread) (f : RegFile) (r : Nat) : (discardOlder th f r).stuck = th.stuck := rfl
@[simp] theorem discardOlder_back (th : Thread) (f : RegFile) (r : Nat) : (discardOlder th f r).back = th.back := rfl

@[simp] theorem goTo_run (th : Thread) (pc : Nat) : (goTo th pc).run = th.run := rfl
@[simp] theorem goTo_susp (th : Thread) (pc : Nat) : (goTo th pc).susp = th.susp := rfl
@[simp] theorem goTo_froz (th : Thread) (pc : Nat) : (goTo th pc).froz = th.froz := rfl
@[simp] theorem goTo_pw (th : Thread) (pc : Nat) : (goTo th pc).pw = th.pw := rfl
@[simp] theorem goTo_g (th : Thread) (pc : Nat) : (goTo th pc).g = th.g := rfl
@[simp] theorem goTo_v (th : Thread) (pc : Nat) : (goTo th pc).v = th.v := rfl
@[simp] theorem goTo_gid (th : Thread) (pc : Nat) : (goTo th pc).gid = th.gid := rfl
@[simp] theorem goTo_rid (th : Thread) (pc : Nat) : (goTo th pc).rid = th.rid := rfl
@[simp] theorem goTo_vsave (th : Thread) (pc : Nat) : (goTo th pc).vsave = th.vsave := rfl
@[simp] theorem goTo_asave (th : Thread) (pc : Nat) : (goTo th pc).asave = th.asave := rfl
@[simp] theorem goTo_outs (th : Thread) (pc : Nat) : (goTo th pc).outs = th.outs := rfl
@[simp] theorem goTo_sack (th : Thread) (pc : Nat) : (goTo th pc).sack = th.sack := rfl
@[simp] theorem goTo_wbs (th : Thread) (pc : Nat) : (goTo th pc).wbs = th.wbs := rfl
@[simp] theorem goTo_dlines (th : Thread) (pc : Nat) : (goTo th pc).dlines = th.dlines := rfl
@[simp] theorem goTo_mx (th : Thread) (pc : Nat) : (goTo th pc).mx = th.mx := rfl
@[simp] theorem goTo_regs (th : Thread) (pc : Nat) : (goTo th pc).regs = th.regs := rfl
@[simp] theorem goTo_fault (th : Thread) (pc : Nat) : (goTo th pc).fault = th.fault := rfl
@[simp] theorem goTo_port (th : Thread) (pc : Nat) : (goTo th pc).port = th.port := rfl
@[simp] theorem goTo_prog (th : Thread) (pc : Nat) : (goTo th pc).prog = th.prog := rfl
@[simp] theorem goTo_popped (th : Thread) (pc : Nat) : (goTo th pc).popped = th.popped := rfl
@[simp] theorem goTo_claim (th : Thread) (pc : Nat) : (goTo th pc).claim = th.claim := rfl
@[simp] theorem goTo_arrival (th : Thread) (pc : Nat) : (goTo th pc).arrival = th.arrival := rfl
@[simp] theorem goTo_group (th : Thread) (pc : Nat) : (goTo th pc).group = th.group := rfl
@[simp] theorem goTo_index (th : Thread) (pc : Nat) : (goTo th pc).index = th.index := rfl
@[simp] theorem goTo_trig (th : Thread) (pc : Nat) : (goTo th pc).trig = th.trig := rfl
@[simp] theorem goTo_suspReq (th : Thread) (pc : Nat) : (goTo th pc).suspReq = th.suspReq := rfl
@[simp] theorem goTo_stuck (th : Thread) (pc : Nat) : (goTo th pc).stuck = th.stuck := rfl
@[simp] theorem goTo_back (th : Thread) (pc : Nat) : (goTo th pc).back = th.back := rfl

@[simp] theorem advance_run (th : Thread) : (advance th).run = th.run := by unfold advance; dsimp only; split <;> rfl
@[simp] theorem advance_susp (th : Thread) : (advance th).susp = th.susp := by unfold advance; dsimp only; split <;> rfl
@[simp] theorem advance_froz (th : Thread) : (advance th).froz = th.froz := by unfold advance; dsimp only; split <;> rfl
@[simp] theorem advance_pw (th : Thread) : (advance th).pw = th.pw := by unfold advance; dsimp only; split <;> rfl
@[simp] theorem advance_g (th : Thread) : (advance th).g = th.g := by unfold advance; dsimp only; split <;> rfl
@[simp] theorem advance_v (th : Thread) : (advance th).v = th.v := by unfold advance; dsimp only; split <;> rfl
@[simp] theorem advance_gid (th : Thread) : (advance th).gid = th.gid := by unfold advance; dsimp only; split <;> rfl
@[simp] theorem advance_rid (th : Thread) : (advance th).rid = th.rid := by unfold advance; dsimp only; split <;> rfl
@[simp] theorem advance_vsave (th : Thread) : (advance th).vsave = th.vsave := by unfold advance; dsimp only; split <;> rfl
@[simp] theorem advance_asave (th : Thread) : (advance th).asave = th.asave := by unfold advance; dsimp only; split <;> rfl
@[simp] theorem advance_outs (th : Thread) : (advance th).outs = th.outs := by unfold advance; dsimp only; split <;> rfl
@[simp] theorem advance_sack (th : Thread) : (advance th).sack = th.sack := by unfold advance; dsimp only; split <;> rfl
@[simp] theorem advance_wbs (th : Thread) : (advance th).wbs = th.wbs := by unfold advance; dsimp only; split <;> rfl
@[simp] theorem advance_dlines (th : Thread) : (advance th).dlines = th.dlines := by unfold advance; dsimp only; split <;> rfl
@[simp] theorem advance_mx (th : Thread) : (advance th).mx = th.mx := by unfold advance; dsimp only; split <;> rfl
@[simp] theorem advance_regs (th : Thread) : (advance th).regs = th.regs := by unfold advance; dsimp only; split <;> rfl
@[simp] theorem advance_fault (th : Thread) : (advance th).fault = th.fault := by unfold advance; dsimp only; split <;> rfl
@[simp] theorem advance_port (th : Thread) : (advance th).port = th.port := by unfold advance; dsimp only; split <;> rfl
@[simp] theorem advance_prog (th : Thread) : (advance th).prog = th.prog := by unfold advance; dsimp only; split <;> rfl
@[simp] theorem advance_popped (th : Thread) : (advance th).popped = th.popped := by unfold advance; dsimp only; split <;> rfl
@[simp] theorem advance_claim (th : Thread) : (advance th).claim = th.claim := by unfold advance; dsimp only; split <;> rfl
@[simp] theorem advance_arrival (th : Thread) : (advance th).arrival = th.arrival := by unfold advance; dsimp only; split <;> rfl
@[simp] theorem advance_group (th : Thread) : (advance th).group = th.group := by unfold advance; dsimp only; split <;> rfl
@[simp] theorem advance_index (th : Thread) : (advance th).index = th.index := by unfold advance; dsimp only; split <;> rfl
@[simp] theorem advance_trig (th : Thread) : (advance th).trig = th.trig := by unfold advance; dsimp only; split <;> rfl
@[simp] theorem advance_suspReq (th : Thread) : (advance th).suspReq = th.suspReq := by unfold advance; dsimp only; split <;> rfl
@[simp] theorem advance_stuck (th : Thread) : (advance th).stuck = th.stuck := by unfold advance; dsimp only; split <;> rfl
@[simp] theorem advance_back (th : Thread) : (advance th).back = th.back := by unfold advance; dsimp only; split <;> rfl

@[simp] theorem suspendAsked_run (th : Thread) : (suspendAsked th).run = th.run := by unfold suspendAsked; split <;> rfl
@[simp] theorem suspendAsked_froz (th : Thread) : (suspendAsked th).froz = th.froz := by unfold suspendAsked; split <;> rfl
@[simp] theorem suspendAsked_pc (th : Thread) : (suspendAsked th).pc = th.pc := by unfold suspendAsked; split <;> rfl
@[simp] theorem suspendAsked_pw (th : Thread) : (suspendAsked th).pw = th.pw := by unfold suspendAsked; split <;> rfl
@[simp] theorem suspendAsked_ss (th : Thread) : (suspendAsked th).ss = th.ss := by unfold suspendAsked; split <;> rfl
@[simp] theorem suspendAsked_g (th : Thread) : (suspendAsked th).g = th.g := by unfold suspendAsked; split <;> rfl
@[simp] theorem suspendAsked_v (th : Thread) : (suspendAsked th).v = th.v := by unfold suspendAsked; split <;> rfl
@[simp] theorem suspendAsked_desc (th : Thread) : (suspendAsked th).desc = th.desc := by unfold suspendAsked; split <;> rfl
@[simp] theorem suspendAsked_gid (th : Thread) : (suspendAsked th).gid = th.gid := by unfold suspendAsked; split <;> rfl
@[simp] theorem suspendAsked_rid (th : Thread) : (suspendAsked th).rid = th.rid := by unfold suspendAsked; split <;> rfl
@[simp] theorem suspendAsked_vsave (th : Thread) : (suspendAsked th).vsave = th.vsave := by unfold suspendAsked; split <;> rfl
@[simp] theorem suspendAsked_asave (th : Thread) : (suspendAsked th).asave = th.asave := by unfold suspendAsked; split <;> rfl
@[simp] theorem suspendAsked_outs (th : Thread) : (suspendAsked th).outs = th.outs := by unfold suspendAsked; split <;> rfl
@[simp] theorem suspendAsked_sack (th : Thread) : (suspendAsked th).sack = th.sack := by unfold suspendAsked; split <;> rfl
@[simp] theorem suspendAsked_wbs (th : Thread) : (suspendAsked th).wbs = th.wbs := by unfold suspendAsked; split <;> rfl
@[simp] theorem suspendAsked_dlines (th : Thread) : (suspendAsked th).dlines = th.dlines := by unfold suspendAsked; split <;> rfl
@[simp] theorem suspendAsked_mx (th : Thread) : (suspendAsked th).mx = th.mx := by unfold suspendAsked; split <;> rfl
@[simp] theorem suspendAsked_regs (th : Thread) : (suspendAsked th).regs = th.regs := by unfold suspendAsked; split <;> rfl
@[simp] theorem suspendAsked_fault (th : Thread) : (suspendAsked th).fault = th.fault := by unfold suspendAsked; split <;> rfl
@[simp] theorem suspendAsked_port (th : Thread) : (suspendAsked th).port = th.port := by unfold suspendAsked; split <;> rfl
@[simp] theorem suspendAsked_prog (th : Thread) : (suspendAsked th).prog = th.prog := by unfold suspendAsked; split <;> rfl
@[simp] theorem suspendAsked_popped (th : Thread) : (suspendAsked th).popped = th.popped := by unfold suspendAsked; split <;> rfl
@[simp] theorem suspendAsked_claim (th : Thread) : (suspendAsked th).claim = th.claim := by unfold suspendAsked; split <;> rfl
@[simp] theorem suspendAsked_arrival (th : Thread) : (suspendAsked th).arrival = th.arrival := by unfold suspendAsked; split <;> rfl
@[simp] theorem suspendAsked_group (th : Thread) : (suspendAsked th).group = th.group := by unfold suspendAsked; split <;> rfl
@[simp] theorem suspendAsked_index (th : Thread) : (suspendAsked th).index = th.index := by unfold suspendAsked; split <;> rfl
@[simp] theorem suspendAsked_trig (th : Thread) : (suspendAsked th).trig = th.trig := by unfold suspendAsked; split <;> rfl
@[simp] theorem suspendAsked_stuck (th : Thread) : (suspendAsked th).stuck = th.stuck := by unfold suspendAsked; split <;> rfl
@[simp] theorem suspendAsked_back (th : Thread) : (suspendAsked th).back = th.back := by unfold suspendAsked; split <;> rfl

/-- g0 reads zero (R270). -/
@[simp] theorem rdG_zero (th : Thread) : rdG th 0 = 0 := rfl

/-- A written register reads back, but for g0, whose write is discarded (R270). -/
theorem rdG_wrG (th : Thread) (r r' : Nat) (v : Word) :
    rdG (wrG th r v) r' = if r' = r ∧ r ≠ 0 then v else rdG th r' := by
  unfold rdG wrG
  by_cases h : r = 0 <;> by_cases h' : r' = 0 <;> by_cases h'' : r' = r <;> simp_all [aget_aset]

theorem rdV_wrV (th : Thread) (r r' : Nat) (v : Line) :
    rdV (wrV th r v) r' = if r' = r then v else rdV th r' := aget_aset _ _ _ _ _

@[simp] theorem rdG_discardOlder (th : Thread) (f : RegFile) (r r' : Nat) : rdG (discardOlder th f r) r' = rdG th r' := rfl
@[simp] theorem rdV_discardOlder (th : Thread) (f : RegFile) (r r' : Nat) : rdV (discardOlder th f r) r' = rdV th r' := rfl

end Sys2Proof.Machine
end

