-- ==== Sys2Proof/Laws/Issue.lean ====
section
/-! SUPPORT. What issuing a unit can do, said once: an instruction whose unit issues does what its body says. -/

namespace Sys2Proof.Machine

/-- A unit that issues does what its body says. -/
theorem unit_of_issues {i : Instr} {s : State} (h : Issues i s) (body : State → Res) :
    unit i body s = settle i s (body s) := by
  obtain ⟨h1, h2, h3, h4, h5, h6, h7, h8⟩ := h
  have h4' : ((me s).desc.rep != 0 && decide (repCount (me s).desc.rep ≤ (me s).ss.repc.toNat)) = false := by
    rcases h4 with h | h
    · simp [h]
    · simp only [Bool.and_eq_false_iff, decide_eq_false_iff_not, not_le]; exact .inr h
  simp only [unit, h1, h2, h3, h4', h5, Nat.not_le.mpr h6, h7, h8, Bool.not_true, Bool.or_self, Bool.false_eq_true, if_false]

/-- A thread that may not issue does nothing. -/
theorem unit_of_not_ready {i : Instr} {s : State} (h : canIssue (me s) = false) (body : State → Res) :
    unit i body s = s := by simp [unit, h]

/-- An illegal unit is an ILL fault (R280). -/
theorem unit_of_illegal {i : Instr} {s : State} (h1 : canIssue (me s) = true) (h2 : expired s s.cur = false)
    (h3 : unitLegal s.cur (me s) (me s).desc i = false) (body : State → Res) :
    unit i body s = preciseFault s .ill 0 0 none := by simp [unit, h1, h2, h3]

@[simp] theorem settle_done (i : Instr) (s s' : State) : settle i s (.done s') = complete i s s' advance := rfl
@[simp] theorem settle_jump (i : Instr) (s s' : State) (pc : Nat) :
    settle i s (.jump s' pc) = complete i s s' fun th => goTo th pc := rfl
/-- A unit that waits keeps what it popped (R197). -/
@[simp] theorem settle_park (i : Instr) (s s' : State) (w : Park) :
    settle i s (.park w s') = park (latchPops s' (chainPops (me s) i)) w := rfl
@[simp] theorem latchPops_zero (s : State) : latchPops s 0 = s := by simp [latchPops]
/-- An instruction with which the rider leaves its slot counts one (R224, R298). -/
@[simp] theorem settle_left (i : Instr) (s s' : State) : settle i s (.left s') = countLeaving s s' := rfl
@[simp] theorem settle_wait (i : Instr) (s s' : State) (w : Park) :
    settle i s (.wait w s') = park (complete i s s' advance) w := rfl
@[simp] theorem settle_fault (i : Instr) (s : State) (c : FaultClass) (n d : Nat) (a : Option Nat) :
    settle i s (.fault c n d a) = preciseFault s c n d a := rfl
@[simp] theorem settle_gone (i : Instr) (s s' : State) : settle i s (.gone s') = s' := rfl

/-- What changes nothing of a core's slots changes no thread. -/
theorem threadAt_modCore (s : State) (c : Nat) (f : Core → Core) (h : ∀ k, (f k).threads = k.threads) (t : ThreadRef) :
    threadAt (modCore s c f) t = threadAt s t := by
  unfold threadAt
  rw [coreAt_modCore]
  split
  · next hc => rw [h, hc]
  · rfl

/-- A thread's change leaves the inbound queues alone. -/
theorem chain_modThread (s : State) (t : ThreadRef) (f : Thread → Thread) (c : Nat) :
    (coreAt (modThread s t f) c).chain = (coreAt s c).chain := by
  unfold modThread setThread
  rw [coreAt_modCore]
  split
  · next hc => rw [hc]
  · rfl

@[simp] theorem giveBack_cur (s : State) (t : ThreadRef) : (giveBack s t).cur = s.cur := by
  unfold giveBack; dsimp only; split_ifs <;> rfl

/-- What a unit had popped and the place it had claimed leave its thread (R197). -/
theorem giveBack_thread (s : State) (t : ThreadRef) :
    threadAt (giveBack s t) t = { threadAt s t with popped := [], claim := false } := by
  unfold giveBack
  dsimp only
  split_ifs with h1 h2
  · simp only [Bool.and_eq_true, List.isEmpty_iff, Bool.not_eq_true'] at h1
    rw [← h1.1, ← h1.2]
  · rw [threadAt_modThread_same]
  · rw [threadAt_modCore, threadAt_modThread_same]; intro; rfl

theorem giveBack_other (s : State) {t t' : ThreadRef} (h : t'.core ≠ t.core ∨ tid t' ≠ tid t) :
    threadAt (giveBack s t) t' = threadAt s t' := by
  unfold giveBack
  dsimp only
  split_ifs with h1 h2
  · rfl
  · rw [threadAt_modThread_other _ _ h]
  · rw [threadAt_modCore, threadAt_modThread_other _ _ h]; intro; rfl

/-- The entries go back to the head of the queue that they came from (R197). -/
theorem giveBack_chain (s : State) (t : ThreadRef) :
    (coreAt (giveBack s t) t.core).chain = (threadAt s t).popped ++ (coreAt s t.core).chain := by
  unfold giveBack
  dsimp only
  split_ifs with h1 h2
  · simp only [Bool.and_eq_true, List.isEmpty_iff] at h1
    rw [h1.1]; rfl
  · rw [List.isEmpty_iff.mp h2, chain_modThread]; rfl
  · simp

theorem giveBack_mem (s : State) (t : ThreadRef) : (giveBack s t).dram = s.dram ∧ (giveBack s t).sram = s.sram := by
  unfold giveBack; dsimp only; split_ifs <;> exact ⟨rfl, rfl⟩

theorem me_giveBack (s : State) : me (giveBack s s.cur) = { me s with popped := [], claim := false } := by
  unfold me; rw [giveBack_cur]; exact giveBack_thread s s.cur

/-- A precise fault with nothing outstanding freezes the thread at its unit and sends one packet (R297, R427). -/
theorem preciseFault_now {s : State} (h : (me s).outs = []) (c : FaultClass) (n d : Nat) (a : Option Nat) :
    preciseFault s c n d a =
      takeFault (giveBack s s.cur) s.cur ⟨some c, n, true, 0, d, false, false, a.getD (me s).pc.toNat⟩ := by
  simp [preciseFault, me_giveBack, h]

/-- With results outstanding the marker steps come first, and the fault is kept for them (R292, R297). -/
theorem preciseFault_later {s : State} (h : (me s).outs ≠ []) (c : FaultClass) (n d : Nat) (a : Option Nat) :
    preciseFault s c n d a = modMe (giveBack s s.cur) fun th =>
      { th with run := .parked .marker, prog := .faulted ⟨some c, n, true, 0, d, false, false, a.getD (me s).pc.toNat⟩ } := by
  simp [preciseFault, me_giveBack, h]

/-- A message that reaches a core changes no thread. -/
@[simp] theorem threadAt_deliver (s : State) (c : Nat) (m : Msg) (t : ThreadRef) :
    threadAt (deliver s c m) t = threadAt s t := by
  unfold deliver threadAt
  rw [coreAt_modCore]
  split
  · next h => rw [h]; split <;> rfl
  · rfl

/-- A message to a supervisor reaches a core's event list, or waits on the die: no thread changes. -/
theorem toSupervisor_threads (s : State) (die : Nat) (ns : Bool) (w0 w1 : Word) (t : ThreadRef) :
    threadAt (toSupervisor s die ns w0 w1) t = threadAt s t := by
  unfold toSupervisor
  dsimp only
  generalize (if ns = true then (dieAt s die).nrid else (dieAt s die).srid) = tag
  split
  · rfl
  · exact threadAt_deliver _ _ _ _

/-- Taking a fault freezes the thread with its registers and pc as they stand (R427). -/
theorem takeFault_thread (s : State) (t : ThreadRef) (f : FaultInfo) :
    threadAt (takeFault s t f) t = { threadAt s t with froz := true, fault := f } := by
  unfold takeFault sendFault
  dsimp only
  rw [toSupervisor_threads, threadAt_modThread_same]

theorem takeFault_other (s : State) {t t' : ThreadRef} (f : FaultInfo) (h : t'.core ≠ t.core ∨ tid t' ≠ tid t) :
    threadAt (takeFault s t f) t' = threadAt s t' := by
  unfold takeFault sendFault
  dsimp only
  rw [toSupervisor_threads, threadAt_modThread_other _ _ h]

/-- A message to a supervisor leaves the memories alone. -/
theorem toSupervisor_mem (s : State) (die : Nat) (ns : Bool) (w0 w1 : Word) :
    (toSupervisor s die ns w0 w1).dram = s.dram ∧ (toSupervisor s die ns w0 w1).sram = s.sram := by
  unfold toSupervisor
  dsimp only
  generalize (if ns = true then (dieAt s die).nrid else (dieAt s die).srid) = tag
  split <;> exact ⟨rfl, rfl⟩

theorem takeFault_mem (s : State) (t : ThreadRef) (f : FaultInfo) :
    (takeFault s t f).dram = s.dram ∧ (takeFault s t f).sram = s.sram := by
  unfold takeFault sendFault
  exact toSupervisor_mem _ _ _ _ _

/-- A written g register: the current thread's alone, and its older results for it are discarded (R291, R292). -/
theorem writeG_mem (s : State) (r : Nat) (v : Word) :
    (writeG s r v).dram = s.dram ∧ (writeG s r v).sram = s.sram ∧ (writeG s r v).cur = s.cur := by
  unfold writeG
  dsimp only
  split <;> exact ⟨rfl, rfl, rfl⟩

theorem me_writeG (s : State) (r : Nat) (v : Word) : me (writeG s r v) = discardOlder (wrG (me s) r v) .g r := by
  unfold writeG
  dsimp only
  split
  · rw [me_modCore _ _ _ rfl, me_modMe]
  · rw [me_modMe]

@[simp] theorem me_writeV (s : State) (r : Nat) (v : Line) : me (writeV s r v) = discardOlder (wrV (me s) r v) .v r := by
  simp [writeV]

@[simp] theorem me_writeQ (s : State) (i : Nat) (b : Bool) : me (writeQ s i b) = wrQ (me s) i b := by simp [writeQ]

/-- Parking stops the thread where it stands (R183). -/
@[simp] theorem me_park (s : State) (w : Park) : me (park s w) = suspendAsked { me s with run := .parked w } := by
  simp [park]

end Sys2Proof.Machine
end

