-- ==== Sys2Proof/Laws/Access.lean ====
section
/-! SUPPORT. What the operations on accesses in flight do: each changes the list of accesses and nothing else; what an access is after
them; and what the start of a release and the launch of an access leave alone. -/

namespace Sys2Proof.Machine

@[simp] theorem modAccess_threadAt (s : State) (id : Nat) (f : Access → Access) (t : ThreadRef) : threadAt (modAccess s id f) t = threadAt s t := rfl
@[simp] theorem modAccess_coreAt (s : State) (id : Nat) (f : Access → Access) (c : Nat) : coreAt (modAccess s id f) c = coreAt s c := rfl
@[simp] theorem modAccess_dieAt (s : State) (id : Nat) (f : Access → Access) (c : Nat) : dieAt (modAccess s id f) c = dieAt s c := rfl
@[simp] theorem modAccess_quadAt (s : State) (id : Nat) (f : Access → Access) (c : Nat) : quadAt (modAccess s id f) c = quadAt s c := rfl
@[simp] theorem modAccess_stackAt (s : State) (id : Nat) (f : Access → Access) (c : Nat) : stackAt (modAccess s id f) c = stackAt s c := rfl
@[simp] theorem modAccess_homeAt (s : State) (id : Nat) (f : Access → Access) (c : Nat) : homeAt (modAccess s id f) c = homeAt s c := rfl
@[simp] theorem modAccess_bankAt (s : State) (id : Nat) (f : Access → Access) (c b : Nat) : bankAt (modAccess s id f) c b = bankAt s c b := rfl
@[simp] theorem modAccess_tileAt (s : State) (id : Nat) (f : Access → Access) (c b : Nat) : tileAt (modAccess s id f) c b = tileAt s c b := rfl
@[simp] theorem modAccess_me (s : State) (id : Nat) (f : Access → Access) : me (modAccess s id f) = me s := rfl

@[simp] theorem dropAccess_threadAt (s : State) (id : Nat) (t : ThreadRef) : threadAt (dropAccess s id) t = threadAt s t := rfl
@[simp] theorem dropAccess_coreAt (s : State) (id : Nat) (c : Nat) : coreAt (dropAccess s id) c = coreAt s c := rfl
@[simp] theorem dropAccess_dieAt (s : State) (id : Nat) (c : Nat) : dieAt (dropAccess s id) c = dieAt s c := rfl
@[simp] theorem dropAccess_quadAt (s : State) (id : Nat) (c : Nat) : quadAt (dropAccess s id) c = quadAt s c := rfl
@[simp] theorem dropAccess_stackAt (s : State) (id : Nat) (c : Nat) : stackAt (dropAccess s id) c = stackAt s c := rfl
@[simp] theorem dropAccess_homeAt (s : State) (id : Nat) (c : Nat) : homeAt (dropAccess s id) c = homeAt s c := rfl
@[simp] theorem dropAccess_bankAt (s : State) (id : Nat) (c b : Nat) : bankAt (dropAccess s id) c b = bankAt s c b := rfl
@[simp] theorem dropAccess_tileAt (s : State) (id : Nat) (c b : Nat) : tileAt (dropAccess s id) c b = tileAt s c b := rfl
@[simp] theorem dropAccess_me (s : State) (id : Nat) : me (dropAccess s id) = me s := rfl

@[simp] theorem stageAccess_agenda (s : State) (id : Nat) (g : Stage) : (stageAccess s id g).agenda = s.agenda := rfl
@[simp] theorem stageAccess_stepNo (s : State) (id : Nat) (g : Stage) : (stageAccess s id g).stepNo = s.stepNo := rfl
@[simp] theorem stageAccess_cur (s : State) (id : Nat) (g : Stage) : (stageAccess s id g).cur = s.cur := rfl
@[simp] theorem stageAccess_nextId (s : State) (id : Nat) (g : Stage) : (stageAccess s id g).nextId = s.nextId := rfl
@[simp] theorem stageAccess_now (s : State) (id : Nat) (g : Stage) : (stageAccess s id g).now = s.now := rfl
@[simp] theorem stageAccess_dram (s : State) (id : Nat) (g : Stage) : (stageAccess s id g).dram = s.dram := rfl
@[simp] theorem stageAccess_dramBad (s : State) (id : Nat) (g : Stage) : (stageAccess s id g).dramBad = s.dramBad := rfl
@[simp] theorem stageAccess_sram (s : State) (id : Nat) (g : Stage) : (stageAccess s id g).sram = s.sram := rfl
@[simp] theorem stageAccess_sramBad (s : State) (id : Nat) (g : Stage) : (stageAccess s id g).sramBad = s.sramBad := rfl
@[simp] theorem stageAccess_cores (s : State) (id : Nat) (g : Stage) : (stageAccess s id g).cores = s.cores := rfl
@[simp] theorem stageAccess_quads (s : State) (id : Nat) (g : Stage) : (stageAccess s id g).quads = s.quads := rfl
@[simp] theorem stageAccess_dies (s : State) (id : Nat) (g : Stage) : (stageAccess s id g).dies = s.dies := rfl
@[simp] theorem stageAccess_qdies (s : State) (id : Nat) (g : Stage) : (stageAccess s id g).qdies = s.qdies := rfl
@[simp] theorem stageAccess_homes (s : State) (id : Nat) (g : Stage) : (stageAccess s id g).homes = s.homes := rfl
@[simp] theorem stageAccess_clears (s : State) (id : Nat) (g : Stage) : (stageAccess s id g).clears = s.clears := rfl
@[simp] theorem stageAccess_spawns (s : State) (id : Nat) (g : Stage) : (stageAccess s id g).spawns = s.spawns := rfl
@[simp] theorem stageAccess_travels (s : State) (id : Nat) (g : Stage) : (stageAccess s id g).travels = s.travels := rfl
@[simp] theorem stageAccess_saved (s : State) (id : Nat) (g : Stage) : (stageAccess s id g).saved = s.saved := rfl
@[simp] theorem stageAccess_xinvs (s : State) (id : Nat) (g : Stage) : (stageAccess s id g).xinvs = s.xinvs := rfl
@[simp] theorem stageAccess_kills (s : State) (id : Nat) (g : Stage) : (stageAccess s id g).kills = s.kills := rfl
@[simp] theorem stageAccess_evacs (s : State) (id : Nat) (g : Stage) : (stageAccess s id g).evacs = s.evacs := rfl
@[simp] theorem stageAccess_grids (s : State) (id : Nat) (g : Stage) : (stageAccess s id g).grids = s.grids := rfl
@[simp] theorem stageAccess_groups (s : State) (id : Nat) (g : Stage) : (stageAccess s id g).groups = s.groups := rfl
@[simp] theorem stageAccess_sent (s : State) (id : Nat) (g : Stage) : (stageAccess s id g).sent = s.sent := rfl
@[simp] theorem stageAccess_reports (s : State) (id : Nat) (g : Stage) : (stageAccess s id g).reports = s.reports := rfl
@[simp] theorem stageAccess_bias (s : State) (id : Nat) (g : Stage) : (stageAccess s id g).bias = s.bias := rfl
@[simp] theorem stageAccess_nodes (s : State) (id : Nat) (g : Stage) : (stageAccess s id g).nodes = s.nodes := rfl
@[simp] theorem stageAccess_prst (s : State) (id : Nat) (g : Stage) : (stageAccess s id g).prst = s.prst := rfl
@[simp] theorem stageAccess_threadAt (s : State) (id : Nat) (g : Stage) (t : ThreadRef) : threadAt (stageAccess s id g) t = threadAt s t := rfl
@[simp] theorem stageAccess_coreAt (s : State) (id : Nat) (g : Stage) (c : Nat) : coreAt (stageAccess s id g) c = coreAt s c := rfl
@[simp] theorem stageAccess_dieAt (s : State) (id : Nat) (g : Stage) (c : Nat) : dieAt (stageAccess s id g) c = dieAt s c := rfl
@[simp] theorem stageAccess_quadAt (s : State) (id : Nat) (g : Stage) (c : Nat) : quadAt (stageAccess s id g) c = quadAt s c := rfl
@[simp] theorem stageAccess_stackAt (s : State) (id : Nat) (g : Stage) (c : Nat) : stackAt (stageAccess s id g) c = stackAt s c := rfl
@[simp] theorem stageAccess_homeAt (s : State) (id : Nat) (g : Stage) (c : Nat) : homeAt (stageAccess s id g) c = homeAt s c := rfl
@[simp] theorem stageAccess_bankAt (s : State) (id : Nat) (g : Stage) (c b : Nat) : bankAt (stageAccess s id g) c b = bankAt s c b := rfl
@[simp] theorem stageAccess_tileAt (s : State) (id : Nat) (g : Stage) (c b : Nat) : tileAt (stageAccess s id g) c b = tileAt s c b := rfl
@[simp] theorem stageAccess_me (s : State) (id : Nat) (g : Stage) : me (stageAccess s id g) = me s := rfl

/-- An access that has left is not in flight. -/
@[simp] theorem accessAt_dropAccess (s : State) (id : Nat) : accessAt (dropAccess s id) id = none := by simp [accessAt, dropAccess]

/-- The name under which an access is found is its own. -/
theorem id_of_accessAt {s : State} {id : Nat} {a : Access} (h : accessAt s id = some a) : a.id = id := by
  simpa using List.find?_some h

/-- An access after a change of its own fields that keeps its name. -/
theorem accessAt_modAccess (s : State) (id : Nat) (f : Access → Access) (hf : ∀ a, (f a).id = a.id) :
    accessAt (modAccess s id f) id = (accessAt s id).map f := by
  simp only [accessAt, modAccess]
  induction s.inflight with
  | nil => rfl
  | cons a l ih =>
    by_cases h : a.id = id
    · simp [h, hf]
    · simpa [h] using ih

@[simp] theorem accessAt_stageAccess (s : State) (id : Nat) (g : Stage) :
    accessAt (stageAccess s id g) id = (accessAt s id).map fun a => { a with stage := g } :=
  accessAt_modAccess s id _ fun _ => rfl

/-- The results of a thread after one of them has landed. -/
@[simp] theorem threadAt_landOut (s : State) (t : ThreadRef) (id : Nat) (v : Line) (b : Option (BitVec 3)) (fl : BitVec 5) (f : Option Fail) :
    (threadAt (landOut s t id v b fl f) t).outs = (threadAt s t).outs.map fun o =>
      if o.id = id then { o with done := true, value := v, bst := b, flags := fl, fail := f } else o := by
  simp [landOut, modOut]

/-- A fold of steps that each keep the current thread keeps it. -/
theorem foldl_cur {α : Type} (l : List α) (f : State → α → State) (hf : ∀ s a, (f s a).cur = s.cur) (s : State) :
    (l.foldl f s).cur = s.cur := by
  induction l generalizing s with
  | nil => rfl
  | cons a l ih => rw [List.foldl_cons, ih, hf]

/-- Deferred bytes that join the L1 copies of their die leave the current thread the current one. -/
@[simp] theorem mergeL1s_cur (s : State) (die pa : Nat) (m : BitVec 64) (d : Line) (bad : Bool) :
    (mergeL1s s die pa m d bad).cur = s.cur := by
  unfold mergeL1s
  refine foldl_cur _ _ (fun s c => ?_) s
  split <;> rfl

/-- Bytes leave for their home without a change of the current thread. -/
@[simp] theorem sendBytes_cur (s : State) (die core pa : Nat) (t : ThreadRef) (ns : Bool) (m : BitVec 64) (d : Line) (bad : Bool) :
    (sendBytes s die core pa t ns m d bad).cur = s.cur := by
  unfold sendBytes
  simp only [fresh]
  split_ifs <;> simp [sendWrd, sendPacket]

/-- The lines of a record leave without a change of the current thread. -/
theorem flushDeferred_cur (s : State) (die core pa : Nat) (t : ThreadRef) :
    (flushDeferred s die core pa t).cur = s.cur := by
  unfold flushDeferred
  dsimp only
  split_ifs <;> simp [setL2]

/-- The start of a release leaves the current thread the current one. -/
@[simp] theorem beginRelease_cur (s : State) (t : ThreadRef) (scope : Nat) : (beginRelease s t scope).cur = s.cur := by
  unfold beginRelease
  split
  · rfl
  · simp only [modThread_cur]
    exact foldl_cur _ _ (fun _ _ => flushDeferred_cur ..) s

end Sys2Proof.Machine
end

