-- ==== Sys2Proof/Tests/Slice0.lean ====
section
/-! SUPPORT. The model's own tests: for every family, words written out bit by bit from the encodings of the spec and
the instructions they stand for; one ill-formed term or more for each check of `Instr.wf`; for each statement of the
obligations a state and operands that meet its hypotheses; and a few single steps whose results the spec gives. -/

open Sys2Proof Sys2Proof.Machine Sys2Proof.Claims

namespace Sys2Proof.Tests

set_option Elab.async false

/-! ### States and witnesses -/

/-- The unit issues, as a computation. -/
def issuesB (i : Instr) (s : State) : Bool :=
  canIssue (me s) && !expired s s.cur && unitLegal s.cur (me s) (me s).desc i &&
  ((me s).desc.rep == 0 || decide ((me s).ss.repc.toNat < repCount (me s).desc.rep)) && !atMarker (me s) i &&
  decide (unaccepted (me s) < 32) && (popsMissing s (me s) i).isNone &&
  !popsPoison s (vlqPops s.cur (me s) i)

theorem issues_of {i : Instr} {s : State} (h : issuesB i s = true) : Issues i s := by
  simp only [issuesB, Bool.and_eq_true, Bool.or_eq_true, Bool.not_eq_true', beq_iff_eq, decide_eq_true_eq,
    Option.isNone_iff_eq_none] at h
  obtain ⟨⟨⟨⟨⟨⟨⟨h1, h2⟩, h3⟩, h4⟩, h5⟩, h6⟩, h7⟩, h8⟩ := h
  exact ⟨h1, h2, h3, h4, h5, h6, h7, h8⟩

theorem issues_with {i : Instr} {s : State} {P : Prop} (h : issuesB i s = true ∧ P) : Issues i s ∧ P := ⟨issues_of h.1, h.2⟩

/-- A state with one READY thread on core 5: its slot, its thread, its FMT word and its registers. -/
def on (slot th : Nat) (fmt : IWord) (g : Assoc Word) (v : Assoc Line) : State :=
  setThread { State.reset with prst := 2, cur := ⟨5, slot, th⟩ } ⟨5, slot, th⟩
    { Thread.reset with run := .ready, pc := 0x10000, pw := 0xFFFF, g := g, v := v,
                        ss := { Status.reset with priv := 2 }, desc := ⟨fmt, 0⟩ }

/-- The same on deck slot 0 without a prefix. -/
def deck (g : Assoc Word) : State := on 0 0 0 g []

/-- The thread of such a state changed, and its core. -/
def withMe (s : State) (f : Thread → Thread) : State := modMe s f
def withCore (s : State) (f : Core → Core) : State := modCore s 5 f

/-- A thread on another slot of the core, in a state of its own. -/
def beside (s : State) (slot : Nat) (th : Thread) : State := setThread s ⟨5, slot, 0⟩ th
def busy : Thread := { Thread.reset with run := .ready, pc := 0x30000, outs := [Out.blank 9 .ld] }

/-- What an instruction leaves of its thread, or of the whole state. -/
def after (i : Instr) (s : State) : State :=
  match exec i s with
  | .next t => t
  | _ => s


theorem test_decode_system :
    decode 0b00000000000000000000000000000000 = .ok .nop ∧
    decode 0b1_000000_00000_0000000101_0000000001 = .ok (.brk true 5) ∧
    decode 0b1_000000_0000000_00000101_0000000010 = .ok (.trap true 5) ∧
    decode 0b1_000000_0000000000000000000000011 = .ok (.eret true) ∧
    decode 0b1_000000_01001_0000010000_0000000100 = .ok (.rdsys true 9 16) ∧
    decode 0b1_000000_01001_0000010000_0000000101 = .ok (.wrsys true 9 16) ∧
    decode 0b1_000000_00000_00111_000000000000110 = .ok (.susp true 7) ∧
    decode 0b1_000000_00000_00111_000000000000111 = .ok (.resm true 7) ∧
    decode 0b1_000000_01001_00111_000000000001000 = .ok (.rdslot true 9 7) ∧
    decode 0b1_000000_01001_00111_000000000001001 = .ok (.wrslot true 9 7) ∧
    decode 0b1_000000_00000_00111_000000000001010 = .ok (.ctxkill true 7) := by
  decide +kernel

theorem test_decode_fmt :
    decode 0b0000001_00111_01100_01001_10001_000_10 = .ok (.fmt 7 12 9 17 2) := by
  decide +kernel

theorem test_decode_rep :
    decode 0b0000010_00000101_01001_00111_01100_00 = .ok (.rep 5 9 7 12) := by
  decide +kernel

theorem test_decode_lui :
    decode 0b1_000011_01001_00000000000000000101 = .ok (.lui true 9 5) := by
  decide +kernel

theorem test_decode_integer :
    decode 0b1_000100_01001_00111_01100_0000000000 = .ok (.add true 9 7 12) ∧
    decode 0b1_000100_01001_00111_01100_0000000001 = .ok (.sub true 9 7 12) ∧
    decode 0b1_000100_01001_00111_01100_0000000010 = .ok (.and true 9 7 12) ∧
    decode 0b1_000100_01001_00111_01100_0000000011 = .ok (.or true 9 7 12) ∧
    decode 0b1_000100_01001_00111_01100_0000000100 = .ok (.xor true 9 7 12) ∧
    decode 0b1_000100_01001_00111_01100_0000000101 = .ok (.andn true 9 7 12) ∧
    decode 0b1_000100_01001_00111_01100_0000000110 = .ok (.shl true 9 7 12) ∧
    decode 0b1_000100_01001_00111_01100_0000000111 = .ok (.shr true 9 7 12) ∧
    decode 0b1_000100_01001_00111_01100_0000001000 = .ok (.sra true 9 7 12) ∧
    decode 0b1_000100_01001_00111_01100_0000001001 = .ok (.min true 9 7 12) ∧
    decode 0b1_000100_01001_00111_01100_0000001010 = .ok (.max true 9 7 12) ∧
    decode 0b1_000100_01001_00111_01100_0000001011 = .ok (.minu true 9 7 12) ∧
    decode 0b1_000100_01001_00111_01100_0000001100 = .ok (.maxu true 9 7 12) ∧
    decode 0b1_000100_01001_00111_000000000001101 = .ok (.clz true 9 7) ∧
    decode 0b1_000100_01001_00111_000000000001110 = .ok (.ctz true 9 7) ∧
    decode 0b1_000100_01001_00111_000000000001111 = .ok (.popc true 9 7) ∧
    decode 0b1_000100_01001_00111_00010_0000010000 = .ok (.sext true 9 7 2) := by
  decide +kernel

theorem test_decode_addi :
    decode 0b1_000101_01001_00111_000000000000101 = .ok (.addi true 9 7 5) := by
  decide +kernel

theorem test_decode_andi :
    decode 0b1_000110_01001_00111_000000000000101 = .ok (.andi true 9 7 5) := by
  decide +kernel

theorem test_decode_ori :
    decode 0b1_000111_01001_00111_000000000000101 = .ok (.ori true 9 7 5) := by
  decide +kernel

theorem test_decode_xori :
    decode 0b1_001000_01001_00111_000000000000101 = .ok (.xori true 9 7 5) := by
  decide +kernel

theorem test_decode_shift_constant :
    decode 0b1_001001_01001_00111_000000000_000011 = .ok (.shli true 9 7 3) ∧
    decode 0b1_001001_01001_00111_000000001_000011 = .ok (.shri true 9 7 3) ∧
    decode 0b1_001001_01001_00111_000000010_000011 = .ok (.srai true 9 7 3) := by
  decide +kernel

theorem test_decode_multiply :
    decode 0b1_001010_01001_00111_01100_0000000000 = .ok (.mul true 9 7 12) ∧
    decode 0b1_001010_01001_00111_01100_0000000001 = .ok (.mulh true 9 7 12) ∧
    decode 0b1_001010_01001_00111_01100_0000000010 = .ok (.mulhu true 9 7 12) ∧
    decode 0b1_001010_01001_00111_01100_0000000011 = .ok (.div true 9 7 12) ∧
    decode 0b1_001010_01001_00111_01100_0000000100 = .ok (.divu true 9 7 12) ∧
    decode 0b1_001010_01001_00111_01100_0000000101 = .ok (.rem true 9 7 12) ∧
    decode 0b1_001010_01001_00111_01100_0000000110 = .ok (.remu true 9 7 12) := by
  decide +kernel

theorem test_decode_scalar_float :
    decode 0b1_001011_01001_00111_01100_00000_0_0000 = .ok (.fadd true 9 7 12 0) ∧
    decode 0b1_001011_01001_00111_01100_00000_0_0001 = .ok (.fsub true 9 7 12 0) ∧
    decode 0b1_001011_01001_00111_01100_00000_0_0010 = .ok (.fmul true 9 7 12 0) ∧
    decode 0b1_001011_01001_00111_01100_00000_0_0011 = .ok (.fma true 9 7 12 0) ∧
    decode 0b1_001011_01001_00111_01100_00000_0_0100 = .ok (.fdiv true 9 7 12 0) ∧
    decode 0b1_001011_01001_00111_0000000000_0_0101 = .ok (.fsqrt true 9 7 0) ∧
    decode 0b1_001011_01001_00111_01100_00000_0_0110 = .ok (.fmin true 9 7 12 0) ∧
    decode 0b1_001011_01001_00111_01100_00000_0_0111 = .ok (.fmax true 9 7 12 0) ∧
    decode 0b1_001011_01001_00111_01100_00011_0_1000 = .ok (.fcmp true 9 7 12 3 0) ∧
    decode 0b1_001011_01001_00111_00000_01100_0_1001 = .ok (.fcvt true 9 7 12 0) := by
  decide +kernel

theorem test_decode_cmp :
    decode 0b1_001100_0101_01_0010_00111_01100_00000 = .ok (.cmp true 5 1 2 7 12) := by
  decide +kernel

theorem test_decode_cmpi :
    decode 0b1_001101_0100_01_0010_00111_0000000101 = .ok (.cmpi true 4 1 2 7 5) := by
  decide +kernel

theorem test_decode_branch :
    decode 0b1_001110_1011_1_00000000000000001001 = .ok (.bt true 11 9) ∧
    decode 0b1_001110_1011_0_00000000000000001001 = .ok (.bf true 11 9) := by
  decide +kernel

theorem test_decode_jump :
    decode 0b1_001111_0000000000000000000001001 = .ok (.j true 9) := by
  decide +kernel

theorem test_decode_jal :
    decode 0b1_010000_01001_00000000000000000101 = .ok (.jal true 9 5) := by
  decide +kernel

theorem test_decode_jump_register :
    decode 0b1_010001_00000_00111_000000000000000 = .ok (.jr true 7) ∧
    decode 0b1_010001_01001_00111_000000000000001 = .ok (.jalr true 9 7) := by
  decide +kernel

theorem test_decode_ld :
    decode 0b1_010010_01001_00111_010_01_0000000110 = .ok (.ld true 9 7 2 1 6) := by
  decide +kernel

theorem test_decode_st :
    decode 0b1_010011_01001_00111_010_01_0000000110 = .ok (.st true 9 7 2 1 6) := by
  decide +kernel

theorem test_decode_ldv :
    decode 0b1_010100_01001_00111_010_00_0000000110 = .ok (.ldv true 9 7 2 6) := by
  decide +kernel

theorem test_decode_stv :
    decode 0b1_010101_01001_00111_010_00_0000000110 = .ok (.stv true 9 7 2 6) := by
  decide +kernel

theorem test_decode_atomic :
    decode 0b1_010110_01001_00111_010_1_1_0000_0110_00 = .ok (.aadd true 9 7 2 1 6) ∧
    decode 0b1_010110_01001_00111_010_1_1_0001_0110_00 = .ok (.aand true 9 7 2 1 6) ∧
    decode 0b1_010110_01001_00111_010_1_1_0010_0110_00 = .ok (.aor true 9 7 2 1 6) ∧
    decode 0b1_010110_01001_00111_010_1_1_0011_0110_00 = .ok (.axor true 9 7 2 1 6) ∧
    decode 0b1_010110_01001_00111_010_1_1_0100_0110_00 = .ok (.amin true 9 7 2 1 6) ∧
    decode 0b1_010110_01001_00111_010_1_1_0101_0110_00 = .ok (.amax true 9 7 2 1 6) ∧
    decode 0b1_010110_01001_00111_010_1_1_0110_0110_00 = .ok (.aswp true 9 7 2 1 6) ∧
    decode 0b1_010110_00110_00111_010_1_1_0111_0110_00 = .ok (.acas true 6 7 2 1 6) ∧
    decode 0b1_010110_01001_00111_010_1_1_1000_0110_00 = .ok (.afadd true 9 7 2 1 6) := by
  decide +kernel

theorem test_decode_cache_range :
    decode 0b1_010111_00000_00111_01100_0000000000 = .ok (.clean true 7 12) ∧
    decode 0b1_010111_00000_00111_01100_0000000001 = .ok (.inval true 7 12) ∧
    decode 0b1_010111_00000_00111_01100_0000000010 = .ok (.flush true 7 12) ∧
    decode 0b1_010111_00011_00111_01100_0000000011 = .ok (.pref true 3 7 12) := by
  decide +kernel

theorem test_decode_fence :
    decode 0b1_011000_00000000000000000000_100_00 = .ok (.fenceAcq true 4) ∧
    decode 0b1_011000_00000000000000000000_100_01 = .ok (.fenceRel true 4) ∧
    decode 0b1_011000_00000000000000000000_100_10 = .ok (.fenceFull true 4) := by
  decide +kernel

theorem test_decode_barrier :
    decode 0b1_011001_01001_00111_01100_0000_100_000 = .ok (.bar true 9 7 12 4) ∧
    decode 0b1_011001_01001_00111_01100_0000_100_001 = .ok (.bara true 9 7 12 4) ∧
    decode 0b1_011001_01001_00111_000000000_100_010 = .ok (.barw true 9 7 4) ∧
    decode 0b1_011001_01001_00111_01100_0000_100_011 = .ok (.barx true 9 7 12 4) ∧
    decode 0b1_011001_01001_00111_000000000_100_100 = .ok (.barq true 9 7 4) := by
  decide +kernel

theorem test_decode_message :
    decode 0b1_011010_01001_00111_01100_00000_1_0000 = .ok (.send true 9 7 12 1) ∧
    decode 0b1_011010_00110_00000000000000000001 = .ok (.recv true 6) ∧
    decode 0b1_011010_0000000000000000000000010 = .ok (.waitm true) ∧
    decode 0b1_011010_00101_00111_01100_00000_1_0011 = .ok (.mbput true 5 7 12 1) ∧
    decode 0b1_011010_01001_00110_01100_00000_1_0100 = .ok (.mbget true 9 6 12 1) ∧
    decode 0b1_011010_00000_00111_000000000000101 = .ok (.chainSet true 7) ∧
    decode 0b1_011010_00000_00111_000000000010101 = .ok (.chainRel true 7) ∧
    decode 0b1_011010_01001_00000000000000100101 = .ok (.chainAcq true 9) := by
  decide +kernel

theorem test_decode_rider :
    decode 0b1_011011_01001_00111_01100_0000000000 = .ok (.spawn true 9 7 12) ∧
    decode 0b1_011011_0000000000000000000000001 = .ok (.yield true) ∧
    decode 0b1_011011_0000000000000000000000010 = .ok (.exit true) ∧
    decode 0b1_011011_0000000000000000000000011 = .ok (.trig true) ∧
    decode 0b1_011011_0000000000000000000000100 = .ok (.gwait true) ∧
    decode 0b1_011011_00000_00111_000000000000101 = .ok (.migrate true 7) ∧
    decode 0b1_011011_01001_00111_01100_0000000110 = .ok (.rqput true 9 7 12) := by
  decide +kernel

theorem test_decode_structure :
    decode 0b1_011100_01001_00111_00000000_01_1_0000 = .ok (.bpush true 9 7 1 1) ∧
    decode 0b1_011100_01001_00111_000000_11_01_1_0001 = .ok (.bpushn true 9 7 3 1 1) ∧
    decode 0b1_011100_01001_00111_00000000_10_1_0010 = .ok (.bpop true 9 7 2 1) ∧
    decode 0b1_011100_01001_00111_00000000_11_1_0011 = .ok (.bpeek true 9 7 3 1) ∧
    decode 0b1_011100_01001_00111_01100_0000000100 = .ok (.bmput true 9 7 12) ∧
    decode 0b1_011100_01001_00111_01100_0000000101 = .ok (.bmget true 9 7 12) ∧
    decode 0b1_011100_01001_00111_01100_0000000110 = .ok (.bmdel true 9 7 12) ∧
    decode 0b1_011100_01001_00111_000000000000111 = .ok (.bhput true 9 7) ∧
    decode 0b1_011100_01001_00111_000000000001000 = .ok (.bhpop true 9 7) ∧
    decode 0b1_011100_01001_00111_000000000001001 = .ok (.bhtop true 9 7) ∧
    decode 0b1_011100_01001_00111_01100_00000_0_1010 = .ok (.bgadd true 9 7 12 0) ∧
    decode 0b1_011100_01001_00111_01100_0000001011 = .ok (.bgrd true 9 7 12) ∧
    decode 0b1_011100_00000_00111_01100_00000_0_1100 = .ok (.bgclr true 7 12 0) ∧
    decode 0b1_011100_01001_00111_01100_0000001101 = .ok (.bpset true 9 7 12) ∧
    decode 0b1_011100_00000_00111_01100_00_0101_1110 = .ok (.blink true 7 12 5) ∧
    decode 0b1_011100_01001_00111_000000000001111 = .ok (.bstat true 9 7) := by
  decide +kernel

theorem test_decode_bank_alu :
    decode 0b1_011101_00000_00111_01100_00101_0_1_000 = .ok (.bvadd true 7 12 5 1) ∧
    decode 0b1_011101_01001_00111_01100_000000_1_001 = .ok (.bvmul true 9 7 12 1) ∧
    decode 0b1_011101_01001_00111_01100_00101_0_1_010 = .ok (.bvfma true 9 7 12 5 1) ∧
    decode 0b1_011101_00000_00111_01100_00101_00011 = .ok (.bvfill true 7 12 5) ∧
    decode 0b1_011101_00000_00111_01100_00000_1_0100 = .ok (.bvcvt true 7 12 1) ∧
    decode 0b1_011101_01001_00111_01100_000000_1_101 = .ok (.bvsum true 9 7 12 1) ∧
    decode 0b1_011101_01001_00111_01100_000000_1_110 = .ok (.bvrmax true 9 7 12 1) ∧
    decode 0b1_011101_00000_00111_01100_0000000111 = .ok (.bsmx true 7 12) := by
  decide +kernel

theorem test_decode_row :
    decode 0b1_011110_01001_00111_01100_0000000000 = .ok (.rowcpy true 9 7 12) ∧
    decode 0b1_011110_01001_00000_01100_0000000001 = .ok (.rowset true 9 12) ∧
    decode 0b1_011110_01001_00111_01100_0000000010 = .ok (.rowand true 9 7 12) ∧
    decode 0b1_011110_01001_00111_01100_0000000011 = .ok (.rowor true 9 7 12) ∧
    decode 0b1_011110_01001_00111_01100_0000000100 = .ok (.rowxor true 9 7 12) ∧
    decode 0b1_011110_01001_00111_01100_0000000101 = .ok (.rownot true 9 7 12) ∧
    decode 0b1_011110_01001_00111_01100_0000000110 = .ok (.rowmaj true 9 7 12) := by
  decide +kernel

theorem test_decode_engine :
    decode 0b1_011111_01001_00111_01100_0000000000 = .ok (.cpy true 9 7 12) ∧
    decode 0b1_011111_01001_00111_01100_0000000001 = .ok (.walk true 9 7 12) ∧
    decode 0b1_011111_01001_00111_01100_0000000010 = .ok (.mxv true 9 7 12) ∧
    decode 0b1_011111_00000_00111_00000000000_1_011 = .ok (.qld true 7 1) ∧
    decode 0b1_011111_00000_00111_00000000000_1_100 = .ok (.qst true 7 1) := by
  decide +kernel

theorem test_decode_vector_arithmetic :
    decode 0b1_100000_01001_00111_01100_00000_1_0000 = .ok (.vadd true 9 7 12 1) ∧
    decode 0b1_100000_01001_00111_01100_00000_1_0001 = .ok (.vsub true 9 7 12 1) ∧
    decode 0b1_100000_01001_00111_01100_00000_1_0010 = .ok (.vmul true 9 7 12 1) ∧
    decode 0b1_100000_01001_00111_01100_00101_1_0011 = .ok (.vfma true 9 7 12 5 1) ∧
    decode 0b1_100000_01001_00111_01100_00000_1_0100 = .ok (.vmin true 9 7 12 1) ∧
    decode 0b1_100000_01001_00111_01100_00000_1_0101 = .ok (.vmax true 9 7 12 1) ∧
    decode 0b1_100000_01001_00111_01100_00000_1_0110 = .ok (.vdiv true 9 7 12 1) ∧
    decode 0b1_100000_01001_00111_0000000000_1_0111 = .ok (.vabs true 9 7 1) ∧
    decode 0b1_100000_01001_00111_0000000000_1_1000 = .ok (.vneg true 9 7 1) := by
  decide +kernel

theorem test_decode_vector_function :
    decode 0b1_100001_01001_00111_000000000000000 = .ok (.vsqrt true 9 7) ∧
    decode 0b1_100001_01001_00111_000000000000001 = .ok (.vrcp true 9 7) ∧
    decode 0b1_100001_01001_00111_000000000000010 = .ok (.vrsq true 9 7) ∧
    decode 0b1_100001_01001_00111_000000000000011 = .ok (.vexp2 true 9 7) ∧
    decode 0b1_100001_01001_00111_000000000000100 = .ok (.vlog2 true 9 7) ∧
    decode 0b1_100001_01001_00111_00000000_10_00101 = .ok (.vcvt true 9 7 2) := by
  decide +kernel

theorem test_decode_vector_logic :
    decode 0b1_100010_01001_00111_01100_0000000000 = .ok (.vand true 9 7 12) ∧
    decode 0b1_100010_01001_00111_01100_0000000001 = .ok (.vor true 9 7 12) ∧
    decode 0b1_100010_01001_00111_01100_0000000010 = .ok (.vxor true 9 7 12) ∧
    decode 0b1_100010_01001_00111_01100_0000000011 = .ok (.vshl true 9 7 12) ∧
    decode 0b1_100010_01001_00111_01100_0000000100 = .ok (.vshr true 9 7 12) ∧
    decode 0b1_100010_01001_00111_01100_0000000101 = .ok (.vsra true 9 7 12) := by
  decide +kernel

theorem test_decode_vector_movement :
    decode 0b1_100011_00000_00111_01100_10100_00000 = .ok (.vcmp true 7 12 20) ∧
    decode 0b1_100011_01001_00111_01100_0000000001 = .ok (.vsel true 9 7 12) ∧
    decode 0b1_100011_01001_00111_000000000000010 = .ok (.vbcast true 9 7) ∧
    decode 0b1_100011_01001_00111_000000_0011_00011 = .ok (.vins true 9 7 3) ∧
    decode 0b1_100011_01001_00111_000000_0011_00100 = .ok (.vext true 9 7 3) ∧
    decode 0b1_100011_01001_00111_01100_0000000101 = .ok (.vperm true 9 7 12) ∧
    decode 0b1_100011_01001_00111_01100_0_0011_00110 = .ok (.vslide true 9 7 12 3) := by
  decide +kernel

theorem test_decode_reduction :
    decode 0b1_100100_01001_00111_000000000_1_00000 = .ok (.vredadd true 9 7 1) ∧
    decode 0b1_100100_01001_00111_000000000_1_00001 = .ok (.vredmax true 9 7 1) ∧
    decode 0b1_100100_01001_00111_000000000_1_00010 = .ok (.vredmin true 9 7 1) ∧
    decode 0b1_100100_01001_00111_000000000_1_00011 = .ok (.vscan true 9 7 1) ∧
    decode 0b1_100100_01001_00111_000000000_1_00100 = .ok (.vscanm true 9 7 1) ∧
    decode 0b1_100100_01001_00111_01100_00101_00101 = .ok (.vscanl true 9 7 12 5) := by
  decide +kernel

theorem test_decode_matrix :
    decode 0b1_100101_01001_00111_01100_0000000000 = .ok (.mma true 9 7 12) ∧
    decode 0b1_100101_01001_00000000000000_1_00001 = .ok (.mzero true 9 1) ∧
    decode 0b1_100101_01001_00111_01100_0000_1_00010 = .ok (.mld true 9 7 12 1) ∧
    decode 0b1_100101_01001_00111_000000000_1_00011 = .ok (.mst true 9 7 1) ∧
    decode 0b1_100101_0000000000000000000000100 = .ok (.mcommit true) ∧
    decode 0b1_100101_01001_00000000000_0011_00101 = .ok (.mwaitb true 9 3) ∧
    decode 0b1_100101_01001_00000_01100_0000_1_00110 = .ok (.mstat true 9 12 1) ∧
    decode 0b1_100101_00000_00111_01100_0000_1_00111 = .ok (.cbld true 7 12 1) := by
  decide +kernel

/-! Ill-formed terms: for each check of `Instr.wf`, terms that it refuses. -/

theorem test_ill_formed_rdsys :
    ([.rdsys 0 1 5, .wrsys 0 1 5, .rdsys 0 1 9, .wrsys 0 1 23, .rdsys 0 1 0x30,
      .wrsys 0 1 0x60] : List Instr).all (fun i => !i.wf) = true := by decide

theorem test_ill_formed_fmt :
    ([.fmt 0 0 0 1 0] : List Instr).all (fun i => !i.wf) = true := by decide

theorem test_ill_formed_sext :
    ([.sext 0 1 2 3] : List Instr).all (fun i => !i.wf) = true := by decide

theorem test_ill_formed_fcmp :
    ([.fcmp 0 1 2 3 5 0, .fcmp 0 16 2 3 0 0] : List Instr).all (fun i => !i.wf) = true := by decide

theorem test_ill_formed_fcvt :
    ([.fcvt 0 1 2 0 0, .fcvt 0 1 2 15 0] : List Instr).all (fun i => !i.wf) = true := by decide

theorem test_ill_formed_cmp_condition :
    ([.cmp 0 6 0 2 3 0, .cmpi 0 6 0 2 3 0, .cmp 0 7 0 2 3 0] : List Instr).all (fun i => !i.wf) = true := by decide

theorem test_ill_formed_policy_of_scalar_access :
    ([.ld 0 1 2 6 3 0, .st 0 1 2 7 3 0] : List Instr).all (fun i => !i.wf) = true := by decide

theorem test_ill_formed_policy_of_vector_access :
    ([.ldv 0 1 2 6 0, .stv 0 1 2 7 0] : List Instr).all (fun i => !i.wf) = true := by decide

theorem test_ill_formed_policy_of_atomic :
    ([.aadd 0 2 3 6 3 4, .aand 0 2 3 6 3 4, .aor 0 2 3 6 3 4, .axor 0 2 3 6 3 4, .amin 0 2 3 7 3 4, .amax 0 2 3 7 3 4,
      .aswp 0 2 3 6 3 4, .acas 0 2 3 6 3 4, .afadd 0 2 3 6 3 4] : List Instr).all (fun i => !i.wf) = true := by decide

theorem test_ill_formed_acas_odd_pair :
    ([.acas 0 3 4 0 3 6] : List Instr).all (fun i => !i.wf) = true := by decide

theorem test_ill_formed_pref_kind :
    ([.pref 0 1 2 0] : List Instr).all (fun i => !i.wf) = true := by decide

theorem test_ill_formed_fence_scope :
    ([.fenceAcq 0 5, .fenceRel 0 6, .fenceFull 0 7] : List Instr).all (fun i => !i.wf) = true := by decide

theorem test_ill_formed_barrier_scope :
    ([.bar 0 0 0 1 5, .bara 0 0 0 1 5, .barw 0 0 1 5, .barx 0 0 0 1 5,
      .barq 0 0 0 5] : List Instr).all (fun i => !i.wf) = true := by decide

theorem test_ill_formed_barrier_predicate :
    ([.bar 0 16 0 1 0, .bara 0 16 0 1 0, .barw 0 16 1 0, .barx 0 16 0 1 0] : List Instr).all (fun i => !i.wf) = true := by decide

theorem test_ill_formed_message_pair :
    ([.send 0 1 2 3 0, .recv 0 3] : List Instr).all (fun i => !i.wf) = true := by decide

theorem test_ill_formed_mailbox_fields :
    ([.mbput 0 8 2 0 0, .mbput 0 0 2 1 0, .mbput 0 0 2 16 1, .mbget 0 1 8 0 0, .mbget 0 1 0 1 0,
      .mbget 0 1 0 16 1] : List Instr).all (fun i => !i.wf) = true := by decide

theorem test_ill_formed_stack_value_size :
    ([.bpush 0 0 1 0 1, .bpush 0 0 1 2 0, .bpushn 0 0 1 2 0 1, .bpop 0 1 0 0 1,
      .bpeek 0 1 0 3 0] : List Instr).all (fun i => !i.wf) = true := by decide

theorem test_ill_formed_pushn_range :
    ([.bpushn 0 29 1 3 3 1] : List Instr).all (fun i => !i.wf) = true := by decide

theorem test_ill_formed_register_group_fields :
    ([.bgadd 0 0 1 2 1, .bgclr 0 0 2 1] : List Instr).all (fun i => !i.wf) = true := by decide

theorem test_ill_formed_blink_count :
    ([.blink 0 0 1 0] : List Instr).all (fun i => !i.wf) = true := by decide

theorem test_ill_formed_row_source_range :
    ([.rowcpy 0 0 0 4, .rowcpy 0 0 4 31, .rowset 0 0 31, .rowand 0 0 0 4, .rowand 0 0 31 4, .rowor 0 0 31 4, .rowxor 0 0 4 31,
      .rownot 0 0 0 4, .rownot 0 0 4 31, .rowmaj 0 0 30 4, .rowmaj 0 0 0 4] : List Instr).all (fun i => !i.wf) = true := by decide

theorem test_ill_formed_engine_source_range :
    ([.cpy 0 0 0 31, .walk 0 0 0 31] : List Instr).all (fun i => !i.wf) = true := by decide

theorem test_ill_formed_vcmp_condition :
    ([.vcmp 0 1 2 5, .vcmp 0 1 2 15, .vcmp 0 1 2 22] : List Instr).all (fun i => !i.wf) = true := by decide

theorem test_ill_formed_tile_number :
    ([.mma 0 16 0 0, .mzero 0 16 0, .mld 0 16 1 0 0, .mst 0 16 1 0] : List Instr).all (fun i => !i.wf) = true := by decide

theorem test_ill_formed_tile_load_kind :
    ([.mld 0 0 1 2 0, .cbld 0 0 2 0] : List Instr).all (fun i => !i.wf) = true := by decide

theorem test_ill_formed_mstat_fields :
    ([.mstat 0 1 2 0, .mstat 0 1 16 1] : List Instr).all (fun i => !i.wf) = true := by decide


/-! ### Witnesses: states and operands that meet the hypotheses of the statements, clause by clause -/

/-- What a fetch gives, as data. -/
def fetched (s : State) (a : Nat) : Option IWord :=
  match fetchWord s a with
  | .word w _ => some w
  | _ => none

def fetchedTo (s : State) (a : Nat) : State :=
  match fetchWord s a with
  | .word _ s' => s'
  | _ => s

theorem fetch_of {s : State} {a : Nat} {w : IWord} (h : fetched s a = some w) : fetchWord s a = .word w (fetchedTo s a) := by
  unfold fetched at h; unfold fetchedTo
  split at h
  · next e => rw [Option.some.inj h] at e; simp [e]
  · simp at h

/-- A booted package whose first supervisor fetches the word w next, and its state when that turn begins. -/
def turn (w : Nat) : State := State.reset.withFetchWord 32 w
def begunTurn (w : Nat) : State := turnOf (turn w) ⟨1, 0, 0⟩ 1 []

/-- What the statements about a step ask of the thread whose turn it is, at the start of a unit without a prefix. -/
def atTurn (s : State) : Bool :=
  s.agenda == [⟨.issue ⟨1, 0, 0⟩, 1⟩] && s.prst == 2 && hasTurn s ⟨1, 0, 0⟩ && (threadAt s ⟨1, 0, 0⟩).ss.skp == 0 &&
  (threadAt s ⟨1, 0, 0⟩).prog == .none && (threadAt s ⟨1, 0, 0⟩).ss.priv != 3 && !(threadAt s ⟨1, 0, 0⟩).ss.pp &&
  (threadAt s ⟨1, 0, 0⟩).pc == 0x10000

/-- Nothing of a fetch has failed where nothing is in progress. -/
theorem not_fetchFailed {th : Thread} (h : th.prog = .none) : ¬fetchFailed th := by
  rintro ⟨f, e⟩
  simp [h] at e

theorem wit_StepRunsTheDecodedInstruction :
    atTurn (turn 0x08221801) = true ∧ ¬fetchFailed (threadAt (turn 0x08221801) ⟨1, 0, 0⟩) ∧
    fetchWord (begunTurn 0x08221801) 0x10000 = .word 0x08221801 (fetchedTo (begunTurn 0x08221801) 0x10000) ∧
    decode 0x08221801 = .ok (.sub false 2 4 6) :=
  ⟨by decide +kernel, not_fetchFailed (by decide +kernel), fetch_of (by decide +kernel), by decide +kernel⟩

/-- Of the deck slots the one after slot 6, which issued last, has the turn when it is READY, and otherwise the next that is; so has a
quay thread. -/
theorem wit_TurnsRotate :
    (∀ n < 7, expired (deck []) ⟨5, n, 0⟩ = false) ∧ (coreAt (deck []) 5).rr = 6 ∧ hasTurn (deck []) ⟨5, 0, 0⟩ = true ∧
    (let s := beside (deck []) 3 { Thread.reset with run := .ready }
     hasTurn s ⟨5, 0, 0⟩ = true ∧ hasTurn s ⟨5, 3, 0⟩ = false ∧
     hasTurn { withCore s fun k => { k with rr := 0 } with agenda := [⟨.issue ⟨5, 0, 0⟩, 1⟩] } ⟨5, 3, 0⟩ = true ∧
     hasTurn (withCore s fun k => { k with rr := 0 }) ⟨5, 0, 0⟩ = false) ∧
    (deck []).cur.slot < 7 ∧ expired (on 7 1 0 [] []) ⟨5, 7, 1⟩ = false ∧ hasTurn (on 7 1 0 [] []) ⟨5, 7, 1⟩ = true := by decide +kernel

theorem wit_UndefinedWordFaultsIll :
    atTurn (turn 0x7E000000) = true ∧ ¬fetchFailed (threadAt (turn 0x7E000000) ⟨1, 0, 0⟩) ∧
    fetchWord (begunTurn 0x7E000000) 0x10000 = .word 0x7E000000 (fetchedTo (begunTurn 0x7E000000) 0x10000) ∧
    decode 0x7E000000 = .error .reservedMajor :=
  ⟨by decide +kernel, not_fetchFailed (by decide +kernel), fetch_of (by decide +kernel), by decide +kernel⟩

theorem wit_StepPerformsTheEvent :
    (Instr.rsync 64).isWord = false ∧ (deck []).prst = 2 ∧
    ({ deck [] with agenda := [⟨.event (.rsync 64), 3⟩] } : State).agenda = ⟨.event (.rsync 64), 3⟩ :: [] := by
  decide +kernel

/-- A supervisor at whose turn a fault waits to be taken. -/
def faulty : State := modThread (turn 0) ⟨1, 0, 0⟩ fun th => { th with prog := .faulted FaultInfo.reset }

theorem wit_KeptFaultIsTaken :
    faulty.agenda = ⟨.issue ⟨1, 0, 0⟩, 1⟩ :: [] ∧ faulty.prst = 2 ∧ hasTurn faulty ⟨1, 0, 0⟩ = true ∧
    (threadAt faulty ⟨1, 0, 0⟩).prog = .faulted FaultInfo.reset := by decide +kernel

theorem wit_StepKeepsMemoryCanonical :
    (turn 0x08221801).memOk = true ∧ State.reset.memOk = true := by decide +kernel

theorem wit_AdvanceGoesToTheNextUnit :
    (let th := { Thread.reset with desc := ⟨0, 0x040A0000⟩ }
     th.desc.rep ≠ 0 ∧ th.ss.repc.toNat + 1 < repCount th.desc.rep) ∧
    Thread.reset.desc.rep = 0 ∧
    (let th := { Thread.reset with desc := ⟨0, 0x040A0000⟩, ss := { Status.reset with repc := 255 } }
     repCount th.desc.rep ≤ th.ss.repc.toNat + 1) := by decide +kernel

/-- A thread that waits for a deferred result in g3. -/
def awaiting : State := withMe (deck []) fun th => { th with outs := [{ Out.blank 7 .ld with file := .g, reg := 3 }] }

theorem wit_CompletionChangesOnlyProgress :
    vlqPops (deck []).cur (me (deck [])) (.add false 3 1 2) = 0 ∧ awaited (me (deck [])) (.st false 3 1 0 3 0) = [] ∧
    vlqPops awaiting.cur (me awaiting) (.st false 3 1 0 3 0) = 0 ∧ awaited (me awaiting) (.st false 3 1 0 3 0) ≠ [] := by decide +kernel


/-- Every instruction of a list issues in a state. -/
theorem all_issue {l : List Instr} {s : State} (h : l.all (fun i => issuesB i s) = true) : ∀ i ∈ l, Issues i s :=
  fun i hi => issues_of (List.all_eq_true.1 h i hi)

/-- Every instruction of a list issues in every state of another. -/
theorem each_issues {l : List Instr} {ss : List State} (h : ss.all (fun s => l.all fun i => issuesB i s) = true) :
    ∀ s ∈ ss, ∀ i ∈ l, Issues i s :=
  fun s hs => all_issue (List.all_eq_true.1 h s hs)

/-- Registers with distinct small values. -/
def someRegs : Assoc Word := [(1, 0x10), (2, 7), (4, 64), (6, 3)]

theorem wit_IntegerResults : ∀ i ∈ ([
    .add false 3 1 2, .sub false 3 1 2, .and false 3 1 2, .or false 3 1 2, .xor false 3 1 2, .andn false 3 1 2,
    .shl false 3 1 2, .shr false 3 1 2, .sra false 3 1 2, .min false 3 1 2, .max false 3 1 2, .minu false 3 1 2,
    .maxu false 3 1 2, .clz false 3 1, .ctz false 3 1, .popc false 3 1, .sext false 3 1 0, .sext false 3 1 1,
    .sext false 3 1 2, .addi false 3 1 (-1), .andi false 3 1 (-1), .ori false 3 1 5, .xori false 3 1 5, .shli false 3 1 63,
    .shri false 3 1 63, .srai false 3 1 63, .lui false 3 (-1), .add false 0 1 2] : List Instr), Issues i (deck someRegs) :=
  all_issue (by decide +kernel)

theorem wit_MultiplyDivideResults : ∀ i ∈ ([
    .mul false 3 1 2, .mulh false 3 1 2, .mulhu false 3 1 2, .div false 3 1 2, .div false 3 1 0, .divu false 3 1 2,
    .rem false 3 1 2, .remu false 3 1 2, .remu false 3 1 0] : List Instr), Issues i (deck someRegs) :=
  all_issue (by decide +kernel)

theorem wit_ScalarFloatResults : ∀ i ∈ ([
    .fadd false 3 1 2 0, .fadd false 3 1 2 1, .fsub false 3 1 2 1, .fmul false 3 1 2 1, .fdiv false 3 1 2 1,
    .fmin false 3 1 2 1, .fmax false 3 1 2 1, .fma false 3 1 2 1, .fsqrt false 3 1 1, .fcmp false 3 1 2 0 1,
    .fcmp false 15 1 2 4 1, .fcvt false 3 1 1 1, .fcvt false 3 1 14 0, .fcvt false 3 1 12 0] : List Instr),
    Issues i (deck someRegs) :=
  all_issue (by decide +kernel)

theorem wit_FloatSpecialValues :
    (fmt64.read 0x7FF0000000000001).isNan = true ∧ (fmt64.read 0x7FF0000000000001).isSig = true ∧
    (fmt32.read 0x7FC00000).isNan = true ∧ (fmt32.read 0x7FC00000).isSig = false ∧
    (fmt64.read 0).isNan = false := by decide +kernel

theorem wit_FloatFiniteValues :
    (∃ n m e, fmt64.read 0x3FF0000000000000 = .fin n m e ∧ m ≠ 0) ∧ ∃ m e, fmt32.read 0xBF800000 = .fin true m e ∧ m ≠ 0 :=
  ⟨⟨_, _, _, rfl, by decide +kernel⟩, _, _, rfl, by decide +kernel⟩

theorem wit_RepresentableValuesRoundExactly :
    fmtE4 ∈ formats ∧ 0x7E < 2 ^ fmtE4.bits ∧ (fmtE4.read 0x7E).isNan = false ∧
    fmt64 ∈ formats ∧ 1 < 2 ^ fmt64.bits ∧ (fmt64.read 1).isNan = false := by
  refine ⟨by simp [formats], by decide +kernel, by decide +kernel, by simp [formats], by decide +kernel⟩

theorem wit_CompareResults :
    (∀ i ∈ ([.cmp false 0 0 3 1 2, .cmp false 5 3 3 1 2, .cmpi false 2 1 3 1 7] : List Instr), Issues i (deck someRegs)) ∧
    condHolds 5 0x10 7 = true ∧ condHolds 0 0x10 7 = false ∧ condHolds 2 0x10 7 = false ∧
    (0 : BitVec 2) = 0 ∧ (1 : BitVec 2) ≠ 0 :=
  ⟨all_issue (by decide +kernel), by decide +kernel⟩

/-- g1 holds a target, g2 an address that is no multiple of 4. -/
theorem wit_BranchAndJumpResults :
    (∀ i ∈ ([.bt false 15 (-4), .bf false 0 5, .j false (-1), .jal false 1 2, .jr false 1, .jr false 2, .jalr false 3 1,
      .jalr false 1 2] : List Instr), Issues i (deck someRegs)) ∧
    (srcG (deck someRegs) (.jr false 1) .a 1).toNat % 4 = 0 ∧ (srcG (deck someRegs) (.jr false 2) .a 2).toNat % 4 ≠ 0 ∧
    (srcG (deck someRegs) (.jalr false 3 1) .a 1).toNat % 4 = 0 ∧
    (srcG (deck someRegs) (.jalr false 1 2) .a 2).toNat % 4 ≠ 0 :=
  ⟨all_issue (by decide +kernel), by decide +kernel⟩

theorem wit_NopAndBreak :
    (∀ i ∈ ([.nop, .brk false 0x3FF] : List Instr), Issues i (deck [])) ∧ (me (deck [])).outs = [] :=
  ⟨all_issue (by decide +kernel), by decide +kernel⟩

/-- A state whose trap vector is enabled, and one whose thread has a privilege. -/
def trapping (p : BitVec 2) (v : Word) : State :=
  withMe (withCore (deck [(24, 0x20001)]) fun k => { k with tvec := v }) fun th => { th with ss := { th.ss with priv := p } }

theorem wit_TrapEntersTheHandler :
    (Issues (.trap false 255) (trapping 0 0x5000) ∧ (myCore (trapping 0 0x5000)).tvec.getLsbD 0 = false) ∧
    (Issues (.trap false 255) (trapping 3 0x5001) ∧ (myCore (trapping 3 0x5001)).tvec.getLsbD 0 = true ∧
      (me (trapping 3 0x5001)).ss.priv = 3) ∧
    (Issues (.trap false 0) (trapping 0 0x5001) ∧ (myCore (trapping 0 0x5001)).tvec.getLsbD 0 = true ∧
      (me (trapping 0 0x5001)).ss.priv ≠ 3) :=
  ⟨issues_with (by decide +kernel), issues_with (by decide +kernel), issues_with (by decide +kernel)⟩

/-- A thread of privilege p whose g24 holds w. -/
def returning (p : BitVec 2) (w : Word) : State :=
  withMe (deck [(24, w)]) fun th => { th with ss := { th.ss with priv := p } }

theorem wit_EretReturnsFromTheHandler :
    (Issues (.eret false) (returning 0 0x20000) ∧ (me (returning 0 0x20000)).ss.priv = 0) ∧
    (Issues (.eret false) (returning 1 0x20003) ∧ (me (returning 1 0x20003)).ss.priv ≠ 0 ∧
      (rdG (me (returning 1 0x20003)) 24).extractLsb' 0 2 = 3) ∧
    (Issues (.eret false) (returning 1 0x20002) ∧ (me (returning 1 0x20002)).ss.priv.toNat <
      ((rdG (me (returning 1 0x20002)) 24).extractLsb' 0 2).toNat ∧ (rdG (me (returning 1 0x20002)) 24).extractLsb' 0 2 ≠ 3) ∧
    (Issues (.eret false) (returning 1 0x20001) ∧ ((rdG (me (returning 1 0x20001)) 24).extractLsb' 0 2).toNat ≤
      (me (returning 1 0x20001)).ss.priv.toNat ∧ (me (returning 1 0x20001)).ss.priv ≠ 0) :=
  ⟨issues_with (by decide +kernel), issues_with (by decide +kernel), issues_with (by decide +kernel), issues_with (by decide +kernel)⟩

/-- A thread with one store outstanding. -/
def storing (s : State) : State := withMe s fun th => { th with outs := [Out.blank 7 .store] }

theorem wit_PreciseFaultFreezesTheThread :
    (me (deck [])).outs = [] ∧ (me (storing (deck []))).outs ≠ [] ∧
    (me (withMe (deck []) fun th => { th with popped := [5], claim := true })).popped = [5] ∧
    ((4 : Nat) ≠ (deck []).cur.core) ∧ tid ⟨5, 7, 1⟩ ≠ tid (deck []).cur := by decide +kernel

/-- A user thread that is no kernel slot. -/
def user (g : Assoc Word) : State := withMe (deck g) fun th => { th with ss := { th.ss with priv := 0 } }

theorem wit_SystemRegisterAccess :
    (∀ i ∈ ([.rdsys false 3 0, .rdsys false 3 0x16, .rdsys false 3 0x5F, .wrsys false 1 0, .wrsys false 1 3, .wrsys false 1 8,
      .wrsys false 1 0x14] : List Instr), Issues i (deck someRegs)) ∧
    (∀ i ∈ ([.rdsys false 3 8, .rdsys false 3 0x2F, .wrsys false 1 3, .wrsys false 1 0x40] : List Instr), Issues i (user [])) ∧
    named 0x16 ∧ named 0x5F ∧ readable (deck []) 0x5F = true ∧ readable (user []) 8 = false ∧ readable (user []) 0x2F = false ∧
    writable (user []) 3 = false ∧ writable (user []) 0x40 = false ∧ writable (deck []) 0x14 = true ∧
    (writtenRegister (deck someRegs) 0 0x10).isSome = true ∧ (writtenRegister (deck []) 0x14 1).isSome = true :=
  ⟨all_issue (by decide +kernel), all_issue (by decide +kernel), by unfold named; decide, by unfold named; decide, by decide +kernel⟩

/-- A supervisor of the non-secure world. -/
def nonSecure (g : Assoc Word) : State := withCore (deck g) fun k => { k with ctxid := 0x10000 }

theorem wit_SystemRegisterChanges :
    (∀ i ∈ ([.wrsys false 1 0x10, .wrsys false 1 0x11, .wrsys false 1 0x15, .wrsys false 1 0x16, .wrsys false 1 0x20,
      .wrsys false 1 0x2F, .wrsys false 1 0x40, .wrsys false 1 0x5F] : List Instr), Issues i (deck someRegs)) ∧
    Issues (.wrsys false 1 0x10) (nonSecure someRegs) ∧
    Sys2Proof.Claims.nonSecure (nonSecure someRegs) ∧ ¬Sys2Proof.Claims.nonSecure (deck someRegs) ∧
    (srcG (nonSecure someRegs) (.wrsys false 1 0x10) .d 1).getLsbD 16 = false ∧
    (myCore (deck someRegs)).ctxid.getLsbD 16 = false ∧ writable (deck []) 0x10 = true ∧ writable (deck []) 0x11 = true ∧
    writable (deck []) 0x15 = true ∧ writable (deck []) 0x16 = true ∧ writable (deck []) 0x2F = true ∧
    writable (deck []) 0x5F = true :=
  ⟨all_issue (by decide +kernel), issues_of (by decide +kernel), by unfold Claims.nonSecure; decide +kernel⟩

theorem wit_ContextChangeClearsTiles :
    (coreAt (deck []) 5).ctxid ≠ (0x30001 : Word) &&& 0xFFFFFFFFFF01FFFF ∧
    (coreAt (deck []) 5).ctxid = (0x20000 : Word) &&& 0xFFFFFFFFFF01FFFF ∧ (4 : Nat) ≠ 5 := by decide +kernel



theorem wit_SlotControlResults :
    (∀ i ∈ ([.susp false 1, .resm false 1, .rdslot false 3 1, .wrslot false 3 1, .ctxkill false 2] : List Instr),
      Issues i (user [])) ∧
    (∀ i ∈ ([.susp false 1, .susp false 4, .resm false 1, .rdslot false 3 2, .wrslot false 3 2] : List Instr),
      Issues i (beside (deck [(1, 0x20), (2, 0x2802), (4, 2)]) 2 busy)) ∧
    kernelSlotUp (user []) = false ∧ (me (user [])).ss.priv ≠ 2 ∧
    kernelSlotUp (deck []) = true ∧ slotNamed (deck []) 0x20 false = none ∧ slotNamed (deck []) 2 false = some ⟨5, 2, 0⟩ ∧
    slotNamed (deck []) 0x2802 true = some ⟨5, 2, 0⟩ ∧ settled (stopSlot (deck []) ⟨5, 2, 0⟩) ⟨5, 2, 0⟩ ∧
    ¬settled (stopSlot (beside (deck []) 2 busy) ⟨5, 2, 0⟩) ⟨5, 2, 0⟩ ∧
    (let s := setThread (deck []) ⟨5, 7, 1⟩ { busy with susp := true }
     ¬settled (stopSlot s ⟨5, 7, 0⟩) ⟨5, 7, 0⟩) :=
  ⟨all_issue (by decide +kernel), all_issue (by decide +kernel), by unfold settled; decide +kernel⟩

/-- CTXKILL: an operand too wide, another world's context from a non-secure supervisor, and a context that may be killed. -/
theorem wit_ContextKill :
    (Issues (.ctxkill false 1) (deck [(1, 0x20000)]) ∧ (me (deck [(1, 0x20000)])).ss.priv = 2 ∧
      2 ^ 17 ≤ (srcG (deck [(1, 0x20000)]) (.ctxkill false 1) .a 1).toNat) ∧
    (Issues (.ctxkill false 1) (nonSecure [(1, 9)]) ∧ (myCore (nonSecure [(1, 9)])).ctxid.getLsbD 16 = true ∧
      (srcG (nonSecure [(1, 9)]) (.ctxkill false 1) .a 1).getLsbD 16 = false) ∧
    (Issues (.ctxkill false 1) (deck [(1, 0x1FFFF)]) ∧ (myCore (deck [(1, 0x1FFFF)])).ctxid.getLsbD 16 = false ∧
      (myCore (deck [(1, 0x1FFFF)])).ctxid.extractLsb' 0 17 ≠
        (srcG (deck [(1, 0x1FFFF)]) (.ctxkill false 1) .a 1).extractLsb' 0 17) :=
  ⟨issues_with (by decide +kernel), issues_with (by decide +kernel), issues_with (by decide +kernel)⟩

theorem wit_SuspensionOfADeckSlot :
    (threadAt (deck []) ⟨5, 1, 0⟩).run = .free ∧ (threadAt (deck []) ⟨5, 0, 0⟩).run = .ready ∧
    (threadAt (deck []) ⟨5, 0, 0⟩).ss.skp = 0 ∧ (threadAt (deck []) ⟨5, 0, 0⟩).ss.pp = false ∧
    (let th := threadAt (beside (deck []) 2 { busy with ss := { busy.ss with skp := 3 } }) ⟨5, 2, 0⟩
     th.run = .ready ∧ th.froz = false ∧ th.susp = false ∧ th.ss.skp ≠ 0) ∧
    (let th := threadAt (beside (deck []) 2 { busy with run := .parked .marker }) ⟨5, 2, 0⟩
     th.run = .parked .marker ∧ th.ss.skp = 0) ∧
    (let th := threadAt (beside (deck []) 2 { busy with susp := true }) ⟨5, 2, 0⟩
     th.susp = true ∧ th.froz = false) ∧
    (threadAt (beside (deck []) 6 { busy with froz := true }) ⟨5, 6, 0⟩).froz = true ∧
    (threadAt (beside (deck []) 6 { busy with run := .departing (.go 6) }) ⟨5, 6, 0⟩).run = .departing (.go 6) ∧
    (threadAt (beside (deck []) 6 { busy with ss := { busy.ss with pp := true, repc := 2 } }) ⟨5, 6, 0⟩).ss.repc ≠ 0 ∧
    (threadAt (deck []) ⟨5, 0, 0⟩).susp = false ∧ (threadAt (deck []) ⟨5, 0, 0⟩).froz = false := by decide +kernel

/-- What the check of a unit gives, as data. -/
def checked (s : State) (d : Descriptor) (va : Nat) : Option Bool :=
  match checkUnit s 2 d va with
  | .ok mk _ => some mk
  | _ => none

def checkedTo (s : State) (d : Descriptor) (va : Nat) : State :=
  match checkUnit s 2 d va with
  | .ok _ s' => s'
  | _ => s

theorem check_of {s : State} {d : Descriptor} {va : Nat} {mk : Bool} (h : checked s d va = some mk) :
    checkUnit s 2 d va = .ok mk (checkedTo s d va) := by
  unfold checked at h; unfold checkedTo
  split at h
  · next e => rw [Option.some.inj h] at e; simp [e]
  · simp at h

/-- The first supervisor of a booted package, at a prefix whose unit ends with the word w. -/
def prefixed (w : Nat) : State :=
  let s := State.reset.withFetchWord 32 w
  { modThread s ⟨1, 0, 0⟩ (fun th => { th with pc := 0xFFFC }) with agenda := [] }

theorem wit_PrefixesEnterTheDescriptor :
    checkUnit (prefixed 0x40221800) 2 ⟨0x02318000, 0⟩ 0x10000 = .ok false (checkedTo (prefixed 0x40221800) ⟨0x02318000, 0⟩ 0x10000) ∧
    checkUnit (prefixed 0x40221800) 2 ⟨0, 0x040A1000⟩ 0x10000 = .ok false (checkedTo (prefixed 0x40221800) ⟨0, 0x040A1000⟩ 0x10000) ∧
    canIssue (me (prefixed 0x40221800)) = true ∧ expired (prefixed 0x40221800) (prefixed 0x40221800).cur = false ∧
    unaccepted (me (prefixed 0x40221800)) < 32 ∧ (Instr.fmt 3 3 0 0 0).wf = true ∧ encode (.fmt 3 3 0 0 0) = some 0x02318000 ∧
    encode (.rep 5 1 0 0) = some 0x040A1000 ∧ (me (prefixed 0x40221800)).desc = ⟨0, 0⟩ ∧ (me (prefixed 0x40221800)).pc = 0xFFFC :=
  ⟨check_of (by decide +kernel), check_of (by decide +kernel), by decide +kernel⟩

/-- The owner that a `.go` access finds, as data. -/
def owner (s : State) (va : Nat) (n : Need) (k : Nat) : Option Nat :=
  match goPlace s va n k with
  | .core c => some c
  | .wait _ => none

theorem owner_of {s : State} {va k c : Nat} {n : Need} (h : owner s va n k = some c) : goPlace s va n k = .core c := by
  unfold owner at h
  split at h
  · next e => rw [Option.some.inj h] at e; exact e
  · simp at h

/-- A roaming thread that is not anchored. -/
def roaming (s : State) : State := withMe s fun th => { th with ss := { th.ss with roam := true } }

/-- g1: an address of bank 2 of core 5; g2: of a bank of core 6; g4: a plain address; g6: a misaligned one. -/
def addrs : Assoc Word := [(1, 0xF0000000520000), (2, 0xF0000000600000), (4, 0x40000), (6, 0x40003)]

theorem wit_ScalarAccessesIssue :
    (∀ i ∈ ([.ld false 3 6 0 1 0, .ld false 3 1 0 3 0, .ld false 3 1 5 3 (-1), .ld false 3 4 0 3 511, .ld false 3 4 4 3 0,
      .st false 3 6 0 1 0, .st false 3 1 0 3 0, .st false 3 1 5 3 0, .st false 3 4 0 3 0, .st false 3 4 4 3 0] : List Instr),
      Issues i (deck addrs)) ∧
    (∀ i ∈ ([.ld false 3 1 4 3 0, .ld false 3 2 4 3 0, .st false 3 1 4 3 0, .st false 3 2 4 3 0] : List Instr),
      Issues i (roaming (deck addrs))) ∧
    goPlace (named_ (roaming (deck addrs))) 0xF0000000520000 Need.load 0 = .core 5 ∧
    goPlace (named_ (roaming (deck addrs))) 0xF0000000600000 Need.load 0 = .core 6 ∧
    goPlace (named_ (roaming (deck addrs))) 0xF0000000600000 Need.store 1 = .core 6 ∧
    address (deck addrs) (.ld false 3 6 0 1 0) 6 0 2 % 2 ≠ 0 ∧ address (deck addrs) (.st false 3 6 0 1 0) 6 0 2 % 2 ≠ 0 ∧
    address (deck addrs) (.ld false 3 4 0 3 511) 4 511 8 % 8 = 0 ∧
    bankRegion (deck addrs) 0xF0000000520000 ∧ ¬bankRegion (deck addrs) 0x40000 ∧
    travels (named_ (deck addrs)) false = false ∧ travels (named_ (roaming (deck addrs))) false = true :=
  ⟨all_issue (by decide +kernel), all_issue (by decide +kernel), owner_of (by decide +kernel), owner_of (by decide +kernel),
    owner_of (by decide +kernel), by unfold bankRegion; decide +kernel⟩

theorem wit_VectorAccessesIssue :
    (∀ i ∈ ([.ldv false 3 6 0 0, .ldv false 3 4 0 1, .ldv false 3 1 0 0, .ldv false 3 1 5 0, .ldv false 3 4 4 0,
      .stv false 3 6 0 0, .stv false 3 4 0 1, .stv false 3 1 0 0, .stv false 3 1 5 0, .stv false 3 4 4 0] : List Instr),
      Issues i (deck addrs)) ∧
    (∀ i ∈ ([.ldv false 3 1 4 0, .stv false 3 2 4 0] : List Instr), Issues i (roaming (deck addrs))) ∧
    address (deck addrs) (.ldv false 3 6 0 0) 6 0 64 % vectorBytes (deck addrs) ≠ 0 ∧
    address (deck addrs) (.stv false 3 6 0 0) 6 0 64 % vectorBytes (deck addrs) ≠ 0 ∧
    address (deck addrs) (.ldv false 3 4 0 1) 4 1 64 % vectorBytes (deck addrs) = 0 ∧
    travels (named_ (roaming (deck addrs))) true = false :=
  ⟨all_issue (by decide +kernel), all_issue (by decide +kernel), by decide +kernel⟩

theorem wit_AtomicsIssue :
    (∀ i ∈ ([.aadd false 3 4 0 0 0, .aadd false 3 4 0 1 15, .aand false 3 4 0 1 6, .aor false 3 4 0 1 0, .axor false 3 4 0 0 0,
      .amin false 3 4 0 0 0, .amax false 3 4 0 1 0, .aswp false 3 4 0 1 0, .acas false 2 4 0 1 0, .afadd false 3 4 0 1 0,
      .aadd false 3 6 0 0 0, .acas false 2 6 0 1 0, .aadd false 3 1 5 1 0, .aadd false 3 1 0 1 0, .aadd false 3 4 4 1 0]
      : List Instr), Issues i (deck addrs)) ∧
    (∀ i ∈ ([.aadd false 3 1 4 1 0, .aadd false 3 2 4 1 0] : List Instr), Issues i (roaming (deck addrs))) ∧
    (srcG (deck addrs) (.aadd false 3 6 0 0 0) .a 6).toNat % 4 ≠ 0 ∧ (srcG (deck addrs) (.aadd false 3 4 0 1 15) .a 4).toNat % 8 = 0 ∧
    goPlace (named_ (roaming (deck addrs))) 0xF0000000600000 Need.both 2 = .core 6 :=
  ⟨all_issue (by decide +kernel), all_issue (by decide +kernel), by decide +kernel, by decide +kernel, owner_of (by decide +kernel)⟩

theorem wit_LaunchedAccessIsInFlight : ∀ x ∈ (deck []).inflight, x.id ≠ (Access.blank 4 ⟨5, 0, 0⟩ .store).id := by decide +kernel

/-- g1: base; g2: 2^32 + 1; g4: 2^32. -/
def lengths : Assoc Word := [(1, 0x40010), (2, 0x100000001), (4, 0x100000000)]

theorem wit_CacheRangesIssue :
    (∀ i ∈ ([.clean false 1 0, .clean false 1 2, .clean false 1 4, .inval false 1 0, .inval false 1 2, .inval false 1 4,
      .flush false 1 0, .flush false 1 2, .flush false 1 4, .pref false 0 1 0, .pref false 0 1 2, .pref false 2 1 4] : List Instr),
      Issues i (deck lengths)) ∧
    2 ^ 32 < (srcG (deck lengths) (.clean false 1 2) .b 2).toNat ∧ (srcG (deck lengths) (.clean false 1 0) .b 0).toNat = 0 ∧
    (srcG (deck lengths) (.clean false 1 4) .b 4).toNat = 2 ^ 32 :=
  ⟨all_issue (by decide +kernel), by decide +kernel⟩

/-- A thread whose last load has not read yet: no release of it holds. -/
def unread (s : State) : State := { s with nextId := 9, inflight := [Access.blank 3 s.cur .load] }

/-- A thread with a release fence that is still open. -/
def fencing (s : State) : State := { s with nextId := 9, inflight := [Access.blank 3 s.cur (.fence 2)] }

theorem wit_FencesReleaseAndAcquire :
    (∀ s ∈ ([deck [], unread (deck [])] : List State),
      ∀ i ∈ ([.fenceAcq false 0, .fenceAcq false 4, .fenceRel false 0, .fenceRel false 4, .fenceFull false 3] : List Instr),
      Issues i s) ∧
    released (begun (deck []) 4) (deck []).cur 4 = true ∧ released (begun (unread (deck [])) 0) (deck []).cur 0 = false ∧
    ReadsBack (deck []) ∧ ¬ReadsBack (unread (deck [])) ∧
    (let x := { Access.blank 3 ⟨5, 0, 0⟩ (.fence 2) with va := 0 }
     x ∈ (fencing (deck [])).inflight ∧ x.id < (Access.blank 4 ⟨5, 0, 0⟩ .load).id ∧ sameThread x (Access.blank 4 ⟨5, 0, 0⟩ .load) = true ∧
     prefetches (Access.blank 4 ⟨5, 0, 0⟩ .load).kind = false) :=
  ⟨each_issues (by decide +kernel), by decide +kernel, by decide +kernel, by unfold ReadsBack; decide +kernel,
    by unfold ReadsBack; decide +kernel, by decide +kernel⟩

/-- g1: object 31; g2: an arrival of one; g4: 32; g6: NOWAIT and a count of 2; g8: 2^24 - 1. -/
def barRegs : Assoc Word := [(1, 31), (2, 1), (4, 32), (6, 0x100000002), (8, 0xFFFFFF)]
def barred (b : Barrier) : State := setBarrier (deck barRegs) 5 0 31 b
def waitsAt (s : State) (ph : Bool) : State := withMe s fun th => { th with regs := [⟨0, 31, ph⟩] }

theorem wit_BarrierInstructions :
    (∀ s ∈ ([deck barRegs, roaming (deck barRegs), barred { Barrier.reset with hold := true },
      barred { Barrier.reset with pend := 1 }, waitsAt (barred { Barrier.reset with phase := true }) false,
      waitsAt (deck barRegs) false, unread (deck barRegs)] : List State), ∀ i ∈ ([.bara false 0 1 2 0, .bara false 15 1 6 0,
      .bara false 0 4 2 0, .bara false 0 1 2 4, .bara false 0 1 4 0,
      .barw false 0 1 0, .barw false 0 4 0, .barw false 0 1 1, .barx false 0 1 2 0, .barx false 0 1 0 0, .barx false 0 1 8 0,
      .barx false 0 4 2 0, .barx false 0 1 2 3, .barq false 3 1 0, .barq false 3 4 0, .barq false 3 1 2] : List Instr),
      Issues i s) ∧
    32 ≤ (32 : Word).toNat ∧ (me (roaming (deck barRegs))).ss.roam = true ∧
    barrierAssigned (deck barRegs) 1 31 = false ∧ barrierAssigned (deck barRegs) 4 31 = false ∧
    usable (deck barRegs) 0 31 ∧ ¬arrivalLegal 32000000 ∧ ¬arrivalLegal 0 ∧ arrivalLegal 1 ∧ arrivalLegal 0x100000002 ∧
    refused { Barrier.reset with hold := true } (me (deck barRegs)) 0 true ∧ ¬refused Barrier.reset (me (deck barRegs)) 0 false ∧
    released (begun (deck barRegs) 0) (deck barRegs).cur 0 = true ∧
    released (begun (unread (deck barRegs)) 0) (deck barRegs).cur 0 = false ∧
    2 ^ 24 ≤ (barrierAt (barred { Barrier.reset with pend := 1 }) 5 0 31).pend + 0xFFFFFF ∧
    (barrierAt (deck barRegs) 5 0 31).hold = false ∧
    (((me (deck barRegs)).regs.find? fun r => r.level == 0 && r.obj == 31) = none) ∧
    ((me (waitsAt (deck barRegs) false)).regs.find? fun r => r.level == 0 && r.obj == 31) = some ⟨0, 31, false⟩ ∧
    (barrierAt (waitsAt (barred { Barrier.reset with phase := true }) false) 5 0 31).phase ≠ false ∧
    (barrierAt (waitsAt (deck barRegs) false) 5 0 31).phase = false :=
  ⟨each_issues (by decide +kernel), by unfold usable arrivalLegal refused; decide +kernel⟩

/-- A BAR whose arrival is made: its thread waits, or has results outstanding; and one whose acquire fence is under way. -/
def arrived (s : State) : State := withMe s fun th => { th with prog := .arrived }
def leavingNow (s : State) : State := withMe s fun th => { th with prog := .leaving }

/-- A BARW or a BAR that has observed its phase, with its earlier reads back or not. -/
theorem wit_LeavingThroughAFence :
    (∀ s ∈ ([leavingNow (deck barRegs), leavingNow (unread (deck barRegs))] : List State),
      ∀ i ∈ ([.barw false 0 1 0, .bar false 0 1 2 0] : List Instr), Issues i s ∧ (me s).prog = .leaving) ∧
    ReadsBack (leavingNow (deck barRegs)) ∧ ¬ReadsBack (leavingNow (unread (deck barRegs))) ∧ usable (deck barRegs) 0 31 :=
  ⟨fun s hs i hi => ⟨each_issues (by decide +kernel) s hs i hi,
      (by decide +kernel : ∀ s ∈ ([leavingNow (deck barRegs), leavingNow (unread (deck barRegs))] : List State), (me s).prog = .leaving) s hs⟩,
    by unfold ReadsBack; decide +kernel, by unfold ReadsBack; decide +kernel, by unfold usable; decide +kernel⟩

theorem wit_BarArrivesAndWaits :
    (∀ s ∈ ([deck barRegs, unread (deck barRegs), waitsAt (deck barRegs) true, arrived (deck barRegs),
      storing (arrived (deck barRegs))] : List State), ∀ i ∈ ([.bar false 0 1 2 0, .bar false 0 1 6 0, .bar false 0 4 2 0,
      .bar false 0 1 2 1] : List Instr), Issues i s) ∧
    (me (deck barRegs)).prog ≠ .arrived ∧ (me (arrived (deck barRegs))).prog = .arrived ∧
    (me (storing (arrived (deck barRegs)))).outs ≠ [] ∧ (me (arrived (deck barRegs))).outs = [] ∧
    refused (barrierAt (waitsAt (deck barRegs) true) 5 0 31) (me (waitsAt (deck barRegs) true)) 0 false ∧
    (0x100000002 : Word).getLsbD 32 = true :=
  ⟨each_issues (by decide +kernel), by unfold refused; decide +kernel⟩

theorem wit_BarrierObjectArithmetic :
    (let b : Barrier := { Barrier.reset with npart := 2, arrived := 2 }
     b.npart ≠ 0 ∧ b.arrived = b.npart ∧ b.pend = 0) ∧
    (let b : Barrier := { Barrier.reset with npart := 2, arrived := 2, pend := 64, waiters := 2 }
     b.npart ≠ 0 ∧ b.arrived = b.npart ∧ b.waiters ≠ 0 ∧ 1 < b.waiters) ∧
    (Barrier.reset.npart = 0 ∧ 3 < ({ Barrier.reset with pend := 4 } : Barrier).pend ∧
      ({ Barrier.reset with pend := 4 } : Barrier).pend < 5) ∧
    Barrier.reset = barrierAt (deck []) (deck []).cur.core 0 7 ∧
    ∀ e ∈ (coreAt (deck []) 5).threads, match e.2.run with
      | .parked (.barrier _ _ _) => False
      | _ => True := by
  refine ⟨by decide +kernel, by decide +kernel, by decide +kernel, by decide +kernel, ?_⟩
  intro e he
  have h : (coreAt (deck []) 5).threads.all (fun e => e.2.run == .ready) = true := by decide +kernel
  have := List.all_eq_true.1 h e he
  rw [beq_iff_eq] at this
  rw [this]; trivial

/-- A thread that waits at an object whose phase then ends. -/
def atBarrier : State := withMe (waitsAt (deck barRegs) false) fun th => { th with run := .parked (.barrier 0 31 3) }

theorem wit_CompletedPhaseReleasesWaiters :
    let b := { Barrier.reset with phase := true, waiters := 1, hold := true }
    barrierAt (setBarrier atBarrier 5 0 31 b) 5 0 31 = b ∧ (threadAt atBarrier ⟨5, 0, 0⟩).run = .parked (.barrier 0 31 3) ∧
    (∃ r ∈ (threadAt atBarrier ⟨5, 0, 0⟩).regs, r.level = 0 ∧ r.obj = 31 ∧ r.phase ≠ b.phase) ∧
    (threadAt atBarrier ⟨5, 0, 0⟩).susp = false ∧ (threadAt atBarrier ⟨5, 0, 0⟩).froz = false ∧
    (⟨5, 0, 0⟩ : ThreadRef) = ofTid 5 (tid ⟨5, 0, 0⟩) ∧ readsReturned atBarrier ⟨5, 0, 0⟩ atBarrier.nextId = true ∧
    readsReturned (unread atBarrier) ⟨5, 0, 0⟩ (unread atBarrier).nextId ≠ true ∧
    (threadAt (withMe atBarrier fun th => { th with susp := true }) ⟨5, 0, 0⟩).susp = true ∧
    (threadAt (withMe atBarrier fun th => { th with froz := true }) ⟨5, 0, 0⟩).froz = true := by decide +kernel


/-- A message for RID 0 in the core's queue. -/
def aMsg : Msg := Msg.plain 1 2 0 false
def messaged (s : State) : State := withCore s fun k => { k with msgs := [aMsg] }
def asked (s : State) (p : Progress) : State := withMe s fun th => { th with prog := p }

/-- g1: core 6, tag 9; g2: 2^42. -/
def msgRegs : Assoc Word := [(1, 0x600000009), (2, 0x40000000000)]

theorem wit_MessageInstructions :
    (∀ s ∈ ([deck msgRegs, messaged (deck msgRegs), asked (deck msgRegs) (.answered 0),
      asked (deck msgRegs) (.asked 0)] : List State), ∀ i ∈ ([.send false 3 1 6 0, .send false 3 1 6 1, .send false 3 2 6 0,
      .recv false 2, .waitm false] : List Instr), Issues i s) ∧
    (me (deck msgRegs)).prog = .none ∧ (me (asked (deck msgRegs) (.answered 0))).prog = .answered 0 ∧
    (me (asked (deck msgRegs) (.asked 0))).prog = .asked 0 ∧
    (srcG (deck msgRegs) (.send false 3 1 6 0) .a 1).toNat < 2 ^ 42 ∧ 2 ^ 42 ≤ (srcG (deck msgRegs) (.send false 3 2 6 0) .a 2).toNat ∧
    ((myCore (deck [])).msgs.find? fun x => x.tag == (me (deck [])).rid) = none ∧
    ((myCore (messaged (deck []))).msgs.find? fun x => x.tag == (me (messaged (deck []))).rid) = some aMsg ∧
    (∃ x ∈ (myCore (messaged (deck []))).msgs, x.tag = (me (messaged (deck []))).rid) ∧
    (∀ x ∈ (myCore (deck [])).msgs, x.tag ≠ (me (deck [])).rid) ∧
    fenceOpen (deck msgRegs) (deck msgRegs).cur (deck msgRegs).nextId = false ∧
    (let s := fencing (deck msgRegs)
     issuesB (.send false 3 1 6 0) s = true ∧ issuesB (.recv false 2) s = true ∧ fenceOpen s s.cur s.nextId = true) :=
  ⟨each_issues (by decide +kernel), by decide +kernel⟩

/-- Mailbox 7 is full. -/
def filled (s : State) : State := withCore s fun k => { k with mfull := [7], mbox := [(7, 99)] }

theorem wit_MailboxInstructions :
    (∀ s ∈ ([deck someRegs, filled (deck someRegs)] : List State), ∀ i ∈ ([.mbput false 7 1 0 0, .mbput false 7 1 15 1,
      .mbget false 3 7 0 0, .mbget false 3 7 15 1] : List Instr), Issues i s) ∧
    mailTurn (deck []) (deck []).cur 7 true = true ∧ mailTurn (deck []) (deck []).cur 7 false = false ∧
    mailTurn (filled (deck [])) (deck []).cur 7 true = false ∧ mailTurn (filled (deck [])) (deck []).cur 7 false = true ∧
    (coreAt (deck []) 5).mwait = [] ∧ fenceOpen (filled (deck [])) (deck []).cur 9 = false ∧
    (let s := fencing (deck [])
     issuesB (.mbput false 7 1 0 0) s = true ∧ issuesB (.mbget false 3 7 0 0) s = true ∧ fenceOpen s s.cur s.nextId = true) :=
  ⟨each_issues (by decide +kernel), by decide +kernel⟩

/-- A rider chained both ways; its inbound queue; a full queue downstream. -/
def chained (s : State) : State := withMe s fun th => { th with ss := { th.ss with up := true, dn := true, anch := true } }
def inbound (s : State) : State := withCore s fun k => { k with chain := [5, 6] }
def downFull (s : State) : State := modCore s 6 fun k => { k with chain := [1, 2, 3, 4, 5, 6, 7, 8] }

theorem wit_ChainInstructions :
    (∀ s ∈ ([deck someRegs, inbound (chained (deck someRegs)), downFull (chained (deck someRegs))] : List State),
      ∀ i ∈ ([.chainSet false 6, .chainSet false 4, .chainRel false 1, .chainAcq false 3] : List Instr), Issues i s) ∧
    Issues (.chainAcq false 3) (chained (deck someRegs)) ∧ Issues (.chainAcq false 28) (deck someRegs) ∧
    4 ≤ (64 : Word).toNat ∧ ¬(4 ≤ (3 : Word).toNat) ∧ (me (deck someRegs)).ss.roam = false ∧ (deck someRegs).cur.core % 256 ≠ 255 ∧
    (me (deck someRegs)).ss.dn = false ∧ (me (deck someRegs)).ss.up = false ∧ (me (chained (deck someRegs))).ss.up = true ∧
    (me (chained (deck someRegs))).ss.dn = true ∧
    mayPush (begun (chained (deck someRegs)) 2) (deck []).cur = true ∧
    mayPush (begun (downFull (chained (deck someRegs))) 2) (deck []).cur = false ∧
    (let s := chained (deck someRegs)
     (me s).prog ≠ .leaving ∧ (me s).popped = [] ∧ mayPop s s.cur 1 = false) ∧
    (let s := inbound (chained (deck someRegs))
     (me s).popped = [] ∧ mayPop s s.cur 1 = true ∧ (myCore s).chain = 5 :: [6]) ∧
    (let s := withMe (chained (deck someRegs)) fun th => { th with popped := [5] }
     issuesB (.chainAcq false 3) s = true ∧ (me s).popped = 5 :: [] ∧ (me s).prog ≠ .leaving) ∧
    (let s := leavingNow (chained (deck someRegs))
     issuesB (.chainAcq false 3) s = true ∧ (me s).prog = .leaving) :=
  ⟨each_issues (by decide +kernel), issues_of (by decide +kernel), issues_of (by decide +kernel), by decide +kernel⟩

/-- g1: a record address; g2: a misaligned one; g4: core 1024; g6: core 7; g8: 2^56. -/
def riderRegs : Assoc Word := [(1, 0x40000), (2, 0x40020), (4, 1024), (6, 7), (8, 0x100000000000000)]
def fullQueue (s : State) : State :=
  withCore s fun k => { k with rq := List.replicate 64 ⟨0, 3, 2, 0, 0x50000, none, 0, none, false⟩ }
def anchored (s : State) : State := withMe s fun th => { th with ss := { th.ss with anch := true } }

theorem wit_RiderInstructions :
    (∀ s ∈ ([deck riderRegs, user riderRegs, fullQueue (deck riderRegs), anchored (deck riderRegs)] : List State),
      ∀ i ∈ ([.spawn false 3 1 4, .spawn false 3 2 6, .spawn false 3 1 6, .rqput false 3 2 6, .rqput false 3 8 6,
      .rqput false 3 1 6, .migrate false 4, .migrate false 6] : List Instr), Issues i s) ∧
    (me (user riderRegs)).ss.priv = 0 ∧ (me (deck riderRegs)).ss.priv ≠ 0 ∧
    64 ≤ ((myCore (fullQueue (deck riderRegs))).rq.filter fun h => h.pri == 3).length ∧
    ¬(64 ≤ ((myCore (deck riderRegs)).rq.filter fun h => h.pri == 3).length) ∧
    (me (anchored (deck riderRegs))).ss.anch = true ∧ (me (deck riderRegs)).ss.anch = false :=
  ⟨each_issues (by decide +kernel), by decide +kernel⟩

/-- A member of a group of a grid that waits for another grid. -/
def blankGrid : Grid := gridOfPacket State.reset (List.replicate 16 0)
def member (s : State) : State :=
  withMe { s with grids := [{ blankGrid with key := 1, gid := 1 }, { blankGrid with key := 2, gid := 2, pred := some 1 }],
                  groups := [⟨2, 0, 5, 1, 1, 1, false⟩] } fun th => { th with group := some (2, 0), gid := 2 }

theorem wit_RiderEndInstructions :
    (∀ s ∈ ([deck [], member (deck []), fullQueue (deck []), anchored (deck []), unread (deck [])] : List State),
      ∀ i ∈ ([.exit false, .trig false, .gwait false, .yield false] : List Instr), Issues i s) ∧
    Issues (.gwait false) (storing (deck [])) ∧
    released (begun (deck []) 3) (deck []).cur 3 = true ∧ released (begun (unread (deck [])) 3) (deck []).cur 3 = false ∧
    predecessorLive (member (deck [])) = true ∧ predecessorLive (deck []) = false ∧ predecessorLive (storing (deck [])) = false ∧
    (me (storing (deck []))).outs ≠ [] ∧ (∃ h ∈ (myCore (fullQueue (deck []))).rq, (me (deck [])).ss.prio.toNat ≤ h.pri) ∧
    (me (deck [])).group = none ∧ (me (member (deck []))).group = some (2, 0) :=
  ⟨each_issues (by decide +kernel), issues_of (by decide +kernel), by decide +kernel⟩

/-- A thread that has left its slot while the slot's counter stood at 1. -/
theorem wit_LeavingCountsTheIssue :
    let s := withCore (deck []) fun k => { k with qntm := [(0, 1)] }
    let s' := freeSlot s s.cur
    s.cur.slot < 7 ∧ (threadAt s' s.cur).run = .free ∧ aget 0 (coreAt s' 5).qntm 0 = 1 := by decide +kernel

theorem wit_BankInstructionsIssue : ∀ i ∈ ([
    .bpush false 3 1 0 0, .bpush false 3 1 1 1, .bpushn false 28 1 3 3 1, .bpop false 3 1 0 0, .bpeek false 3 1 2 1,
    .bmput false 3 1 2, .bmget false 3 1 2, .bmdel false 3 1 2, .bhput false 3 1, .bhpop false 3 1, .bhtop false 3 1,
    .bgadd false 3 1 2 0, .bgadd false 3 1 0 1, .bgrd false 3 1 2, .bgclr false 1 2 0, .bgclr false 1 0 1, .bpset false 3 1 2,
    .blink false 1 2 15, .bstat false 3 1, .bvadd false 1 2 3 0, .bvadd false 1 2 3 1, .bvmul false 3 1 2 0,
    .bvfma false 3 1 2 4 0, .bvfill false 1 2 3, .bvcvt false 1 2 0, .bvcvt false 1 2 1, .bvsum false 3 1 2 0,
    .bvrmax false 3 1 2 1, .bsmx false 1 2] : List Instr), Issues i (deck someRegs) :=
  all_issue (by decide +kernel)


/-- The quay address thread of core 5. g2, g3: a completion word for RID 9 and an operand word; g4, g5, g6: rows; g8: a misaligned
address; g10: a completion word with a reserved bit; g12: one for package object 4; g16: a bank address of the core. -/
def quayRegs : Assoc Word :=
  [(2, 0x400000000009), (3, 1), (4, 0x40000), (5, 0x80000), (6, 0xC0000), (7, 0), (8, 0x40004), (10, 0x100000000), (11, 1),
   (12, 0xB20000000000), (13, 1), (16, 0xF1000000010000), (17, 0x400400), (18, 0x400401), (19, 0xF1000000010020)]
def quay : State := on 7 0 0 quayRegs []
def command : Cmd := commandOf quay 9 .cpy 0 [] 0 0
def eightCommands (s : State) : State := (List.range 8).foldl (fun s n => setCmd s 5 n (some command)) s

theorem wit_EngineCommandsIssue :
    (∀ s ∈ ([quay, eightCommands quay] : List State), ∀ i ∈ ([.rowcpy false 4 5 2, .rowcpy false 8 5 2, .rowcpy false 4 5 10,
      .rowcpy false 4 5 12, .rowset false 4 2,
      .rowand false 4 5 2, .rowor false 4 5 2, .rowxor false 4 5 2, .rownot false 4 5 2, .rowmaj false 4 4 2, .cpy false 4 5 2,
      .cpy false 8 5 2, .walk false 4 5 2, .walk false 8 5 10] : List Instr), Issues i s) ∧
    compBad (srcG quay (.rowcpy false 4 5 10) .b 10) false = true ∧ compBad (srcG quay (.walk false 8 5 10) .b 10) true = true ∧
    compBad (srcG quay (.rowcpy false 4 5 12) .b 12) false = false ∧ compKind (srcG quay (.rowcpy false 4 5 12) .b 12) = 2 ∧
    barrierAssigned quay (compLevel (srcG quay (.rowcpy false 4 5 12) .b 12)) (compObj (srcG quay (.rowcpy false 4 5 12) .b 12)) =
      false ∧
    compBad (srcG quay (.rowcpy false 4 5 2) .b 2) false = false ∧ compKind (srcG quay (.rowcpy false 4 5 2) .b 2) ≠ 2 ∧
    [srcG quay (.rowcpy false 8 5 2) .d 8].find? (fun a => a.toNat % 1024 != 0) = some 0x40004 ∧
    (∀ n < 8, (cmdAt (eightCommands quay) 5 n).isSome = true) ∧ cmdAt quay 5 0 = none :=
  ⟨each_issues (by decide +kernel), by decide +kernel⟩

/-- The same thread under a prefix of two BF16 operands; a full load queue; a store queue with one entry. -/
def mxvQuay : State := on 7 0 0x02318000 quayRegs []
def entry : LoadEntry := ⟨1, true, 0, 0, false⟩
def fullLoads (s : State) : State := withCore s fun k => { k with ldq := List.replicate 16 entry }
def storeReady (s : State) : State := withCore s fun k => { k with stq := [⟨64, 77⟩] }

theorem wit_QuayInstructionsIssue :
    (∀ s ∈ ([mxvQuay, fullLoads mxvQuay, eightCommands mxvQuay] : List State), ∀ i ∈ ([.mxv false 17 4 16, .mxv false 17 8 16,
      .mxv false 18 4 16, .mxv false 17 4 19] : List Instr), Issues i s) ∧
    (∀ s ∈ ([quay, fullLoads quay, storeReady quay] : List State), ∀ i ∈ ([.qld false 4 0, .qld false 4 1, .qld false 8 0,
      .qst false 4 0, .qst false 4 1, .qst false 8 0] : List Instr), Issues i s) ∧
    (srcG mxvQuay (.mxv false 17 4 16) .a 4).toNat % 1024 = 0 ∧ (srcG mxvQuay (.mxv false 17 8 16) .a 8).toNat % 1024 ≠ 0 ∧
    mxvShapeOk 0x400400 3 = true ∧ mxvShapeOk 0x400401 3 = false ∧ (0xF1000000010000 : Nat) % 64 = 0 ∧
    (0xF1000000010020 : Nat) % 64 ≠ 0 ∧ ownBankRange 5 0xF1000000010000 128 = some (1, 0) ∧ ownBankRange 5 0x40000 128 = none ∧
    16 ≤ (myCore (fullLoads quay)).ldq.length ∧ ¬(16 ≤ (myCore quay).ldq.length) ∧ mxvReserving quay 5 = false ∧
    freeCommand (eightCommands quay) 5 = none ∧ freeCommand quay 5 = some 0 ∧
    (srcG quay (.qld false 8 0) .a 8).toNat % 64 ≠ 0 ∧ (myCore quay).stq = [] ∧ (myCore (storeReady quay)).stq = [⟨64, 77⟩] ∧
    (srcG quay (.qst false 8 0) .a 8).toNat % 64 ≠ 0 ∧ (srcG quay (.qst false 4 0) .a 4).toNat % 64 = 0 :=
  ⟨each_issues (by decide +kernel), each_issues (by decide +kernel),
    by decide +kernel⟩

theorem wit_VectorArithmeticResults : ∀ i ∈ ([
    .vadd false 3 1 2 0, .vadd false 3 1 2 1, .vsub false 3 1 2 0, .vmul false 3 1 2 1, .vmin false 3 1 2 0, .vmax false 3 1 2 1,
    .vdiv false 3 1 2 0, .vdiv false 3 1 2 1, .vfma false 3 1 2 4 0, .vfma false 3 1 2 4 1, .vabs false 3 1 0, .vabs false 3 1 1,
    .vneg false 3 1 0, .vneg false 3 1 1, .vsqrt false 3 1, .vrcp false 3 1, .vrsq false 3 1, .vexp2 false 3 1, .vlog2 false 3 1]
    : List Instr), Issues i (deck someRegs) :=
  all_issue (by decide +kernel)

theorem wit_VectorLogicAndMovement : ∀ i ∈ ([
    .vand false 3 1 2, .vor false 3 1 2, .vxor false 3 1 2, .vshl false 3 1 2, .vshr false 3 1 2, .vsra false 3 1 2,
    .vcmp false 1 2 0, .vcmp false 1 2 4, .vcmp false 1 2 21, .vsel false 3 1 2, .vbcast false 3 1, .vins false 3 1 15,
    .vext false 3 1 15, .vperm false 3 1 2, .vslide false 3 1 2 15] : List Instr), Issues i (deck someRegs) :=
  all_issue (by decide +kernel)

/-- A thread under a prefix whose result format is FP16, and the quay arithmetic thread under it. -/
def narrow : State := on 0 0 0x02000800 [] []
def narrowQuay : State := on 7 1 0x02000800 [] []

theorem wit_ReductionsScansConversions :
    (∀ i ∈ ([.vredadd false 3 1 0, .vredadd false 3 1 1, .vredmax false 3 1 0, .vredmin false 3 1 1, .vscan false 3 1 0,
      .vscanm false 3 1 1, .vscanl false 3 1 2 4] : List Instr), Issues i (deck someRegs)) ∧
    Issues (.vcvt false 3 1 0) narrow ∧ Issues (.vcvt false 31 1 0) narrowQuay ∧ toStq narrow 3 = false ∧
    toStq narrowQuay 31 = true :=
  ⟨all_issue (by decide +kernel), issues_of (by decide +kernel), issues_of (by decide +kernel), by decide +kernel⟩

theorem wit_MaskedLanesKeepTheirValues :
    (List.replicate 16 ((5, 0) : LaneResult)).length = 16 ∧ 0xF0F0 < 2 ^ 16 ∧ toStq (deck []) 3 = false ∧
    toStq (on 7 1 0 [] []) 31 = true ∧ (fmtOf (me (on 7 1 0 [] [])).desc).fd = 0 := by decide +kernel

/-- g1, g2: blocks in the core's banks 0 and 1; g4: scales; g6: misaligned; g8: a plain address. -/
def blockRegs : Assoc Word :=
  [(1, 0xF1000000000000), (2, 0xF1000000010000), (4, 0xF1000000020000), (6, 0xF1000000000020), (8, 0x40000)]
def blocks : State := deck blockRegs
def foreign (s : State) : State := modTile s 5 3 fun x => { x with owner := 77 }
def plainUser : State := user blockRegs

theorem wit_TileInstructionsIssue :
    (∀ s ∈ ([blocks, plainUser, foreign blocks] : List State), ∀ i ∈ ([.mzero false 3 0, .mzero false 3 1, .mld false 3 1 0 0,
      .mld false 3 8 2 1, .mst false 3 1 0, .mst false 3 8 1,
      .cbld false 1 0 0, .cbld false 8 2 1] : List Instr), Issues i s) ∧
    kernelSlotUp plainUser = false ∧ mayUse blocks 0 (some 3) false ∧ mayUse blocks 1 (some 3) false ∧ mayUse blocks 0 none true ∧
    (tileAt blocks 5 3).pend = 0 ∧ transferable blocks 0xF1000000000000 1024 ∧ transferable blocks 0x40000 768 ∧
    bookIdle (myCore blocks) = true ∧ (tileAt (foreign blocks) 5 3).owner ≠ 0 ∧
    (tileAt (foreign blocks) 5 3).owner ≠ (me (foreign blocks)).rid ∧
    (let s := modTile blocks 5 3 fun x => { x with pend := 1 }
     issuesB (.mzero false 3 0) s = true ∧ issuesB (.mld false 3 1 0 0) s = true ∧ issuesB (.mst false 3 1 0) s = true ∧
     (tileAt s 5 3).pend ≠ 0) ∧
    (let s := withCore blocks fun k => { k with bookLoad := some 3 }
     issuesB (.cbld false 8 2 1) s = true ∧ bookIdle (myCore s) = false) :=
  ⟨each_issues (by decide +kernel), by decide +kernel, by simp [mayUse, ownsAll]; decide +kernel, by simp [mayUse]; decide +kernel,
    by simp [mayUse, ownsAll]; decide +kernel, by unfold transferable bankRegion; decide +kernel⟩

/-- A matrix queue with 32 steps; a batch that has failed; one under way. -/
def aStep : MStep := ⟨900, 0, 0, 0, 0, 3, 3, 3, 0, 0, 0, 0, 0, 0, 0, 0, [], [], true, false, 0, 0, [], [], []⟩
def fullSteps (s : State) : State := withCore s fun k => { k with mq := List.replicate 32 aStep }
def failedBatch (s : State) : State := withMe s fun th => { th with mx := { th.mx with batches := [⟨0, false, 1, 5, true, 0⟩] } }
def batches (n : Nat) (s : State) : State :=
  withMe s fun th => { th with mx := { th.mx with batches := List.replicate n ⟨0, true, 1, 5, false, 0⟩ ++ [⟨1, false, 1, 6, false, 0⟩] } }

theorem wit_MatrixStepsIssue :
    (∀ s ∈ ([blocks, fullSteps blocks, failedBatch blocks] : List State), ∀ i ∈ ([.mma false 3 1 2, .mma false 3 6 2,
      .mma false 3 1 6] : List Instr), Issues i s) ∧
    Issues (.mma false 3 1 2) (on 0 0 0x02420081 blockRegs []) ∧ ownsAll blocks (some 3) false ∧
    (fmtOf (me (on 0 0 0x02420081 blockRegs [])).desc).scl = 1 ∧ (baseValue (on 0 0 0x02420081 blockRegs []) (.mma false 3 1 2)).toNat = 0xF1000000020000 ∧
    ownBankRange 5 0xF1000000000000 1536 = some (0, 0) ∧ ownBankRange 5 0xF1000000010000 (16 * mmaRowB 3 3) = some (1, 0) ∧
    ownBankRange 5 0xF1000000020000 (scaleBytes 4) = some (2, 0) ∧
    batchFailed (me blocks) = false ∧ batchFailed (me (failedBatch blocks)) = true ∧ 32 ≤ (myCore (fullSteps blocks)).mq.length ∧
    (myCore blocks).mq.length < 32 ∧ pinsFit blocks 5 (rangeLines 0 0 1536 ++ rangeLines 1 0 (16 * mmaRowB 3 3)) = true ∧
    (0xF1000000000020 : Nat) % 64 ≠ 0 :=
  ⟨each_issues (by decide +kernel), issues_of (by decide +kernel), by simp [ownsAll]; decide +kernel, by decide +kernel⟩

theorem wit_MatrixBatchInstructions :
    (∀ s ∈ ([blocks, batches 15 blocks] : List State), ∀ i ∈ ([.mcommit false, .mwaitb false 3 0, .mwaitb false 3 15,
      .mstat false 3 0 0, .mstat false 3 15 1] : List Instr), Issues i s) ∧
    (∃ b ∈ (me (batches 15 blocks)).mx.batches, b.closed = false ∧ b.live ≠ 0) ∧ 15 ≤ batchesOut (me (batches 15 blocks)) ∧
    ¬(∃ b ∈ (me blocks).mx.batches, b.closed = false ∧ b.live ≠ 0) ∧ batchesOut (me blocks) ≤ 0 ∧
    0 < batchesOut (me (batches 15 blocks)) ∧ batchesOut (me blocks) < 256 :=
  ⟨each_issues (by decide +kernel), by decide +kernel⟩


/-! #### Events -/

/-- A checked load of core 5's slot 0 with a physical address, in flight. -/
def aLoad (pa : Nat) : Access := { Access.blank 1 ⟨5, 0, 0⟩ .load with pa := pa, n := 8 }
def flying (a : Access) : State := { deck [] with inflight := [a] }
def anyStep : MStep := { aStep with id := 1, sent := false }
def stepWaits : State := withCore (deck []) fun k => { k with mq := [anyStep] }
def cmdWaits : State := setCmd quay 5 0 (some { command with id := 1 })

theorem leaves_plain {s : State} {a : Access} (h : heldBack s a = false ∧ splitsStore s a = false ∧ releaseScope a = none) :
    MayLeave s a s := ⟨h.1, h.2.1, .inl ⟨h.2.2, rfl⟩⟩

theorem leaves_release {s : State} {a : Access} (k : Nat)
    (h : heldBack s a = false ∧ splitsStore s a = false ∧ releaseScope a = some k ∧ releaseReady s a k = true) :
    MayLeave s a (pruneWaits s a.t) := ⟨h.1, h.2.1, .inr ⟨k, h.2.2.1, h.2.2.2, rfl⟩⟩

/-- A package-scope release atomic, a release fence with an access of its thread behind it, and a deferred line that both wait for. -/
def relAtomic : Access := { aLoad 0x40000 with kind := .atomic, ordsc := 9, n := 4 }
def aFence : Access := { aLoad 0 with kind := .fence 3 }
def owing (s : State) : State := withMe s fun th => { th with dlines := [0x80000] }
def behindFence : State := { flying { aLoad 0x40000 with id := 2 } with inflight := [aFence, { aLoad 0x40000 with id := 2 }] }

/-- A `.si` store of 8 bytes beside a grant of their lower word to its die. -/
def splitStore : Access := { aLoad 0x40000 with id := 2, kind := .store, pol := 2, mask := 0xFF }
def besideGrant : State :=
  { deck [] with inflight := [{ Access.blank 1 ⟨5, 1, 0⟩ .store with pa := 0x40000, n := 4, mask := 0xF, rid := 7, stage := .atHome }, splitStore] }

theorem wit_AcceptanceReturnPerformsTheAccess :
    (∀ pa ∈ ([0x20000000000, 0x20100000000, 0x80000000000000, 0x40000, 0x10000000000, 0x20080000000] : List Nat),
      accessAt (flying (aLoad pa)) 1 = some (aLoad pa) ∧ (aLoad pa).stage = .checked) ∧
    (∀ pa ∈ ([0x20000000000, 0x20100000000, 0x80000000000000, 0x40000, 0x10000000000, 0x20080000000] : List Nat),
      MayLeave (flying (aLoad pa)) (aLoad pa) (flying (aLoad pa))) ∧
    (accessAt (flying relAtomic) 1 = some relAtomic ∧ MayLeave (flying relAtomic) relAtomic (pruneWaits (flying relAtomic) ⟨5, 0, 0⟩)) ∧
    (accessAt (flying aFence) 1 = some aFence ∧ aFence.stage = .checked ∧
      MayLeave (flying aFence) aFence (pruneWaits (flying aFence) ⟨5, 0, 0⟩)) ∧
    (accessAt (owing (flying aFence)) 1 = some aFence ∧ heldBack (owing (flying aFence)) aFence = false ∧
      releaseScope aFence = some 3 ∧ releaseReady (owing (flying aFence)) aFence 3 = false) ∧
    (accessAt behindFence 2 = some { aLoad 0x40000 with id := 2 } ∧ heldBack behindFence { aLoad 0x40000 with id := 2 } = true) ∧
    (∀ k ∈ ([.store, .qst, .qld] : List AccKind),
      let a := { aLoad 0x40000 with id := 2, kind := k }
      let s := { behindFence with inflight := [aFence, a] }
      accessAt s 2 = some a ∧ a.stage = .checked ∧ heldBack s a = true ∧ storesTile a.kind = false ∧ a.kind = k) ∧
    (accessAt besideGrant 2 = some splitStore ∧ splitStore.stage = .checked ∧ heldBack besideGrant splitStore = false ∧
      splitsStore besideGrant splitStore = true ∧ splitStore.kind = .store) ∧
    window 0x20000000000 = .bank 0 ∧ window 0x20100000000 = .control 0 ∧ window 0x80000000000000 = .peer ∧
    window 0x40000 = .iw 0x40000 ∧ window 0x10000000000 = .blw 0 ∧ window 0x20080000000 = .hole ∧
    (let a := { aLoad 0x40000 with kind := .range 0 0x1000 0x1001 }
     accessAt (flying a) 1 = some a ∧ a.id = 1 ∧ a.stage = .checked ∧ heldBack (flying a) a = false ∧
     (accessAt (rangeLine (flying a) a 0) 1).isSome = true) ∧
    (let a := { aLoad 0 with kind := .port 0, stage := .coal }
     accessAt (flying a) 1 = some a ∧ a.stage = .coal ∧ a.kind = .port 0) ∧
    accessAt cmdWaits 1 = none ∧ waitingCommand cmdWaits 1 = some (5, 0) ∧
    accessAt stepWaits 1 = none ∧ waitingCommand stepWaits 1 = none ∧ waitingStep stepWaits 1 = some 5 ∧
    stepAt stepWaits 5 1 = some anyStep ∧ fenceOpen stepWaits ⟨5, anyStep.slot, 0⟩ 1 = false ∧
    (let s : State := { withCore (deck []) (fun k => { k with mq := [{ anyStep with id := 2 }] }) with inflight := [aFence] }
     accessAt s 2 = none ∧ waitingCommand s 2 = none ∧ waitingStep s 2 = some 5 ∧ stepAt s 5 2 = some { anyStep with id := 2 } ∧
     fenceOpen s ⟨5, anyStep.slot, 0⟩ 2 = true) :=
  ⟨by decide +kernel, fun pa h => leaves_plain ((by decide +kernel : ∀ pa ∈ ([0x20000000000, 0x20100000000, 0x80000000000000, 0x40000,
      0x10000000000, 0x20080000000] : List Nat), heldBack (flying (aLoad pa)) (aLoad pa) = false ∧
      splitsStore (flying (aLoad pa)) (aLoad pa) = false ∧ releaseScope (aLoad pa) = none) pa h),
    ⟨by decide +kernel, leaves_release 3 (by decide +kernel)⟩, ⟨by decide +kernel, by decide +kernel, leaves_release 3 (by decide +kernel)⟩,
    by decide +kernel⟩

/-- A thread whose outstanding result is that access's. -/
def expecting (k : OutKind) (s : State) : State := withMe s fun th => { th with outs := [Out.blank 1 k], sack := 1 }

/-- A reply with all of a line, in its place among what the home sent; a message of the home of line 0x1000, sent third, at die 0. -/
def fullReply (seq : Nat) : Reply := ⟨5, 0, 0, false, false, seq⟩
def told (k : HomeMsgKind) (a : Access) : State := modDie (flying a) 0 fun d => { d with inbox := [⟨0x1000, k, 0, 3⟩] }

theorem wit_RepliesAndAcknowledgements :
    (let a := { aLoad 0x40000 with stage := .reply (fullReply 4) }
     accessAt (told .invalidate a) 1 = some a ∧ a.stage = .reply (fullReply 4) ∧ isDram a.pa = true ∧
     messageAhead (told .invalidate a) (dieOf a.t.core) (homeLine a.pa / 2 ^ 24) 4 = true) ∧
    (∀ k ∈ ([.load, .store, .qld] : List AccKind), ∀ pol ∈ [0, 1, 2, 3],
      let a := { aLoad 0x40000 with kind := k, stage := .reply (fullReply 2), pol := pol }
      accessAt (told .invalidate a) 1 = some a ∧ a.stage = .reply (fullReply 2) ∧ a.kind = k ∧ a.pol = pol ∧
      messageAhead (told .invalidate a) (dieOf a.t.core) (homeLine a.pa / 2 ^ 24) 2 = false) ∧
    (coreAt (told .invalidate (aLoad 0x40000)) 5).lease ≠ 0 ∧
    (coreAt (withCore (told .invalidate (aLoad 0x40000)) fun k => { k with lease := 0 }) 5).lease = 0 ∧
    (let a := { aLoad 0x40000 with stage := .landing }
     accessAt (expecting .ld (flying a)) 1 = some a ∧ forBerth a = false ∧ a.sackd = false ∧ a.poison = false ∧
     ((threadAt (expecting .ld (flying a)) a.t).outs.find? fun x => x.id == 1) = some (Out.blank 1 .ld) ∧ (Out.blank 1 .ld).kind = .ld) ∧
    (let a := { aLoad 0x40000 with stage := .landing, poison := true }
     accessAt (flying a) 1 = some a ∧ a.poison = true) ∧
    (let a := { aLoad 0x40000 with stage := .landing, kind := .qld }
     accessAt (flying a) 1 = some a ∧ a.kind = .qld ∧ a.fmt = 0) ∧
    (let a := { aLoad 0x40000 with stage := .landing, kind := .tileLoad 3 }
     accessAt (flying a) 1 = some a ∧ a.kind = .tileLoad 3) ∧
    (let a := { aLoad 0x40000 with stage := .landing, kind := .bookLoad }
     accessAt (flying a) 1 = some a ∧ a.kind = .bookLoad) ∧
    (let a := { aLoad 0x40000 with stage := .acked, kind := .store, sackd := true }
     accessAt (expecting .store (flying a)) 1 = some a ∧ a.waits = [] ∧ a.sackd = true ∧
     (threadAt (expecting .store (flying a)) a.t).rid = a.rid) ∧
    (let s : State := { deck [] with clears := [⟨1, ⟨5, 0, 0⟩, 0, 0, 0, 0, 0, false, 0, 0⟩, ⟨2, ⟨5, 0, 0⟩, 0, 0, 0, 0, 0, true, 0, 0⟩] }
     (s.clears.find? fun c => c.id == 1 && c.acks == 0) = some ⟨1, ⟨5, 0, 0⟩, 0, 0, 0, 0, 0, false, 0, 0⟩ ∧
     (s.clears.find? fun c => c.id == 2 && c.acks == 0) = some ⟨2, ⟨5, 0, 0⟩, 0, 0, 0, 0, 0, true, 0, 0⟩) ∧
    (let a := { aLoad 0x40000 with id := 2, kind := .store, stage := .acked }
     accessAt (flying a) 2 = some a) := by decide +kernel

/-- A thread at a marker with outstanding results: landed, failed, failed after their acceptance, on their way. -/
def atTheMarker (os : List Out) (b : Option Back) : State :=
  withMe (deck []) fun th => { th with run := .parked .marker, outs := os, back := b }
def landed : Out := { Out.blank 1 .ld with done := true, file := .g, reg := 3, value := 9 }
def failed : Out := { landed with id := 2, fail := some ⟨.xlat, 1, 0x40000, 0⟩ }
def aBack : Back := ⟨0x8000, 0, false, ⟨0, 0⟩, [], [], none⟩

theorem wit_MarkerCommitsResults :
    (let th := threadAt (atTheMarker [landed, { landed with id := 3, reg := 4 }] none) ⟨5, 0, 0⟩
     th.run = .parked .marker ∧ th.froz = false ∧ ∀ o ∈ th.outs, o.done = true ∧ o.fail = none ∧ pushesOut o = false) ∧
    (∀ x ∈ [(false, (none : Option Back)), (true, some aBack)],
      let o := { failed with late := x.1 }
      let th := threadAt (atTheMarker [landed, o, landed] x.2) ⟨5, 0, 0⟩
      th.run = .parked .marker ∧ th.froz = false ∧ th.outs = [landed] ++ o :: [landed] ∧ (∀ x ∈ th.outs, x.done = true) ∧
      landed.fail = none ∧ pushesOut landed = false ∧ o.fail = some ⟨.xlat, 1, 0x40000, 0⟩ ∧ (th.back = none ∨ o.late = true) ∧
      th.prog = .none) ∧
    (let th := threadAt (atTheMarker [failed] (some aBack)) ⟨5, 0, 0⟩
     th.run = .parked .marker ∧ th.froz = false ∧ th.outs = failed :: [] ∧ (∀ x ∈ th.outs, x.done = true) ∧ failed.late = false ∧
     th.back = some aBack) ∧
    (let th := threadAt (atTheMarker [landed, Out.blank 3 .ld] none) ⟨5, 0, 0⟩
     th.run = .parked .marker ∧ th.susp = false ∧ ∃ o ∈ th.outs, o.done = false) := by
  decide +kernel

/-- A request at the home of line 0x1000, by core 5. -/
def request (k : ReqKind) (ns : Bool) : HomeReq := ⟨1, ⟨5, 0, 0⟩, 0, 5, 0x40000, 3, k, ns, none, false, 0, false⟩
def homed (s : State) (f : Home → Home) : State := modHome s 0x1000 f
def inLlc (s : State) : State := { s with llc := [(0x1000, ⟨9, true, false⟩)] }
def asksHome (r : HomeReq) : State := homed (deck []) fun h => { h with queue := [r] }

/-- Two atomics of die 0 that want one word: the first is applied, the second waits behind it. -/
def twoAtomics : State :=
  let q := homed { deck [] with inflight := [{ Access.blank 2 ⟨5, 0, 0⟩ .atomic with pa := 0x40000, n := 4, stage := .atHome }] }
    fun h => { h with own := 1, resv := [⟨0, true, { request (.reserve 0) false with id := 1, words := 1 }⟩,
                                         ⟨0, false, { request (.reserve 0) false with id := 2, words := 1 }⟩] }
  setL2 q 0 0x40000 { L2Line.reset with st := .owned, own := 1, owners := [(0, 5)] }

theorem wit_HomeServesItsQueue :
    (let s := asksHome (request .readWt false)
     let h := homeAt s 0x1000
     h.queue = request .readWt false :: [] ∧ h.act = none ∧ h.own = 0 ∧ h.snoop = none ∧ h.snooped = [] ∧
     h.unanswered = [] ∧ homeFree s 0x1000 = true ∧ (request .readWt false).bias = false ∧ (request .readWt false).ns = false ∧
     (dieAt s (dieOf 5)).fenced = false ∧ llcAt s 0x1000 = none ∧ (llcMates s 0x1000).length < 16 ∧
     (llcAt (inLlc s) 0x1000).isSome = true) ∧
    (let s := inLlc (asksHome (request .evict false))
     s.memOk = true ∧ (homeAt s 0x1000).queue = request .evict false :: [] ∧ (homeAt s 0x1000).act = none ∧ homeFree s 0x1000 = true ∧
     (request .evict false).kind = .evict ∧ (homeAt s 0x1000).own = 0 ∧ (homeAt s 0x1000).shr = 0 ∧
     llcAt s 0x1000 = some ⟨9, true, false⟩) ∧
    (let s := { asksHome (request .readWt true) with qdies := [(0, { Stack.reset with regions := [(0, 0x8000000000000000), (1, 0xFFFF)] })] }
     (homeAt s 0x1000).queue = request .readWt true :: [] ∧ homeFree s 0x1000 = true ∧ (request .readWt true).ns = true ∧
     (request .readWt true).kind ≠ .evict ∧ (request .readWt true).kind ≠ .flip ∧ secureLine s 0x1000 = true) ∧
    (∀ bias ∈ [false, true],
      let r := { request (.reserve 0) false with bias := bias }
      let s := inLlc (homed (deck []) fun h => { h with resv := [⟨0, false, r⟩] })
      (homeAt s 0x1000).act = none ∧ homeFree s 0x1000 = true ∧ (llcAt s 0x1000).isSome = true ∧
      grantable (homeAt s 0x1000).resv 0 = some ⟨0, false, r⟩ ∧ r.bias = bias ∧ (homeAt s 0x1000).snoop = none ∧
      (homeAt s 0x1000).snooped = [] ∧ (homeAt s 0x1000).unanswered = []) ∧
    (let s := twoAtomics
     let x : Resv := ⟨0, true, { request (.reserve 0) false with id := 1, words := 1 }⟩
     let y : Resv := ⟨0, false, { request (.reserve 0) false with id := 2, words := 1 }⟩
     (homeAt s 0x1000).act = none ∧ homeFree s 0x1000 = true ∧
     ((homeAt s 0x1000).resv.find? fun x => x.word == 0 && resvApplied s x) = some x ∧
     resvNext (homeAt s 0x1000).resv x = some y ∧ (homeAt s 0x1000).odie = 0 ∧ (homeAt s 0x1000).shr = 0 ∧
     grantable ((homeAt s 0x1000).resv.erase x) y.word = some y ∧ y.req.die = x.req.die ∧ y.req.pa = x.req.pa ∧
     (accessAt s y.req.id).isSome = true ∧ dieOwns s x.req.die x.req.pa (x.req.words ||| y.req.words) = true) := by
  decide +kernel

theorem wit_DiesObeyTheirHomes :
    (∀ k ∈ ([.invalidate, .aliasCopy 0x40000, .recall 3, .discard 3] : List HomeMsgKind), ∀ seq ∈ [2, 4],
      let s := told k { aLoad 0x40000 with stage := .reply (fullReply seq) }
      headMsg s 0 0 = some ⟨0x1000, k, 0, 3⟩ ∧ replyAhead s 0 0 3 = decide (seq < 3)) ∧
    sharedTo (told .invalidate (aLoad 0x40000)) 0 0x1000 = false ∧
    (let c : L1Line := ⟨.leased, 0, 7, 0, 0, false, none, 0, false⟩
     let s := { setL1 (deck []) 5 0x40000 c with now := 0x2000 }
     l1At s 5 (64 * 0x1000) = some c ∧ c.st = .leased ∧ (coreAt s 5).lease.toNat ≤ s.now - c.fill) ∧
    (let s := { setL2 (deck []) 0 0x40000 { L2Line.reset with st := .leased, len := 0x1000 } with now := 0x2000 }
     (l2At s 0 (64 * 0x1000)).st = .leased ∧ (l2At s 0 (64 * 0x1000)).len ≤ s.now - (l2At s 0 (64 * 0x1000)).fill) := by
  decide +kernel


/-- What a bank does with a request, as data. -/
def bankDoes (s : State) (c b : Nat) (q : BankReq) : Nat :=
  match bankPerform s c b q with
  | .held => 0
  | .forward _ _ => 1
  | .done _ _ => 2
  | .started _ => 3

theorem bank_done {s : State} {c b : Nat} {q : BankReq} (h : bankDoes s c b q = 2) : ∃ s' r, bankPerform s c b q = .done s' r := by
  unfold bankDoes at h; split at h <;> simp_all

theorem bank_held {s : State} {c b : Nat} {q : BankReq} (h : bankDoes s c b q = 0) : bankPerform s c b q = .held := by
  unfold bankDoes at h; split at h <;> simp_all

theorem bank_forward {s : State} {c b : Nat} {q : BankReq} (h : bankDoes s c b q = 1) :
    ∃ c' b', bankPerform s c b q = .forward c' b' := by
  unfold bankDoes at h; split at h <;> simp_all

/-- A request at bank 2 of core 5, and the bank with it at the head of its queue. -/
def bankReq (cmd : BankCmd) : BankReq :=
  { src := .agent, cmd := cmd, t := ⟨5, 0, 0⟩, gid := 0, ns := false, priv := 2, host := false, fwd := false, addr := bankOff 5 2 0, came := 0, bad := false }
def atBank (cmd : BankCmd) : State := modBank { deck [] with now := 1 } 5 2 fun b => { b with queue := [bankReq cmd] }
def linked (cmd : BankCmd) : State :=
  modBank (modBank { deck [] with now := 1 } 5 2 fun b => { b with queue := [bankReq cmd], p := { b.p with pers := 1 }, comp := [(5, 3), (5, 2)] }) 5 3
    fun b => { b with p := { b.p with pers := 1 }, comp := [(5, 3), (5, 2)] }
def sumTwo (n : Nat) : AluRun :=
  ⟨bankReq .stat, ⟨5, false, false, 0, n, false, 0, false, 0, 0, 0, 0, 0⟩, 0, [], [], 0, 0⟩
def summing (n : Nat) (bad : List Nat) : State :=
  modBank { deck [] with sramBad := bad } 5 2 fun b => { b with alu := some (sumTwo n) }

/-- What a line step of a command comes to, as data: the step counter after it, or the poisoned line. -/
def aluDoes (s : State) (u : AluRun) : Option (Sum Nat Nat) :=
  match aluStep s 5 2 u with
  | .ran _ u' => some (.inl u'.step)
  | .poison l => some (.inr l)
  | _ => none

/-- A read of another slot behind a command in progress, a bank whose queue is full, and a write to a pinned line. -/
def otherRead : BankReq := { bankReq (.read 0 8) with t := ⟨5, 1, 0⟩ }
def besideAlu : State := modBank (summing 2 []) 5 2 fun b => { b with queue := [otherRead] }
def fullBank : State := modBank (deck []) 5 2 fun b => { b with queue := List.replicate 32 (bankReq .stat) }
def pinnedBank : State := modBank (atBank (.write 0 8 0xFF 5)) 5 2 fun b => { b with pin := [(0, 1)] }

theorem wit_BankTurns :
    ((bankAt (atBank .stat) 5 2).queue = bankReq .stat :: [] ∧ (bankAt (atBank .stat) 5 2).chg = none ∧
      (bankAt (atBank .stat) 5 2).alu = none) ∧
    ((bankAt besideAlu 5 2).chg = none ∧ (bankAt besideAlu 5 2).alu = some (sumTwo 2) ∧ turnReq besideAlu 5 2 = some otherRead) ∧
    32 ≤ (bankAt fullBank (forwarded fullBank 5) 2).queue.length ∧
    (Heads pinnedBank 5 2 (bankReq (.write 0 8 0xFF 5)) 0 ∧ bankPerform pinnedBank 5 2 (bankReq (.write 0 8 0xFF 5)) = .held) ∧
    (Heads (atBank .stat) 5 2 (bankReq .stat) 0 ∧ ∃ s' r, bankPerform (atBank .stat) 5 2 (bankReq .stat) = .done s' r) ∧
    (Heads (linked (.push false 3 [1])) 5 2 (bankReq (.push false 3 [1])) 0 ∧
      ∃ c' b', bankPerform (linked (.push false 3 [1])) 5 2 (bankReq (.push false 3 [1])) = .forward c' b') ∧
    (Heads (atBank (.pin 1 0)) 5 2 (bankReq (.pin 1 0)) 1 ∧
      ∃ s' r, bankPerform (atBank (.pin 1 0)) 5 2 (bankReq (.pin 1 0)) = .done s' r) ∧
    (Heads (atBank (.write 0 8 0xFF 5)) 5 2 (bankReq (.write 0 8 0xFF 5)) 0 ∧ aluWrites (atBank (.write 0 8 0xFF 5)) 5 2 = false ∧
      ∃ s' r, bankPerform (atBank (.write 0 8 0xFF 5)) 5 2 (bankReq (.write 0 8 0xFF 5)) = .done s' r) ∧
    (Heads (atBank (.vector 0 2)) 5 2 (bankReq (.vector 0 2)) 2 ∧
      ((List.range 16).find? fun n => match turnReq (atBank (.vector 0 2)) 5 n with
        | some x => turnKind x == 2
        | none => false) = some 2 ∧
      ∃ s' r, bankPerform (atBank (.vector 0 2)) 5 2 (bankReq (.vector 0 2)) = .done s' r) ∧
    (bankAt (summing 1 []) 5 2).alu = some (sumTwo 1) ∧ aluDoes (summing 1 []) (sumTwo 1) = some (.inl 1) ∧ aluSteps (sumTwo 1).c = 1 ∧
    aluDoes (summing 2 []) (sumTwo 2) = some (.inl 1) ∧ aluSteps (sumTwo 2).c ≠ 1 ∧
    aluDoes (summing 1 [bankOff 5 2 0 / 64]) (sumTwo 1) = some (.inr 0) := by
  unfold Heads
  refine ⟨by decide +kernel, by decide +kernel, by decide +kernel, ⟨?_, bank_held ?_⟩, ⟨?_, bank_done ?_⟩, ⟨?_, bank_forward ?_⟩,
    ⟨?_, bank_done ?_⟩, ⟨?_, ?_, bank_done ?_⟩, ⟨?_, ?_, bank_done ?_⟩, ?_⟩ <;> decide +kernel

theorem wit_PersonalityChangesAndLinks :
    (let u : ChangeRun := ⟨bankReq (.change 2), { Params.array with pers := 2 }, 0, [], false, false⟩
     let s := modBank (deck []) 5 2 fun b => { b with chg := some u, busy := true }
     (bankAt s 5 2).chg = some u ∧ u.isLink = false ∧ u.mode < 3 ∧ u.carve = false ∧ u.req.cmd = .change 2 ∧
     othersDrained s 5 2 = true ∧ pinsAllow s (bankOf u.req.addr).1 (bankOf u.req.addr).2 u.mode = true ∧
     changePoisoned s (bankOf u.req.addr).1 (bankOf u.req.addr).2 u.mode = false) ∧
    (let u : ChangeRun := ⟨bankReq (.change 2), { Params.array with pers := 2 }, 2, [], false, false⟩
     let s := modBank { deck [] with sramBad := [bankOff 5 2 0 / 64] } 5 2 fun b =>
       { b with chg := some u, busy := true, p := { b.p with pers := 1 }, count := 1 }
     (bankAt s 5 2).chg = some u ∧ u.isLink = false ∧ u.mode < 3 ∧ u.carve = false ∧ othersDrained s 5 2 = true ∧
     pinsAllow s (bankOf u.req.addr).1 (bankOf u.req.addr).2 u.mode = true ∧
     changePoisoned s (bankOf u.req.addr).1 (bankOf u.req.addr).2 u.mode = true) ∧
    (let u : ChangeRun := ⟨bankReq (.link [0x53]), Params.array, 0, [(5, 3)], true, false⟩
     let q := fun (p : BitVec 3) => modBank (modBank (deck []) 5 2 fun b => { b with chg := some u, busy := true, p := { b.p with pers := 1 } }) 5 3
       fun b => { b with p := { b.p with pers := p }, busy := true }
     let free := fun (s : State) => modBank (((5, 2) :: u.names).foldl (fun s x => modBank s x.1 x.2 fun y => { y with busy := false }) s) 5 2
       fun y => { y with chg := none }
     (bankAt (q 1) 5 2).chg = some u ∧ u.isLink = true ∧ linkOk (free (q 1)) 5 2 u.names = true ∧
     linkOk (free (q 3)) 5 2 u.names = false) ∧
    (bankAt (deck []) 5 2).comp = [] := by decide +kernel

/-- A matrix step whose pins are all placed. -/
def pinned : MStep := { aStep with started := false, sent := true, aAddr := bankOff 5 1 0, bAddr := bankOff 5 2 0 }
def stepped (m : MStep) (bad : List Nat) : State := withCore { deck [] with sramBad := bad } fun k => { k with mq := [m] }
def mxvCmd (st : CmdStage) : Cmd := { commandOf mxvQuay 9 .mxv 0x400001 [0x140040000] 0 0 with stage := st }
/-- Core 5 with a leaf that maps virtual addresses to BLW offsets one to one. -/
def mapped (s : State) : State := withCore s fun k => { k with tlb := [⟨0, 0, 0x1000000000, 0x10000003E1C, 0⟩] }
def mxving (st : CmdStage) : State := setCmd (mapped mxvQuay) 5 0 (some (mxvCmd st))

/-- What the rows of an MXV's next entry come to, as data. -/
def rowsDone (s : State) (c : Cmd) : Option Nat :=
  match mxvEntryRows 5 0 (mxvRows c.d) 16 s c with
  | .done _ c' => some c'.outs.length
  | _ => none

theorem wit_MatrixEngineActs :
    (let s := stepped pinned []
     ((coreAt s 5).mq.filter fun x => x.started).length < 2 ∧ (coreAt s 5).mq.find? (mayStart s 5) = some pinned ∧
     stepAt s 5 pinned.id = some pinned ∧ blockPoison s pinned.aAddr 1536 = false ∧
     blockPoison s pinned.bAddr (16 * mmaRowB pinned.fa pinned.fb) = false ∧ pinned.scl = 0) ∧
    blockPoison (stepped pinned [bankOff 5 1 64 / 64]) pinned.aAddr 1536 = true ∧
    (let m : MStep := { aStep with started := true, begun := 4 }
     let s := withCore (deck []) fun k => { k with mq := [{ aStep with id := 7, started := true, begun := 5 }, m] }
     m ∈ (coreAt s 5).mq ∧ m.started = true ∧ ∀ x ∈ (coreAt s 5).mq, x.started = true → x ≠ m → m.begun < x.begun) ∧
    mxvSlot (mxving .running) 5 = some 0 ∧ cmdAt (mxving .running) 5 0 = some (mxvCmd .running) ∧
    (coreAt (mxving .running) (mxvCmd .running).t.core).ldq.length < 16 ∧ (mxvCmd .running).stage = .running ∧ (mxvCmd .running).phase = 0 ∧
    (rowsDone (mxving .running) (mxvCmd .running)).isSome = true ∧
    (let c := { mxvCmd .running with phase := 1 }
     let s := fun (x : Option Nat) => withCore (setCmd mxvQuay 5 0 (some c)) fun k => { k with bookLoad := x }
     ∀ x ∈ [none, some 3], mxvSlot (s x) 5 = some 0 ∧ cmdAt (s x) 5 0 = some c ∧ c.stage = .running ∧
       (coreAt (s x) c.t.core).bookLoad.isSome = x.isSome) ∧
    mxvSlot (mxving (.finished 6)) 5 = some 0 ∧ cmdAt (mxving (.finished 6)) 5 0 = some (mxvCmd (.finished 6)) := by decide +kernel

def rowCmd : Cmd := { commandOf quay 9 (.row 2) 0x40000 [0x80000, 0xC0000] 0 1 with stage := .running }
def rowing : State := setCmd (mapped quay) 5 0 (some rowCmd)

theorem wit_RowStepComputesTheRow :
    rowing.memOk = true ∧ cmdAt rowing 5 0 = some rowCmd ∧ rowCmd.kind = .row 2 ∧ rowCmd.stage = .running ∧
    nextRow rowCmd.ahead (rowCmd.ahead.length + 1) rowCmd.next = 0 ∧ 0 < rowCmd.opw.toNat % 2 ^ 17 ∧
    (∀ e ∈ rowing.qdies, e.2.rows = []) ∧ sentSteps rowing 5 0 = [] ∧
    rowPlaces rowing 5 0 rowCmd [(0x80000, Need.load), (0xC0000, Need.load), (0x40000, Need.store)] =
      .ok rowing [0x80000, 0xC0000, 0x40000] ∧ (∀ b ∈ [0x80000, 0xC0000, 0x40000], b % 1024 = 0) ∧
    (∀ l ∈ [0x80000, 0xC0000, 0x40000].flatMap rowLines, lineQuiet rowing l = true ∧ (homeAt rowing l).own = 0 ∧
      hostBias rowing l = false ∧ linePoison rowing l = false) ∧ ctxNs rowCmd.ctx = false := by
  decide +kernel

def cpyCmd : Cmd := { commandOf quay 9 .cpy 0x40000 [0x80000] 0x20000000 8192 with stage := .running }
def copying : State := modStack (setCmd (mapped quay) 5 0 (some cpyCmd)) 0 fun k => { k with turns := [⟨5, 0, none⟩] }
def rowTurn (id : Nat) : RowStep := ⟨5, 0, id, 0, [0x80000, 0xC0000, 0x40000]⟩
def rowsTurn (id : Nat) : State :=
  modStack (modHome rowing (0x40000 / 64) fun h => { h with queue := [request .readWt false] }) 0 fun k =>
    { k with turns := [⟨5, 0, some (rowTurn id)⟩] }
def walkCmd (d opw : Word) (ph : Nat) : Cmd := { commandOf quay 9 .walk d [7] 0 opw with stage := .running, phase := ph }
def walking (c : Cmd) : State := modStack (setCmd (mapped quay) 5 0 (some c)) 0 fun k => { k with walks := [(5, 0)] }

/-- What a read of a walk comes to, as data: the read of a line succeeds. -/
def walkReads (s : State) (c : Cmd) (a : Nat) : Bool :=
  match engineDram s 5 0 (engineCtx s 5 c) c.priv a Need.load 1 with
  | .ok s1 pa => isDram pa &&
      match readLines s1 (.engine c.id) (ctxNs (engineCtx s 5 c)) [homeLine pa] with
      | .got _ _ bad => !bad
      | _ => false
  | _ => false

def compOf (n : Nat) : Cmd := { command with comp := BitVec.ofNat 64 n, stage := .finished 0 }
def stopped (k : CmdKind) : Cmd := { command with kind := k, stage := .stopped 1 0 0x40000 }
def deadQuay : State :=
  let s := setThread quay ⟨5, 7, 0⟩ { me quay with run := .parked .storeEmpty }
  setThread s ⟨5, 7, 1⟩ { Thread.reset with run := .parked (.pops 1), pc := 0x20000 }

theorem wit_EngineActs :
    (let c' := cmdAt (copyTurn 5 0 64 copying cpyCmd) 5 0
     (stackAt copying 0).turns = ⟨5, 0, none⟩ :: [] ∧ cmdAt copying 5 0 = some cpyCmd ∧ cpyCmd.stage = .running ∧ cpyCmd.kind = .cpy ∧
     c'.map (·.stage) = some .running ∧ c'.map (·.count) = some 4096 ∧ cpyCmd.count = 0) ∧
    (∀ id ∈ [9, 10], (stackAt (rowsTurn id) 0).turns = ⟨5, 0, some (rowTurn id)⟩ :: [] ∧
      rowReady (rowsTurn id) (rowTurn id) = decide (id ≠ rowCmd.id)) ∧
    (let c := walkCmd 0x40000 0x4000000000 1
     cmdAt (walking c) 5 0 = some c ∧ c.stage = .running ∧ c.kind = .walk ∧ (5, 0) ∈ (stackAt (walking c) (5 / 64)).walks.take 32 ∧
     walkWants c = .ends 1 0 ∧ cmdAt (setCmd quay 5 0 (some c)) 5 0 = some c ∧
     (5, 0) ∉ (stackAt (setCmd quay 5 0 (some c)) (5 / 64)).walks.take 32) ∧
    (let c := walkCmd 0x40000 0x400000000000 0
     cmdAt (walking c) 5 0 = some c ∧ walkWants c = .read 0x40000 8 ∧ c.count < walkLimit c.opw ∧ walkReads (walking c) c 0x40000 = true) ∧
    (let c := walkCmd 0x40000 0 0
     cmdAt (walking c) 5 0 = some c ∧ walkWants c = .read 0x40000 8 ∧ walkLimit c.opw ≤ c.count) ∧
    (let c := compOf 0x800000000000
     cmdAt (setCmd quay 5 0 (some c)) 5 0 = some c ∧ c.stage = .finished 0 ∧ c.kind ≠ .mxv ∧ compKind c.comp = 2) ∧
    (let c := compOf 0x400000000009
     let s := { setCmd quay 5 0 (some c) with now := 1 }
     cmdAt s 5 0 = some c ∧ compKind c.comp ≠ 2 ∧ queueRoom (coreAt s (forwarded s 5)) false = true ∧
     (coreAt s (forwarded s 5)).inserted < s.now ∧ ∀ m ∈ (coreAt s (forwarded s 5)).ni, s.now ≤ m.came) ∧
    (∀ k ∈ ([.cpy, .row 1, .mxv] : List CmdKind), cmdAt (setCmd quay 5 0 (some (stopped k))) 5 0 = some (stopped k) ∧
      (stopped k).stage = .stopped 1 0 0x40000) ∧
    (deadRow deadQuay 5 = some 0 ∧ (threadAt deadQuay ⟨5, 7, 0⟩).run ≠ .free ∧ (threadAt deadQuay ⟨5, 7, 1⟩).run ≠ .free) := by
  decide +kernel

/-- A coalescing entry of die 0, walking or failed. -/
def aCoal (va : Nat) (w : Bool) : Coal := ⟨3, 0, 0, va / 65536, true, 0, 0, va, 1, 0, [], none, w, none⟩
def coalesced (va : Nat) (w : Bool) : State := modDie (turn 0) 0 fun d => { d with coal := [aCoal va w] }
def crowded : State :=
  modDie (turn 0) 0 fun d => { d with coal := ((List.range 64).map fun i => { aCoal 0 true with index := 10 + i }) ++ [aCoal 0x10000 true] }

/-- How a walk ends, as data. -/
def walkEnds (va : Nat) : Nat :=
  match walkNow (coalesced va true) (.walk 0 3) 0 va (entryStores (coalesced va true) (aCoal va true)) with
  | .later _ => 0
  | .leaf _ _ => 1
  | .fail _ _ => 2

/-- The leaf that maps an address there, an entry that is to set its DTY, and how that ends, as data. -/
def leafOf (va : Nat) : Leaf :=
  match walkNow (coalesced va true) (.walk 0 3) 0 va (fun _ _ => false) with
  | .leaf _ l => l
  | _ => ⟨0, 0, 0, 0, 0⟩
def dirtied (e : Word) : State :=
  modDie (turn 0) 0 fun d => { d with coal := [{ aCoal 0x10000 true with leaf := some { leafOf 0x10000 with entry := e } }] }
def dirtyEnds (e : Word) : Nat :=
  match setDirty (dirtied e) (.walk 0 3) (ctxNs 0) { leafOf 0x10000 with entry := e } with
  | .later _ => 0
  | .leaf _ _ => 1
  | .changed _ => 2

/-- An entry that an access waits for, and what its walk, which fails, leaves. -/
def prefetching (k : AccKind) : State :=
  { modDie (turn 0) 0 (fun d => { d with coal := [{ aCoal 0x8000000000 true with waiters := [.access 1] }] }) with
    inflight := [{ aLoad 0 with kind := k, stage := .coal }] }
def prefetchWalk (s : State) : WalkEnd :=
  walkNow s (.walk 0 3) 0 0x8000000000 (entryStores s { aCoal 0x8000000000 true with waiters := [.access 1] })
def walkFails (s : State) : Bool :=
  match prefetchWalk s with
  | .fail _ _ => true
  | _ => false
def failedTo (s : State) : State :=
  match prefetchWalk s with
  | .fail s' _ => s'
  | _ => s

/-- A frozen thread, with or without a failed load. -/
def frozen (os : List Out) : State := withMe (deck []) fun th => { th with froz := true, outs := os }
def retried : Out := { Out.blank 1 .ld with file := .g, reg := 3, done := true, act := 1, fail := some ⟨.xlat, 1, 0x40000, 0⟩ }
def xinvWaits : State :=
  withMe { deck [] with xinvs := [⟨⟨5, 0, 0⟩, 0, [77], []⟩] } fun th => { th with run := .parked .xinv }

theorem wit_WalksFaultsAndWakes :
    (coalAt (coalesced 0x10000 true) 0 3 = some (aCoal 0x10000 true) ∧ (aCoal 0x10000 true).walking = true ∧
      (aCoal 0x10000 true).leaf = none ∧ hasWalker (coalesced 0x10000 true) 0 3 = true ∧ walkEnds 0x10000 = 1) ∧
    (coalAt (coalesced 0x8000000000 true) 0 3 = some (aCoal 0x8000000000 true) ∧
      hasWalker (coalesced 0x8000000000 true) 0 3 = true ∧ walkEnds 0x8000000000 = 2) ∧
    (coalAt crowded 0 3 = some (aCoal 0x10000 true) ∧ hasWalker crowded 0 3 = false) ∧
    (∀ x ∈ [((0x3C1F : Word), 1), ((leafOf 0x10000).entry, 2)],
      coalAt (dirtied x.1) 0 3 = some { aCoal 0x10000 true with leaf := some { leafOf 0x10000 with entry := x.1 } } ∧
      hasWalker (dirtied x.1) 0 3 = true ∧ dirtyEnds x.1 = x.2) ∧
    (let e := { aCoal 0x10000 false with cause := 7 }
     coalAt (modDie (turn 0) 0 fun d => { d with coal := [e] }) 0 3 = some e ∧ e.walking = false ∧ e.cause = 7) ∧
    (coalAt (coalesced 0x10000 false) 0 3 = some (aCoal 0x10000 false) ∧ (aCoal 0x10000 false).index = 3 ∧
      (aCoal 0x10000 false).walking = false) ∧
    ((me (frozen [])).run ≠ .free ∧ (me (frozen [])).froz = true ∧ (me (frozen [])).outs = []) ∧
    ((me (frozen [retried])).outs = [retried] ∧ holdsEntry retried.kind = true ∧ retried.fail.isSome = true ∧ retried.act = 1 ∧
      retried.file = .g ∧ retried.kind ≠ .struct) ∧
    (∀ w ∈ ([.reads, .chainPop 1, .chainPush, .marker] : List Park),
      let s := inbound (withMe (deck []) fun th => { th with run := .parked w })
      (me s).run = .parked w ∧ (me s).froz = false ∧ parkEnds s ⟨5, 0, 0⟩ w = true) ∧
    (∀ x ∈ [(AccKind.load, false), (.range 3 0x1000 0x1001, true)],
      let s := prefetching x.1
      coalAt s 0 3 = some { aCoal 0x8000000000 true with waiters := [.access 1] } ∧ hasWalker s 0 3 = true ∧
      waitsToPrefetch (failedTo s) (.access 1) = x.2 ∧ walkFails s = true) ∧
    canIssue (threadAt (deck []) ⟨5, 0, 0⟩) = true ∧ xinvCores 0 5 5 = true ∧
    ((xinvWaits.xinvs.find? fun x => x.t == ⟨5, 0, 0⟩) = some ⟨⟨5, 0, 0⟩, 0, [77], []⟩ ∧ xinvReady xinvWaits ⟨⟨5, 0, 0⟩, 0, [77], []⟩ = true ∧
      (threadAt xinvWaits ⟨5, 0, 0⟩).run = .parked .xinv) ∧
    (let v : Word := 0x800000000000000D
     let th := threadAt (frozen []) ⟨5, 0, 0⟩
     th.port.busy = false ∧ bit v.toNat 63 = true ∧ v.toNat % 4 < 2 ∧ th.port.paddr.toNat % 2 ^ field v.toNat 3 2 = 0 ∧
     field v.toNat 6 4 < 4 ∧ inDeviceRegion th.port.paddr.toNat = false) ∧
    (let a := { aLoad 0x40000 with kind := .port 0, stage := .landing }
     ((flying a).inflight.find? fun a => a.t == ⟨5, 0, 0⟩ && (a.kind == .port 0 || a.kind == .port 1 || a.kind == .port 2)) = some a ∧
     a.stage = .landing ∧ a.poison = false ∧ (threadAt (flying a) ⟨5, 0, 0⟩).rid = a.rid) := by decide +kernel


def waitingMsg (m : Msg) : State := withCore { deck [] with now := 2 } fun k => { k with ni := [m], inserted := 1 }
def answering (s : State) (v : Nat) : State := withMe s fun th => { th with run := .parked .answer, prog := .answered v }
def fromSender : Msg := { aMsg with src := some ⟨5, 0, 0⟩, ctx := 9, id := 4, came := 1 }

theorem wit_MessagesMove :
    (coreAt (withCore (deck []) fun k => { k with idle := true }) 5).idle = true ∧
    (deck []).now ≤ (coreAt (deck []) 5).inserted ∧
    (let s := withCore { deck [] with now := 2 } fun k => { k with evq := [aMsg] }
     (coreAt s 5).idle = false ∧ (coreAt s 5).inserted < s.now ∧ (coreAt s 5).evq = aMsg :: [] ∧ queueRoom (coreAt s 5) true = true ∧
     s.ended.contains aMsg.tag.toNat = false ∧ srtHolds (coreAt s 5) aMsg.tag = false) ∧
    (let m : Msg := { aMsg with tag := 7, came := 1 }
     let s := waitingMsg m
     (coreAt s 5).idle = false ∧ (coreAt s 5).inserted < s.now ∧ (coreAt s 5).evq = [] ∧ (coreAt s 5).ni = m :: [] ∧ m.came < s.now ∧
     m.src = none ∧ queueRoom (coreAt s 5) m.system = true ∧ s.ended.contains m.tag.toNat = false ∧
     srtHolds (coreAt s 5) m.tag = false) ∧
    (let s := withMe (waitingMsg fromSender) fun th => { th with run := .parked .answer, prog := .asked 4 }
     (coreAt s 5).idle = false ∧ (coreAt s 5).inserted < s.now ∧ (coreAt s 5).evq = [] ∧ (coreAt s 5).ni = fromSender :: [] ∧
     fromSender.came < s.now ∧ fromSender.src = some ⟨5, 0, 0⟩ ∧ (coreAt s 5).ctxid ≠ fromSender.ctx ∧
     (threadAt s ⟨5, 0, 0⟩).run = .parked .answer ∧ (threadAt s ⟨5, 0, 0⟩).prog = .asked fromSender.id) ∧
    (threadAt (answering (deck []) 1) ⟨5, 0, 0⟩).run = .parked .answer ∧
    (threadAt (answering (deck []) 1) ⟨5, 0, 0⟩).prog = .answered 1 ∧
    (threadAt (answering (deck []) 3) ⟨5, 0, 0⟩).prog = .answered 3 := by decide +kernel

def leaving (d : Depart) : State := withMe (deck []) fun th => { th with run := .departing d }
def aTravel (back spawn go : Bool) (asid : BitVec 16) : Travel := ⟨8, 6, 5, asid, false, Thread.reset, spawn, back, go⟩
def travelling (x : Travel) : State := { deck [] with travels := [x] }

theorem wit_RidersTravel :
    (∀ d ∈ ([.migrate 6, .go 6] : List Depart),
      (threadAt (leaving d) ⟨5, 0, 0⟩).run = .departing d ∧ (threadAt (leaving d) ⟨5, 0, 0⟩).susp = false ∧
      (threadAt (leaving d) ⟨5, 0, 0⟩).froz = false ∧ (threadAt (leaving d) ⟨5, 0, 0⟩).outs = [] ∧
      released (beginRelease (leaving d) ⟨5, 0, 0⟩ 3) ⟨5, 0, 0⟩ 3 = true) ∧
    (∀ spawn ∈ [false, true],
      let x := aTravel false spawn false 0
      ((travelling x).travels.find? fun y => y.id == 8) = some x ∧ x.back = false ∧ x.spawn = spawn ∧
      takesContext (travelling x) (forwarded (travelling x) x.dst) x = true ∧
      (coreAt (travelling x) (forwarded (travelling x) x.dst)).killed = false) ∧
    (∀ spawn ∈ [false, true],
      let x := aTravel false spawn false 3
      ((travelling x).travels.find? fun y => y.id == 8) = some x ∧ takesContext (travelling x) (forwarded (travelling x) x.dst) x = false) ∧
    (∀ go ∈ [false, true],
      let x := aTravel true false go 0
      ((travelling x).travels.find? fun y => y.id == 8) = some x ∧ x.back = true ∧ x.spawn = false ∧ x.go = go ∧
      (dieAt (travelling x) (dieOf (forwarded (travelling x) x.src))).fenced = false ∧
      (coreAt (travelling x) (forwarded (travelling x) x.src)).killed = false) := by decide +kernel

def aHandle (ctx : Option Thread) : Handle := ⟨if ctx.isSome then 1 else 0, 2, 2, 0, 0x50000, ctx, 0, none, false⟩
def berthed (b : Berth) (a : List Access) : State := { setBerth (deck []) 5 0 (some b) with inflight := a }
def recordRead : Access := { Access.blank 1 (loadRef 5 0) .load with stage := .landing, value := 5 }

/-- A load for a berth, as data: 0 none, 1 a value, 2 another outcome. -/
def loadKind (s : State) : Nat :=
  match takeLoad s (loadRef 5 0) with
  | .idle => 0
  | .value _ bad _ => if bad then 2 else 1
  | _ => 2

theorem load_value {s : State} (h : loadKind s = 1) : ∃ d s1, takeLoad s (loadRef 5 0) = .value d false s1 := by
  unfold loadKind at h
  split at h
  · omega
  · next d bad s1 e => cases bad <;> simp_all
  · omega

theorem wit_BerthsFillSlots :
    (let s := withCore (deck []) fun k => { k with qexp := [(0, 0)] }
     ((coreAt s 5).qexp.find? fun e => e.1 == 0) = some (0, 0) ∧ (threadAt s (ofTid 5 0)).ss.skp = 0 ∧
     (threadAt s (ofTid 5 0)).run = .ready ∧ (ofTid 5 0).slot ≠ 7) ∧
    (let s := withCore (deck []) fun k => { k with rq := [aHandle none] }
     (coreAt s 5).idle = false ∧ (coreAt s 5).arrivals = [] ∧ headOf (coreAt s 5).rq = some (aHandle none) ∧ berthAt s 5 0 = none) ∧
    (let b : Berth := ⟨aHandle none, 1, false, [], 0, none⟩
     berthAt (berthed b [recordRead]) 5 0 = some b ∧ b.fault = none ∧ b.loaded = false ∧
     (∃ d s1, takeLoad (berthed b [recordRead]) (loadRef 5 0) = .value d false s1) ∧
     takeLoad (berthed b []) (loadRef 5 0) = .idle) ∧
    (let b : Berth := ⟨aHandle (some Thread.reset), 1, true, [], 0, none⟩
     chosenBerth (berthed b []) 5 3 = some (0, b) ∧ b.handle.ctx = some Thread.reset ∧ b.handle.pair = none ∧
     headOf (coreAt (berthed b []) 5).rq = none ∧ (∀ e ∈ (berthed b []).evacs, e.1 ≠ 5)) :=
  ⟨by decide +kernel, by decide +kernel, ⟨by decide +kernel, by decide +kernel, by decide +kernel, load_value (by decide +kernel),
    by rfl⟩, by decide +kernel⟩

/-- A launch packet of one entry: FMT 1, LEN 1, GID 7, one deck rider, one group; and one that is malformed. -/
def packetWord0 : Nat := 0x01 * 2 ^ 56 + 1 * 2 ^ 53 + 7 * 2 ^ 37 + 1 * 2 ^ 24
def packetEntry (w0 : Nat) : Line :=
  BitVec.ofNat 512 (packElems 64 [w0, 0x10000, 0x20000, 0, 0, 1 + 2 ^ 20 + 2 ^ 40, 0x30000, 0])
def launching (w0 : Nat) : State :=
  let s := modBank { deck [] with lqCore := 0, lqBank := 15 } 0 15 fun b =>
    { b with p := { b.p with pers := 1, esz := 3 }, count := 1, facts := [(true, true)] }
  { s with sram := wrNat s.sram (bankOff 0 15 0) 64 (packetEntry w0).toNat }
def poppedCode (s : State) : Nat :=
  let b := bankAt s 0 15
  let x := popEntries s 0 15 (min (headGroup b).1 b.count)
  let s1 := { (modBank x.2 0 15 fun y => { y with facts := y.facts.drop (headGroup b).1 }) with seq := x.2.seq + 1 }
  packetCode s1 x.1 (headGroup b).2

def oneGrid : Grid := { gridOfPacket State.reset [packetEntry packetWord0] with key := 1 }
def gridded (g : Grid) : State := { deck [] with grids := [g], seq := 1 }
def handedOut (g : Grid) : State := modDie (gridded g) 0 fun d => { d with batches := [⟨1, [0]⟩] }

theorem wit_DispatcherActs :
    (∀ w0 ∈ [packetWord0, 0], (launching w0).electing = false ∧ (launching w0).grids.length < 64 ∧
      (bankAt (launching w0) 0 15).p.pers = 1 ∧ (bankAt (launching w0) 0 15).p.esz = 3 ∧ (bankAt (launching w0) 0 15).busy = false ∧
      (bankAt (launching w0) 0 15).count ≠ 0 ∧ bankIdle (bankAt (launching w0) 0 15) = true) ∧
    (let s := modBank (launching packetWord0) 0 15 fun b => { b with queue := [bankReq .stat] }
     frontMayPop s = true ∧ bankIdle (bankAt s 0 15) = false ∧
     ∀ q ∈ (bankAt s 0 15).queue ++ (bankAt s 0 15).net, q.cmd ≠ .launch) ∧
    poppedCode (launching packetWord0) = 0 ∧ poppedCode (launching 0) ≠ 0 ∧
    (oneGrid.inline = [] ∧ (gridded oneGrid).electing = false ∧ chosenGrid (gridded oneGrid) = some oneGrid ∧
      (((List.range 4).map fun i => ((gridded oneGrid).served + 1 + i) % 4).find? (requests (gridded oneGrid) oneGrid)).isSome = true) ∧
    (∀ q ∈ ([[], [bankReq .stat]] : List (List BankReq)),
      let g := { oneGrid with banks := 4 }
      let c := (placeFor (handedOut g) 0 g).getD 0
      let s := modBank (handedOut g) c 2 fun b => { b with queue := q }
      (dieAt s 0).batches = ⟨1, 0 :: []⟩ :: [] ∧ gridAt s 1 = some g ∧ placeFor s 0 g = some c ∧
      (banksOf g.banks).all (bankQuiet s c) = q.isEmpty) ∧
    (let g := { oneGrid with ended := 1 }
     ((gridded g).grids.find? fun x => x.gid.toNat == 7) = some g ∧ g.argFail = false ∧ g.noMore = false ∧
     g.ended = gridTotal g.size ∧ gridSettled (gridded g) g = true) ∧
    (let s : State := { deck [] with electing := true }
     s.electing = true ∧ ((List.range 4).find? fun d => !(dieAt s d).fenced) = some 0) := by decide +kernel

def secureDie : Agent := ⟨false, false, 1⟩
def killing (t : Option ThreadRef) : State := { deck [] with kills := [⟨false, 3, 2, t, 0, []⟩] }
def evacuating : State := { deck [] with evacs := [(7, 8, [])] }

theorem wit_FencesKillsAndEvacuations :
    (dieAt (modDie (deck []) 0 fun d => { d with fenced := true }) 0).fenced = true ∧
    mayFence secureDie 0 = true ∧ (dieAt (deck []) 0).fenced = false ∧ (3 : Nat) ≠ (deck []).pilot ∧
    (secureDie.ns = true → bit (3 : Word).toNat 16 = true) ∧
    (∀ t ∈ ([none, some ⟨5, 0, 0⟩] : List (Option ThreadRef)), (killing t).kills = ⟨false, 3, 2, t, 0, []⟩ :: [] ∧
      killSettled (killing t) ⟨false, 3, 2, t, 0, []⟩ = true) ∧
    ((coreAt (deck []) 7).evSt ≠ 1 ∧ (0x408 : Word).getLsbD 10 = true ∧
      evacWhy (modCore (deck []) 7 fun k => { k with evTarget := 8 }) secureDie 7 8 = 0 ∧
      evacWhy (modCore (deck []) 7 fun k => { k with evTarget := 300 }) secureDie 7 300 ≠ 0) ∧
    ((evacuating.evacs.find? fun e => e.1 == 7) = some (7, 8, []) ∧ evacReady evacuating 7 = true) := by decide +kernel

theorem wit_AgentsWriteRegisters :
    (coreAt (deck []) 5).carveBusy = none ∧ 16 < (17 : Word).toNat % 32 ∧ (coreAt (deck []) 5).carveK < (16 : Word).toNat % 32 ∧
    (let s := withCore (deck []) fun k => { k with carveK := 3 }
     (2 : Word).toNat % 32 < (coreAt s 5).carveK) ∧
    (let s := withCore (deck []) fun k => { k with carveBusy := some (2, .agent) }
     (coreAt s 5).carveBusy.isSome = true) ∧
    (secureDie.ns = true → ctxNs (coreAt (deck []) 5).ctxid = true ∧ ctxNs (9 : Word) = true) ∧
    (servesL1 (withCore (deck []) fun k => { k with carveK := 3 }) 5 2 = true ∧ servesL1 (deck []) 5 2 = false ∧
      mustWait (deck []) 5 2 = false) ∧
    (let s := modBank (deck []) 5 2 fun b => { b with net := [bankReq .stat] }
     servesL1 s 5 2 = false ∧ mustWait s 5 2 = true) ∧
    (let s : State := { deck [] with rsyncLen := some 4096 }
     s.rsyncLen = some 4096 ∧ ∀ a ∈ s.inflight, a.t ≠ resyncRef) ∧
    (let s : State := { deck [] with rsyncs := [64] }
     s.rsyncLen = none ∧ s.rsyncs = 64 :: [] ∧ s.electing = false) := by decide +kernel

theorem wit_RegisterWrites :
    (∃ off, regPlace off = .node 5) ∧ (∃ t, regWrite (deck []) secureDie 0x10000000 1 .agent = some t) := by
  refine ⟨⟨0x14200028, ?_⟩, ?_⟩
  · decide +kernel
  · exact Option.isSome_iff_exists.1 (by decide +kernel)

/-- Stack 0 marks its first 64 KiB secure. -/
def secured : State := { deck [] with qdies := [(0, { Stack.reset with regions := [(0, 0x8000000000000000)] })] }

theorem wit_ResetsAndBoot :
    mayReset secureDie = true ∧ secureRange secured (0 / 16) (0 % 16) = some (0, 0x10000) ∧ State.reset.prst = 1 := by decide +kernel

theorem wit_DeviceActs :
    (stackAt (deck []) (1023 / 64)).refresh = false ∧ hasArrival (coreAt (deck []) 6) = false ∧
    hasArrival (coreAt (deck []) 5) = true ∧ stackQuiet (deck []) 15 = true ∧
    stackQuiet (asksHome (request .readWt false)) (stackOf 0x40000) = false ∧ (dieAt (deck []) 3).fenced = false ∧
    llcAt (inLlc (deck [])) 0x1000 = some ⟨9, true, false⟩ ∧
    (l2At (setL2 (deck []) 0 0x40000 { L2Line.reset with st := .shared }) 0 (64 * 0x1000)).st ≠ .inv ∧
    (coreAt (deck []) 5).carveK ≤ 2 ∧ 2 < (coreAt (withCore (deck []) fun k => { k with carveK := 3 }) 5).carveK := by decide +kernel


/-- A packet from node 9 with a code, an address, a size and data. -/
def fromNode (opc : BitVec 8) (addr : Nat) (size : BitVec 3) (hostn : Bool) (flits : List Line) : Packet :=
  { packet State.reset opc 0 true 7 addr with src := 9, size := size, hostn := hostn, ndata := BitVec.ofNat 3 flits.length, flits := flits }

theorem wit_FabricRequestsJoinTheirHomes :
    (∀ p ∈ [fromNode 1 0x40008 3 false [], fromNode 2 0x40000 4 false [], fromNode 3 0x40000 4 true [5], fromNode 3 0x40000 3 true [],
        fromNode 4 0x40000 4 false [5], fromNode 5 0x40008 2 false [], fromNode 8 0x40000 4 true [], fromNode 9 0x40000 4 true [],
        fromNode 10 0x40000 4 true [5]],
      Reaches p (deck []) p.opc.toNat ∧ p.addr.toNat % packetBytes p = 0 ∧ window p.addr.toNat = .iw p.addr.toNat) ∧
    (∀ p ∈ [fromNode 6 0x20000000000 3 true [], fromNode 6 0x20000000000 4 true [5, 6]],
      Reaches p (deck []) 6 ∧ p.addr.toNat % packetBytes p = 0 ∧ window p.addr.toNat = .bank 0) ∧
    Reaches (fromNode 2 0x40000 4 true []) (deck []) 2 ∧
    (∀ o ∈ ([0x07, 0x10] : List (BitVec 8)), (fromNode o 0 0 true []).dst = (deck []).nid ∧
      (fromNode o 0 0 true []).src ≠ (deck []).nid ∧ (fromNode o 0 0 true []).hostn = true ∧ (fromNode o 0 0 true []).opc = o) ∧
    Reaches (fromNode 1 0x40004 3 false []) (deck []) 1 ∧ (0x40004 : Nat) % packetBytes (fromNode 1 0x40004 3 false []) ≠ 0 ∧
    (fromNode 0x7F 0 0 false []).dst = (deck []).nid ∧ (fromNode 0x7F 0 0 false []).src ≠ (deck []).nid := by
  unfold Reaches; decide +kernel

def atPeer (k : AccKind) (pol : Nat) : Access := { aLoad 0x80000000000000 with id := 7, kind := k, pol := pol, stage := .atPeer }

theorem wit_FabricResponsesReachTheirAccess :
    (∀ k ∈ ([.atomic, .load] : List AccKind), Reaches (fromNode 0x81 0 3 false []) (flying (atPeer k 1)) 0x81 ∧
      answeredBy (flying (atPeer k 1)) (fromNode 0x81 0 3 false []).tag = some (atPeer k 1) ∧ (atPeer k 1).pol ≠ 2 ∧
      (fromNode 0x81 0 3 false []).flits = []) ∧
    (∀ k ∈ ([.writeBack, .store] : List AccKind), Reaches (fromNode 0x82 0 0 false []) (flying (atPeer k 0)) 0x82 ∧
      answeredBy (flying (atPeer k 0)) 7 = some (atPeer k 0) ∧ (atPeer k 0).kind = k) ∧
    (∀ st ∈ ([3, 4, 5] : List (BitVec 3)), Reaches { fromNode 0x83 0 0 false [] with stat := st } (flying (atPeer .load 1)) 0x83 ∧
      answeredBy (flying (atPeer .load 1)) 7 = some (atPeer .load 1) ∧ (atPeer .load 1).t.slot ≠ 14) ∧
    (∀ st ∈ ([0, 1] : List (BitVec 3)),
      let s := modHome (deck []) 0x1000 fun h => { h with snoop := some ⟨7, .req 3, true⟩ }
      Reaches { fromNode 0x90 0 4 false [5] with stat := st } s 0x90 ∧ snoopedLine s 7 = some 0x1000 ∧
      (homeAt s 0x1000).snoop.isSome = true) := by
  unfold Reaches; refine ⟨?_, ?_, ?_, ?_⟩ <;> decide +kernel

theorem wit_HomeWriteStoresOnlyItsBytes :
    let r := { request (.write 1 0xFF00 (BitVec.allOnes 512)) false with pa := 0x10000040000 }
    let s := asksHome r
    s.memOk = true ∧ (homeAt s 0x1000).queue = r :: [] ∧ r.kind = .write 1 0xFF00 (BitVec.allOnes 512) ∧ r.host = none ∧
    homeLine r.pa = 0x1000 ∧ (homeAt s 0x1000).act = none ∧ (homeAt s 0x1000).own = 0 ∧ (homeAt s 0x1000).shr = 0 ∧
    (homeAt s 0x1000).snoop = none ∧ (homeAt s 0x1000).snooped = [] ∧ (homeAt s 0x1000).unanswered = [] ∧
    homeFree s 0x1000 = true ∧ hostBias s 0x1000 = false ∧ (r.ns = true → secureLine s 0x1000 = false) ∧
    llcAt s 0x1000 = none ∧ (llcMates s 0x1000).length < 16 ∧ (llcAt (inLlc s) 0x1000).isSome = true := by decide +kernel

theorem wit_IntegerInstructionsFrame :
    registersOnly (.sub false 3 1 2) = true ∧ Issues (.sub false 3 1 2) (deck someRegs) ∧
    ∃ t, exec (.sub false 3 1 2) (deck someRegs) = .next t :=
  ⟨rfl, issues_of (by decide +kernel), ⟨_, rfl⟩⟩

theorem wit_DecodeOfEncode : (Instr.acas true 30 31 5 1 15).isWord = true ∧
    (∃ w, encode (.acas true 30 31 5 1 15) = some w) ∧ decode 0x08221801 = .ok (.sub false 2 4 6) := by
  refine ⟨rfl, ⟨_, rfl⟩, by decide +kernel⟩


/-! ### One step each: expected values by hand from the spec's tables -/

/-- The g register, the v register and the flags after an instruction. -/
def gAfter (i : Instr) (s : State) (r : Nat) : Word := rdG (me (after i s)) r
def vAfter (i : Instr) (s : State) (r : Nat) : Line := rdV (me (after i s)) r
def fAfter (i : Instr) (s : State) : BitVec 5 := (me (after i s)).ss.flags
def vec (l : List Nat) : Line := BitVec.ofNat 512 (packElems 32 l)
def lanesAfter (i : Instr) (s : State) (r : Nat) : List Nat := elems 32 16 (vAfter i s r).toNat
def onV (v : Assoc Line) (pw : BitVec 32) : State := withMe (on 0 0 0 [(1, 5), (2, 0x10)] v) fun th => { th with pw := pw }

/-- R300: sums wrap, differences borrow, shift counts are modulo 64. -/
theorem test_integer_arithmetic :
    gAfter (.add false 3 1 2) (deck [(1, 0xFFFFFFFFFFFFFFFF), (2, 3)]) 3 = 2 ∧
    gAfter (.sub false 3 1 2) (deck [(2, 1)]) 3 = 0xFFFFFFFFFFFFFFFF ∧
    gAfter (.shl false 3 1 2) (deck [(1, 1), (2, 65)]) 3 = 2 ∧
    gAfter (.shr false 3 1 2) (deck [(1, 0x8000000000000000), (2, 63)]) 3 = 1 ∧
    gAfter (.sra false 3 1 2) (deck [(1, 0x8000000000000000), (2, 4)]) 3 = 0xF800000000000000 ∧
    gAfter (.andn false 3 1 2) (deck [(1, 0xFF), (2, 0x0F)]) 3 = 0xF0 ∧
    gAfter (.min false 3 1 2) (deck [(1, 1), (2, 0xFFFFFFFFFFFFFFFF)]) 3 = 0xFFFFFFFFFFFFFFFF ∧
    gAfter (.minu false 3 1 2) (deck [(1, 1), (2, 0xFFFFFFFFFFFFFFFF)]) 3 = 1 ∧
    gAfter (.clz false 3 1) (deck []) 3 = 64 ∧ gAfter (.clz false 3 1) (deck [(1, 1)]) 3 = 63 ∧
    gAfter (.ctz false 3 1) (deck [(1, 0x100)]) 3 = 8 ∧ gAfter (.popc false 3 1) (deck [(1, 0xF0F)]) 3 = 8 ∧
    gAfter (.sext false 3 1 0) (deck [(1, 0x1280)]) 3 = 0xFFFFFFFFFFFFFF80 ∧
    gAfter (.addi false 3 1 (-7)) (deck [(1, 5)]) 3 = 0xFFFFFFFFFFFFFFFE ∧
    gAfter (.lui false 3 0x80000) (deck []) 3 = 0xFFFFFFFF80000000 ∧
    gAfter (.add false 0 1 2) (deck [(1, 4), (2, 3)]) 0 = 0 ∧
    (me (after (.add false 3 1 2) (deck []))).pc = 0x10004 := by decide +kernel

/-- R304: the high halves, and the corners of division. -/
theorem test_multiply_divide :
    gAfter (.mulh false 3 1 1) (deck [(1, 0xFFFFFFFFFFFFFFFF)]) 3 = 0 ∧
    gAfter (.mulhu false 3 1 1) (deck [(1, 0xFFFFFFFFFFFFFFFF)]) 3 = 0xFFFFFFFFFFFFFFFE ∧
    gAfter (.div false 3 1 2) (deck [(1, 0x8000000000000000), (2, 0xFFFFFFFFFFFFFFFF)]) 3 = 0x8000000000000000 ∧
    gAfter (.div false 3 1 0) (deck [(1, 7)]) 3 = 0xFFFFFFFFFFFFFFFF ∧
    gAfter (.div false 3 1 2) (deck [(1, 0xFFFFFFFFFFFFFFF9), (2, 2)]) 3 = 0xFFFFFFFFFFFFFFFD ∧
    gAfter (.rem false 3 1 2) (deck [(1, 0xFFFFFFFFFFFFFFF9), (2, 2)]) 3 = 0xFFFFFFFFFFFFFFFF ∧
    gAfter (.remu false 3 1 0) (deck [(1, 7)]) 3 = 7 := by decide +kernel

/-- R228, R311: sums, a division by zero, a root that is inexact, the sign of a minimum of zeros, and a NaN. -/
theorem test_scalar_float :
    gAfter (.fadd false 3 1 2 1) (deck [(1, 0x3FF0000000000000), (2, 0x4000000000000000)]) 3 = 0x4008000000000000 ∧
    gAfter (.fdiv false 3 1 0 1) (deck [(1, 0x3FF0000000000000)]) 3 = 0x7FF0000000000000 ∧
    fAfter (.fdiv false 3 1 0 1) (deck [(1, 0x3FF0000000000000)]) = 8 ∧
    gAfter (.fsqrt false 3 1 1) (deck [(1, 0x4000000000000000)]) 3 = 0x3FF6A09E667F3BCD ∧
    fAfter (.fsqrt false 3 1 1) (deck [(1, 0x4000000000000000)]) = 1 ∧
    gAfter (.fadd false 3 1 2 0) (deck [(1, 0x7F800000), (2, 0xFF800000)]) 3 = 0x7FC00000 ∧
    fAfter (.fadd false 3 1 2 0) (deck [(1, 0x7F800000), (2, 0xFF800000)]) = 16 ∧
    gAfter (.fma false 3 1 2 0) (deck [(1, 0x40000000), (2, 0x40400000), (3, 0x3F800000)]) 3 = 0x40E00000 := by decide +kernel

/-- R305-R308: a false compare with SKIP 1 annuls one unit; a branch counts words from its own address; JAL links. -/
theorem test_control :
    (me (after (.cmpi false 0 0 3 1 5) (deck [(1, 5)]))).pw = 0x0008FFFF ∧
    (me (after (.cmpi false 0 0 3 1 4) (deck [(1, 5)]))).pw = 0x0000FFFF ∧
    (me (after (.bf false 3 (-4)) (deck []))).pc = 0xFFF0 ∧ (me (after (.bt false 3 (-4)) (deck []))).pc = 0x10004 ∧
    (me (after (.jal false 1 2) (deck []))).pc = 0x10008 ∧ gAfter (.jal false 1 2) (deck []) 1 = 0x10004 ∧
    (me (after (.jr false 1) (deck [(1, 6)]))).fault.cls = some .align := by decide +kernel

/-- R316, R317: what TRAP saves, and where it and ERET go. -/
theorem test_trap_and_eret :
    (me (after (.trap false 5) (trapping 0 0x5001))).pc = 0x5050 ∧ gAfter (.trap false 5) (trapping 0 0x5001) 24 = 0x10004 ∧
    (me (after (.trap false 5) (trapping 0 0x5001))).ss.priv = 1 ∧
    (me (after (.eret false) (returning 1 0x20000))).pc = 0x20000 ∧
    (me (after (.eret false) (returning 1 0x20000))).ss.priv = 0 ∧
    (me (after (.eret false) (returning 0 0x20000))).fault.cls = some .priv := by decide +kernel

/-- R341: the values that atomics store. -/
theorem test_atomic_values :
    (atomicNew 0 4 .rne 0xFFFFFFFF 2 0).1 = some 1 ∧ (atomicNew 4 4 .rne 1 0xFFFFFFFF 0).1 = some 0xFFFFFFFF ∧
    (atomicNew 7 8 .rne 5 6 9).1 = none ∧ (atomicNew 7 8 .rne 5 5 9).1 = some 9 ∧
    (atomicNew 8 4 .rne 0x3F800000 0x40000000 0).1 = some 0x40400000 := by decide +kernel

/-- R385, R390, R392: lanes wrap, excluded lanes keep their values, division by zero as in R304, and exact special values. -/
theorem test_vector_arithmetic :
    lanesAfter (.vadd false 3 1 2 1) (onV [(1, vec [0xFFFFFFFF, 5, 7]), (2, vec [2, 6, 1]), (3, vec [9, 9, 9])] 0x5) 3 =
      [1, 9, 8, 0, 0, 0, 0, 0, 0, 0, 0, 0, 0, 0, 0, 0] ∧
    (lanesAfter (.vdiv false 3 1 2 1) (onV [(1, vec [7, 0x80000000]), (2, vec [0, 0xFFFFFFFF])] 3) 3).take 2 = [0xFFFFFFFF, 0x80000000] ∧
    (lanesAfter (.vmul false 3 1 2 0) (onV [(1, vec [0x40000000]), (2, vec [0x40400000])] 1) 3).headD 0 = 0x40C00000 ∧
    (lanesAfter (.vrcp false 3 1) (onV [(1, vec [0x40000000])] 1) 3).headD 0 = 0x3F000000 ∧
    (lanesAfter (.vrsq false 3 1) (onV [(1, vec [0x40800000])] 1) 3).headD 0 = 0x3F000000 ∧
    (lanesAfter (.vexp2 false 3 1) (onV [(1, vec [0x40400000])] 1) 3).headD 0 = 0x41000000 ∧
    (lanesAfter (.vlog2 false 3 1) (onV [(1, vec [0x41000000])] 1) 3).headD 0 = 0x40400000 := by decide +kernel

/-- R396-R403: a compare ANDs its result into the mask; movements; a reduction and a scan of 1, 2, 3, 4. -/
theorem test_vector_movement :
    (me (after (.vcmp false 1 2 18) (onV [(1, vec [1, 5, 2]), (2, vec [3, 3, 3])] 0x7))).pw = 0x5 ∧
    (lanesAfter (.vslide false 3 1 2 15) (onV [(1, vec [1]), (2, vec [7, 8])] 0xFFFF) 3).take 3 = [0, 7, 8] ∧
    (lanesAfter (.vperm false 3 1 2) (onV [(1, vec [4, 5, 6]), (2, vec [2, 1, 16])] 0xFFFF) 3).take 3 = [6, 5, 4] ∧
    gAfter (.vext false 3 1 2) (onV [(1, vec [4, 5, 0xFFFFFFFF])] 0) 3 = 0xFFFFFFFF ∧
    gAfter (.vredadd false 3 1 1) (onV [(1, vec [1, 2, 3, 4])] 0xB) 3 = 7 ∧
    gAfter (.vredmax false 3 1 0) (onV [] 0) 3 = 0xFF800000 ∧
    (lanesAfter (.vscan false 3 1 1) (onV [(1, vec [1, 2, 3, 4])] 0xFFFF) 3).take 5 = [1, 3, 6, 10, 10] := by decide +kernel

/-- R349-R353: an arrival, the completion of a phase, and a wait that observes it. -/
theorem test_barriers :
    (barrierAt (after (.bara false 0 1 6 0) (deck barRegs)) 5 0 31) = { Barrier.reset with npart := 2, arrived := 1 } ∧
    (barrierAt (after (.bara false 0 1 2 0) (deck barRegs)) 5 0 31) = { Barrier.reset with phase := true, waiters := 1, hold := true } ∧
    (me (after (.barw false 4 1 0) (waitsAt (barred { Barrier.reset with phase := true, waiters := 1, hold := true }) false))).pw =
      0x0010FFFF ∧
    gAfter (.barq false 3 1 0) (barred { Barrier.reset with npart := 3, arrived := 2, pend := 5 }) 3 = 0x500030002 := by decide +kernel

/-- R102: the majority of three rows, and the complement. -/
theorem test_row_values :
    rowValue 6 false 0xC 0xA 0x9 = 0x8 ∧ rowValue 5 false 0 0 0 = BitVec.allOnes 512 ∧ rowValue 2 false 0xC 0xA 0 = 0x8 ∧
    rowValue 1 true 0 0 0 = BitVec.allOnes 512 := by decide +kernel


/-- Bank 2 of core 5 under a personality, and the results of commands performed there in turn: status and value. -/
def bankWith (pers : BitVec 3) (esz : BitVec 2) (cap : BitVec 13) (log : BitVec 4) (sh : BitVec 6) : State :=
  modBank (deck []) 5 2 fun b => { b with p := ⟨pers, esz, cap, log, sh⟩ }
def runBank : List BankCmd → State → State × List (Nat × Nat)
  | [], s => (s, [])
  | c :: r, s =>
    match bankPerform s 5 2 (bankReq c) with
    | .done s' x => let y := runBank r s'; (y.1, ((x.status.getD 7).toNat, x.value.toNat) :: y.2)
    | _ => (s, [])
def answers (s : State) (cs : List BankCmd) : List (Nat × Nat) := (runBank cs s).2

/-- R68: a queue of 3 is first in, first out, and FULL at its capacity; a stack last in, first out. -/
theorem test_queue_and_stack :
    answers (bankWith 1 0 3 0 0) [.push false 0 [5, 6], .push false 0 [7], .push false 0 [8], .pop false 0, .push false 0 [9],
      .pop false 0, .peek false 0, .pop false 0, .pop false 0, .pop false 0] =
      [(0, 0), (0, 0), (1, 0), (0, 5), (0, 0), (0, 6), (0, 7), (0, 7), (0, 9), (2, 0)] ∧
    answers (bankWith 2 0 3 0 0) [.push false 0 [5, 6], .pop false 0, .pop false 0, .heapTop] = [(0, 0), (0, 6), (0, 5), (5, 0)] := by
  decide +kernel

/-- R69-R71: the worked case of the map of 16 slots: 9, 17 and 1 fill slots 8, 9 and 10; the deletion of 9 moves the others back. -/
theorem test_map :
    answers (bankWith 3 0 16 4 0) [.mapPut 9 90, .mapPut 17 170, .mapPut 1 10, .mapGet 1, .mapDel 9, .mapGet 1, .mapGet 9, .mapGet 17] =
      [(0, 0), (0, 0), (0, 0), (0, 10), (0, 90), (0, 10), (3, 0), (0, 170)] ∧
    (bankAt (runBank [.mapPut 9 90, .mapPut 17 170, .mapPut 1 10] (bankWith 3 0 16 4 0)).1 5 2).occ = [8, 9, 10] ∧
    (bankAt (runBank [.mapPut 9 90, .mapPut 17 170, .mapPut 1 10, .mapDel 9] (bankWith 3 0 16 4 0)).1 5 2).occ = [8, 9] := by
  decide +kernel

/-- R72-R74: the least key leaves a heap first; the example of R74, and a counter that saturates. -/
theorem test_heap_and_histogram :
    answers (bankWith 4 0 4 0 0) [.heapPut 0x500000001, .heapPut 0x200000002, .heapPut 0x300000003, .heapPop, .heapTop, .heapPop, .heapPop,
      .heapPop] =
      [(0, 0), (0, 0), (0, 0), (0, 0x200000002), (0, 0x300000003), (0, 0x300000003), (0, 0x500000001), (2, 0)] ∧
    answers (bankWith 5 0 0 3 4) [.histAdd 0x35 7, .histAdd 0x9A 1, .histRead 3, .histRead 1, .histAdd 0x35 0xFFFFFFFF, .histRead 3,
      .histClear 3, .histRead 3, .histRead 8] =
      [(0, 0), (0, 0), (0, 7), (0, 1), (6, 0), (0, 0xFFFFFFFF), (0, 0), (0, 0), (5, 0)] := by decide +kernel

/-- R66, R75, R342: an array reads what was written, without a status (7 stands for none); an atomic gives OK. -/
theorem test_plain_bank_accesses :
    answers (deck []) [.write 8 4 0xF 0x12345678, .read 8 8, .atomic 8 4 0 1 0 0, .read 8 4] =
      [(7, 0), (7, 0x12345678), (0, 0x12345678), (7, 0x12345679)] := by decide +kernel

/-- R208, R212: a packet that a host pushes onto the launch queue by BKA is one entry there, answered OK, and becomes a grid. -/
def launchReady : State :=
  modBank { deck [] with lqCore := 5, lqBank := 2 } 5 2 fun b => { b with p := ⟨1, 3, 64, 0, 0⟩, ns := true }

/-- A cycle after an act. -/
def later (i : Instr) (s : State) : State := { after i s with now := s.now + 1 }

theorem test_host_launch :
    let s := after (.bankOperation 5 2) (later (.bka (fromNode 6 0x20000520000 4 true [packetEntry packetWord0])) launchReady)
    (bankAt s 5 2).count = 1 ∧ (bankAt s 5 2).facts.length = 1 ∧ (s.sent.map fun p => (p.opc, p.stat)) = [(0x82, 0)] ∧
    ((after .frontEndPop s).grids.map fun (g : Grid) => (g.gid, g.ndeck, gridTotal g.size)) = [(7, 1, 1)] := by decide +kernel

end Sys2Proof.Tests
end

section
/-! # Rules that several obligations use

What a fold keeps, and what the tables and the sorted lists hold after one. -/

namespace Sys2Proof.Machine
open Sys2Proof.Claims

theorem givesSome_of_exec {i : Instr} {s t : State} {P : State → Prop} (h : exec i s = .next t) (ht : P t) :
    GivesSome i s P := ⟨t, h, ht⟩

theorem foldl_keeps {α β σ : Type} (p : σ → β) (f : σ → α → σ) (hf : ∀ s a, p (f s a) = p s) (l : List α) (s : σ) :
    p (l.foldl f s) = p s := by
  induction l generalizing s with
  | nil => rfl
  | cons a l ih => rw [List.foldl_cons, ih, hf]

/-- What a change of every entry of a list of keys does to a table. -/
theorem aget_foldl_aset {α : Type} [DecidableEq α] (d : α) (f : α → α) (l : List ℕ) (hl : l.Nodup) (ts : Assoc α) (k : ℕ) :
    aget d (l.foldl (fun ts n => aset d ts n (f (aget d ts n))) ts) k = if k ∈ l then f (aget d ts k) else aget d ts k := by
  induction l generalizing ts with
  | nil => simp
  | cons n l ih =>
    obtain ⟨hn, hl⟩ := List.nodup_cons.mp hl
    rw [List.foldl_cons, ih hl, aget_aset]
    by_cases hk : k = n
    · subst hk
      simp [hn]
    · simp [hk]

/-- What every entry of a key has, and the default, the table reads at the key. -/
theorem aget_of_forall {α : Type} {d : α} {p : α → Prop} {k : ℕ} (hd : p d) {l : Assoc α} (h : ∀ e ∈ l, e.1 = k → p e.2) :
    p (aget d l k) := by
  induction l with
  | nil => exact hd
  | cons e l ih =>
    simp only [aget]
    split
    · next hk => exact h e (List.mem_cons_self ..) hk.symm
    · exact ih fun x hx => h x (List.mem_cons_of_mem _ hx)

theorem mem_sins (l : List ℕ) (k i : ℕ) : i ∈ sins l k ↔ i = k ∨ i ∈ l := by
  induction l with
  | nil => simp [sins]
  | cons x r ih =>
    unfold sins
    split_ifs with h1 h2
    · simp
    · simp [h2]
    · simp [ih, or_left_comm]

theorem mem_foldl_sins (ks l : List ℕ) (i : ℕ) : i ∈ ks.foldl sins l ↔ i ∈ ks ∨ i ∈ l := by
  induction ks generalizing l with
  | nil => simp
  | cons k ks ih => simp [ih, mem_sins, or_left_comm, or_assoc]

end Sys2Proof.Machine
end

section
/-! # Every step keeps both memories in canonical form

`SameMem t s` says that a helper of the model changes neither memory, `WfMem s` that both memories are in canonical form. Each
function of the model that gives a state has one lemma here, in the order of the model's files: `sameMem_f` where `f` writes no
memory, and `f_wfMem` where it writes one, through `wrMasked`, `wrNat`, `wrByte` or `zeroRange`. The arms of `exec` are then
short uses of them, and a step is an arm, or none. -/

namespace Sys2Proof.Machine

/-- A state has the memories of another. -/
@[simp] abbrev SameMem (t s : State) : Prop := t.dram = s.dram ∧ t.sram = s.sram

theorem SameMem.trans {t u s : State} (htu : SameMem t u) (hus : SameMem u s) : SameMem t s :=
  ⟨htu.1.trans hus.1, htu.2.trans hus.2⟩

/-- Both memories of a state are in canonical form. -/
@[simp] abbrev WfMem (s : State) : Prop := s.dram.wf = true ∧ s.sram.wf = true

theorem memOk_iff_wfMem (s : State) : s.memOk = true ↔ WfMem s := by simp [State.memOk]

/-! ### What holds of every state that an answer carries -/

@[simp] def Res.All (p : State → Prop) : Res → Prop
  | .done s | .jump s _ | .park _ s | .wait _ s | .left s | .gone s => p s
  | .fault .. => True

@[simp] def Ready.All (p : State → Prop) : Ready → Prop
  | .yes s | .wait s | .fail s _ _ => p s

@[simp] def ReadNow.All (p : State → Prop) : ReadNow → Prop
  | .got _ _ s | .later s | .fail s _ _ => p s

@[simp] def Fetched.All (p : State → Prop) : Fetched → Prop
  | .word _ s | .wait s | .later s | .fault s _ _ _ => p s

@[simp] def UnitCheck.All (p : State → Prop) : UnitCheck → Prop
  | .ok _ s | .ill s => p s
  | .stop r => r.All p

@[simp] def Next.All (p : State → Prop) : Next → Prop
  | .exec _ s | .state s => p s

@[simp] def GoPlace.All (p : State → Prop) : GoPlace → Prop
  | .core _ => True
  | .wait s => p s

@[simp] def AluAct.All (p : State → Prop) : AluAct → Prop
  | .held | .poison _ => True
  | .ran s _ => p s

@[simp] def BankAct.All (p : State → Prop) : BankAct → Prop
  | .held | .forward _ _ => True
  | .done s _ | .started s => p s

@[simp] def WalkEnd.All (p : State → Prop) : WalkEnd → Prop
  | .later s | .leaf s _ | .fail s _ => p s

@[simp] def DirtyEnd.All (p : State → Prop) : DirtyEnd → Prop
  | .later s | .leaf s _ | .changed s => p s

@[simp] def EngAddr.All (p : State → Prop) : EngAddr → Prop
  | .ok s _ | .later s | .fail s _ => p s

@[simp] def LinesRead.All (p : State → Prop) : LinesRead → Prop
  | .got s _ _ | .wait s | .fail s _ => p s

@[simp] def Work.All (p : State → Prop) : Work → Prop
  | .done s _ | .wait s | .over_ s => p s

@[simp] def RowsAt.All (p : State → Prop) : RowsAt → Prop
  | .ok s _ | .later s | .outside s _ => p s

@[simp] def Load.All (p : State → Prop) : Load → Prop
  | .idle | .busy => True
  | .value _ _ s | .failed _ s => p s

@[simp] def CopyTurn.All (p : State → Prop) : CopyTurn → Prop
  | .on s _ | .ended s | .failed s _ => p s

/-! ### Folds -/

@[simp] theorem foldl_sameMem {α : Type} (l : List α) (f : State → α → State) (hf : ∀ s a, SameMem (f s a) s) (s : State) :
    SameMem (l.foldl f s) s := by
  induction l generalizing s with
  | nil => exact ⟨rfl, rfl⟩
  | cons a l ih => rw [List.foldl_cons]; exact ⟨(ih _).1.trans (hf s a).1, (ih _).2.trans (hf s a).2⟩

theorem foldl_wfMem {α : Type} (l : List α) (f : State → α → State) (hf : ∀ s a, WfMem s → WfMem (f s a)) {s : State}
    (h : WfMem s) : WfMem (l.foldl f s) :=
  List.foldlRecOn l f h fun s hs a _ => hf s a hs

theorem ite_wfMem {c : Prop} [Decidable c] {a b : State} (ha : WfMem a) (hb : WfMem b) : WfMem (if c then a else b) := by
  split
  · exact ha
  · exact hb

theorem Res.all_ite {p : State → Prop} {c : Prop} [Decidable c] {a b : Res} (ha : a.All p) (hb : b.All p) :
    (if c then a else b).All p := by
  split
  · exact ha
  · exact hb

/-! ### Ops -/

@[simp] theorem sameMem_writeG (s : State) (r : ℕ) (v : Word) : SameMem (writeG s r v) s := by
  unfold writeG; dsimp only; split <;> simp

@[simp] theorem sameMem_writeV (s : State) (r : ℕ) (v : Line) : SameMem (writeV s r v) s := ⟨rfl, rfl⟩

@[simp] theorem sameMem_fresh (s : State) : SameMem (fresh s).2 s := ⟨rfl, rfl⟩

@[simp] theorem sameMem_insertOut (s : State) (t : ThreadRef) (o : Out) : SameMem (insertOut s t o) s := ⟨rfl, rfl⟩

@[simp] theorem sameMem_acceptOut (s : State) (t : ThreadRef) (id : ℕ) (bst : Option (BitVec 3)) (fail : Option Fail) :
    SameMem (acceptOut s t id bst fail) s := ⟨rfl, rfl⟩

@[simp] theorem sameMem_landOut (s : State) (t : ThreadRef) (id : ℕ) (v : Line) (bst : Option (BitVec 3)) (fl : BitVec 5)
    (fail : Option Fail) : SameMem (landOut s t id v bst fl fail) s := ⟨rfl, rfl⟩

@[simp] theorem sameMem_takeEntries (s : State) (t : ThreadRef) (n : ℕ) : SameMem (takeEntries s t n) s := ⟨rfl, rfl⟩

@[simp] theorem sameMem_giveBack (s : State) (t : ThreadRef) : SameMem (giveBack s t) s := by
  unfold giveBack; dsimp only; split_ifs <;> simp

@[simp] theorem sameMem_addSack (s : State) (t : ThreadRef) : SameMem (addSack s t) s := ⟨rfl, rfl⟩

@[simp] theorem sameMem_subSack (s : State) (t : ThreadRef) : SameMem (subSack s t) s := ⟨rfl, rfl⟩

@[simp] theorem sameMem_deliver (s : State) (c : ℕ) (m : Msg) : SameMem (deliver s c m) s := ⟨rfl, rfl⟩

@[simp] theorem sameMem_toSupervisor (s : State) (die : ℕ) (ns : Bool) (w0 w1 : Word) :
    SameMem (toSupervisor s die ns w0 w1) s := by unfold toSupervisor; dsimp only; split_ifs <;> simp

@[simp] theorem sameMem_sendEvent (s : State) (c type slot : ℕ) (rid : BitVec 32) (detail : Word) :
    SameMem (sendEvent s c type slot rid detail) s := by unfold sendEvent; dsimp only; split <;> simp

@[simp] theorem sameMem_sendFault (s : State) (t : ThreadRef) (f : FaultInfo) : SameMem (sendFault s t f) s := by simp [sendFault]

@[simp] theorem sameMem_takeFault (s : State) (t : ThreadRef) (f : FaultInfo) : SameMem (takeFault s t f) s := by simp [takeFault]

@[simp] theorem sameMem_preciseFault (s : State) (cls : FaultClass) (cause detail : ℕ) (addr : Option ℕ) :
    SameMem (preciseFault s cls cause detail addr) s := by unfold preciseFault; dsimp only; split <;> simp

@[simp] theorem sameMem_takeTrap (s : State) (nextUnit code : ℕ) : SameMem (takeTrap s nextUnit code).1 s := by simp [takeTrap]

@[simp] theorem sameMem_leaveTrap (s : State) : SameMem (leaveTrap s).1 s := ⟨rfl, rfl⟩

@[simp] theorem sameMem_keepSuspended (s : State) (t : ThreadRef) : SameMem (keepSuspended s t) s := by
  unfold keepSuspended; split <;> simp

@[simp] theorem sameMem_setBarrier (s : State) (core level obj : ℕ) (b : Barrier) : SameMem (setBarrier s core level obj b) s := by
  unfold setBarrier; split <;> simp

@[simp] theorem sameMem_withdraw (s : State) (t : ThreadRef) : SameMem (withdraw s t) s := by simp [withdraw]

@[simp] theorem sameMem_freeSlot (s : State) (t : ThreadRef) : SameMem (freeSlot s t) s := by
  unfold freeSlot; dsimp only; split <;> simp

/-! ### Issue -/

@[simp] theorem sameMem_countIssue (s : State) (t : ThreadRef) : SameMem (countIssue s t) s := ⟨rfl, rfl⟩

@[simp] theorem sameMem_noteIssue (s : State) (t : ThreadRef) : SameMem (noteIssue s t) s := by unfold noteIssue; split <;> simp

@[simp] theorem sameMem_popChain (s : State) (n : ℕ) : SameMem (popChain s n) s := by unfold popChain; split_ifs <;> simp

@[simp] theorem sameMem_latchPops (s : State) (n : ℕ) : SameMem (latchPops s n) s := by unfold latchPops; split <;> simp

theorem sameMem_popOne {s s' : State} {v : Word} (h : popOne s = some (v, s')) : SameMem s' s := by
  unfold popOne at h
  dsimp only at h
  split at h
  · cases h; split <;> simp
  · cases h

@[simp] theorem sameMem_popLoads (s : State) (n : ℕ) : SameMem (popLoads s n) s := by unfold popLoads; split <;> simp

@[simp] theorem sameMem_holdStores (before s : State) (ids : List ℕ) : SameMem (holdStores before s ids) s := by
  unfold holdStores; split <;> simp

@[simp] theorem sameMem_complete (i : Instr) (before s : State) (next : Thread → Thread) :
    SameMem (complete i before s next) s := by unfold complete; dsimp only; split <;> simp

@[simp] theorem sameMem_park (s : State) (w : Park) : SameMem (park s w) s := ⟨rfl, rfl⟩

@[simp] theorem sameMem_countLeaving (before s : State) : SameMem (countLeaving before s) s := by
  unfold countLeaving; dsimp only; split_ifs <;> simp

theorem settle_wfMem {i : Instr} {s : State} (h : WfMem s) {r : Res} (hr : r.All WfMem) : WfMem (settle i s r) := by
  unfold settle
  split <;> simp_all

theorem unit_wfMem {i : Instr} {s : State} (h : WfMem s) {body : State → Res} (hb : (body s).All WfMem) :
    WfMem (unit i body s) := by
  unfold unit
  dsimp only
  split
  · exact h
  split
  · simpa using h
  split
  · simpa using h
  split
  · simpa using h
  split
  · simpa using h
  split
  · simpa using h
  split
  · split <;> simpa using h
  · exact settle_wfMem h hb

@[simp] theorem sameMem_putG (s : State) (d : Reg) (v : Word) : SameMem (putG s d v) s := by simp [putG]

@[simp] theorem sameMem_putQ (s : State) (p : ℕ) (b : Bool) : SameMem (putQ s p b) s := ⟨rfl, rfl⟩

/-! ### Translate -/

@[simp] theorem sameMem_installLeaf (s : State) (core : ℕ) (l : Leaf) : SameMem (installLeaf s core l) s := ⟨rfl, rfl⟩

@[simp] theorem sameMem_dropLeaves (s : State) (inCore inQuad : ℕ → Bool) (sel : Leaf → Bool) :
    SameMem (dropLeaves s inCore inQuad sel) s := ⟨rfl, rfl⟩

@[simp] theorem sameMem_tellFault (s : State) (die : ℕ) (e : Coal) : SameMem (tellFault s die e) s := by simp [tellFault]

@[simp] theorem sameMem_coalesceAt (s : State) (die : ℕ) (t : ThreadRef) (ctx : Word) (va cause kind : ℕ) (w : Waiter)
    (leaf : Option Leaf) : SameMem (coalesceAt s die t ctx va cause kind w leaf) s := by
  unfold coalesceAt; dsimp only; (repeat' split) <;> simp

@[simp] theorem sameMem_coalesce (s : State) (t : ThreadRef) (ctx : Word) (va cause kind : ℕ) (w : Waiter) (leaf : Option Leaf) :
    SameMem (coalesce s t ctx va cause kind w leaf) s := by simp [coalesce]

@[simp] theorem sameMem_coalRemove (s : State) (die index : ℕ) : SameMem (coalRemove s die index) s := by
  unfold coalRemove; dsimp only; (repeat' split) <;> simp

/-! ### Coherence -/

@[simp] theorem sameMem_setL2 (s : State) (die pa : ℕ) (l : L2Line) : SameMem (setL2 s die pa l) s := ⟨rfl, rfl⟩

@[simp] theorem sameMem_dropL1 (s : State) (core pa : ℕ) : SameMem (dropL1 s core pa) s := ⟨rfl, rfl⟩

@[simp] theorem sameMem_setL1 (s : State) (core pa : ℕ) (l : L1Line) : SameMem (setL1 s core pa l) s := ⟨rfl, rfl⟩

@[simp] theorem sameMem_backL1 (s : State) (core pa : ℕ) : SameMem (backL1 s core pa) s := by
  unfold backL1; (repeat' split) <;> simp

@[simp] theorem sameMem_evictL1 (s : State) (core pa : ℕ) : SameMem (evictL1 s core pa) s := by simp [evictL1]

@[simp] theorem sameMem_dropL1s (s : State) (die pa : ℕ) (sel : ℕ → L1Line → Bool) : SameMem (dropL1s s die pa sel) s := by
  simp [dropL1s]

@[simp] theorem sameMem_gatherL1 (s : State) (die pa : ℕ) : SameMem (gatherL1 s die pa) s := by simp [gatherL1]

@[simp] theorem sameMem_setLlc (s : State) (line : ℕ) (l : LlcLine) : SameMem (setLlc s line l) s := ⟨rfl, rfl⟩

@[simp] theorem sameMem_dropLlc (s : State) (line : ℕ) : SameMem (dropLlc s line) s := ⟨rfl, rfl⟩

theorem writeArray_wfMem {s : State} (h : WfMem s) (line : ℕ) (mask : BitVec 64) (d : Line) :
    WfMem (writeArray s line mask d) := ⟨wrMasked_wf _ _ _ _ h.1, h.2⟩

theorem writeHome_wfMem {s : State} (h : WfMem s) (line : ℕ) (mask : BitVec 64) (d : Line) :
    WfMem (writeHome s line mask d) := by
  unfold writeHome
  split
  · split <;> simpa using h
  · exact writeArray_wfMem h ..

@[simp] theorem sameMem_poisonHome (s : State) (line : ℕ) : SameMem (poisonHome s line) s := by unfold poisonHome; split <;> simp

theorem cleanLlc_wfMem {s : State} (h : WfMem s) (line : ℕ) : WfMem (cleanLlc s line) := by
  unfold cleanLlc
  split
  · next l _ =>
    have hw := writeArray_wfMem (s := setLlc s line { l with dirty := false }) (by simpa using h) line (BitVec.allOnes 64) l.data
    dsimp only
    exact ite_wfMem (ite_wfMem hw h) (ite_wfMem hw h)
  · exact h

@[simp] theorem sameMem_fetchLlc (s : State) (line : ℕ) : SameMem (fetchLlc s line) s := ⟨rfl, rfl⟩

@[simp] theorem sameMem_askEvict (s : State) (line : ℕ) : SameMem (askEvict s line) s := ⟨rfl, rfl⟩

@[simp] theorem sameMem_enterLlc (s : State) (line : ℕ) : SameMem (enterLlc s line).2 s := by
  unfold enterLlc; dsimp only; (repeat' split) <;> simp

@[simp] theorem sameMem_refreshReplies (s : State) (line : ℕ) (mask : BitVec 64) (d : Line) (bad : Bool) :
    SameMem (refreshReplies s line mask d bad) s := ⟨rfl, rfl⟩

@[simp] theorem sameMem_trimDeferred (s : State) (die pa : ℕ) (words : BitVec 16) :
    SameMem (trimDeferred s die pa words) s := ⟨rfl, rfl⟩

theorem releaseWords_wfMem {s : State} (h : WfMem s) (die pa : ℕ) (words : BitVec 16) (writeBack : Bool) :
    WfMem (releaseWords s die pa words writeBack) := by
  have hg : WfMem (gatherL1 s die pa) := by simpa using h
  unfold releaseWords
  dsimp only
  split
  · exact hg
  · have hw := writeHome_wfMem hg (homeLine pa) (maskOfWords ((l2At (gatherL1 s die pa) die pa).own &&& words))
      (l2At (gatherL1 s die pa) die pa).data
    simp only [WfMem, modHome_dram, modHome_sram, sameMem_dropL1s, sameMem_setL2]
    split
    · split <;> simpa using hw
    · exact hg

theorem recallNow_wfMem {s : State} (h : WfMem s) (line : ℕ) (words : BitVec 16) (writeBack : Bool) :
    WfMem (recallNow s line words writeBack) := by
  unfold recallNow
  dsimp only
  split
  · exact h
  · split
    · simpa using h
    · exact foldl_wfMem _ _ (fun s pa hs => releaseWords_wfMem hs ..) h

@[simp] theorem sameMem_dropBase (s : State) (die pa : ℕ) : SameMem (dropBase s die pa) s := by simp [dropBase]

@[simp] theorem sameMem_invalidateNow (s : State) (line : ℕ) : SameMem (invalidateNow s line) s := by
  simp [invalidateNow, apply_ite State.dram, apply_ite State.sram]

@[simp] theorem sameMem_sendDie (s : State) (die line : ℕ) (k : HomeMsgKind) (op : ℕ) :
    SameMem (sendDie s die line k op) s := ⟨rfl, rfl⟩

@[simp] theorem sameMem_clearShare (s : State) (die line : ℕ) : SameMem (clearShare s die line) s := by
  unfold clearShare; split <;> simp

theorem applyWrite_wfMem {s : State} (h : WfMem s) (die pa : ℕ) (mask : BitVec 64) (d : Line) (op : ℕ) :
    WfMem (applyWrite s die pa mask d op).2 := by
  have hw := writeHome_wfMem h (homeLine pa) mask d
  unfold applyWrite
  dsimp only
  split <;> simpa using hw

theorem surrender_wfMem {s : State} (h : WfMem s) (die pa : ℕ) : WfMem (surrender s die pa) := by
  unfold surrender
  split
  · exact h
  · exact applyWrite_wfMem (by simpa using releaseWords_wfMem h die pa (BitVec.allOnes 16) true) ..

@[simp] theorem sameMem_oweClearance (s : State) (id : ℕ) (t : ThreadRef) (acks die pa op : ℕ) (wi : Bool) :
    SameMem (oweClearance s id t acks die pa op wi) s := ⟨rfl, rfl⟩

@[simp] theorem sameMem_sendPacket (s : State) (p : Packet) : SameMem (sendPacket s p) s := ⟨rfl, rfl⟩

@[simp] theorem sameMem_respond (s : State) (p : Packet) (opc : BitVec 8) (stat : ℕ) (v : Word) (flits : List Line) :
    SameMem (respond s p opc stat v flits) s := ⟨rfl, rfl⟩

@[simp] theorem sameMem_respondErr (s : State) (p : Packet) (stat : ℕ) : SameMem (respondErr s p stat) s := ⟨rfl, rfl⟩

@[simp] theorem sameMem_sendWrd (s : State) (pa id : ℕ) (ns : Bool) (mask : BitVec 64) (d : Line) :
    SameMem (sendWrd s pa id ns mask d) s := ⟨rfl, rfl⟩

@[simp] theorem sameMem_mergeL1s (s : State) (die pa : ℕ) (m : BitVec 64) (d : Line) (bad : Bool) :
    SameMem (mergeL1s s die pa m d bad) s := by unfold mergeL1s; exact foldl_sameMem _ _ (fun s a => by split <;> simp) _

@[simp] theorem sameMem_sendBytes (s : State) (die core pa : ℕ) (t : ThreadRef) (ns : Bool) (m : BitVec 64) (d : Line) (bad : Bool) :
    SameMem (sendBytes s die core pa t ns m d bad) s := by unfold sendBytes; split_ifs <;> simp

@[simp] theorem sameMem_flushDeferred (s : State) (die core pa : ℕ) (t : ThreadRef) :
    SameMem (flushDeferred s die core pa t) s := by unfold flushDeferred; dsimp only; split <;> simp

@[simp] theorem sameMem_flushLines (s : State) (core : ℕ) (lines : List ℕ) (t : ThreadRef) :
    SameMem (flushLines s core lines t) s := by simp [flushLines]

theorem evictL2_wfMem {s : State} (h : WfMem s) (die pa : ℕ) : WfMem (evictL2 s die pa) := by
  have hs := surrender_wfMem (s := flushDeferred s die (256 * die) pa (nobody die)) (by simpa using h) die pa
  unfold evictL2
  dsimp only
  split <;> simpa using hs

theorem makeRoomL2_wfMem {s : State} (h : WfMem s) (die pa : ℕ) : WfMem (makeRoomL2 s die pa) := by
  unfold makeRoomL2
  dsimp only
  split
  · exact h
  · split
    · exact evictL2_wfMem h ..
    · exact h

@[simp] theorem sameMem_poolVictim (s : State) (core : ℕ) (e : ℕ × L1Line) : SameMem (poolVictim s core e) s := by
  unfold poolVictim; dsimp only; (repeat' split) <;> simp

@[simp] theorem sameMem_installL1 (s : State) (core pa : ℕ) (l : L1Line) : SameMem (installL1 s core pa l) s := by
  unfold installL1; (repeat' split) <;> simp

@[simp] theorem sameMem_holdOwned (s : State) (core pa : ℕ) : SameMem (holdOwned s core pa) s := by
  unfold holdOwned; dsimp only; split <;> simp

theorem takeMsg_wfMem {s : State} (h : WfMem s) (die : ℕ) (m : HomeMsg) : WfMem (takeMsg s die m) := by
  unfold takeMsg
  split
  · simp only [WfMem, sameMem_clearShare]
    refine foldl_wfMem _ _ (fun s pa hs => ?_) h
    split <;> simpa using hs
  · dsimp only
    split <;> split <;> simpa using h
  · exact foldl_wfMem _ _ (fun s pa hs => releaseWords_wfMem hs ..) h
  · simp only [WfMem, sameMem_clearShare]
    refine foldl_wfMem _ _ (fun s pa hs => ?_) h
    have hr := releaseWords_wfMem hs die pa ‹_› false
    split <;> simpa using hr

@[simp] theorem sameMem_acknowledge (s : State) (m : HomeMsg) : SameMem (acknowledge s m) s := by
  unfold acknowledge; split <;> simp

/-! ### Homes -/

@[simp] theorem sameMem_sendSnoop (s : State) (line : ℕ) (who : Asker) (excl ns : Bool) :
    SameMem (sendSnoop s line who excl ns) s := ⟨rfl, rfl⟩

@[simp] theorem sameMem_answerUsed (s : State) (line : ℕ) (who : Asker) : SameMem (answerUsed s line who) s := by
  unfold answerUsed; split <;> simp

@[simp] theorem sameMem_answersUsed (s : State) (lines : List ℕ) (who : Asker) : SameMem (answersUsed s lines who) s := by
  simp [answersUsed]

@[simp] theorem sameMem_waitAsking (s : State) (line : ℕ) (who : Asker) : SameMem (waitAsking s line who) s := by
  unfold waitAsking; (repeat' split) <;> simp

theorem sameMem_biasReady (s : State) (line : ℕ) (who : Asker) (excl ns bias : Bool) :
    (biasReady s line who excl ns bias).All (SameMem · s) := by
  unfold biasReady; dsimp only; (repeat' split) <;> simp

@[simp] theorem sameMem_wakeStack (s : State) (line : ℕ) : SameMem (wakeStack s line) s := by unfold wakeStack; split <;> simp

theorem sameMem_homeTurn (s : State) (line : ℕ) (who : Asker) (excl ns : Bool) :
    (homeTurn s line who excl ns).All (SameMem · s) := by
  have h := sameMem_biasReady (wakeStack s line) line who excl ns (hostBias (wakeStack s line) line)
  unfold homeTurn; dsimp only; split_ifs <;> simp_all

theorem sameMem_homeReady (s : State) (line : ℕ) (who : Asker) (excl ns : Bool) :
    (homeReady s line who excl ns).All (SameMem · s) := by
  have he := sameMem_enterLlc (wakeStack s line) line
  unfold homeReady
  dsimp only
  split
  · simp
  · split
    · simp
    · split
      · simp_all
      · next s' _ =>
        have h := sameMem_biasReady s' line who excl ns (hostBias s' line)
        simp_all

@[simp] theorem sameMem_storeIntoCopies (s : State) (die core pa : ℕ) (mask : BitVec 64) (d : Line) :
    SameMem (storeIntoCopies s die core pa mask d) s := by
  simp only [storeIntoCopies, SameMem, sameMem_dropL1s]; (repeat' split) <;> simp

theorem engineWrite_wfMem {s : State} (h : WfMem s) (line : ℕ) (mask : BitVec 64) (d : Line) :
    WfMem (engineWrite s line mask d) :=
  writeHome_wfMem (by simpa using recallNow_wfMem h line (wordsOfMask mask) true) ..

theorem engineRead_wfMem {s : State} (h : WfMem s) (line : ℕ) (words : BitVec 16) : WfMem (engineRead s line words).2 :=
  recallNow_wfMem h ..

/-! ### Copies -/

@[simp] theorem sameMem_moveWords (s : State) (die core pa : ℕ) (words : BitVec 16) :
    SameMem (moveWords s die core pa words) s := by simp [moveWords]

@[simp] theorem sameMem_dropDead (s : State) (core arrival pa : ℕ) : SameMem (dropDead s core arrival pa) s := by
  unfold dropDead; dsimp only; split <;> simp

@[simp] theorem sameMem_refreshCopies (s : State) (die core pa : ℕ) (r : Reply) : SameMem (refreshCopies s die core pa r) s := by
  unfold refreshCopies; dsimp only; (repeat' split) <;> simp

theorem fillCopy_wfMem {s : State} (h : WfMem s) (die core pa : ℕ) (st : LineState) (r : Reply) (l1 : Bool) :
    WfMem (fillCopy s die core pa st r l1) := by
  have hm := makeRoomL2_wfMem h die pa
  unfold fillCopy
  split
  · exact h
  · split <;> simpa using hm

theorem fillLeased_wfMem {s : State} (h : WfMem s) (die core pa : ℕ) (r : Reply) (l1 : Bool) :
    WfMem (fillLeased s die core pa r l1) := fillCopy_wfMem h ..

theorem fillShared_wfMem {s : State} (h : WfMem s) (die core pa : ℕ) (r : Reply) (l1 : Bool) :
    WfMem (fillShared s die core pa r l1) := by
  unfold fillShared
  split
  · exact fillCopy_wfMem h ..
  · simpa using h

@[simp] theorem sameMem_fillL1 (s : State) (core pa : ℕ) : SameMem (fillL1 s core pa) s := by
  unfold fillL1; dsimp only; split_ifs <;> simp

/-- A hit in the copies of a core leaves the state, or fills the L1 from the L2. -/
theorem hitCopy_state {s s' : State} {t : ThreadRef} {pa : ℕ} {words : BitVec 16} {tracked : Bool} {d : Line} {b : Bool}
    (h : hitCopy s t pa words tracked = some (d, b, s')) : s' = s ∨ s' = fillL1 s t.core pa := by
  unfold hitCopy at h
  dsimp only at h
  (repeat' split at h) <;> simp_all

theorem sameMem_hitCopy {s s' : State} {t : ThreadRef} {pa : ℕ} {words : BitVec 16} {tracked : Bool} {d : Line} {b : Bool}
    (h : hitCopy s t pa words tracked = some (d, b, s')) : SameMem s' s := by
  rcases hitCopy_state h with rfl | rfl <;> simp

@[simp] theorem sameMem_hitOwned (s : State) (core pa : ℕ) (keep : Bool) : SameMem (hitOwned s core pa keep).2.2 s := by
  unfold hitOwned; dsimp only; split <;> simp

/-! ### Fetch -/

theorem readAsSi_wfMem {s : State} (h : WfMem s) (t : ThreadRef) (pa : ℕ) : (readAsSi s t pa).All WfMem := by
  unfold readAsSi
  extract_lets core die p line arr words leases found
  have hfound : ∀ x, found = some x → SameMem x.2.2 s := by
    intro x hx
    simp only [found] at hx
    split at hx
    · cases hx; exact sameMem_hitOwned ..
    · split at hx
      · exact sameMem_hitCopy hx
      · cases hx
  clear_value found
  rcases found with _ | x
  · have hr := sameMem_homeReady (dropDead s core arr p) line (.fetch t (threadAt s t).rid) false (ctxNs (coreAt s core).ctxid)
    dsimp only
    split
    · simp_all
    · simp_all
    · next s' heq =>
      rw [heq] at hr
      have ha : WfMem (answerUsed s' line (.fetch t (threadAt s' t).rid)) := by simp_all
      show WfMem (if leases then _ else _)
      split
      · exact fillLeased_wfMem (recallNow_wfMem ha ..) ..
      · simpa using recallNow_wfMem ha ..
  · simp_all [hfound x rfl]

theorem fetchWord_wfMem {s : State} (h : WfMem s) (va : ℕ) : (fetchWord s va).All WfMem := by
  unfold fetchWord
  dsimp only
  split
  · exact h
  · split
    · simpa using h
    · simpa using h
    all_goals
      next pa _ _ =>
      have hr := readAsSi_wfMem h s.cur pa
      split
      · simp_all
      · simp_all
      · split <;> simp_all

theorem unitEnd_wfMem {s : State} (h : WfMem s) (fuel stage va : ℕ) : (unitEnd s fuel stage va).1.All WfMem := by
  induction fuel generalizing s stage va with
  | zero => exact h
  | succ n ih =>
    have hf := fetchWord_wfMem h va
    unfold unitEnd
    split
    · next heq =>
      rw [heq] at hf
      dsimp only
      split_ifs
      · exact ih hf ..
      · exact ih hf ..
      · exact hf
    · exact hf

theorem annul_wfMem {s : State} (h : WfMem s) (k pc : ℕ) : WfMem (annul s k pc) := by
  induction k generalizing s pc with
  | zero => simpa [annul] using h
  | succ n ih =>
    have hf := unitEnd_wfMem h 3 0 pc
    unfold annul
    dsimp only
    split
    · next heq => rw [heq] at hf; exact ih hf _
    · next heq => rw [heq] at hf; simpa using hf
    · next heq => rw [heq] at hf; simpa using hf
    · next heq => rw [heq] at hf; simpa using hf

theorem nextAct_wfMem {s : State} (h : WfMem s) : (nextAct s).All WfMem := by
  unfold nextAct
  split
  · exact h
  · extract_lets s1 th skip
    have h1 : WfMem s1 := by simp only [s1]; split <;> simpa using h
    split
    · simpa using h1
    split
    · exact annul_wfMem h1 ..
    split
    · exact h1
    split
    · simpa using h1
    split
    · simpa using h1
    · have hf := fetchWord_wfMem h1 ((th.pc.toNat + 4 * skip) % 2 ^ 64)
      split
      · next heq => rw [heq] at hf; exact hf
      · next heq => rw [heq] at hf; exact hf
      · next heq => rw [heq] at hf; simpa using hf
      · next heq =>
        rw [heq] at hf
        split
        · exact hf
        · simpa using hf

theorem checkUnit_wfMem {s : State} (h : WfMem s) (fuel : ℕ) (d : Descriptor) (va : ℕ) : (checkUnit s fuel d va).All WfMem := by
  induction fuel generalizing s d va with
  | zero => exact h
  | succ n ih =>
    have hf := fetchWord_wfMem h va
    unfold checkUnit
    split
    · next heq =>
      rw [heq] at hf
      split
      · split
        · exact ih hf _ _
        · exact hf
      · exact hf
      · split <;> exact hf
      · exact hf
    · exact hf

theorem issuePrefix_wfMem {s : State} (h : WfMem s) (isRep : Bool) (w : IWord) : WfMem (issuePrefix isRep w s) := by
  unfold issuePrefix
  extract_lets th src d good skip
  split
  · exact h
  split
  · simpa using h
  · have hc := checkUnit_wfMem h 2 d ((th.pc.toNat + 4 * skip) % 2 ^ 64)
    split
    · simp_all
    · simp_all
    · simp_all
    · simp_all
    · simp_all
    · next heq =>
      rw [heq] at hc
      split
      · simpa using hc
      · split <;> simpa using hc

/-! ### Registers -/

@[simp] theorem sameMem_finishWrite (s : State) (w : BankSrc) : SameMem (finishWrite s w) s := by
  unfold finishWrite; split <;> simp

@[simp] theorem sameMem_enqueueBank (s : State) (core bank : ℕ) (r : BankReq) :
    SameMem (enqueueBank s core bank r) s := ⟨rfl, rfl⟩

@[simp] theorem sameMem_holdArrival (s : State) (core bank : ℕ) (r : BankReq) :
    SameMem (holdArrival s core bank r) s := ⟨rfl, rfl⟩

@[simp] theorem sameMem_trimL1 (s : State) (core k : ℕ) : SameMem (trimL1 s core k) s := by simp [trimL1]

theorem clearBankBytes_wfMem {s : State} (h : WfMem s) (core bank : ℕ) : WfMem (clearBankBytes s core bank) :=
  ⟨h.1, zeroRange_wf _ _ h.2⟩

theorem freshBank_wfMem {s : State} (h : WfMem s) (core bank : ℕ) : WfMem (freshBank s core bank) :=
  clearBankBytes_wfMem (by simpa using h) ..

theorem endCarve_wfMem {s : State} (h : WfMem s) (core newK : ℕ) (w : BankSrc) : WfMem (endCarve s core newK w) := by
  unfold endCarve
  simp only [WfMem, sameMem_finishWrite, modCore_dram, modCore_sram]
  refine foldl_wfMem _ _ (fun s b hs => ?_) ?_
  · split
    · exact freshBank_wfMem hs ..
    · exact hs
  · split <;> simpa using h

theorem carveApply_wfMem {s : State} (h : WfMem s) (core v : ℕ) (w : BankSrc) : WfMem (carveApply s core v w) := by
  unfold carveApply
  dsimp only
  split
  · simpa using h
  split
  · simpa using h
  split
  · exact endCarve_wfMem h ..
  · refine foldl_wfMem _ _ (fun s b hs => ?_) (by simpa using h)
    split <;> simpa using hs

theorem carveWrite_wfMem {s : State} (h : WfMem s) (core v : ℕ) (w : BankSrc) : WfMem (carveWrite s core v w) := by
  unfold carveWrite
  split
  · simpa using h
  · exact carveApply_wfMem h ..

theorem carveNext_wfMem {s : State} (h : WfMem s) (core fuel : ℕ) : WfMem (carveNext s core fuel) := by
  induction fuel generalizing s with
  | zero => exact h
  | succ n ih =>
    unfold carveNext
    dsimp only
    split
    · exact ih (carveApply_wfMem (by simpa using h) ..)
    · exact h

theorem carveDone_wfMem {s : State} (h : WfMem s) (core : ℕ) : WfMem (carveDone s core) := by
  unfold carveDone
  dsimp only
  split
  · exact h
  · split
    · exact carveNext_wfMem (endCarve_wfMem h ..) ..
    · exact h

@[simp] theorem sameMem_ctxidSet (s : State) (core : ℕ) (v : Word) : SameMem (ctxidSet s core v) s := ⟨rfl, rfl⟩

@[simp] theorem sameMem_bpcfgWrite (s : State) (core bank : ℕ) (v : Word) (ns : Bool) (w : BankSrc) :
    SameMem (bpcfgWrite s core bank v ns w) s := by unfold bpcfgWrite; split_ifs <;> simp

@[simp] theorem sameMem_vpoolSet (s : State) (quad v : ℕ) : SameMem (vpoolSet s quad v) s := by
  simp [vpoolSet]

@[simp] theorem sameMem_srtSet (s : State) (core n : ℕ) (v : Word) : SameMem (srtSet s core n v) s := by
  unfold srtSet; dsimp only; split <;> simp

@[simp] theorem sameMem_coreRegSet (s : State) (core off : ℕ) (v : Word) : SameMem (coreRegSet s core off v) s := ⟨rfl, rfl⟩

/-! ### Access -/

@[simp] theorem sameMem_ackStore (s : State) (a : Access) : SameMem (ackStore s a) s := by unfold ackStore; split <;> simp

@[simp] theorem sameMem_portEnds (s : State) (t : ThreadRef) (cls cause : ℕ) : SameMem (portEnds s t cls cause) s := ⟨rfl, rfl⟩

@[simp] theorem sameMem_skipPrefetch (s : State) (a : Access) : SameMem (skipPrefetch s a) s := by
  unfold skipPrefetch; (repeat' split) <;> simp

@[simp] theorem sameMem_forsake (s : State) (a : Access) : SameMem (forsake s a) s := ⟨rfl, rfl⟩

@[simp] theorem sameMem_failAccess (s : State) (id : ℕ) (f : Fail) : SameMem (failAccess s id f) s := by
  unfold failAccess; dsimp only; (repeat' split) <;> simp

@[simp] theorem sameMem_checkedAt (s : State) (id pa page : ℕ) : SameMem (checkedAt s id pa page) s := ⟨rfl, rfl⟩

@[simp] theorem sameMem_translateAccess (s : State) (id : ℕ) : SameMem (translateAccess s id) s := by
  unfold translateAccess; dsimp only; (repeat' split) <;> simp

@[simp] theorem sameMem_launchAccess (s : State) (a : Access) (o : Out) : SameMem (launchAccess s a o) s := by
  unfold launchAccess; split <;> simp

theorem sameMem_goPlace (s : State) (va : ℕ) (need : Need) (kind : ℕ) : (goPlace s va need kind).All (SameMem · s) := by
  unfold goPlace; dsimp only; (repeat' split) <;> simp

@[simp] theorem sameMem_setStay (s : State) (b : Bool) : SameMem (setStay s b) s := ⟨rfl, rfl⟩

theorem beginAccess_wfMem {s : State} (h : WfMem s) (a : Access) (o : Out) (vector : Bool) :
    (beginAccess s a o vector).All WfMem := by
  have hg := sameMem_goPlace s a.va (needOf a) (kindOf a)
  unfold beginAccess policyFault
  dsimp only
  (repeat' split) <;> simp_all

@[simp] theorem sameMem_recordDeferred (s : State) (a : Access) (pa : ℕ) : SameMem (recordDeferred s a pa) s := by
  unfold recordDeferred; dsimp only; (repeat' split) <;> simp

@[simp] theorem sameMem_beginRelease (s : State) (t : ThreadRef) (scope : ℕ) : SameMem (beginRelease s t scope) s := by
  unfold beginRelease; split <;> simp

theorem withRelease_wfMem {s : State} (h : WfMem s) (scope : ℕ) {k : State → Res} (hk : ∀ s, WfMem s → (k s).All WfMem) :
    (withRelease s scope k).All WfMem := by
  unfold withRelease
  dsimp only
  split
  · exact hk _ (by simpa using h)
  · simpa using h

@[simp] theorem sameMem_openFence (s : State) (scope : ℕ) : SameMem (openFence s scope) s := by
  unfold openFence; dsimp only; split <;> simp

@[simp] theorem sameMem_acquireDrops (s : State) (t : ThreadRef) (scope : ℕ) : SameMem (acquireDrops s t scope) s := by
  unfold acquireDrops; split_ifs <;> simp

/-! ### Slots -/

@[simp] theorem sameMem_suspendSlot (s : State) (t : ThreadRef) : SameMem (suspendSlot s t) s := by simp [suspendSlot]

@[simp] theorem sameMem_stopSlot (s : State) (t : ThreadRef) : SameMem (stopSlot s t) s := by
  simp [stopSlot, apply_ite State.dram, apply_ite State.sram]

@[simp] theorem sameMem_resumeSlot (s : State) (t : ThreadRef) : SameMem (resumeSlot s t) s := by simp [resumeSlot]

@[simp] theorem sameMem_writeRecordWord (s : State) (t : ThreadRef) (k : ℕ) (v : Word) (priv : BitVec 2) :
    SameMem (writeRecordWord s t k v priv) s := by unfold writeRecordWord; split <;> simp

@[simp] theorem sameMem_writeBackLines (s : State) (t : ThreadRef) : SameMem (writeBackLines s t) s := by simp [writeBackLines]

@[simp] theorem sameMem_memberEnds (s : State) (grid index : ℕ) (trig : Bool) : SameMem (memberEnds s grid index trig) s := by
  unfold memberEnds; split <;> simp

@[simp] theorem sameMem_memberTriggers (s : State) (grid index : ℕ) : SameMem (memberTriggers s grid index) s := by
  unfold memberTriggers; split <;> simp

@[simp] theorem sameMem_dropMessages (s : State) (rid : BitVec 32) : SameMem (dropMessages s rid) s := ⟨rfl, rfl⟩

@[simp] theorem sameMem_copyEnds (s : State) (th : Thread) : SameMem (copyEnds s th) s := by unfold copyEnds; split <;> simp

@[simp] theorem sameMem_accountEnd (s : State) (core : ℕ) (th : Thread) : SameMem (accountEnd s core th) s := by
  unfold accountEnd; split <;> simp

@[simp] theorem sameMem_endRider (s : State) (t : ThreadRef) : SameMem (endRider s t) s := by
  unfold endRider; dsimp only; split_ifs <;> simp

@[simp] theorem sameMem_closeFences (s : State) (t : ThreadRef) : SameMem (closeFences s t) s := by
  unfold closeFences; split <;> simp

@[simp] theorem sameMem_storeVectors (s : State) (th : Thread) (n : ℕ) : SameMem (storeVectors s th n) s := by
  unfold storeVectors; split <;> simp

@[simp] theorem sameMem_saveRider (s : State) (core : ℕ) (th : Thread) : SameMem (saveRider s core th) s := ⟨rfl, rfl⟩

@[simp] theorem sameMem_evictSlot (s : State) (t : ThreadRef) : SameMem (evictSlot s t) s := by
  unfold evictSlot; dsimp only; split_ifs <;> simp

/-! ### MatrixQueue -/

@[simp] theorem sameMem_modStep (s : State) (core id : ℕ) (f : MStep → MStep) : SameMem (modStep s core id f) s := ⟨rfl, rfl⟩

@[simp] theorem sameMem_addPin (s : State) (core bank line : ℕ) : SameMem (addPin s core bank line) s := ⟨rfl, rfl⟩

@[simp] theorem sameMem_subPin (s : State) (core : ℕ) (bl : ℕ × ℕ) : SameMem (subPin s core bl) s := ⟨rfl, rfl⟩

@[simp] theorem sameMem_dropPins (s : State) (core : ℕ) (m : MStep) : SameMem (dropPins s core m) s := by simp [dropPins]

@[simp] theorem sameMem_batchStepEnds (s : State) (core : ℕ) (m : MStep) (fl : BitVec 5) :
    SameMem (batchStepEnds s core m fl) s := by unfold batchStepEnds; split <;> simp

@[simp] theorem sameMem_removeStep (s : State) (core : ℕ) (m : MStep) (fl : BitVec 5) (fail : Option Fail) :
    SameMem (removeStep s core m fl fail) s := by
  simp only [removeStep, SameMem, sameMem_batchStepEnds, sameMem_acceptOut]; simp

@[simp] theorem sameMem_failStep (s : State) (core : ℕ) (m : MStep) (stat : ℕ) : SameMem (failStep s core m stat) s := by
  unfold failStep; dsimp only; split <;> simp

/-! ### Banks -/

@[simp] theorem sameMem_markWritten (s : State) (l : ℕ) (m : BitVec 64) : SameMem (markWritten s l m) s := by
  unfold markWritten; split <;> simp

@[simp] theorem Plan.mem_start (s : State) (core bank : ℕ) : (Plan.start s core bank).mem = s.sram := rfl

@[simp] theorem Plan.mem_read (w : Plan) (a n : ℕ) : (w.read a n).2.mem = w.mem := rfl

@[simp] theorem Plan.mem_ends (w : Plan) (st v : ℕ) : (w.ends st v).mem = w.mem := rfl

@[simp] theorem Plan.mem_refuse (w : Plan) (st : ℕ) : (w.refuse st).mem = w.mem := rfl

@[simp] theorem heapGet_mem (base i : ℕ) (w : Plan) : (heapGet base i w).2.mem = w.mem := rfl

theorem Plan.write_wf {w : Plan} (h : w.mem.wf = true) (a n mask v : ℕ) : (w.write a n mask v).mem.wf = true :=
  wrMasked_wf _ _ _ _ h

theorem Plan.put_wf {w : Plan} (h : w.mem.wf = true) (a n v : ℕ) : (w.put a n v).mem.wf = true := Plan.write_wf h ..

theorem Plan.foldl_wf {α : Type} (l : List α) (f : Plan → α → Plan) (hf : ∀ w a, w.mem.wf = true → (f w a).mem.wf = true)
    {w : Plan} (h : w.mem.wf = true) : (l.foldl f w).mem.wf = true :=
  List.foldlRecOn l f (motive := fun w => w.mem.wf = true) h fun w hw a _ => hf w a hw

theorem pushPlan_wf {w : Plan} (h : w.mem.wf = true) (ps : List (ℕ × ℕ × ℕ)) (size : ℕ) (es : List Line) :
    (pushPlan ps size es w).mem.wf = true := by
  unfold pushPlan
  dsimp only
  split
  · exact h
  split
  · exact h
  · exact Plan.foldl_wf _ _ (fun w e hw => Plan.put_wf hw ..) h

@[simp] theorem popPlan_mem (ps : List (ℕ × ℕ × ℕ)) (size : ℕ) (keep : Bool) (w : Plan) :
    (popPlan ps size keep w).mem = w.mem := by
  unfold popPlan; dsimp only; split <;> rfl

@[simp] theorem mapProbe_mem (base sl key fuel i : ℕ) (w : Plan) : (mapProbe base sl key fuel i w).2.mem = w.mem := by
  induction fuel generalizing i w with
  | zero => rfl
  | succ n ih => unfold mapProbe; dsimp only; split_ifs <;> simp [ih]

theorem mapShift_wf {w : Plan} (h : w.mem.wf = true) (base l fuel i j : ℕ) : (mapShift base l fuel i j w).mem.wf = true := by
  induction fuel generalizing i j w with
  | zero => exact h
  | succ n ih =>
    unfold mapShift
    dsimp only
    split
    · exact h
    split
    · exact ih (by exact h) ..
    · exact ih (by exact Plan.put_wf (Plan.put_wf h ..) ..) ..

theorem mapPutPlan_wf {w : Plan} (h : w.mem.wf = true) (base k v : ℕ) : (mapPutPlan base k v w).mem.wf = true := by
  have hp := mapProbe_mem base (2 ^ w.bk.p.log.toNat) k (2 ^ w.bk.p.log.toNat) (mapHome w.bk.p.log.toNat k) w
  unfold mapPutPlan
  dsimp only
  split
  · exact Plan.put_wf (hp ▸ h) ..
  split
  · exact Plan.put_wf (Plan.put_wf (hp ▸ h) ..) ..
  · exact hp ▸ h

@[simp] theorem mapGetPlan_mem (base k : ℕ) (w : Plan) : (mapGetPlan base k w).mem = w.mem := by
  unfold mapGetPlan; dsimp only; split <;> simp

theorem mapDelPlan_wf {w : Plan} (h : w.mem.wf = true) (base k : ℕ) : (mapDelPlan base k w).mem.wf = true := by
  unfold mapDelPlan
  dsimp only
  split
  · exact mapShift_wf (by simpa using h) ..
  · simpa using h

theorem heapSwap_wf {w : Plan} (h : w.mem.wf = true) (base i j : ℕ) : (heapSwap base i j w).mem.wf = true :=
  Plan.put_wf (Plan.put_wf h ..) ..

theorem siftUp_wf {w : Plan} (h : w.mem.wf = true) (base fuel i : ℕ) : (siftUp base fuel i w).mem.wf = true := by
  induction fuel generalizing i w with
  | zero => exact h
  | succ n ih =>
    unfold siftUp
    dsimp only
    split
    · exact h
    split
    · exact ih (by exact heapSwap_wf h ..) _
    · exact h

theorem siftDown_wf {w : Plan} (h : w.mem.wf = true) (base count fuel i : ℕ) :
    (siftDown base count fuel i w).mem.wf = true := by
  induction fuel generalizing i w with
  | zero => exact h
  | succ n ih =>
    unfold siftDown
    dsimp only
    split
    · exact h
    · (repeat' split) <;> first | exact ih (by exact heapSwap_wf h ..) _ | exact h

theorem heapPutPlan_wf {w : Plan} (h : w.mem.wf = true) (base e : ℕ) : (heapPutPlan base e w).mem.wf = true := by
  unfold heapPutPlan
  dsimp only
  split
  · exact h
  · exact siftUp_wf (Plan.put_wf h ..) ..

theorem heapPopPlan_wf {w : Plan} (h : w.mem.wf = true) (base : ℕ) : (heapPopPlan base w).mem.wf = true := by
  unfold heapPopPlan
  dsimp only
  split
  · exact h
  split
  · exact h
  · exact siftDown_wf (by exact Plan.put_wf h ..) ..

@[simp] theorem heapTopPlan_mem (base : ℕ) (w : Plan) : (heapTopPlan base w).mem = w.mem := by
  unfold heapTopPlan; split <;> rfl

theorem histAddPlan_wf {w : Plan} (h : w.mem.wf = true) (base n v c : ℕ) : (histAddPlan base n v c w).mem.wf = true := by
  unfold histAddPlan
  dsimp only
  split <;> exact Plan.put_wf h ..

@[simp] theorem histReadPlan_mem (base n i : ℕ) (w : Plan) : (histReadPlan base n i w).mem = w.mem := by
  unfold histReadPlan; split <;> rfl

theorem histClearPlan_wf {w : Plan} (h : w.mem.wf = true) (base n i : ℕ) : (histClearPlan base n i w).mem.wf = true := by
  unfold histClearPlan
  split
  · exact h
  · exact Plan.put_wf h ..

theorem histClearAllPlan_wf {w : Plan} (h : w.mem.wf = true) (s : State) (core bank : ℕ) :
    (histClearAllPlan s core bank w).mem.wf = true :=
  Plan.foldl_wf _ _ (fun _ _ hw => Plan.foldl_wf _ _ (fun _ _ hw => Plan.put_wf hw ..) hw) h

/-- An operation that its bank may refuse. -/
theorem Plan.orRefuse_wf {w w' : Plan} (h : w.mem.wf = true) {c : Prop} [Decidable c] (st : ℕ) (h' : w'.mem.wf = true) :
    (if c then w' else w.refuse st).mem.wf = true := by
  split
  · exact h'
  · exact h

theorem plainPlan_wf {w : Plan} (h : w.mem.wf = true) (s : State) (core bank : ℕ) (cmd : BankCmd) :
    (plainPlan s core bank cmd w).mem.wf = true := by
  have pop (keep : Bool) (size : ℕ) : (popPlan (placesOf s core bank) size keep w).mem.wf = true := by simpa using h
  unfold plainPlan
  dsimp only
  split
  · exact h
  · exact Plan.write_wf h ..
  · exact Plan.orRefuse_wf h _ (pop ..)
  · exact Plan.orRefuse_wf h _ (pop ..)
  · exact Plan.orRefuse_wf h _ (pushPlan_wf h ..)
  · exact Plan.orRefuse_wf h _ (pushPlan_wf h ..)
  · exact Plan.orRefuse_wf h _ (by simpa using h)
  · exact Plan.orRefuse_wf h _ (mapPutPlan_wf h ..)
  · exact Plan.orRefuse_wf h _ (heapPopPlan_wf h ..)
  · exact Plan.orRefuse_wf h _ (heapPutPlan_wf h ..)
  · exact Plan.orRefuse_wf h _ (by simpa using h)
  · exact Plan.orRefuse_wf h _ (histAddPlan_wf h ..)
  · exact h

theorem atomicPlan_wf {w : Plan} (h : w.mem.wf = true) (base off n op : ℕ) (x y : Word) (rnd : BitVec 2) :
    (atomicPlan base off n op x y rnd w).mem.wf = true := by
  unfold atomicPlan
  dsimp only
  split
  · exact h
  · simp only [Plan.mem_ends]
    split
    · exact Plan.put_wf h ..
    · exact h

theorem planOf_wf {s : State} (h : s.sram.wf = true) (core bank : ℕ) (cmd : BankCmd) : (planOf s core bank cmd).mem.wf = true := by
  have hs : (Plan.start s core bank).mem.wf = true := h
  have pop (keep : Bool) (size : ℕ) : (popPlan (placesOf s core bank) size keep (Plan.start s core bank)).mem.wf = true := by
    simpa using h
  cases cmd with
  | read off n => exact plainPlan_wf hs ..
  | write off n mask d => exact plainPlan_wf hs ..
  | vread off n => exact Plan.orRefuse_wf hs _ (plainPlan_wf hs ..)
  | vwrite off n mask d => exact Plan.orRefuse_wf hs _ (plainPlan_wf hs ..)
  | atomic off n op x y rnd => exact atomicPlan_wf hs ..
  | push vec sz es => exact Plan.orRefuse_wf hs _ (pushPlan_wf hs ..)
  | pop vec sz => exact Plan.orRefuse_wf hs _ (pop ..)
  | peek vec sz => exact Plan.orRefuse_wf hs _ (pop ..)
  | mapPut k v => exact Plan.orRefuse_wf hs _ (mapPutPlan_wf hs ..)
  | mapGet k => exact Plan.orRefuse_wf hs _ (by simpa using h)
  | mapDel k => exact Plan.orRefuse_wf hs _ (mapDelPlan_wf hs ..)
  | heapPut e => exact Plan.orRefuse_wf hs _ (heapPutPlan_wf hs ..)
  | heapPop => exact Plan.orRefuse_wf hs _ (heapPopPlan_wf hs ..)
  | heapTop => exact Plan.orRefuse_wf hs _ (by simpa using h)
  | histAdd v c => exact Plan.orRefuse_wf hs _ (histAddPlan_wf hs ..)
  | histRead i => exact Plan.orRefuse_wf hs _ (by simpa using h)
  | histClear i => exact Plan.orRefuse_wf hs _ (histClearPlan_wf hs ..)
  | histClearAll => exact Plan.orRefuse_wf hs _ (histClearAllPlan_wf hs ..)
  | _ => exact h

theorem applyPlan_wfMem {s : State} {w : Plan} (h : WfMem s) (hw : w.mem.wf = true) (core bank : ℕ) :
    WfMem (applyPlan s core bank w) := by
  unfold applyPlan
  dsimp only
  exact foldl_wfMem _ _ (fun s e hs => by simpa using hs) ⟨by simpa using h.1, by simpa using hw⟩

/-! ### BankAlu -/

theorem aluStep_wfMem {s : State} (h : WfMem s) (core bank : ℕ) (u : AluRun) : (aluStep s core bank u).All WfMem := by
  unfold aluStep
  dsimp only
  split
  · trivial
  split
  · trivial
  split
  · trivial
  · simp only [AluAct.All]
    split
    · simpa using ⟨h.1, wrNat_wf _ _ _ h.2⟩
    · exact h

/-! ### BankChange -/

theorem insertOne_wf {w : Plan} (h : w.mem.wf = true) (core bank at_ : ℕ) (e : Element) :
    (insertOne core bank at_ e w).mem.wf = true := by
  unfold insertOne
  dsimp only
  split
  · exact pushPlan_wf h ..
  · exact pushPlan_wf h ..
  · exact mapPutPlan_wf h ..
  · exact heapPutPlan_wf h ..
  · exact histAddPlan_wf h ..
  · split
    · exact h
    · exact Plan.put_wf h ..

theorem insertAll_wf {w : Plan} (h : w.mem.wf = true) (core bank at_ : ℕ) (es : List Element) :
    (insertAll core bank es at_ w).1.mem.wf = true := by
  induction es generalizing at_ w with
  | nil => exact h
  | cons e es ih => exact ih (insertOne_wf h ..) _

theorem applyMode_wfMem {s : State} (h : WfMem s) (core bank : ℕ) (p : Params) (mode : ℕ) (es : List Element) :
    WfMem (applyMode s core bank p mode es).1 := by
  have hc := clearBankBytes_wfMem (s := modBank s core bank (emptyBank p)) (by simpa using h) core bank
  unfold applyMode
  dsimp only
  split
  · simpa using h
  split
  · simpa using hc
  · have hi := insertAll_wf (w := Plan.start (modBank (clearBankBytes (modBank s core bank (emptyBank p)) core bank) core bank
      fun b => { b with upd := [] }) core bank) (by simpa using hc.2) core bank 0 es
    exact ⟨by simpa using hc.1, by simpa using hi⟩

theorem repack_wfMem {s : State} (h : WfMem s) (rest : List (ℕ × ℕ)) (es : List (Element × Bool)) :
    WfMem (repack s rest es) := by
  unfold repack
  dsimp only
  simp only [WfMem, modBank_dram, modBank_sram]
  refine foldl_wfMem _ _ (fun s e hs => ?_) (foldl_wfMem _ _ (fun s e hs => by simpa using hs) ⟨?_, ?_⟩)
  · split <;> exact hs
  · simpa using h.1
  · exact Plan.foldl_wf _ _ (fun w e hw => Plan.put_wf hw ..) (by simpa using h.2)

theorem changeNow_wfMem {s : State} (h : WfMem s) (core bank : ℕ) (p : Params) (mode : ℕ) :
    WfMem (changeNow s core bank p mode).1 := by
  unfold changeNow
  extract_lets comp old es others s1 rest r
  have h1 : WfMem s1 := by simpa [s1] using h
  have hr : WfMem r.1 := applyMode_wfMem h1 ..
  split
  · exact hr
  split
  · simpa using hr
  split
  · exact repack_wfMem hr ..
  · simpa using hr

@[simp] theorem sameMem_beginChange (s : State) (core bank : ℕ) (u : ChangeRun) : SameMem (beginChange s core bank u) s := by
  simp [beginChange]

theorem linkNow_wfMem {s : State} (h : WfMem s) (core bank : ℕ) (names : List (ℕ × ℕ)) : WfMem (linkNow s core bank names) := by
  unfold linkNow
  extract_lets all s1
  have h1 : WfMem s1 := by simpa [s1] using h
  split
  · exact foldl_wfMem _ _ (fun s e hs => by simpa using hs) ⟨h1.1, histClearAllPlan_wf (by simpa using h1.2) ..⟩
  · exact h1

/-! ### Records -/

@[simp] theorem sameMem_memberJoins (s : State) (group : Option (ℕ × ℕ)) : SameMem (memberJoins s group) s := by
  unfold memberJoins; split <;> simp

@[simp] theorem sameMem_spawnLeaves (s : State) (id : ℕ) (ls : List Line) : SameMem (spawnLeaves s id ls) s := by
  unfold spawnLeaves; split <;> simp

/-! ### BankEvents -/

@[simp] theorem sameMem_hostReply (s : State) (p : Packet) (cmd : BankCmd) (r : BankResult) : SameMem (hostReply s p cmd r) s := by
  unfold hostReply; (repeat' split) <;> simp

@[simp] theorem sameMem_gotRecordLine (s : State) (id : ℕ) (v : Line) : SameMem (gotRecordLine s id v) s := by
  unfold gotRecordLine; (repeat' split) <;> simp

@[simp] theorem sameMem_startMxv (s : State) (t : ThreadRef) (id : ℕ) (r : BankResult) : SameMem (startMxv s t id r) s := by
  unfold startMxv; (repeat' split) <;> simp

@[simp] theorem sameMem_accessReply (s : State) (id : ℕ) (r : BankResult) : SameMem (accessReply s id r) s := by
  unfold accessReply; (repeat' split) <;> simp

@[simp] theorem sameMem_pinReply (s : State) (core id bank line : ℕ) (r : BankResult) :
    SameMem (pinReply s core id bank line r) s := by unfold pinReply; dsimp only; (repeat' split) <;> simp

@[simp] theorem sameMem_bankReply (s : State) (q : BankReq) (r : BankResult) : SameMem (bankReply s q r) s := by
  unfold bankReply; (repeat' split) <;> simp

@[simp] theorem sameMem_acceptStored (s : State) (core bank : ℕ) (q : BankReq) : SameMem (acceptStored s core bank q) s := by
  unfold acceptStored; (repeat' split) <;> simp

@[simp] theorem sameMem_acceptBank (s : State) (core bank : ℕ) (q : BankReq) : SameMem (acceptBank s core bank q) s := by
  unfold acceptBank; dsimp only; (repeat' split) <;> simp

@[simp] theorem sameMem_admitBank (s : State) (core bank : ℕ) (q : BankReq) : SameMem (admitBank s core bank q) s := by
  unfold admitBank; dsimp only; split <;> simp

@[simp] theorem sameMem_acceptArrivals (core bank n : ℕ) (s : State) : SameMem (acceptArrivals core bank n s) s := by
  induction n generalizing s with
  | zero => exact ⟨rfl, rfl⟩
  | succ n ih => simp only [acceptArrivals]; split_ifs <;> (try split) <;> simp [ih]

theorem sameMem_configAct (s : State) (core bank : ℕ) (q : BankReq) (w : Word) (keepNs : Bool) :
    (configAct s core bank q w keepNs).All (SameMem · s) := by
  unfold configAct; dsimp only; split_ifs <;> simp

theorem bankPerform_wfMem {s : State} (h : WfMem s) (core bank : ℕ) (q : BankReq) : (bankPerform s core bank q).All WfMem := by
  unfold bankPerform
  dsimp only
  split
  · trivial
  split
  · next w k _ =>
    have hc := sameMem_configAct s core bank q w k
    generalize configAct s core bank q w k = x at hc ⊢
    cases x <;> simp_all
  · split
    · trivial
    split
    · simpa using h
    split
    · exact h
    · simpa using h
  · split
    · exact h
    split
    · exact h
    split
    · exact h
    · simpa using h
  · split
    · exact h
    · simpa using h
  · split
    · exact h
    split <;> exact h
  · split
    · exact h
    split
    · trivial
    · exact foldl_wfMem _ _ (fun s e hs => by simpa using ⟨hs.1, wrNat_wf _ _ _ hs.2⟩) h
  · split
    · exact h
    split <;> exact h
  · split <;> exact h
  · split
    · trivial
    split
    · exact h
    · have hp := applyPlan_wfMem h (planOf_wf h.2 core bank q.cmd) core bank
      split <;> split <;> simpa using hp

@[simp] theorem sameMem_blockRole (s : State) (core bank : ℕ) (q : BankReq) : SameMem (blockRole s core bank q) s := by
  unfold blockRole; split <;> simp

@[simp] theorem sameMem_sendBack (s : State) (core bank : ℕ) : SameMem (sendBack s core bank) s := by simp [sendBack]

theorem takeTurn_wfMem {s : State} (h : WfMem s) (core bank kind : ℕ) : WfMem (takeTurn s core bank kind) := by
  unfold takeTurn
  extract_lets s1
  have h1 : WfMem s1 := by simpa [s1] using h
  split
  · exact h1
  · next q _ =>
    split
    · exact h1
    · have hb := bankPerform_wfMem h1 core bank q
      dsimp only
      refine ite_wfMem (by simpa using h1) ?_
      generalize bankPerform s1 core bank q = x at hb ⊢
      cases x <;> simp_all

theorem aluTurn_wfMem {s : State} (h : WfMem s) (core bank : ℕ) : WfMem (aluTurn s core bank) := by
  unfold aluTurn
  split
  · exact h
  · next u _ =>
    have ha := aluStep_wfMem h core bank u
    dsimp only
    split
    · exact h
    · simpa using h
    · split <;> simp_all

/-! ### Sync -/

theorem acquireFence_wfMem {s : State} (h : WfMem s) (scope : ℕ) : (acquireFence s scope).All WfMem := by
  unfold acquireFence; split <;> simpa using h

theorem pastFences_wfMem {s : State} (h : WfMem s) {k : State → Res} (hk : (k s).All WfMem) : (pastFences s k).All WfMem := by
  unfold pastFences; split
  · simpa using h
  · exact hk

theorem barrierCheck_wfMem {s : State} (level : ℕ) (w : Word) {k : ℕ → Res} (hk : ∀ obj, (k obj).All WfMem) :
    (barrierCheck s level w k).All WfMem := by
  unfold barrierCheck
  split
  · trivial
  · exact Res.all_ite trivial (Res.all_ite trivial (hk _))

@[simp] theorem sameMem_dropRanges (s : State) (core : ℕ) (rs : List (ℕ × ℕ)) : SameMem (dropRanges s core rs) s := by
  simp [dropRanges]

@[simp] theorem sameMem_leaveCompleted (s : State) (t : ThreadRef) (level obj : ℕ) : SameMem (leaveCompleted s t level obj) s := by
  simp [leaveCompleted]

@[simp] theorem sameMem_leavesParked (s : State) (t : ThreadRef) (level obj : ℕ) : SameMem (leavesParked s t level obj) s := by
  unfold leavesParked; dsimp only; (repeat' split) <;> simp

@[simp] theorem sameMem_changeBarrier (s : State) (core level obj : ℕ) (b : Barrier) :
    SameMem (changeBarrier s core level obj b) s := by simp [changeBarrier]

@[simp] theorem sameMem_makeArrival (s : State) (level obj count : ℕ) (nowait : Bool) :
    SameMem (makeArrival s level obj count nowait) s := by unfold makeArrival; split <;> simp

theorem phaseFence_wfMem {s : State} (h : WfMem s) (level : ℕ) : (phaseFence s level).All WfMem := by
  unfold phaseFence; split <;> simpa using h

theorem leavePhase_wfMem {s : State} (h : WfMem s) (level obj q : ℕ) : (leavePhase s level obj q).All WfMem := by
  unfold leavePhase
  split
  · exact phaseFence_wfMem h _
  · split
    · exact phaseFence_wfMem (by simpa using h) _
    · split
      · simpa using h
      · exact phaseFence_wfMem (by simpa using h) _

theorem arrive_wfMem {s : State} (h : WfMem s) (level obj count q : ℕ) (nowait wait : Bool) :
    (arrive s level obj count q nowait wait).All WfMem := by
  unfold arrive
  split
  · simpa using h
  · refine withRelease_wfMem h _ fun s hs => ?_
    dsimp only
    split <;> simpa using hs

@[simp] theorem sameMem_mailServed (s : State) (t : ThreadRef) : SameMem (mailServed s t) s := ⟨rfl, rfl⟩

@[simp] theorem sameMem_mailJoin (s : State) (t : ThreadRef) (n : ℕ) (put : Bool) : SameMem (mailJoin s t n put) s := ⟨rfl, rfl⟩

/-! ### Messages -/

@[simp] theorem sameMem_insertMessage (s : State) (core : ℕ) (m : Msg) : SameMem (insertMessage s core m) s := by
  unfold insertMessage; dsimp only; split_ifs <;> simp

@[simp] theorem sameMem_answerSender (s : State) (m : Msg) (v : ℕ) : SameMem (answerSender s m v) s := by
  unfold answerSender; split <;> simp

@[simp] theorem sameMem_takeSent (s : State) (core : ℕ) (m : Msg) : SameMem (takeSent s core m) s := by
  unfold takeSent; dsimp only; split_ifs <;> simp

/-! ### System -/

@[simp] theorem sameMem_xinvBegin (s : State) (t : ThreadRef) (v : Word) : SameMem (xinvBegin s t v) s := by
  simp [xinvBegin, apply_ite State.dram, apply_ite State.sram]

theorem writeAndWait_wfMem {s : State} (h : WfMem s) {f : State → BankSrc → State} (hf : ∀ s w, WfMem s → WfMem (f s w)) :
    (writeAndWait s f).All WfMem := by
  unfold writeAndWait
  dsimp only
  split <;> exact hf _ _ (by simpa using h)

theorem slotControl_wfMem (s : State) (v : ℕ) (sel : Bool) {k : ThreadRef → Res} (hk : ∀ t, (k t).All WfMem) :
    (slotControl s v sel k).All WfMem := by
  unfold slotControl
  refine Res.all_ite trivial ?_
  split
  · trivial
  · exact Res.all_ite trivial (hk _)

theorem whenSettled_wfMem {s : State} (h : WfMem s) (t : ThreadRef) {k : State → Res} (hk : ∀ s, WfMem s → (k s).All WfMem) :
    (whenSettled s t k).All WfMem := by
  unfold whenSettled
  dsimp only
  split
  · exact hk _ (by simpa using h)
  · simpa using h

@[simp] theorem sameMem_slotWrite (s : State) (t : ThreadRef) (sel : ℕ) (v : Word) : SameMem (slotWrite s t sel v) s := by
  unfold slotWrite; dsimp only; split_ifs <;> simp

/-! ### Walk -/

theorem homesReady_wfMem {s : State} (h : WfMem s) (who : Asker) (ns : Bool) (as : List ℕ) :
    (homesReady s who ns as).All WfMem := by
  induction as generalizing s with
  | nil => exact h
  | cons a as ih =>
    unfold homesReady
    split
    · exact ih h
    · next o _ =>
      have hr := sameMem_homeReady s (o / 64) who false ns
      generalize homeReady s (o / 64) who false ns = x at hr ⊢
      cases x with
      | yes s' => exact ih (engineRead_wfMem (by simp_all) ..)
      | wait s' => simp_all
      | fail s' c k => simp_all

theorem writeEntry_wfMem {s : State} (h : WfMem s) (loc v : ℕ) : WfMem (writeEntry s loc v) := engineWrite_wfMem h ..

theorem walkNow_wfMem {s : State} (h : WfMem s) (who : Asker) (ctx : Word) (va : ℕ) (dirty : ℕ → ℕ → Bool) :
    (walkNow s who ctx va dirty).All WfMem := by
  unfold walkNow
  extract_lets ns locs
  split
  · exact h
  · have hr := homesReady_wfMem h who ns locs
    generalize homesReady s who ns locs = x at hr ⊢
    cases x with
    | wait s' => exact hr
    | fail s' c k => exact hr
    | yes s' =>
      have ha : WfMem (answersUsed s' (locs.map homeLine) who) := by simpa using hr
      dsimp only
      split
      · exact ha
      · exact ite_wfMem ha (writeEntry_wfMem ha ..)

theorem setDirty_wfMem {s : State} (h : WfMem s) (who : Asker) (ns : Bool) (l : Leaf) : (setDirty s who ns l).All WfMem := by
  unfold setDirty
  have hr := homesReady_wfMem h who ns [l.loc]
  generalize homesReady s who ns [l.loc] = x at hr ⊢
  cases x with
  | wait s' => exact hr
  | fail s' c k => exact hr
  | yes s' =>
    have ha : WfMem (answerUsed s' (homeLine l.loc) who) := by simpa using hr
    dsimp only
    split
    · split
      · exact writeEntry_wfMem ha ..
      · exact ha
    · exact ha

@[simp] theorem sameMem_discardLeaf (s : State) (core : ℕ) (l : Leaf) : SameMem (discardLeaf s core l) s := ⟨rfl, rfl⟩

@[simp] theorem sameMem_replayWaiter (s : State) (w : Waiter) : SameMem (replayWaiter s w) s := by
  unfold replayWaiter; split <;> simp

@[simp] theorem sameMem_satisfyWaiter (l : Leaf) (s : State) (w : Waiter) : SameMem (satisfyWaiter l s w) s := by
  unfold satisfyWaiter; (repeat' split) <;> simp

@[simp] theorem sameMem_satisfy (s : State) (die : ℕ) (l : Leaf) (also : ℕ) : SameMem (satisfy s die l also) s := by
  simp [satisfy]

@[simp] theorem sameMem_modCoal (s : State) (die index : ℕ) (f : Coal → Coal) : SameMem (modCoal s die index f) s := ⟨rfl, rfl⟩

@[simp] theorem sameMem_walkAgain (s : State) (die : ℕ) (e : Coal) (l : Leaf) : SameMem (walkAgain s die e l) s := by
  simp [walkAgain]

@[simp] theorem sameMem_skipWaiter (s : State) (a : Waiter) : SameMem (skipWaiter s a) s := by
  unfold skipWaiter; (repeat' split) <;> simp

@[simp] theorem sameMem_walkFails (s : State) (die : ℕ) (e : Coal) (cause : ℕ) : SameMem (walkFails s die e cause) s := by
  unfold walkFails; dsimp only; split <;> simp

@[simp] theorem sameMem_replayEntry (s : State) (die entry : ℕ) : SameMem (replayEntry s die entry) s := by
  unfold replayEntry; (repeat' split) <;> simp

@[simp] theorem sameMem_leaveEngine (s : State) (core n : ℕ) : SameMem (leaveEngine s core n) s := ⟨rfl, rfl⟩

@[simp] theorem sameMem_stopCommand (s : State) (core n : ℕ) (c : Cmd) (reason cause va : ℕ) :
    SameMem (stopCommand s core n c reason cause va) s := by simp [stopCommand]

@[simp] theorem sameMem_failWaiter (e : Coal) (s : State) (w : Waiter) : SameMem (failWaiter e s w) s := by
  unfold failWaiter; dsimp only; (repeat' split) <;> simp

@[simp] theorem sameMem_faultEntry (s : State) (die entry : ℕ) : SameMem (faultEntry s die entry) s := by
  unfold faultEntry; (repeat' split) <;> simp

theorem engineAddr_wfMem {s : State} (h : WfMem s) (t : ThreadRef) (ctx : Word) (priv : BitVec 2) (va : ℕ) (need : Need)
    (pol : ℕ) : (engineAddr s t ctx priv va need pol).All WfMem := by
  unfold engineAddr
  extract_lets found walk
  have hfound (s : State) (hs : WfMem s) (l : Leaf) : (found s l).All WfMem := by
    simp only [found]; split <;> simpa using hs
  have hwalk (s : State) (hs : WfMem s) : (walk s).All WfMem := by
    have hw := walkNow_wfMem hs (.port t) ctx va (fun e pa => need.wr && checkLeaf e pa ctx priv need pol (pol == 7) == 0)
    simp only [walk]
    generalize walkNow s (.port t) ctx va (fun e pa => need.wr && checkLeaf e pa ctx priv need pol (pol == 7) == 0) = x at hw ⊢
    cases x with
    | later s' => exact hw
    | fail s' c => exact hw
    | leaf s' l => exact hfound _ hw _
  clear_value found walk
  split
  · exact h
  · exact h
  · exact hwalk _ h
  · next l _ =>
    have hd := setDirty_wfMem h (.port t) (ctxNs ctx) l
    generalize setDirty s (.port t) (ctxNs ctx) l = x at hd ⊢
    cases x with
    | later s' => exact hd
    | leaf s' l' => exact hfound _ hd _
    | changed s' => exact hwalk _ (by simpa using hd)

/-! ### Engines -/

@[simp] theorem sameMem_endCommand (s : State) (core n : ℕ) (c : Cmd) (status result : ℕ) :
    SameMem (endCommand s core n c status result) s := ⟨rfl, rfl⟩

@[simp] theorem sameMem_keepCommand (s : State) (core n : ℕ) (c : Cmd) : SameMem (keepCommand s core n c) s := ⟨rfl, rfl⟩

@[simp] theorem sameMem_queueWalk (s : State) (core n : ℕ) : SameMem (queueWalk s core n) s := ⟨rfl, rfl⟩

@[simp] theorem sameMem_queueCopy (s : State) (core n : ℕ) : SameMem (queueCopy s core n) s := ⟨rfl, rfl⟩

@[simp] theorem sameMem_settleWalk (s : State) (core n : ℕ) (c : Cmd) : SameMem (settleWalk s core n c) s := by
  unfold settleWalk; split <;> simp

@[simp] theorem sameMem_acceptCommand (s : State) (core n : ℕ) : SameMem (acceptCommand s core n) s := by
  unfold acceptCommand; dsimp only; (repeat' split) <;> simp

theorem sameMem_engineDram (s : State) (core n : ℕ) (ctx : Word) (priv : BitVec 2) (va : ℕ) (need : Need) (pol : ℕ) :
    (engineDram s core n ctx priv va need pol).All (SameMem · s) := by
  unfold engineDram; dsimp only; (repeat' split) <;> simp

theorem readLines_wfMem {s : State} (h : WfMem s) (who : Asker) (ns : Bool) (ls : List ℕ) :
    (readLines s who ns ls).All WfMem := by
  induction ls generalizing s with
  | nil => exact h
  | cons l ls ih =>
    have hr := sameMem_homeReady s l who false ns
    unfold readLines
    generalize homeReady s l who false ns = x at hr ⊢
    cases x with
    | wait s' => simp_all
    | fail s' c k => simp_all
    | yes s' =>
      have he := ih (engineRead_wfMem (s := s') (by simp_all) l (BitVec.allOnes 16))
      dsimp only
      generalize readLines (engineRead s' l (BitVec.allOnes 16)).2 who ns ls = y at he ⊢
      cases y <;> exact he

theorem readArray_wfMem {s : State} (h : WfMem s) (who : Asker) (ns : Bool) (ls : List ℕ) :
    (readArray s who ns ls).All WfMem := by
  induction ls generalizing s with
  | nil => exact h
  | cons l ls ih =>
    have hr := sameMem_homeTurn s l who false ns
    unfold readArray
    generalize homeTurn s l who false ns = x at hr ⊢
    cases x with
    | wait s' => simp_all
    | fail s' c k => simp_all
    | yes s' =>
      have he := ih (cleanLlc_wfMem (recallNow_wfMem (s := s') (by simp_all) l (BitVec.allOnes 16) true) l)
      dsimp only
      generalize readArray (cleanLlc (recallNow s' l (BitVec.allOnes 16) true) l) who ns ls = y at he ⊢
      cases y <;> exact he

@[simp] theorem sameMem_granuleLine (s : State) (core n : ℕ) (c : Cmd) (va : ℕ) (need : Need) (pol : ℕ) :
    SameMem (granuleLine s core n c va need pol).1 s := by
  have h := sameMem_engineDram s core n (engineCtx s core c) c.priv va need pol
  unfold granuleLine
  dsimp only
  (repeat' split) <;> simp_all

theorem copyGranule_wfMem {s : State} (h : WfMem s) (core n : ℕ) (c : Cmd) : (copyGranule s core n c).All WfMem := by
  unfold copyGranule
  extract_lets ns src dst
  have hg := sameMem_granuleLine s core n c src Need.load 1
  generalize granuleLine s core n c src Need.load 1 = x at hg ⊢
  obtain ⟨s1, _ | l, w⟩ := x
  · cases w <;> simp_all
  have hg' := sameMem_granuleLine s1 core n c dst Need.store 3
  dsimp only
  generalize granuleLine s1 core n c dst Need.store 3 = y at hg' ⊢
  obtain ⟨s2, _ | l', w'⟩ := y
  · cases w' <;> simp_all
  have hl := readLines_wfMem (s := s2) (by simp_all) (.engine c.id) ns [l]
  dsimp only
  generalize readLines s2 (.engine c.id) ns [l] = z at hl ⊢
  cases z with
  | wait s3 => exact hl
  | fail s3 k => simpa using hl
  | got s3 ls bad =>
    dsimp only
    split
    · simpa using hl
    · have hr := sameMem_homeReady s3 l' (.engine c.id) true ns
      generalize homeReady s3 l' (.engine c.id) true ns = u at hr ⊢
      cases u with
      | wait s4 => simp_all
      | fail s4 k c => simp_all
      | yes s4 =>
        have hw := engineWrite_wfMem (s := answersUsed s4 [l, l'] (.engine c.id)) (by simp_all) l' (BitVec.allOnes 64) (ls.headD 0)
        dsimp only
        split <;> simpa using hw

theorem copyTurn_wfMem {s : State} (h : WfMem s) (core n fuel : ℕ) (c : Cmd) : WfMem (copyTurn core n fuel s c) := by
  induction fuel generalizing s c with
  | zero => exact h
  | succ k ih =>
    have hg := copyGranule_wfMem h core n c
    unfold copyTurn
    generalize copyGranule s core n c = x at hg ⊢
    cases x with
    | wait s' => exact hg
    | over_ s' => exact hg
    | done s' c' => exact ite_wfMem hg (ih hg _)

theorem sameMem_rowPlaces (s : State) (core n : ℕ) (c : Cmd) (l : List (ℕ × Need)) :
    (rowPlaces s core n c l).All (SameMem · s) := by
  induction l generalizing s with
  | nil => simp [rowPlaces]
  | cons x l ih =>
    have h := sameMem_engineDram s core n c.ctx c.priv x.1 x.2 7
    unfold rowPlaces
    split
    · simp_all
    · simp_all
    · next s1 pa heq =>
      have h1 := ih s1
      (repeat' split) <;> simp_all

theorem readRow_wfMem {s : State} (h : WfMem s) (b : ℕ) : WfMem (readRow s b).2 :=
  List.foldlRecOn (motive := fun a : List Line × State => WfMem a.2) _ _ h fun _ ha _ _ => cleanLlc_wfMem (recallNow_wfMem ha ..) _

theorem writeRow_wfMem {s : State} (h : WfMem s) (ls : List ℕ) (vs : List Line) : WfMem (writeRow s ls vs) :=
  foldl_wfMem _ _ (fun s e hs => writeArray_wfMem (by
    simpa using recallNow_wfMem (s := invalidateNow s e.1) (by simpa using hs) e.1 (BitVec.allOnes 16) false) ..) h

@[simp] theorem sameMem_sendRow (s : State) (core n : ℕ) (c : Cmd) (fn : ℕ) : SameMem (sendRow s core n c fn) s := by
  unfold sendRow
  dsimp only
  split
  · simp
  · set vas := stepVas c (nextRow c.ahead (c.ahead.length + 1) c.next)
    have h := sameMem_rowPlaces s core n c
      (vas.zip ((List.range vas.length).map fun k => if k + 1 = vas.length then Need.store else Need.load))
    split <;> split <;> simp_all

theorem rowStepNow_wfMem {s : State} (h : WfMem s) (r : RowStep) : WfMem (rowStepNow s r) := by
  unfold rowStepNow
  split
  · exact h
  · split
    · split
      · exact h
      · extract_lets s1
        have h1 : WfMem s1 := by simpa [s1] using h
        clear_value s1
        generalize rowStops s1 _ r = o
        rcases o with _ | ⟨reason, cause, va⟩
        · rename_i sources x at_ vs s2 c'
          have hx : WfMem x.1 := List.foldlRecOn (motive := fun a : State × List (List Line) => WfMem a.1) _ _ h1
            fun _ ha _ _ => readRow_wfMem ha _
          have h2 : WfMem s2 := writeRow_wfMem hx ..
          exact ite_wfMem (by simpa using h2) (by simpa using h2)
        · simpa using h1
    · exact h

theorem rowTurn_wfMem {s : State} (h : WfMem s) (core n : ℕ) : WfMem (rowTurn s core n) := by
  unfold rowTurn
  dsimp only
  split
  · exact h
  · exact rowStepNow_wfMem (by simpa using h) _

theorem copyCommandTurn_wfMem {s : State} (h : WfMem s) (stack : ℕ) (x : Turn) (rest : List Turn) :
    WfMem (copyCommandTurn s stack x rest) := by
  unfold copyCommandTurn
  dsimp only
  split
  · simpa using h
  · next c _ =>
    have ht := copyTurn_wfMem h x.core x.cmd 64 c
    refine ite_wfMem (by simpa using h) ?_
    split
    · exact ite_wfMem (by simpa using ht) (ite_wfMem (by simpa using ht) ht)
    · simpa using ht

@[simp] theorem sameMem_walkGot (s : State) (core n : ℕ) (c : Cmd) (a v : ℕ) : SameMem (walkGot s core n c a v) s := by
  unfold walkGot; dsimp only; (repeat' split) <;> simp

theorem mxvOneRow_wfMem {s : State} (h : WfMem s) (core n : ℕ) (c : Cmd) : (mxvOneRow s core n c).All WfMem := by
  unfold mxvOneRow
  extract_lets va bytes
  have hg := sameMem_engineDram s core n c.ctx c.priv va Need.load 7
  generalize engineDram s core n c.ctx c.priv va Need.load 7 = x at hg ⊢
  cases x with
  | later s1 => simp_all
  | fail s1 k => simp_all
  | ok s1 pa =>
    have h1 : WfMem s1 := by simp_all
    dsimp only
    generalize (List.range ((bytes + 63) / 64)).map (fun i => homeLine (pa + 64 * i)) = ls
    split
    · simpa using h1
    · have hr := readArray_wfMem h1 (.engine c.id) (ctxNs c.ctx) ls
      generalize readArray s1 (.engine c.id) (ctxNs c.ctx) ls = y at hr ⊢
      cases y with
      | wait s2 => exact hr
      | fail s2 k => simpa using hr
      | got s2 vs bad => dsimp only; split <;> simpa using hr

theorem mxvEntryRows_wfMem {s : State} (h : WfMem s) (core n rows fuel : ℕ) (c : Cmd) :
    (mxvEntryRows core n rows fuel s c).All WfMem := by
  induction fuel generalizing s c with
  | zero => exact h
  | succ k ih =>
    have hr := mxvOneRow_wfMem h core n c
    unfold mxvEntryRows
    split
    · exact h
    · generalize mxvOneRow s core n c = x at hr ⊢
      cases x with
      | done s' c' => exact ih hr _
      | wait s' => exact hr
      | over_ s' => exact hr

@[simp] theorem sameMem_mxvPlace (s : State) (core n : ℕ) (c : Cmd) (poison : Bool) : SameMem (mxvPlace s core n c poison) s := by
  unfold mxvPlace; dsimp only; split <;> simp

@[simp] theorem sameMem_resumeCommand (s : State) (core cmd : ℕ) : SameMem (resumeCommand s core cmd) s := by
  unfold resumeCommand; (repeat' split) <;> simp

@[simp] theorem sameMem_stopEnds (s : State) (core cmd : ℕ) : SameMem (stopEnds s core cmd) s := by
  unfold stopEnds; (repeat' split) <;> simp

/-! ### Debug -/

@[simp] theorem sameMem_portStart (s : State) (t : ThreadRef) (v : Word) : SameMem (portStart s t v) s := by
  unfold portStart; dsimp only; split_ifs <;> simp

@[simp] theorem sameMem_retryAccess (s : State) (t : ThreadRef) (id : ℕ) : SameMem (retryAccess s t id) s := by
  unfold retryAccess; dsimp only; (repeat' split) <;> simp

@[simp] theorem sameMem_abandonAccess (s : State) (t : ThreadRef) (o : Out) : SameMem (abandonAccess s t o) s := by
  unfold abandonAccess; dsimp only; (repeat' split) <;> simp

@[simp] theorem sameMem_answerEntry (t : ThreadRef) (s : State) (o : Out) : SameMem (answerEntry t s o) s := by
  unfold answerEntry; split_ifs <;> simp

@[simp] theorem sameMem_answerRecord (s : State) (t : ThreadRef) : SameMem (answerRecord s t) s := by
  unfold answerRecord; (repeat' split) <;> simp

@[simp] theorem sameMem_resumeFrozen (s : State) (t : ThreadRef) : SameMem (resumeFrozen s t) s := by
  unfold resumeFrozen; dsimp only; split <;> simp

@[simp] theorem sameMem_endStopped (s : State) (t : ThreadRef) : SameMem (endStopped s t) s := by
  unfold endStopped; split <;> simp

@[simp] theorem sameMem_debugWrite (s : State) (t : ThreadRef) (off : ℕ) (v : Word) : SameMem (debugWrite s t off v) s := by
  simp only [debugWrite, SameMem, apply_ite State.dram, apply_ite State.sram]
  simp
  constructor <;> intros <;> (repeat' split) <;> rfl

/-! ### Rider -/

@[simp] theorem sameMem_enterQueue (s : State) (core : ℕ) (h : Handle) : SameMem (enterQueue s core h) s := ⟨rfl, rfl⟩

@[simp] theorem sameMem_enterArrival (s : State) (core : ℕ) (ctx : Thread) : SameMem (enterArrival s core ctx) s := by
  unfold enterArrival; dsimp only; split <;> simp

@[simp] theorem sameMem_newRid (s : State) (core : ℕ) : SameMem (newRid s core).2 s := ⟨rfl, rfl⟩

/-! ### Dispatcher -/

@[simp] theorem sameMem_tellHost (s : State) (w0 w1 : Word) : SameMem (tellHost s w0 w1) s := by
  unfold tellHost; dsimp only; split <;> simp

@[simp] theorem sameMem_report (s : State) (type code : ℕ) (gid : BitVec 16) (detail : Word) :
    SameMem (report s type code gid detail) s := by simp [report]

theorem popEntries_wfMem {s : State} (h : WfMem s) (core bank n : ℕ) : WfMem (popEntries s core bank n).2 := by
  induction n generalizing s with
  | zero => exact h
  | succ n ih => exact ih (applyPlan_wfMem h (by simpa using h.2) core bank)

@[simp] theorem sameMem_modGrid (s : State) (key : ℕ) (f : Grid → Grid) : SameMem (modGrid s key f) s := ⟨rfl, rfl⟩

@[simp] theorem sameMem_peerArgs (s : State) (g : Grid) (pa n : ℕ) (mask : BitVec 64) (d : Line) :
    SameMem (peerArgs s g pa n mask d) s := ⟨rfl, rfl⟩

theorem storeArgs_wfMem {s : State} (h : WfMem s) (key fuel : ℕ) : WfMem (storeArgs s key fuel) := by
  induction fuel generalizing s with
  | zero => exact h
  | succ n ih =>
    unfold storeArgs
    split
    · exact h
    · next g _ =>
      split
      · exact h
      extract_lets va k core join wait stored
      have hwait (s : State) (hs : WfMem s) (cause : ℕ) : WfMem (wait s cause) := by simpa [wait, join] using hs
      have hstored (s : State) (hs : WfMem s) : WfMem (stored s) := ih (by simpa using hs)
      split
      · exact hwait _ h _
      split
      · exact hwait _ h _
      split
      · exact hwait _ h _
      · simpa [join] using h
      · exact hwait _ h _
      · next pa _ _ =>
        extract_lets mask d
        clear_value wait stored
        split
        · split
          · exact hstored _ (by simpa using h)
          · exact hwait _ h _
        · have hr := sameMem_homeReady s (homeLine pa) (.args key) true (ctxNs g.ctx)
          generalize homeReady s (homeLine pa) (.args key) true (ctxNs g.ctx) = x at hr ⊢
          cases x with
          | wait s' => simp_all
          | fail s' k c => exact hwait _ (by simp_all) _
          | yes s' => exact hstored _ (engineWrite_wfMem (by simp_all) ..)

theorem popGroup_wfMem {s : State} (h : WfMem s) : WfMem (popGroup s) := by
  unfold popGroup
  dsimp only
  have he := popEntries_wfMem h s.lqCore.toNat s.lqBank.toNat
    (min (headGroup (bankAt s s.lqCore.toNat s.lqBank.toNat)).1 (bankAt s s.lqCore.toNat s.lqBank.toNat).count)
  exact ite_wfMem (by simpa using he) (storeArgs_wfMem (by simpa using he) ..)

@[simp] theorem sameMem_resetBarriers (s : State) (g : Grid) : SameMem (resetBarriers s g) s := ⟨rfl, rfl⟩

theorem placeGroup_wfMem {s : State} (h : WfMem s) (core : ℕ) (g : Grid) (i : ℕ) : WfMem (placeGroup s core g i) := by
  unfold placeGroup
  extract_lets fresh_ s1 s2 s3 s4 r s5 n s6 place s7 s8
  have h1 : WfMem s1 := ite_wfMem h (by simpa using h)
  have h2 : WfMem s2 := foldl_wfMem _ _ (fun s b hs => by simpa using changeNow_wfMem hs ..) h1
  have h3 : WfMem s3 := ite_wfMem (by simpa using h2) h2
  have h4 : WfMem s4 := ite_wfMem (by simpa using h3) h3
  have hr : WfMem r := by simpa [r] using h4
  have h5 : WfMem s5 := ite_wfMem h4 hr
  have hplace (s : State) (r : ℕ) (hs : WfMem s) : WfMem (place s r) := by
    simp only [place]; split <;> simpa using hs
  have h7 : WfMem s7 := foldl_wfMem _ _ hplace h5
  have h8 : WfMem s8 := ite_wfMem (hplace _ _ h7) h7
  simpa using h8

@[simp] theorem sameMem_removeGrid (s : State) (key : ℕ) (complete : Bool) : SameMem (removeGrid s key complete) s := ⟨rfl, rfl⟩

@[simp] theorem sameMem_endWithError (s : State) (g : Grid) (code n : ℕ) : SameMem (endWithError s g code n) s := by
  simp [endWithError]

/-! ### Kill -/

@[simp] theorem sameMem_waitingEnds (s : State) (core : ℕ) (h : Handle) : SameMem (waitingEnds s core h) s := by
  unfold waitingEnds; split <;> simp

@[simp] theorem sameMem_killThread (s : State) (t : ThreadRef) : SameMem (killThread s t) s := by
  unfold killThread; dsimp only; split_ifs <;> simp

@[simp] theorem sameMem_killCore (ns : Bool) (asid : BitVec 16) (s : State) (core : ℕ) : SameMem (killCore ns asid s core) s := by
  simp [killCore]

@[simp] theorem sameMem_killCommands (s : State) (ns : Bool) (asid : BitVec 16) : SameMem (killCommands s ns asid) s := by
  simp [killCommands]

@[simp] theorem sameMem_cancelWaiter (s : State) (w : Waiter) : SameMem (cancelWaiter s w) s := by
  unfold cancelWaiter; split <;> simp

@[simp] theorem sameMem_killEntries (ns : Bool) (asid : BitVec 16) (s : State) (die : ℕ) :
    SameMem (killEntries ns asid s die) s := by simp [killEntries]

@[simp] theorem sameMem_killAccesses (s : State) (ns : Bool) (asid : BitVec 16) : SameMem (killAccesses s ns asid) s := ⟨rfl, rfl⟩

@[simp] theorem sameMem_killTravels (s : State) (ns : Bool) (asid : BitVec 16) : SameMem (killTravels s ns asid) s := by
  simp [killTravels]

@[simp] theorem sameMem_killSaved (s : State) (ns : Bool) (asid : BitVec 16) : SameMem (killSaved s ns asid) s := by
  simp [killSaved]

@[simp] theorem sameMem_killContext (s : State) (ns : Bool) (asid : BitVec 16) (issuer : Option ThreadRef) (tag : BitVec 32) :
    SameMem (killContext s ns asid issuer tag) s := by unfold killContext; split <;> simp

@[simp] theorem sameMem_hostKill (s : State) (v : Word) : SameMem (hostKill s v) s := by simp [hostKill]

/-! ### Evacuate -/

@[simp] theorem sameMem_evacWrite (s : State) (who : Agent) (core : ℕ) (v : Word) : SameMem (evacWrite s who core v) s := by
  unfold evacWrite; dsimp only; split_ifs <;> simp

@[simp] theorem sameMem_renameCore (s : State) (src tgt : ℕ) : SameMem (renameCore s src tgt) s := ⟨rfl, rfl⟩

theorem moveStorage_wfMem {s : State} (h : WfMem s) (src tgt : ℕ) : WfMem (moveStorage s src tgt) :=
  ⟨h.1, List.foldlRecOn (motive := fun m : Memory => m.wf = true) _ _ (zeroRange_wf _ _ (zeroRange_wf _ _ h.2))
    fun _ hm _ _ => wrByte_wf _ _ hm⟩

theorem releaseCore_wfMem {s : State} (h : WfMem s) (core : ℕ) : WfMem (releaseCore s core) :=
  foldl_wfMem _ _ (fun _ _ hs => releaseWords_wfMem hs ..) h

theorem moveCore_wfMem {s : State} (h : WfMem s) (src tgt : ℕ) (before : List ℕ) : WfMem (moveCore s src tgt before) := by
  have hm := moveStorage_wfMem (s := renameCore (releaseCore s src) src tgt) (by simpa using releaseCore_wfMem h src) src tgt
  unfold moveCore
  simpa using hm

@[simp] theorem sameMem_fwdWrite (s : State) (core : ℕ) (v : Word) : SameMem (fwdWrite s core v) s := by
  unfold fwdWrite; split <;> simp

/-! ### Boot -/

@[simp] theorem sameMem_keepOutside (old new : State) : SameMem (keepOutside old new) new := ⟨rfl, rfl⟩

theorem coldReset_wfMem {s : State} : WfMem (coldReset s) := reset_mem_wf

@[simp] theorem sameMem_coldReset (s : State) : SameMem (coldReset s) State.reset := ⟨rfl, rfl⟩

theorem warmReset_wfMem {s : State} (h : WfMem s) : WfMem (warmReset s) := by
  have hc : WfMem (s.llc.foldl (fun s e => cleanLlc s e.1) s) := foldl_wfMem _ _ (fun _ _ hs => cleanLlc_wfMem hs _) h
  unfold warmReset
  simp only [WfMem, sameMem_keepOutside]
  exact ⟨List.foldlRecOn (motive := fun m : Memory => m.wf = true) _ _ hc.1 fun _ hm _ _ => zeroRange_wf _ _ hm,
    reset_mem_wf.2⟩

theorem wrIw_wf {m : Memory} (h : m.wf = true) (a v : ℕ) : (wrIw m a v).wf = true := wrNat_wf _ _ _ h

theorem wrIwBytes_wf {m : Memory} (h : m.wf = true) (a : ℕ) (bs : List Byte) : (wrIwBytes m a bs).wf = true := by
  induction bs generalizing m a with
  | nil => exact h
  | cons b bs ih => exact ih (wrByte_wf _ _ h) _

theorem bootMemory_wf {m : Memory} (h : m.wf = true) (image : List Byte) : (bootMemory m image).wf = true :=
  wrIwBytes_wf (wrIw_wf (wrIw_wf (wrIw_wf (canonical_filter _ _ _ h) ..) ..) ..) ..

theorem bootState_wfMem {s : State} (h : WfMem s) (portsUp : BitVec 16) : WfMem (bootState s portsUp) := by
  unfold bootState
  simp only [WfMem]
  have h1 : WfMem { s with dram := bootMemory s.dram s.flash, dramBad := s.dramBad.filter fun l => !bootWrites s.flash l } :=
    ⟨bootMemory_wf h.1 s.flash, h.2⟩
  refine foldl_wfMem _ _ (fun s d hs => ?_) ?_
  · simpa using hs
  · simpa using h1

/-! ### Lines -/

@[simp] theorem sameMem_nextTransferLine (s : State) (a : Access) : SameMem (nextTransferLine s a) s := ⟨rfl, rfl⟩

@[simp] theorem sameMem_landRead (s : State) (id : ℕ) (d : Line) (bad : Bool) : SameMem (landRead s id d bad) s := by
  unfold landRead; (repeat' split) <;> simp

@[simp] theorem sameMem_storePerformed (s : State) (id : ℕ) : SameMem (storePerformed s id) s := by
  unfold storePerformed; (repeat' split) <;> simp

@[simp] theorem sameMem_absorbDeferred (s : State) (die pa : ℕ) (words : BitVec 16) (d : Line) :
    SameMem (absorbDeferred s die pa words d).2 s := by unfold absorbDeferred; dsimp only; split <;> simp

theorem ownWords_wfMem {s : State} (h : WfMem s) (die core pa : ℕ) (r : Reply) (t : ThreadRef) :
    WfMem (ownWords s die core pa r t) := by
  unfold ownWords
  dsimp only
  simp only [WfMem, sameMem_moveWords, sameMem_setL2]
  refine ite_wfMem (by simpa using h) ?_
  simpa using makeRoomL2_wfMem (s := flushDeferred (absorbDeferred s die pa r.grant r.data).2 die core pa t) (by simpa using h) die pa

theorem takeWords_wfMem {s : State} (h : WfMem s) (die core pa : ℕ) (r : Reply) (t : ThreadRef) :
    WfMem (takeWords s die core pa r t) := by
  simpa [takeWords] using ownWords_wfMem h die core pa r t

@[simp] theorem sameMem_writeOwned (s : State) (die core pa : ℕ) (mask : BitVec 64) (d : Line) :
    SameMem (writeOwned s die core pa mask d) s := by simp [writeOwned]

theorem sameMem_lookup {s s' : State} {a : Access} {d : Line} {b : Bool} (h : lookup s a = some (d, b, s')) : SameMem s' s := by
  unfold lookup at h
  dsimp only at h
  split at h
  · rw [← (Prod.mk.inj (Prod.mk.inj (Option.some.inj h)).2).2]; exact sameMem_hitOwned ..
  · split at h
    · exact sameMem_hitCopy h
    · split at h
      · exact sameMem_hitCopy h
      · cases h

@[simp] theorem sameMem_askHome (s : State) (a : Access) (die : ℕ) (words : BitVec 16) (k : ReqKind) :
    SameMem (askHome s a die words k) s := ⟨rfl, rfl⟩

@[simp] theorem sameMem_askPeer (s : State) (a : Access) (f : Packet → Packet) : SameMem (askPeer s a f) s := ⟨rfl, rfl⟩

@[simp] theorem sameMem_flushFirst (s : State) (a : Access) : SameMem (flushFirst s a) s := by unfold flushFirst; split <;> simp

@[simp] theorem sameMem_startLoad (s : State) (a : Access) : SameMem (startLoad s a) s := by
  unfold startLoad
  dsimp only
  split
  · next h => simp [sameMem_lookup h]
  · simp

@[simp] theorem sameMem_flushOwn (s : State) (a : Access) : SameMem (flushOwn s a) s := by unfold flushOwn; split <;> simp

@[simp] theorem sameMem_startQld (s : State) (a : Access) : SameMem (startQld s a) s := by simp [startQld]

@[simp] theorem sameMem_startQst (s : State) (a : Access) : SameMem (startQst s a) s := by simp [startQst]

theorem deferStore_wfMem {s : State} (h : WfMem s) (a : Access) : WfMem (deferStore s a) := by
  unfold deferStore
  dsimp only
  simp only [WfMem, stageAccess_dram, stageAccess_sram, sameMem_recordDeferred, sameMem_dropL1s, sameMem_dropL1, sameMem_setL2]
  have hd : WfMem (dropDead s a.t.core (threadAt s a.t).arrival (lineAddr a.pa)) := by simpa using h
  exact makeRoomL2_wfMem (ite_wfMem (surrender_wfMem hd ..) hd) ..

theorem startStore_wfMem {s : State} (h : WfMem s) (a : Access) : WfMem (startStore s a) := by
  have hf : WfMem (flushFirst s a) := by simpa using h
  unfold startStore
  dsimp only
  split
  · exact ite_wfMem (by simpa using h) (by simpa using h)
  · exact deferStore_wfMem hf _
  · simpa using ite_wfMem (surrender_wfMem hf ..) hf

@[simp] theorem sameMem_applyAtomic (s : State) (a : Access) : SameMem (applyAtomic s a) s := by
  unfold applyAtomic; dsimp only; (repeat' split) <;> simp

@[simp] theorem sameMem_startAtomic (s : State) (a : Access) : SameMem (startAtomic s a) s := by
  unfold startAtomic; dsimp only; split <;> simp

@[simp] theorem sameMem_askBank (s : State) (a : Access) : SameMem (askBank s a) s := by unfold askBank; split <;> simp

theorem startPeer_wfMem {s : State} (h : WfMem s) (a : Access) : WfMem (startPeer s a) := by
  unfold startPeer
  dsimp only
  refine ite_wfMem (by simpa using h) (ite_wfMem (by simpa using h) (ite_wfMem ?_ (ite_wfMem ?_ (by simpa using h))))
  · split
    · next hl => simpa [sameMem_lookup hl] using h
    · exact ite_wfMem (by simpa using h) (by simpa using h)
  · exact ite_wfMem (deferStore_wfMem h _) (by simpa using h)

/-! ### HomeEvents -/

@[simp] theorem sameMem_refuseReq (s : State) (r : HomeReq) (cls : FaultClass) (cause : ℕ) :
    SameMem (refuseReq s r cls cause) s := by unfold refuseReq; (repeat' split) <;> simp

@[simp] theorem sameMem_answerRead (s : State) (p : Packet) (line kind : ℕ) (bias : Bool) :
    SameMem (answerRead s p line kind bias) s := by unfold answerRead; dsimp only; split_ifs <;> simp

theorem answerAtomic_wfMem {s : State} (h : WfMem s) (p : Packet) (line : ℕ) : WfMem (answerAtomic s p line) := by
  unfold answerAtomic
  dsimp only
  split
  · simpa using h
  · split
    · simpa using writeHome_wfMem h ..
    · simpa using h

@[simp] theorem sameMem_copiesAge (s : State) (core pa : ℕ) : SameMem (copiesAge s core pa) s := by
  unfold copiesAge; dsimp only; (repeat' split) <;> simp

@[simp] theorem sameMem_flipped (s : State) (seq : ℕ) : SameMem (flipped s seq) s := by simp [flipped]

@[simp] theorem sameMem_answerReq (s : State) (line : ℕ) (r : HomeReq) (grant : BitVec 16) (share : Bool) :
    SameMem (answerReq s line r grant share) s := ⟨rfl, rfl⟩

theorem finishHome_wfMem {s : State} (h : WfMem s) (line : ℕ) (r : HomeReq) : WfMem (finishHome s line r) := by
  unfold finishHome
  dsimp only
  refine ite_wfMem h ?_
  split
  · simpa using h
  · split
    · exact answerAtomic_wfMem (by simpa using h) ..
    · simpa using h
  · simpa using h
  · exact ite_wfMem (by simpa using h) (by simpa using h)
  · next pol m x _ =>
    have ha := applyWrite_wfMem (s := (fresh s).2) (by simpa using h) r.die r.pa m x (fresh s).1
    refine ite_wfMem (by simpa using ha) ?_
    refine ite_wfMem ?_ ?_ <;> split <;> simpa using ha
  · next m x _ =>
    have ha := applyWrite_wfMem (s := (fresh s).2) (by simpa using h) r.die r.pa m x (fresh s).1
    simp only [WfMem, stageAccess_dram, stageAccess_sram]
    split <;> split <;> simpa using ha
  · simpa using cleanLlc_wfMem h line
  · simpa using cleanLlc_wfMem h line
  · split
    · simpa using h
    · exact h
  · split
    · simpa using writeHome_wfMem h ..
    · exact writeHome_wfMem h ..

theorem startHome_wfMem {s : State} (h : WfMem s) (line : ℕ) (r : HomeReq) : WfMem (startHome s line r) := by
  unfold startHome
  extract_lets h0 w sharers live s1 n1 s2 n
  have h1 : WfMem s1 := ite_wfMem h (ite_wfMem (recallNow_wfMem h ..) (by simpa using h))
  have h2 : WfMem s2 := by simpa [s2] using h1
  exact ite_wfMem (finishHome_wfMem h2 ..) (by simpa using h2)

theorem Ready.all_of_ite {p : State → Prop} {c : Prop} [Decidable c] {x y r : Ready} (h : (if c then x else y) = r)
    (hx : x.All p) (hy : y.All p) : r.All p := by
  subst h
  split
  · exact hx
  · exact hy

theorem serveHome_wfMem {s : State} (h : WfMem s) (line : ℕ) : WfMem (serveHome s line) := by
  unfold serveHome
  dsimp only
  split
  · exact ite_wfMem (finishHome_wfMem (by simpa using h) ..) h
  split
  · exact h
  · next r rest _ =>
    refine ite_wfMem h (ite_wfMem (startHome_wfMem (by simpa using h) ..) (ite_wfMem h ?_))
    split
    · simpa using h
    · have he := sameMem_enterLlc s line
      split
      · next heq => rw [heq] at he; simp_all
      · next s1 heq =>
        rw [heq] at he
        have h1 : WfMem s1 := by simp_all
        split
        · exact ite_wfMem h1 (by simpa using h1)
        · have hb := sameMem_biasReady s1 line (.req r.seq) (snoopsExcl r.kind) r.ns r.bias
          split
          · next heq => have := Ready.all_of_ite heq hb (by simp); simp_all
          · next heq => have := Ready.all_of_ite heq hb (by simp); simp_all
          · next heq =>
            have := Ready.all_of_ite heq hb (by simp)
            exact startHome_wfMem (by simp_all) ..

theorem takeHead_wfMem {s : State} (h : WfMem s) (die home : ℕ) (sel : HomeMsgKind → Bool) : WfMem (takeHead s die home sel) := by
  unfold takeHead
  split
  · exact ite_wfMem (by
      simpa using takeMsg_wfMem (s := modDie s die fun d => { d with inbox := d.inbox.erase _ }) (by simpa using h) die _) h
  · exact h

@[simp] theorem sameMem_settleResv (s : State) (line id : ℕ) : SameMem (settleResv s line id) s := ⟨rfl, rfl⟩

@[simp] theorem sameMem_nextRangeLine (s : State) (a : Access) : SameMem (nextRangeLine s a) s := by
  unfold nextRangeLine; (repeat' split) <;> simp

theorem prefetched_wfMem {s : State} (h : WfMem s) (a : Access) (r : Reply) : WfMem (prefetched s a r) := by
  unfold prefetched
  dsimp only
  split
  · exact ite_wfMem (ownWords_wfMem h ..) (by simpa using h)
  · exact fillShared_wfMem h ..
  · exact fillLeased_wfMem h ..

theorem takeReply_wfMem {s : State} (h : WfMem s) (a : Access) (r : Reply) : WfMem (takeReply s a r) := by
  have ht := takeWords_wfMem h (dieOf a.t.core) a.t.core (lineAddr a.pa) r a.t
  unfold takeReply
  dsimp only
  split
  · simpa using ht
  · simpa using ht
  · simpa using ht
  · simpa using h
  · simpa using prefetched_wfMem h a r
  · split
    · simpa using ht
    · simpa using fillShared_wfMem h ..
    · simpa using ite_wfMem (by simpa using h) (fillLeased_wfMem h ..)
    · simpa using h

@[simp] theorem sameMem_wiPerformed (s : State) (id : ℕ) : SameMem (wiPerformed s id) s := by unfold wiPerformed; split <;> simp

/-! ### Fence -/

@[simp] theorem sameMem_countError (s : State) (die i n : ℕ) : SameMem (countError s die i n) s := ⟨rfl, rfl⟩

@[simp] theorem sameMem_failBanks (s : State) (die : ℕ) : SameMem (failBanks s die) s :=
  foldl_sameMem _ _ (fun s q => by (repeat' split) <;> simp) s

@[simp] theorem sameMem_failMessages (s : State) (die : ℕ) : SameMem (failMessages s die) s := by simp [failMessages]

theorem answerInbox_wfMem {s : State} (h : WfMem s) (die : ℕ) : WfMem (answerInbox s die) := by
  refine foldl_wfMem _ _ (fun s m hs => ?_) h
  simp only [WfMem, sameMem_acknowledge, modHome_dram, modHome_sram]
  split
  · exact ite_wfMem (recallNow_wfMem hs ..) hs
  · exact ite_wfMem (recallNow_wfMem hs ..) hs
  · exact hs

@[simp] theorem sameMem_dropRequests (s : State) (die : ℕ) : SameMem (dropRequests s die) s := ⟨rfl, rfl⟩

@[simp] theorem sameMem_loseGroups (s : State) (die : ℕ) : SameMem (loseGroups s die) s := by
  unfold loseGroups; dsimp only; split <;> simp

@[simp] theorem sameMem_freeArgs (s : State) (die : ℕ) : SameMem (freeArgs s die) s := ⟨rfl, rfl⟩

theorem moveQueue_wfMem {s : State} (h : WfMem s) (die : ℕ) : WfMem (moveQueue s die) := by
  unfold moveQueue
  refine ite_wfMem h ?_
  dsimp only
  split
  · exact h
  · next p _ => simpa using changeNow_wfMem h (supCore p true) 15 { Params.array with pers := 1, esz := 3 } 0

@[simp] theorem sameMem_stopDie (s : State) (die : ℕ) : SameMem (stopDie s die) s := by simp [stopDie]

theorem fenceDie_wfMem {s : State} (h : WfMem s) (die : ℕ) : WfMem (fenceDie s die) := by
  unfold fenceDie
  split
  · exact h
  · extract_lets s1 s2 s3 s4 s5 s6
    have h2 : WfMem s2 := answerInbox_wfMem (by simpa [s1] using h) _
    have h3 : WfMem s3 := by simpa [s3] using h2
    have h4 : WfMem s4 := ite_wfMem h3 h3
    have h5 : WfMem s5 := moveQueue_wfMem h4 _
    simpa [s6] using h5

/-! ### ControlWindow -/

@[simp] theorem sameMem_fsupWrite (s : State) (who : Agent) (die : ℕ) (v : Word) : SameMem (fsupWrite s who die v) s := by
  unfold fsupWrite; dsimp only; split_ifs <;> simp

theorem prstWrite_wfMem {s : State} (h : WfMem s) (who : Agent) (v : Word) : WfMem (prstWrite s who v) := by
  unfold prstWrite
  refine ite_wfMem h ?_
  split
  · exact warmReset_wfMem h
  · simpa using reset_mem_wf
  · exact h

theorem flipLine_wfMem {s : State} (h : WfMem s) (line : ℕ) : WfMem (flipLine s line).2 := by
  unfold flipLine
  split
  · refine cleanLlc_wfMem ?_ _
    simpa using recallNow_wfMem (s := wakeStack s line) (by simpa using h) line (BitVec.allOnes 16) true
  · simpa using h

theorem biasWrite_wfMem {s : State} (h : WfMem s) (k : ℕ) (v : Word) (w : BankSrc) : WfMem (biasWrite s k v w) := by
  unfold biasWrite
  extract_lets new turned x
  have hx : WfMem x.2 := List.foldlRecOn (motive := fun a : List ℕ × State => WfMem a.2) _ _ h
    fun _ ha _ _ => flipLine_wfMem ha _
  exact ite_wfMem (by simpa using hx) (by simpa using hx)

@[simp] theorem sameMem_rsyncWrite (s : State) (v : Word) : SameMem (rsyncWrite s v) s := ⟨rfl, rfl⟩

theorem ite_option_wfMem {c : Prop} [Decidable c] {a b : Option State} (ha : ∀ t, a = some t → WfMem t)
    (hb : ∀ t, b = some t → WfMem t) : ∀ t, (if c then a else b) = some t → WfMem t := by
  split
  · exact ha
  · exact hb

theorem some_wfMem {s : State} (h : WfMem s) : ∀ t, some s = some t → WfMem t := fun _ ht => Option.some.inj ht ▸ h

theorem dispWrite_wfMem {s s' : State} (h : WfMem s) {who : Agent} {die o : ℕ} {v : Word}
    (hw : dispWrite s who die o v = some s') : WfMem s' := by
  suffices H : ∀ t, dispWrite s who die o v = some t → WfMem t from H s' hw
  unfold dispWrite
  dsimp only
  refine ite_option_wfMem (some_wfMem (by simpa using h)) ?_
  refine ite_option_wfMem (some_wfMem (by simpa using h)) ?_
  refine ite_option_wfMem (some_wfMem (prstWrite_wfMem h ..)) ?_
  refine ite_option_wfMem (some_wfMem (ite_wfMem (fenceDie_wfMem h _) h)) ?_
  refine ite_option_wfMem (some_wfMem (by simpa using h)) ?_
  refine ite_option_wfMem (some_wfMem (by simpa using h)) ?_
  refine ite_option_wfMem (some_wfMem (by simpa using h)) ?_
  refine ite_option_wfMem (ite_option_wfMem (fun _ hn => by cases hn) (some_wfMem (by simpa using h))) ?_
  refine ite_option_wfMem (some_wfMem (by simpa using h)) ?_
  exact ite_option_wfMem (some_wfMem (ite_wfMem (by simpa using h) h)) (some_wfMem (by simpa using h))

@[simp] theorem sameMem_regionWrite (s : State) (who : Agent) (stack k : ℕ) (v : Word) :
    SameMem (regionWrite s who stack k v) s := by unfold regionWrite; split_ifs <;> simp

@[simp] theorem sameMem_ecfgWrite (s : State) (who : Agent) (stack : ℕ) (v : Word) : SameMem (ecfgWrite s who stack v) s := by
  unfold ecfgWrite; split <;> simp

@[simp] theorem sameMem_nodeWrite (s : State) (i : ℕ) (v : Word) : SameMem (nodeWrite s i v) s := ⟨rfl, rfl⟩

/-- A register write that answers has been performed, and then its writer is told. -/
theorem state_of_answered {w : BankSrc} {o : Option State} {s' : State} (h : answered w o = some s') :
    ∃ s, o = some s ∧ finishWrite s w = s' := by
  simpa [answered] using h

theorem coreWrite_wfMem {s s' : State} (h : WfMem s) {who : Agent} {c o : ℕ} {v : Word} {w : BankSrc}
    (hw : coreWrite s who c o v w = some s') : WfMem s' := by
  unfold coreWrite at hw
  split at hw
  · cases hw; exact carveWrite_wfMem h ..
  split at hw
  · obtain ⟨s1, h1, rfl⟩ := state_of_answered hw
    split at h1 <;> cases h1
    simpa using h
  split at hw
  · cases hw; simpa using h
  split at hw
  · cases hw; simpa using h
  split at hw
  · cases hw; simpa using h
  split at hw <;> (cases hw; simpa using h)

theorem regWrite_wfMem {s s' : State} (h : WfMem s) {who : Agent} {off : ℕ} {v : Word} {w : BankSrc}
    (hw : regWrite s who off v w = some s') : WfMem s' := by
  unfold regWrite at hw
  split at hw
  · obtain ⟨s1, h1, rfl⟩ := state_of_answered hw
    split at h1
    · cases h1
    · cases h1; simpa using h
  · exact coreWrite_wfMem h hw
  · obtain ⟨s1, h1, rfl⟩ := state_of_answered hw
    cases h1; simpa using ite_wfMem (by simpa using h) h
  · obtain ⟨s1, h1, rfl⟩ := state_of_answered hw
    simpa using dispWrite_wfMem h h1
  · obtain ⟨s1, h1, rfl⟩ := state_of_answered hw
    cases h1; simpa using ite_wfMem (by simpa using h) (ite_wfMem (by simpa using h) h)
  · cases hw; exact biasWrite_wfMem h ..
  · obtain ⟨s1, h1, rfl⟩ := state_of_answered hw
    cases h1; simpa using ite_wfMem (by simpa using h) (ite_wfMem (by simpa using h) h)
  all_goals
    obtain ⟨s1, h1, rfl⟩ := state_of_answered hw
    cases h1; simpa using h

/-! ### Matrix -/

@[simp] theorem sameMem_takeOwner (s : State) (tile : Option ℕ) (book : Bool) : SameMem (takeOwner s tile book) s := by
  unfold takeOwner; (repeat' split) <;> simp

theorem useOwned_wfMem {s : State} (h : WfMem s) (tile : Option ℕ) (book : Bool) {k : State → Res}
    (hk : ∀ s, WfMem s → (k s).All WfMem) : (useOwned s tile book k).All WfMem := by
  unfold useOwned
  dsimp only
  split
  · exact hk _ (by simpa using h)
  · simpa using h

/-- A privileged form, which skips the check of the owner, and the form that makes it. -/
theorem ownedForm_wfMem {s : State} (h : WfMem s) (priv : Prop) [Decidable priv] (tile : Option ℕ) (book : Bool)
    {k : State → Res} (hk : ∀ s, WfMem s → (k s).All WfMem) :
    (if priv then k s else useOwned s tile book k).All WfMem := by
  split
  · exact hk s h
  · exact useOwned_wfMem h tile book hk

theorem kernelForm_wfMem (s : State) (k : BitVec 1) {r : Res} (hr : r.All WfMem) : (kernelForm s k r).All WfMem := by
  unfold kernelForm; split
  · trivial
  · exact hr

@[simp] theorem sameMem_sendPins (s : State) (core id : ℕ) : SameMem (sendPins s core id) s := by
  unfold sendPins
  split
  · simp
  · dsimp only
    split
    · simp
    · refine SameMem.trans (foldl_sameMem _ _ (fun s p => ?_) _) (by simp)
      split <;> simp

theorem transferCheck_wfMem (s : State) (va n : ℕ) {k : Res} (hk : k.All WfMem) :
    (transferCheck s va n k).All WfMem := Res.all_ite trivial (Res.all_ite trivial hk)

/-! ### AccessEvents -/

@[simp] theorem sameMem_flushLater (s : State) (a : Access) (scope : ℕ) : SameMem (flushLater s a scope) s := by
  unfold flushLater; split <;> simp

@[simp] theorem sameMem_pruneWaits (s : State) (t : ThreadRef) : SameMem (pruneWaits s t) s := ⟨rfl, rfl⟩

@[simp] theorem sameMem_toBank (s : State) (a : Access) (w : ℕ) : SameMem (toBank s a w) s := by simp [toBank]

@[simp] theorem sameMem_acceptEarly (s : State) (a : Access) : SameMem (acceptEarly s a) s := ⟨rfl, rfl⟩

theorem toControl_wfMem {s : State} (h : WfMem s) (a : Access) (off : ℕ) : WfMem (toControl s a off) := by
  unfold toControl
  dsimp only
  refine ite_wfMem ?_ ?_
  · split <;> simpa using h
  · split
    · next hw => exact regWrite_wfMem (by simpa using h) hw
    · simpa using h

@[simp] theorem sameMem_acceptTransfer (s : State) (a : Access) : SameMem (acceptTransfer s a) s := by
  unfold acceptTransfer; split <;> simp

theorem transferTurn_wfMem {s : State} (h : WfMem s) (a : Access) : WfMem (transferTurn s a) := by
  unfold transferTurn
  extract_lets s1
  have h1 : WfMem s1 := ite_wfMem (by simpa using h) h
  split
  · exact h1
  · refine ite_wfMem h1 ?_
    split
    · exact startStore_wfMem h1 _
    · simpa using h1

@[simp] theorem sameMem_flushFor (s : State) (a : Access) (pa : ℕ) : SameMem (flushFor s a pa) s := by simp [flushFor]

theorem cleanOwned_wfMem {s : State} (h : WfMem s) (die pa : ℕ) : WfMem (cleanOwned s die pa) := by
  have hw := writeHome_wfMem (s := gatherL1 s die pa) (by simpa using h)
  unfold cleanOwned
  exact ite_wfMem (by simpa using h) (ite_wfMem (by simpa using hw ..) (hw ..))

theorem rangeLine_wfMem {s : State} (h : WfMem s) (a : Access) (fn : ℕ) : WfMem (rangeLine s a fn) := by
  unfold rangeLine
  dsimp only
  split
  · exact h
  · exact h
  · exact h
  · split
    · simpa using cleanOwned_wfMem h ..
    · exact evictL2_wfMem (by simpa using h) ..
    · exact evictL2_wfMem (by simpa using h) ..

@[simp] theorem sameMem_prefetchLine (s : State) (a : Access) : SameMem (prefetchLine s a) s := by
  unfold prefetchLine; dsimp only; (repeat' split) <;> simp

theorem portTranslate_wfMem {s : State} (h : WfMem s) (a : Access) : WfMem (portTranslate s a) := by
  unfold portTranslate
  dsimp only
  refine ite_wfMem (by simpa using h) ?_
  have he := engineAddr_wfMem h a.t a.ctx a.priv a.va (needOf a) (if (a.kind == .port 2) = true then 7 else a.pol)
  generalize engineAddr s a.t a.ctx a.priv a.va (needOf a) (if (a.kind == .port 2) = true then 7 else a.pol) = x at he ⊢
  cases x with
  | later s' => exact he
  | fail s' c => simpa using he
  | ok s' pa => exact ite_wfMem (by simpa using he) (by simpa using he)

theorem toDram_wfMem {s : State} (h : WfMem s) (a : Access) : WfMem (toDram s a) := by
  unfold toDram
  split
  · exact transferTurn_wfMem h _
  · exact transferTurn_wfMem h _
  · exact transferTurn_wfMem h _
  · simpa using h
  · extract_lets s1
    have h1 : WfMem s1 := by simpa [s1] using h
    refine ite_wfMem (ite_wfMem (by simpa using h1) (by simpa using h1)) (ite_wfMem (by simpa using h1)
      (ite_wfMem (by simpa using h1) (ite_wfMem (by simpa using h1) (ite_wfMem (startStore_wfMem h1 _) (by simpa using h1)))))

theorem toPeer_wfMem {s : State} (h : WfMem s) (a : Access) : WfMem (toPeer s a) := by
  unfold toPeer
  dsimp only
  refine ite_wfMem (by simpa using h) (ite_wfMem (ite_wfMem (by simpa using h) (by simpa using h)) ?_)
  exact startPeer_wfMem (by simpa using h) _

theorem leave_wfMem {s : State} (h : WfMem s) (a : Access) : WfMem (leave s a) := by
  unfold leave
  split
  · simpa using h
  · next fn _ _ _ =>
    refine ite_wfMem (by simpa using h) ?_
    have hr := rangeLine_wfMem h a fn
    dsimp only
    split
    · simpa using hr
    · exact hr
  · split
    · simpa using h
    · exact toControl_wfMem h ..
    · exact toPeer_wfMem h _
    · exact toDram_wfMem h _
    · exact toDram_wfMem h _
    · simpa using h

@[simp] theorem sameMem_stepLeaves (s : State) (core id : ℕ) : SameMem (stepLeaves s core id) s := by
  unfold stepLeaves; (repeat' split) <;> simp

@[simp] theorem sameMem_acceptWaiting (s : State) (a : Access) : SameMem (acceptWaiting s a) s := by
  unfold acceptWaiting; (repeat' split) <;> simp

@[simp] theorem sameMem_landResult (s : State) (a : Access) : SameMem (landResult s a) s := by
  unfold landResult; dsimp only; (repeat' split) <;> simp

@[simp] theorem sameMem_freezePrecise (s : State) (t : ThreadRef) (o : Out) (f : Fail) (b : Back) :
    SameMem (freezePrecise s t o f b) s := by simp [freezePrecise]

@[simp] theorem sameMem_freezeLate (s : State) (t : ThreadRef) (o : Out) (f : Fail) : SameMem (freezeLate s t o f) s := by
  simp [freezeLate]

@[simp] theorem sameMem_commitOuts (t : ThreadRef) (n : ℕ) (s : State) : SameMem (commitOuts t n s) s := by
  induction n generalizing s with
  | zero => exact ⟨rfl, rfl⟩
  | succ n ih => simp only [commitOuts]; (repeat' split) <;> simp [ih]

/-! ### Berths -/

@[simp] theorem sameMem_setBerth (s : State) (core n : ℕ) (b : Option Berth) : SameMem (setBerth s core n b) s := ⟨rfl, rfl⟩

theorem sameMem_takeLoad (s : State) (ref : ThreadRef) : (takeLoad s ref).All (SameMem · s) := by
  unfold takeLoad
  (repeat' split) <;> simp

@[simp] theorem sameMem_startRead (s : State) (ref : ThreadRef) (va n pol : ℕ) (ctx : Word) (gid : BitVec 16) (priv : BitVec 2) :
    SameMem (startRead s ref va n pol ctx gid priv) s := by simp [startRead]

@[simp] theorem sameMem_offerInput (s : State) (core : ℕ) (g : Grid) (copied : ℕ) (a : Access) :
    SameMem (offerInput s core g copied a) s := by simp [offerInput]

@[simp] theorem sameMem_putInput (s : State) (core : ℕ) (ref : ThreadRef) (g : Grid) (src copied n : ℕ) (d : Line) (bad : Bool) :
    SameMem (putInput s core ref g src copied n d bad) s := by simp [putInput]

theorem sameMem_inputStored (s : State) (core : ℕ) (g : Grid) (copied : ℕ) (a : Access) :
    (inputStored s core g copied a).All (SameMem · s) := by
  unfold inputStored; (repeat' split) <;> simp

theorem sameMem_inputTurn (s : State) (core : ℕ) (ref : ThreadRef) (g : Grid) (index copied : ℕ) :
    (inputTurn s core ref g index copied).All (SameMem · s) := by
  have h := sameMem_takeLoad s ref
  unfold inputTurn
  dsimp only
  split
  · simp
  · split
    · exact sameMem_inputStored ..
    · split <;> simp_all

@[simp] theorem sameMem_inputDone (s : State) (th : Thread) : SameMem (inputDone s th) s := by unfold inputDone; split <;> simp

@[simp] theorem sameMem_admitArrivals (s : State) (core : ℕ) : SameMem (admitArrivals s core) s := by
  simp [admitArrivals, apply_ite State.dram, apply_ite State.sram]

@[simp] theorem sameMem_takeBerth (s : State) (core n : ℕ) (h : Handle) : SameMem (takeBerth s core n h) s := ⟨rfl, rfl⟩

@[simp] theorem sameMem_recordTurn (s : State) (core n : ℕ) (b : Berth) : SameMem (recordTurn s core n b) s := by
  have h := sameMem_takeLoad s (loadRef core n)
  unfold recordTurn
  dsimp only
  split
  · simp
  · simp
  · simp_all
  · split <;> simp_all

@[simp] theorem sameMem_recallSaved (s : State) (t : ThreadRef) (rid : BitVec 32) : SameMem (recallSaved s t rid) s := by
  unfold recallSaved; (repeat' split) <;> simp

@[simp] theorem sameMem_enterRecord (s : State) (t : ThreadRef) (b : Berth) : SameMem (enterRecord s t b) s := by
  unfold enterRecord; (repeat' split) <;> simp

@[simp] theorem sameMem_enterContext (s : State) (t : ThreadRef) (b : Berth) (th : Thread) :
    SameMem (enterContext s t b th) s := by unfold enterContext; (repeat' split) <;> simp

@[simp] theorem sameMem_takeSlot (s : State) (core slot n : ℕ) (b : Berth) : SameMem (takeSlot s core slot n b) s := by
  unfold takeSlot; split <;> simp

/-! ### Control -/

theorem compareBody_wfMem {s : State} (h : WfMem s) (t : Bool) (p : BitVec 4) (k : BitVec 2) :
    (compareBody t p k s).All WfMem := by
  unfold compareBody
  dsimp only
  split
  · simpa using h
  · exact annul_wfMem (by simpa using h) ..

theorem jumpTo_wfMem (s : State) (target : Word) {k : State → State} (hk : WfMem (k s)) : (jumpTo s target k).All WfMem := by
  unfold jumpTo; split
  · trivial
  · exact hk

/-! ### Fabric -/

@[simp] theorem sameMem_takeLoop (s : State) (p : Packet) : SameMem (takeLoop s p) s := by unfold takeLoop; split <;> simp

theorem received_wfMem {s : State} (h : WfMem s) (p : Packet) (opc : ℕ) {k : State → State} (hk : ∀ s, WfMem s → WfMem (k s)) :
    WfMem (received s p opc k) := by
  have ht : WfMem (takeLoop s p) := by simpa using h
  exact ite_wfMem h (ite_wfMem (by simpa using ht) (ite_wfMem (by simpa using h) (ite_wfMem h
    (ite_wfMem (by simpa using ht) (hk _ ht)))))

@[simp] theorem sameMem_atHomeOf (s : State) (p : Packet) (n : ℕ) (k : ReqKind) : SameMem (atHomeOf s p n k) s := ⟨rfl, rfl⟩

@[simp] theorem sameMem_atBankOf (s : State) (p : Packet) (core bank : ℕ) (c : BankCmd) :
    SameMem (atBankOf s p core bank c) s := by simp [atBankOf]

@[simp] theorem sameMem_serveRead (s : State) (p : Packet) (kind : ℕ) : SameMem (serveRead s p kind) s := by
  unfold serveRead; dsimp only; (repeat' split) <;> simp

theorem serveWrite_wfMem {s : State} (h : WfMem s) (p : Packet) : WfMem (serveWrite s p) := by
  unfold serveWrite
  dsimp only
  refine ite_wfMem (by simpa using h) ?_
  split
  · simpa using h
  · exact ite_wfMem (by simpa using h) (by simpa using h)
  · next o _ =>
    cases hw : regWrite s hostAgent o p.opd0 (.host p) with
    | none => simpa using h
    | some s' => exact regWrite_wfMem h hw
  · simpa using h

@[simp] theorem sameMem_notePeer (s : State) (a : Access) : SameMem (notePeer s a) s := ⟨rfl, rfl⟩

theorem peerRead_wfMem {s : State} (h : WfMem s) (a : Access) (p : Packet) : WfMem (peerRead s a p) := by
  have hn : WfMem (notePeer s a) := by simpa using h
  unfold peerRead
  dsimp only
  split
  · simpa using ite_wfMem hn (prefetched_wfMem hn ..)
  · simpa using h
  · simpa using ite_wfMem hn (ite_wfMem (fillLeased_wfMem hn ..) (by simpa using h))

@[simp] theorem sameMem_peerWrote (s : State) (a : Access) : SameMem (peerWrote s a) s := by unfold peerWrote; split <;> simp

@[simp] theorem sameMem_peerFails (s : State) (a : Access) (stat : ℕ) : SameMem (peerFails s a stat) s := by
  unfold peerFails; split_ifs <;> simp

@[simp] theorem sameMem_snoopAnswered (s : State) (line : ℕ) : SameMem (snoopAnswered s line) s := ⟨rfl, rfl⟩

@[simp] theorem sameMem_sendRecordLine (s : State) (node : BitVec 16) (addr n : ℕ) (d : Line) :
    SameMem (sendRecordLine s node addr n d) s := ⟨rfl, rfl⟩

@[simp] theorem sameMem_collectRecord (s : State) (addr : Word) : SameMem (collectRecord s addr) s := by
  unfold collectRecord; dsimp only; split <;> simp

/-! ### Device -/

@[simp] theorem sameMem_poisonL2 (s : State) (die pa : ℕ) : SameMem (poisonL2 s die pa) s := by
  unfold poisonL2; dsimp only; split <;> simp

@[simp] theorem sameMem_poisonL1 (s : State) (core bank set : ℕ) : SameMem (poisonL1 s core bank set) s := ⟨rfl, rfl⟩

@[simp] theorem sameMem_poisonBank (s : State) (core bank line : ℕ) : SameMem (poisonBank s core bank line) s := by
  unfold poisonBank; split <;> simp

@[simp] theorem sameMem_poisonLlc (s : State) (line : ℕ) : SameMem (poisonLlc s line) s := by unfold poisonLlc; split <;> simp

@[simp] theorem sameMem_countCodewords (s : State) (die : ℕ) : SameMem (countCodewords s die) s := ⟨rfl, rfl⟩

/-! ### Fp -/

@[simp] theorem sameMem_putF (s : State) (d : Reg) (x : ℕ × BitVec 5) : SameMem (putF s d x) s := by simp [putF]

/-! ### Scalar -/

theorem form3_wfMem {s : State} (h : WfMem s) (f : Word → Word → Word) (i : Instr) (d a b : Reg) :
    (form3 f i d a b s).All WfMem := by
  simpa [form3] using h

theorem form2_wfMem {s : State} (h : WfMem s) (f : Word → Word) (i : Instr) (d a : Reg) :
    (form2 f i d a s).All WfMem := by
  simpa [form2] using h

/-! ### ThreadEvents -/

@[simp] theorem sameMem_copyAgain (s : State) (t : ThreadRef) (n : ℕ) : SameMem (copyAgain s t n) s := by
  unfold copyAgain
  dsimp only
  split
  · simp
  · next g i _ =>
    have h := sameMem_inputTurn s t.core (loadRef t.core (2 + t.slot)) g i n
    split
    · simp
    · split <;> simp_all

@[simp] theorem sameMem_served (s : State) (t : ThreadRef) (a : Park) : SameMem (served s t a) s := by
  unfold served; split <;> simp

@[simp] theorem sameMem_sendRider (s : State) (t : ThreadRef) (dst : ℕ) (ctx : Thread) (go : Bool) :
    SameMem (sendRider s t dst ctx go) s := by unfold sendRider; split <;> simp

@[simp] theorem sameMem_riderReaches (s : State) (core : ℕ) (x : Travel) (ctx : Thread) :
    SameMem (riderReaches s core x ctx) s := by unfold riderReaches; dsimp only; split <;> simp

@[simp] theorem sameMem_riderArrives (s : State) (x : Travel) : SameMem (riderArrives s x) s := by
  unfold riderArrives; dsimp only; split <;> simp

/-! ### Vector -/

@[simp] theorem sameMem_pushStore (s : State) (w : ℕ) (l : List LaneResult) : SameMem (pushStore s w l) s := ⟨rfl, rfl⟩

@[simp] theorem sameMem_putLanes (s : State) (d : Reg) (int : Bool) (mask : ℕ) (rs : List LaneResult) :
    SameMem (putLanes s d int mask rs) s := by unfold putLanes; dsimp only; split_ifs <;> simp

/-! ### The arms -/

/-- If the answer goes on, both memories of the state that it goes on to are in canonical form. -/
def WfAnswer : Answer → Prop
  | .next s => WfMem s
  | _ => True

theorem next_wfMem {s : State} (h : WfMem s) : WfAnswer (.next s) := h

theorem execLd_wfAnswer {s : State} (h : WfMem s) (m : Mark) (d a : Reg) (p : BitVec 3) (z : BitVec 2) (o : BitVec 10) :
    WfAnswer (execLd m d a p z o s) := by
  refine next_wfMem (unit_wfMem h ?_)
  dsimp only
  split
  · trivial
  · exact beginAccess_wfMem (by simpa using h) ..

theorem execSt_wfAnswer {s : State} (h : WfMem s) (m : Mark) (d a : Reg) (p : BitVec 3) (z : BitVec 2) (o : BitVec 10) :
    WfAnswer (execSt m d a p z o s) := by
  refine next_wfMem (unit_wfMem h ?_)
  dsimp only
  split
  · trivial
  · exact beginAccess_wfMem (by simpa using h) ..

theorem execLdv_wfAnswer {s : State} (h : WfMem s) (m : Mark) (d a : Reg) (p : BitVec 3) (o : BitVec 10) :
    WfAnswer (execLdv m d a p o s) := by
  refine next_wfMem (unit_wfMem h ?_)
  dsimp only
  split
  · trivial
  · exact beginAccess_wfMem (by simpa using h) ..

theorem execStv_wfAnswer {s : State} (h : WfMem s) (m : Mark) (d a : Reg) (p : BitVec 3) (o : BitVec 10) :
    WfAnswer (execStv m d a p o s) := by
  refine next_wfMem (unit_wfMem h ?_)
  dsimp only
  split
  · trivial
  · exact beginAccess_wfMem (by simpa using h) ..

theorem atomicUnit_wfAnswer {s : State} (h : WfMem s) (i : Instr) (op : ℕ) (d a : Reg) (p : BitVec 3) (z : BitVec 1)
    (o : BitVec 4) : WfAnswer (atomicUnit i op d a p z o s) := by
  refine next_wfMem (unit_wfMem h ?_)
  dsimp only
  generalize (if z = 0 then 4 else 8) = size
  split
  · trivial
  · exact beginAccess_wfMem (ite_wfMem (by simpa using h) (by simpa using h)) ..

theorem execAadd_wfAnswer {s : State} (h : WfMem s) (m : Mark) (d a : Reg) (p : BitVec 3) (z : BitVec 1) (o : BitVec 4) :
    WfAnswer (execAadd m d a p z o s) := atomicUnit_wfAnswer h ..

theorem execAand_wfAnswer {s : State} (h : WfMem s) (m : Mark) (d a : Reg) (p : BitVec 3) (z : BitVec 1) (o : BitVec 4) :
    WfAnswer (execAand m d a p z o s) := atomicUnit_wfAnswer h ..

theorem execAor_wfAnswer {s : State} (h : WfMem s) (m : Mark) (d a : Reg) (p : BitVec 3) (z : BitVec 1) (o : BitVec 4) :
    WfAnswer (execAor m d a p z o s) := atomicUnit_wfAnswer h ..

theorem execAxor_wfAnswer {s : State} (h : WfMem s) (m : Mark) (d a : Reg) (p : BitVec 3) (z : BitVec 1) (o : BitVec 4) :
    WfAnswer (execAxor m d a p z o s) := atomicUnit_wfAnswer h ..

theorem execAmin_wfAnswer {s : State} (h : WfMem s) (m : Mark) (d a : Reg) (p : BitVec 3) (z : BitVec 1) (o : BitVec 4) :
    WfAnswer (execAmin m d a p z o s) := atomicUnit_wfAnswer h ..

theorem execAmax_wfAnswer {s : State} (h : WfMem s) (m : Mark) (d a : Reg) (p : BitVec 3) (z : BitVec 1) (o : BitVec 4) :
    WfAnswer (execAmax m d a p z o s) := atomicUnit_wfAnswer h ..

theorem execAswp_wfAnswer {s : State} (h : WfMem s) (m : Mark) (d a : Reg) (p : BitVec 3) (z : BitVec 1) (o : BitVec 4) :
    WfAnswer (execAswp m d a p z o s) := atomicUnit_wfAnswer h ..

theorem execAcas_wfAnswer {s : State} (h : WfMem s) (m : Mark) (d a : Reg) (p : BitVec 3) (z : BitVec 1) (o : BitVec 4) :
    WfAnswer (execAcas m d a p z o s) := atomicUnit_wfAnswer h ..

theorem execAfadd_wfAnswer {s : State} (h : WfMem s) (m : Mark) (d a : Reg) (p : BitVec 3) (z : BitVec 1) (o : BitVec 4) :
    WfAnswer (execAfadd m d a p z o s) := atomicUnit_wfAnswer h ..

theorem rangeUnit_wfAnswer {s : State} (h : WfMem s) (i : Instr) (fn : ℕ) (a b : Reg) : WfAnswer (rangeUnit i fn a b s) := by
  refine next_wfMem (unit_wfMem h ?_)
  dsimp only
  split
  · trivial
  split
  · exact h
  · simpa using h

theorem execClean_wfAnswer {s : State} (h : WfMem s) (m : Mark) (a b : Reg) :
    WfAnswer (execClean m a b s) := rangeUnit_wfAnswer h ..

theorem execInval_wfAnswer {s : State} (h : WfMem s) (m : Mark) (a b : Reg) :
    WfAnswer (execInval m a b s) := rangeUnit_wfAnswer h ..

theorem execFlush_wfAnswer {s : State} (h : WfMem s) (m : Mark) (a b : Reg) :
    WfAnswer (execFlush m a b s) := rangeUnit_wfAnswer h ..

theorem execPref_wfAnswer {s : State} (h : WfMem s) (m : Mark) (d a b : Reg) : WfAnswer (execPref m d a b s) := by
  refine next_wfMem (unit_wfMem h ?_)
  dsimp only
  (repeat' split) <;> simpa using h

theorem bankUnit_wfAnswer {s : State} (h : WfMem s) (i : Instr) (a : Reg) (cmd : State → BankCmd) (kind : OutKind)
    (file : RegFile) (d : Reg) (store : Bool) : WfAnswer (bankUnit i a cmd kind file d store s) :=
  next_wfMem (unit_wfMem h (beginAccess_wfMem (by simpa using h) ..))

theorem execBpush_wfAnswer {s : State} (h : WfMem s) (m : Mark) (d a : Reg) (z : BitVec 2) (v : BitVec 1) :
    WfAnswer (execBpush m d a z v s) := by
  unfold execBpush
  exact bankUnit_wfAnswer h ..

theorem execBpushn_wfAnswer {s : State} (h : WfMem s) (m : Mark) (d a : Reg) (n : BitVec 2) (z : BitVec 2) (v : BitVec 1) :
    WfAnswer (execBpushn m d a n z v s) := by
  unfold execBpushn
  exact bankUnit_wfAnswer h ..

theorem execBpop_wfAnswer {s : State} (h : WfMem s) (m : Mark) (d a : Reg) (z : BitVec 2) (v : BitVec 1) :
    WfAnswer (execBpop m d a z v s) := by
  unfold execBpop
  exact bankUnit_wfAnswer h ..

theorem execBpeek_wfAnswer {s : State} (h : WfMem s) (m : Mark) (d a : Reg) (z : BitVec 2) (v : BitVec 1) :
    WfAnswer (execBpeek m d a z v s) := by
  unfold execBpeek
  exact bankUnit_wfAnswer h ..

theorem execBmput_wfAnswer {s : State} (h : WfMem s) (m : Mark) (d a b : Reg) : WfAnswer (execBmput m d a b s) := by
  unfold execBmput
  exact bankUnit_wfAnswer h ..

theorem execBmget_wfAnswer {s : State} (h : WfMem s) (m : Mark) (d a b : Reg) : WfAnswer (execBmget m d a b s) := by
  unfold execBmget
  exact bankUnit_wfAnswer h ..

theorem execBmdel_wfAnswer {s : State} (h : WfMem s) (m : Mark) (d a b : Reg) : WfAnswer (execBmdel m d a b s) := by
  unfold execBmdel
  exact bankUnit_wfAnswer h ..

theorem execBhput_wfAnswer {s : State} (h : WfMem s) (m : Mark) (d a : Reg) : WfAnswer (execBhput m d a s) := by
  unfold execBhput
  exact bankUnit_wfAnswer h ..

theorem execBhpop_wfAnswer {s : State} (h : WfMem s) (m : Mark) (d a : Reg) : WfAnswer (execBhpop m d a s) := by
  unfold execBhpop
  exact bankUnit_wfAnswer h ..

theorem execBhtop_wfAnswer {s : State} (h : WfMem s) (m : Mark) (d a : Reg) : WfAnswer (execBhtop m d a s) := by
  unfold execBhtop
  exact bankUnit_wfAnswer h ..

theorem execBgadd_wfAnswer {s : State} (h : WfMem s) (m : Mark) (d a b : Reg) (o : BitVec 1) :
    WfAnswer (execBgadd m d a b o s) := by
  unfold execBgadd
  exact bankUnit_wfAnswer h ..

theorem execBgrd_wfAnswer {s : State} (h : WfMem s) (m : Mark) (d a b : Reg) : WfAnswer (execBgrd m d a b s) := by
  unfold execBgrd
  exact bankUnit_wfAnswer h ..

theorem execBgclr_wfAnswer {s : State} (h : WfMem s) (m : Mark) (a b : Reg) (l : BitVec 1) : WfAnswer (execBgclr m a b l s) := by
  unfold execBgclr
  exact bankUnit_wfAnswer h ..

theorem execBpset_wfAnswer {s : State} (h : WfMem s) (m : Mark) (d a b : Reg) : WfAnswer (execBpset m d a b s) := by
  unfold execBpset
  exact bankUnit_wfAnswer h ..

theorem execBlink_wfAnswer {s : State} (h : WfMem s) (m : Mark) (a b : Reg) (c : BitVec 4) : WfAnswer (execBlink m a b c s) := by
  unfold execBlink
  exact bankUnit_wfAnswer h ..

theorem execBstat_wfAnswer {s : State} (h : WfMem s) (m : Mark) (d a : Reg) : WfAnswer (execBstat m d a s) := by
  unfold execBstat
  exact bankUnit_wfAnswer h ..

theorem execBvadd_wfAnswer {s : State} (h : WfMem s) (m : Mark) (a b c : Reg) (t : BitVec 1) :
    WfAnswer (execBvadd m a b c t s) := by
  unfold execBvadd
  exact bankUnit_wfAnswer h ..

theorem execBvmul_wfAnswer {s : State} (h : WfMem s) (m : Mark) (d a b : Reg) (t : BitVec 1) :
    WfAnswer (execBvmul m d a b t s) := by
  unfold execBvmul
  exact bankUnit_wfAnswer h ..

theorem execBvfma_wfAnswer {s : State} (h : WfMem s) (m : Mark) (d a b c : Reg) (t : BitVec 1) :
    WfAnswer (execBvfma m d a b c t s) := by
  unfold execBvfma
  exact bankUnit_wfAnswer h ..

theorem execBvfill_wfAnswer {s : State} (h : WfMem s) (m : Mark) (a b c : Reg) : WfAnswer (execBvfill m a b c s) := by
  unfold execBvfill
  exact bankUnit_wfAnswer h ..

theorem execBvcvt_wfAnswer {s : State} (h : WfMem s) (m : Mark) (a b : Reg) (r : BitVec 1) : WfAnswer (execBvcvt m a b r s) := by
  unfold execBvcvt
  exact bankUnit_wfAnswer h ..

theorem execBvsum_wfAnswer {s : State} (h : WfMem s) (m : Mark) (d a b : Reg) (t : BitVec 1) :
    WfAnswer (execBvsum m d a b t s) := by
  unfold execBvsum
  exact bankUnit_wfAnswer h ..

theorem execBvrmax_wfAnswer {s : State} (h : WfMem s) (m : Mark) (d a b : Reg) (t : BitVec 1) :
    WfAnswer (execBvrmax m d a b t s) := by
  unfold execBvrmax
  exact bankUnit_wfAnswer h ..

theorem execBsmx_wfAnswer {s : State} (h : WfMem s) (m : Mark) (a b : Reg) : WfAnswer (execBsmx m a b s) := by
  unfold execBsmx
  exact bankUnit_wfAnswer h ..

theorem execBankOperation_wfAnswer {s : State} (h : WfMem s) (core bank : ℕ) : WfAnswer (execBankOperation core bank s) :=
  takeTurn_wfMem h ..

theorem execPinAccept_wfAnswer {s : State} (h : WfMem s) (core bank : ℕ) : WfAnswer (execPinAccept core bank s) :=
  takeTurn_wfMem h ..

theorem execBankAluLineStep_wfAnswer {s : State} (h : WfMem s) (core bank : ℕ) :
    WfAnswer (execBankAluLineStep core bank s) := aluTurn_wfMem h ..

theorem execHeldWriteProceed_wfAnswer {s : State} (h : WfMem s) (core bank : ℕ) :
    WfAnswer (execHeldWriteProceed core bank s) := ite_wfMem (aluTurn_wfMem h ..) (takeTurn_wfMem h ..)

theorem execPersonalityChange_wfAnswer {s : State} (h : WfMem s) (core bank : ℕ) :
    WfAnswer (execPersonalityChange core bank s) := by
  unfold execPersonalityChange
  refine next_wfMem ?_
  split
  · exact h
  · next u _ =>
    dsimp only
    refine ite_wfMem h (ite_wfMem (by simpa using h) ?_)
    have hc := changeNow_wfMem (s := modBank s core bank fun b => { b with chg := none }) (by simpa using h)
      (bankOf u.req.addr).1 (bankOf u.req.addr).2 u.p u.mode
    refine ite_wfMem (carveDone_wfMem (by simpa using hc) _) ?_
    cases u.req.cmd <;> simpa using hc

theorem execLink_wfAnswer {s : State} (h : WfMem s) (core bank : ℕ) : WfAnswer (execLink core bank s) := by
  unfold execLink
  refine next_wfMem ?_
  split
  · exact h
  · exact ite_wfMem h (ite_wfMem (by simpa using linkNow_wfMem (by simpa using h) ..) (by simpa using h))

theorem execFenceAcq_wfAnswer {s : State} (h : WfMem s) (m : Mark) (sc : BitVec 3) : WfAnswer (execFenceAcq m sc s) :=
  next_wfMem (unit_wfMem h (acquireFence_wfMem h _))

theorem execFenceRel_wfAnswer {s : State} (h : WfMem s) (m : Mark) (sc : BitVec 3) :
    WfAnswer (execFenceRel m sc s) := next_wfMem (unit_wfMem h (by simpa using h))

theorem execFenceFull_wfAnswer {s : State} (h : WfMem s) (m : Mark) (sc : BitVec 3) : WfAnswer (execFenceFull m sc s) :=
  next_wfMem (unit_wfMem h (withRelease_wfMem h _ fun _ hs => acquireFence_wfMem hs _))

theorem execBar_wfAnswer {s : State} (h : WfMem s) (m : Mark) (d a b : Reg) (sc : BitVec 3) :
    WfAnswer (execBar m d a b sc s) := by
  refine next_wfMem (unit_wfMem h (barrierCheck_wfMem _ _ fun obj => ?_))
  split
  · trivial
  · trivial
  split
  · split
    · exact leavePhase_wfMem h ..
    · exact h
  · exact arrive_wfMem h ..

theorem execBara_wfAnswer {s : State} (h : WfMem s) (m : Mark) (d a b : Reg) (sc : BitVec 3) :
    WfAnswer (execBara m d a b sc s) := by
  refine next_wfMem (unit_wfMem h (barrierCheck_wfMem _ _ fun obj => ?_))
  split
  · trivial
  · exact arrive_wfMem h ..

theorem execBarw_wfAnswer {s : State} (h : WfMem s) (m : Mark) (d a : Reg) (sc : BitVec 3) :
    WfAnswer (execBarw m d a sc s) :=
  next_wfMem (unit_wfMem h (barrierCheck_wfMem _ _ fun _ => leavePhase_wfMem h ..))

theorem execBarx_wfAnswer {s : State} (h : WfMem s) (m : Mark) (d a b : Reg) (sc : BitVec 3) :
    WfAnswer (execBarx m d a b sc s) := by
  refine next_wfMem (unit_wfMem h (barrierCheck_wfMem _ _ fun obj => ?_))
  dsimp only
  split
  · trivial
  split
  · simpa using h
  · simpa using h

theorem execBarq_wfAnswer {s : State} (h : WfMem s) (m : Mark) (d a : Reg) (sc : BitVec 3) :
    WfAnswer (execBarq m d a sc s) :=
  next_wfMem (unit_wfMem h (barrierCheck_wfMem _ _ fun _ => by simpa using h))

theorem execSend_wfAnswer {s : State} (h : WfMem s) (m : Mark) (d a b : Reg) (md : BitVec 1) :
    WfAnswer (execSend m d a b md s) := by
  refine next_wfMem (unit_wfMem h ?_)
  dsimp only
  split
  · simpa using h
  · exact h
  split
  · trivial
  · exact pastFences_wfMem h (by simpa using h)

theorem execRecv_wfAnswer {s : State} (h : WfMem s) (m : Mark) (d : Reg) : WfAnswer (execRecv m d s) := by
  refine next_wfMem (unit_wfMem h (pastFences_wfMem h ?_))
  dsimp only
  split <;> simpa using h

theorem execWaitm_wfAnswer {s : State} (h : WfMem s) (m : Mark) : WfAnswer (execWaitm m s) := by
  refine next_wfMem (unit_wfMem h ?_)
  (repeat' split) <;> simpa using h

theorem execMbput_wfAnswer {s : State} (h : WfMem s) (m : Mark) (d a b : Reg) (md : BitVec 1) :
    WfAnswer (execMbput m d a b md s) := by
  refine next_wfMem (unit_wfMem h (pastFences_wfMem h ?_))
  dsimp only
  split
  · exact ite_wfMem (by simpa using h) (by simpa using h)
  split <;> simpa using h

theorem execMbget_wfAnswer {s : State} (h : WfMem s) (m : Mark) (d a b : Reg) (md : BitVec 1) :
    WfAnswer (execMbget m d a b md s) := by
  refine next_wfMem (unit_wfMem h (pastFences_wfMem h ?_))
  dsimp only
  split
  · exact ite_wfMem (by simpa using h) (by simpa using h)
  split <;> simpa using h

theorem execChainSet_wfAnswer {s : State} (h : WfMem s) (m : Mark) (a : Reg) : WfAnswer (execChainSet m a s) := by
  refine next_wfMem (unit_wfMem h ?_)
  dsimp only
  split <;> simpa using h

theorem execChainRel_wfAnswer {s : State} (h : WfMem s) (m : Mark) (a : Reg) : WfAnswer (execChainRel m a s) := by
  refine next_wfMem (unit_wfMem h ?_)
  dsimp only
  split
  · trivial
  · refine withRelease_wfMem h _ fun s' hs => ?_
    split <;> simpa using hs

theorem execChainAcq_wfAnswer {s : State} (h : WfMem s) (m : Mark) (d : Reg) : WfAnswer (execChainAcq m d s) := by
  refine next_wfMem (unit_wfMem h ?_)
  split
  · trivial
  split
  · exact phaseFence_wfMem h _
  split
  · exact h
  · next hp =>
    have hs := sameMem_popOne hp
    exact phaseFence_wfMem (by simp_all) _

theorem execMessageInsert_wfAnswer {s : State} (h : WfMem s) (core : Nat) : WfAnswer (execMessageInsert core s) := by
  unfold execMessageInsert
  refine next_wfMem ?_
  dsimp only
  (repeat' split) <;> simpa using h

theorem execSendAnswer_wfAnswer {s : State} (h : WfMem s) (t : ThreadRef) : WfAnswer (execSendAnswer t s) := by
  unfold execSendAnswer
  refine next_wfMem ?_
  (repeat' split) <;> simpa using h

theorem execSendRetry_wfAnswer {s : State} (h : WfMem s) (t : ThreadRef) : WfAnswer (execSendRetry t s) := by
  unfold execSendRetry
  refine next_wfMem ?_
  split <;> simpa using h

theorem execNop_wfAnswer {s : State} (h : WfMem s) : WfAnswer (execNop s) := next_wfMem (unit_wfMem h (by simpa using h))

theorem execBrk_wfAnswer {s : State} (h : WfMem s) (m : Mark) (c : BitVec 10) : WfAnswer (execBrk m c s) :=
  next_wfMem (unit_wfMem h trivial)

theorem execTrap_wfAnswer {s : State} (h : WfMem s) (m : Mark) (c : BitVec 8) : WfAnswer (execTrap m c s) := by
  refine next_wfMem (unit_wfMem h ?_)
  (repeat' split) <;> simpa using h

theorem execEret_wfAnswer {s : State} (h : WfMem s) (m : Mark) : WfAnswer (execEret m s) := by
  refine next_wfMem (unit_wfMem h ?_)
  dsimp only
  (repeat' split) <;> simpa using h

theorem execRdsys_wfAnswer {s : State} (h : WfMem s) (m : Mark) (d : Reg) (n : BitVec 10) : WfAnswer (execRdsys m d n s) := by
  refine next_wfMem (unit_wfMem h ?_)
  (repeat' split) <;> simpa using h

theorem execWrsys_wfAnswer {s : State} (h : WfMem s) (m : Mark) (d : Reg) (n : BitVec 10) : WfAnswer (execWrsys m d n s) := by
  refine next_wfMem (unit_wfMem h ?_)
  dsimp only
  split
  · trivial
  split
  · exact h
  split
  · simpa using h
  split
  · simpa using h
  split
  · split
    · trivial
    · simpa using h
  split
  · exact writeAndWait_wfMem h fun _ _ hs => carveWrite_wfMem hs ..
  split
  · simpa using h
  split
  · simpa using h
  split
  · exact writeAndWait_wfMem h fun _ _ hs => by simpa using hs
  split <;> simpa using h

theorem execSusp_wfAnswer {s : State} (h : WfMem s) (m : Mark) (a : Reg) : WfAnswer (execSusp m a s) :=
  next_wfMem (unit_wfMem h (slotControl_wfMem _ _ _ fun _ => by simpa using h))

theorem execResm_wfAnswer {s : State} (h : WfMem s) (m : Mark) (a : Reg) : WfAnswer (execResm m a s) :=
  next_wfMem (unit_wfMem h (slotControl_wfMem _ _ _ fun _ => by simpa using h))

theorem execRdslot_wfAnswer {s : State} (h : WfMem s) (m : Mark) (d a : Reg) : WfAnswer (execRdslot m d a s) :=
  next_wfMem (unit_wfMem h (slotControl_wfMem _ _ _ fun t => whenSettled_wfMem h t fun _ hs => by simpa using hs))

theorem execWrslot_wfAnswer {s : State} (h : WfMem s) (m : Mark) (d a : Reg) : WfAnswer (execWrslot m d a s) :=
  next_wfMem (unit_wfMem h (slotControl_wfMem _ _ _ fun t => whenSettled_wfMem h t fun _ hs => by simpa using hs))

theorem execTableWalk_wfAnswer {s : State} (h : WfMem s) (die entry : ℕ) : WfAnswer (execTableWalk die entry s) := by
  unfold execTableWalk
  refine next_wfMem ?_
  split
  · exact h
  · next e _ =>
    refine ite_wfMem h ?_
    split
    · next l _ =>
      have hd := setDirty_wfMem h (.walk die entry) (ctxNs e.ctx) l
      split <;> simp_all
    · have hw := walkNow_wfMem h (.walk die entry) e.ctx (e.vpn * 65536) (entryStores s e)
      split <;> simp_all

theorem execReplay_wfAnswer {s : State} (h : WfMem s) (die entry : Nat) :
    WfAnswer (execReplay die entry s) := next_wfMem (by simpa using h)

theorem execFaultAction_wfAnswer {s : State} (h : WfMem s) (die entry : Nat) :
    WfAnswer (execFaultAction die entry s) := next_wfMem (by simpa using h)

theorem engineUnit_wfAnswer {s : State} (h : WfMem s) (i : Instr) (kind : CmdKind) (al : ℕ) (aligned : State → List Word)
    (d : State → Word) (srcs : State → List Word) (b : Reg) : WfAnswer (engineUnit i kind al aligned d srcs b s) := by
  refine next_wfMem (unit_wfMem h ?_)
  dsimp only
  split
  · trivial
  split
  · trivial
  split
  · trivial
  split
  · exact h
  · simpa using h

theorem rowUnit_wfAnswer {s : State} (h : WfMem s) (i : Instr) (fn : ℕ) (d : Reg) (srcs : List ℕ) (b : Reg) :
    WfAnswer (rowUnit i fn d srcs b s) := engineUnit_wfAnswer h ..

theorem execRowcpy_wfAnswer {s : State} (h : WfMem s) (m : Mark) (d a b : Reg) :
    WfAnswer (execRowcpy m d a b s) := rowUnit_wfAnswer h ..

theorem execRowset_wfAnswer {s : State} (h : WfMem s) (m : Mark) (d b : Reg) :
    WfAnswer (execRowset m d b s) := rowUnit_wfAnswer h ..

theorem execRowand_wfAnswer {s : State} (h : WfMem s) (m : Mark) (d a b : Reg) :
    WfAnswer (execRowand m d a b s) := rowUnit_wfAnswer h ..

theorem execRowor_wfAnswer {s : State} (h : WfMem s) (m : Mark) (d a b : Reg) :
    WfAnswer (execRowor m d a b s) := rowUnit_wfAnswer h ..

theorem execRowxor_wfAnswer {s : State} (h : WfMem s) (m : Mark) (d a b : Reg) :
    WfAnswer (execRowxor m d a b s) := rowUnit_wfAnswer h ..

theorem execRownot_wfAnswer {s : State} (h : WfMem s) (m : Mark) (d a b : Reg) :
    WfAnswer (execRownot m d a b s) := rowUnit_wfAnswer h ..

theorem execRowmaj_wfAnswer {s : State} (h : WfMem s) (m : Mark) (d a b : Reg) :
    WfAnswer (execRowmaj m d a b s) := rowUnit_wfAnswer h ..

theorem execCpy_wfAnswer {s : State} (h : WfMem s) (m : Mark) (d a b : Reg) :
    WfAnswer (execCpy m d a b s) := engineUnit_wfAnswer h ..

theorem execWalk_wfAnswer {s : State} (h : WfMem s) (m : Mark) (d a b : Reg) :
    WfAnswer (execWalk m d a b s) := engineUnit_wfAnswer h ..

theorem execMxv_wfAnswer {s : State} (h : WfMem s) (m : Mark) (d a b : Reg) : WfAnswer (execMxv m d a b s) := by
  refine next_wfMem (unit_wfMem h ?_)
  dsimp only
  (repeat' split) <;> simpa using h

theorem execQld_wfAnswer {s : State} (h : WfMem s) (m : Mark) (a : Reg) (n : BitVec 1) : WfAnswer (execQld m a n s) := by
  refine next_wfMem (unit_wfMem h ?_)
  dsimp only
  refine Res.all_ite trivial (Res.all_ite h ?_)
  exact beginAccess_wfMem (ite_wfMem (by simpa using h) (by simpa using h)) ..

theorem execQst_wfAnswer {s : State} (h : WfMem s) (m : Mark) (a : Reg) (n : BitVec 1) : WfAnswer (execQst m a n s) := by
  refine next_wfMem (unit_wfMem h ?_)
  dsimp only
  split
  · exact h
  split
  · trivial
  · exact beginAccess_wfMem (ite_wfMem (by simpa using h) (by simpa using h)) ..

theorem execRowStep_wfAnswer {s : State} (h : WfMem s) (core cmd : ℕ) : WfAnswer (execRowStep core cmd s) := by
  unfold execRowStep
  refine next_wfMem ?_
  split
  · exact h
  split
  · exact rowTurn_wfMem (by simpa using h) ..
  · exact h

theorem execCopyEngineTurn_wfAnswer {s : State} (h : WfMem s) (stack : ℕ) : WfAnswer (execCopyEngineTurn stack s) := by
  unfold execCopyEngineTurn
  refine next_wfMem ?_
  split
  · exact h
  split
  · exact ite_wfMem (rowStepNow_wfMem (by simpa using h) _) h
  · exact copyCommandTurn_wfMem h ..

theorem execTraversalHop_wfAnswer {s : State} (h : WfMem s) (core cmd : ℕ) : WfAnswer (execTraversalHop core cmd s) := by
  unfold execTraversalHop
  refine next_wfMem ?_
  split
  · exact h
  · next c _ =>
    refine ite_wfMem h ?_
    split
    · simpa using h
    · next a n _ =>
      refine ite_wfMem (by simpa using h) ?_
      extract_lets ctx
      have he := sameMem_engineDram s core cmd ctx c.priv a Need.load 1
      generalize engineDram s core cmd ctx c.priv a Need.load 1 = x at he ⊢
      cases x with
      | later s1 => simp_all
      | fail s1 k => simp_all
      | ok s1 pa =>
        have h1 : WfMem s1 := by simp_all
        have hr := readLines_wfMem h1 (.engine c.id) (ctxNs ctx) [homeLine pa]
        refine ite_wfMem (by simpa using h1) ?_
        generalize readLines s1 (.engine c.id) (ctxNs ctx) [homeLine pa] = y at hr ⊢
        cases y with
        | wait s2 => exact hr
        | fail s2 k => simpa using hr
        | got s2 ls bad => exact ite_wfMem (by simpa using hr) (by simpa using hr)

theorem execMxvEntryReserve_wfAnswer {s : State} (h : WfMem s) (core : ℕ) : WfAnswer (execMxvEntryReserve core s) := by
  unfold execMxvEntryReserve
  refine next_wfMem ?_
  split
  · exact h
  next n _ =>
  split
  · exact h
  refine ite_wfMem h ?_
  split
  · refine ite_wfMem h ?_
    extract_lets c'
    have hr := mxvEntryRows_wfMem h core n (mxvRows c'.d) 16 c'
    split <;> next heq => simpa [heq] using hr
  · simpa using h
  · exact h

theorem execMxvAccept_wfAnswer {s : State} (h : WfMem s) (core : ℕ) : WfAnswer (execMxvAccept core s) := by
  unfold execMxvAccept
  refine next_wfMem ?_
  split
  · exact h
  · exact takeTurn_wfMem h ..

theorem execEngineCompletion_wfAnswer {s : State} (h : WfMem s) (core cmd : Nat) :
    WfAnswer (execEngineCompletion core cmd s) := by
  unfold execEngineCompletion
  refine next_wfMem ?_
  dsimp only
  (repeat' split) <;> simpa using h

theorem execEngineResume_wfAnswer {s : State} (h : WfMem s) (core cmd : Nat) :
    WfAnswer (execEngineResume core cmd s) := next_wfMem (by simpa using h)

theorem execEngineEnd_wfAnswer {s : State} (h : WfMem s) (core cmd : Nat) :
    WfAnswer (execEngineEnd core cmd s) := next_wfMem (by simpa using h)

theorem execResumeThread_wfAnswer {s : State} (h : WfMem s) (t : ThreadRef) :
    WfAnswer (execResumeThread t s) := next_wfMem (by simpa using h)

theorem execEndThread_wfAnswer {s : State} (h : WfMem s) (t : ThreadRef) :
    WfAnswer (execEndThread t s) := next_wfMem (by simpa using h)

theorem execAccessPortGo_wfAnswer {s : State} (h : WfMem s) (t : ThreadRef) (v : Word) : WfAnswer (execAccessPortGo t v s) := by
  unfold execAccessPortGo
  refine next_wfMem ?_
  split <;> simpa using h

theorem execAccessPortDone_wfAnswer {s : State} (h : WfMem s) (t : ThreadRef) : WfAnswer (execAccessPortDone t s) := by
  unfold execAccessPortDone
  refine next_wfMem ?_
  dsimp only
  (repeat' split) <;> simpa using h

theorem execSpawn_wfAnswer {s : State} (h : WfMem s) (m : Mark) (d a b : Reg) : WfAnswer (execSpawn m d a b s) := by
  refine next_wfMem (unit_wfMem h ?_)
  dsimp only
  (repeat' split) <;> simpa using h

theorem execYield_wfAnswer {s : State} (h : WfMem s) (m : Mark) : WfAnswer (execYield m s) := by
  refine next_wfMem (unit_wfMem h ?_)
  dsimp only
  split <;> simpa using h

theorem execExit_wfAnswer {s : State} (h : WfMem s) (m : Mark) : WfAnswer (execExit m s) :=
  next_wfMem (unit_wfMem h (withRelease_wfMem h _ fun _ hs => by simpa using hs))

theorem execTrig_wfAnswer {s : State} (h : WfMem s) (m : Mark) : WfAnswer (execTrig m s) := by
  refine next_wfMem (unit_wfMem h (withRelease_wfMem h _ fun s' hs => ?_))
  dsimp only
  split
  · exact ite_wfMem (by simpa using hs) (by simpa using hs)
  · simpa using hs

theorem execGwait_wfAnswer {s : State} (h : WfMem s) (m : Mark) : WfAnswer (execGwait m s) := by
  refine next_wfMem (unit_wfMem h ?_)
  split
  · exact h
  split
  · exact h
  · exact acquireFence_wfMem h _

theorem execMigrate_wfAnswer {s : State} (h : WfMem s) (m : Mark) (a : Reg) : WfAnswer (execMigrate m a s) := by
  refine next_wfMem (unit_wfMem h ?_)
  dsimp only
  split <;> simpa using h

theorem execRqput_wfAnswer {s : State} (h : WfMem s) (m : Mark) (d a b : Reg) : WfAnswer (execRqput m d a b s) := by
  refine next_wfMem (unit_wfMem h ?_)
  dsimp only
  (repeat' split) <;> simpa using h

theorem execFrontEndPop_wfAnswer {s : State} (h : WfMem s) : WfAnswer (execFrontEndPop s) := by
  unfold execFrontEndPop
  refine next_wfMem ?_
  dsimp only
  refine ite_wfMem ?_ (ite_wfMem h (ite_wfMem (popGroup_wfMem h) (by simpa using h)))
  split
  · exact ite_wfMem h (ite_wfMem (popGroup_wfMem (by simpa using h)) (by simpa using h))
  · exact h

theorem execBatchHandout_wfAnswer {s : State} (h : WfMem s) (die : ℕ) : WfAnswer (execBatchHandout die s) := by
  have ha : WfMem (s.grids.foldl (fun s (g : Grid) => storeArgs s g.key 4) s) :=
    foldl_wfMem _ _ (fun _ _ hs => storeArgs_wfMem hs ..) h
  unfold execBatchHandout
  refine next_wfMem ?_
  dsimp only
  refine ite_wfMem ha ?_
  split
  · exact ha
  · exact ite_wfMem ha (by simpa using ha)

theorem execGroupPlace_wfAnswer {s : State} (h : WfMem s) (die : ℕ) : WfAnswer (execGroupPlace die s) := by
  unfold execGroupPlace
  refine next_wfMem ?_
  split
  · split
    · split
      · exact ite_wfMem h (placeGroup_wfMem (by simpa using h) ..)
      · exact h
    · exact h
  · exact h

theorem execGridComplete_wfAnswer {s : State} (h : WfMem s) (gid : Nat) : WfAnswer (execGridComplete gid s) := by
  unfold execGridComplete
  refine next_wfMem ?_
  dsimp only
  (repeat' split) <;> simpa using h

theorem execPilotElection_wfAnswer {s : State} (h : WfMem s) : WfAnswer (execPilotElection s) := by
  unfold execPilotElection
  refine next_wfMem ?_
  (repeat' split) <;> simpa using h

theorem execCtxkill_wfAnswer {s : State} (h : WfMem s) (m : Mark) (a : Reg) : WfAnswer (execCtxkill m a s) := by
  refine next_wfMem (unit_wfMem h ?_)
  dsimp only
  (repeat' split) <;> simpa using h

theorem execHkill_wfAnswer {s : State} (h : WfMem s) (who : Agent) (v : Word) : WfAnswer (execHkill who v s) := by
  unfold execHkill
  refine next_wfMem ?_
  split <;> simpa using h

theorem execCtxkillComplete_wfAnswer {s : State} (h : WfMem s) (n : Nat) : WfAnswer (execCtxkillComplete n s) := by
  unfold execCtxkillComplete
  refine next_wfMem ?_
  dsimp only
  (repeat' split) <;> simpa using h

theorem execEvacGo_wfAnswer {s : State} (h : WfMem s) (who : Agent) (core : Nat) (v : Word) :
    WfAnswer (execEvacGo who core v s) := next_wfMem (by simpa using h)

theorem execEvacuationComplete_wfAnswer {s : State} (h : WfMem s) (core : ℕ) : WfAnswer (execEvacuationComplete core s) := by
  unfold execEvacuationComplete
  refine next_wfMem ?_
  split
  · exact h
  · next src tgt before _ =>
    have hm := moveCore_wfMem (s := { s with evacs := s.evacs.filter fun e => e.1 != core }) (by simpa using h) src tgt before
    exact ite_wfMem h (by simpa using hm)

theorem execFwdClear_wfAnswer {s : State} (h : WfMem s) (core : Nat) : WfAnswer (execFwdClear core s) := next_wfMem h

theorem execHomeRequest_wfAnswer {s : State} (h : WfMem s) (line : ℕ) : WfAnswer (execHomeRequest line s) :=
  next_wfMem (serveHome_wfMem (by simpa using h) _)

theorem execInvalidate_wfAnswer {s : State} (h : WfMem s) (die home : ℕ) : WfAnswer (execInvalidate die home s) :=
  next_wfMem (takeHead_wfMem h ..)

theorem execRecallWords_wfAnswer {s : State} (h : WfMem s) (die home : ℕ) : WfAnswer (execRecallWords die home s) :=
  next_wfMem (takeHead_wfMem h ..)

theorem execRecallAndDiscard_wfAnswer {s : State} (h : WfMem s) (die home : ℕ) :
    WfAnswer (execRecallAndDiscard die home s) := next_wfMem (takeHead_wfMem h ..)

theorem execReservationGrant_wfAnswer {s : State} (h : WfMem s) (line word : ℕ) :
    WfAnswer (execReservationGrant line word s) := by
  unfold execReservationGrant
  refine next_wfMem ?_
  dsimp only
  refine ite_wfMem h ?_
  have he := sameMem_enterLlc s line
  split
  · next x s1 _ heq =>
    have h1 : WfMem s1 := by simp_all
    have hb := sameMem_biasReady s1 line (.req x.req.seq) true x.req.ns x.req.bias
    generalize biasReady s1 line (.req x.req.seq) true x.req.ns x.req.bias = y at hb ⊢
    cases y with
    | yes s2 => exact startHome_wfMem (by simp_all) ..
    | wait s2 => simp_all
    | fail s2 c k => simp_all
  · simp_all
  · exact h

theorem execForwardWord_wfAnswer {s : State} (h : WfMem s) (line word : ℕ) : WfAnswer (execForwardWord line word s) := by
  unfold execForwardWord
  refine next_wfMem ?_
  extract_lets h0
  refine ite_wfMem h ?_
  split
  · exact h
  split
  · exact h
  · next x _ _ y _ =>
    extract_lets s0 held granted s1 l s2
    have hg : WfMem (granted s0) := by simpa [granted, s0] using h
    have h1 : WfMem s1 := releaseWords_wfMem (by simpa using hg) ..
    have h2 : WfMem s2 := by
      simpa [s2] using releaseWords_wfMem h1 x.req.die x.req.pa y.req.words false
    refine ite_wfMem (by simpa [s0] using h) (ite_wfMem ?_ (by simpa using h2))
    split
    · simpa using hg
    · exact hg

theorem execFillReply_wfAnswer {s : State} (h : WfMem s) (id : ℕ) : WfAnswer (execFillReply id s) := by
  unfold execFillReply
  refine next_wfMem ?_
  split
  · exact h
  split
  · exact ite_wfMem h (takeReply_wfMem (by simpa using h) ..)
  · exact h

theorem execClearance_wfAnswer {s : State} (h : WfMem s) (id : Nat) : WfAnswer (execClearance id s) := by
  unfold execClearance
  refine next_wfMem ?_
  dsimp only
  (repeat' split) <;> simpa using h

theorem execStoreAck_wfAnswer {s : State} (h : WfMem s) (id : Nat) : WfAnswer (execStoreAck id s) := by
  unfold execStoreAck
  refine next_wfMem ?_
  dsimp only
  (repeat' split) <;> simpa using h

theorem execLeaseExpiry_wfAnswer {s : State} (h : WfMem s) (place : CopyPlace) (line : Nat) :
    WfAnswer (execLeaseExpiry place line s) := by
  unfold execLeaseExpiry
  refine next_wfMem ?_
  dsimp only
  (repeat' split) <;> simpa using h

theorem execDieFence_wfAnswer {s : State} (h : WfMem s) (who : Agent) (die : ℕ) : WfAnswer (execDieFence who die s) :=
  next_wfMem (ite_wfMem (fenceDie_wfMem h _) h)

theorem execDispatcherTimeout_wfAnswer {s : State} (h : WfMem s) (die : ℕ) : WfAnswer (execDispatcherTimeout die s) :=
  next_wfMem (ite_wfMem h (fenceDie_wfMem h _))

theorem execCarveWrite_wfAnswer {s : State} (h : WfMem s) (core : ℕ) (v : Word) : WfAnswer (execCarveWrite core v s) :=
  next_wfMem (carveWrite_wfMem h ..)

theorem execCtxidWrite_wfAnswer {s : State} (h : WfMem s) (who : Agent) (core : Nat) (v : Word) :
    WfAnswer (execCtxidWrite who core v s) := by
  unfold execCtxidWrite
  refine next_wfMem ?_
  split <;> simpa using h

theorem execBpcfgWrite_wfAnswer {s : State} (h : WfMem s) (who : Agent) (core bank : Nat) (v : Word) :
    WfAnswer (execBpcfgWrite who core bank v s) := next_wfMem (by simpa using h)

theorem execVpoolWrite_wfAnswer {s : State} (h : WfMem s) (quad : ℕ) (v : Word) : WfAnswer (execVpoolWrite quad v s) := by
  unfold execVpoolWrite
  exact next_wfMem (by simpa using h)

theorem execSrtWrite_wfAnswer {s : State} (h : WfMem s) (core n : Nat) (v : Word) :
    WfAnswer (execSrtWrite core n v s) := next_wfMem (by simpa using h)

theorem execXinvWrite_wfAnswer {s : State} (h : WfMem s) (t : ThreadRef) (v : Word) : WfAnswer (execXinvWrite t v s) := by
  unfold execXinvWrite
  refine next_wfMem ?_
  split <;> simpa using h

theorem execXinvComplete_wfAnswer {s : State} (h : WfMem s) (t : ThreadRef) : WfAnswer (execXinvComplete t s) := by
  unfold execXinvComplete
  refine next_wfMem ?_
  (repeat' split) <;> simpa using h

theorem execBiasTableWrite_wfAnswer {s : State} (h : WfMem s) (index : ℕ) (v : Word) :
    WfAnswer (execBiasTableWrite index v s) := next_wfMem (biasWrite_wfMem h ..)

theorem execRsync_wfAnswer {s : State} (h : WfMem s) (v : Word) : WfAnswer (execRsync v s) := next_wfMem h

theorem execRegisterWrite_wfAnswer {s : State} (h : WfMem s) (who : Agent) (off : ℕ) (v : Word) :
    WfAnswer (execRegisterWrite who off v s) := by
  unfold execRegisterWrite
  cases hw : regWrite s who off v .agent with
  | none => exact h
  | some s' => exact regWrite_wfMem h hw

theorem execMma_wfAnswer {s : State} (h : WfMem s) (m : Mark) (d a b : Reg) : WfAnswer (execMma m d a b s) := by
  refine next_wfMem (unit_wfMem h ?_)
  dsimp only
  refine Res.all_ite trivial (Res.all_ite trivial (Res.all_ite trivial ?_))
  split
  · trivial
  · trivial
  · trivial
  refine useOwned_wfMem h _ _ fun s' hs => Res.all_ite (by simpa using hs) (Res.all_ite hs (Res.all_ite hs ?_))
  simpa using hs

theorem execMatrixStepStart_wfAnswer {s : State} (h : WfMem s) (core : Nat) : WfAnswer (execMatrixStepStart core s) := by
  unfold execMatrixStepStart
  refine next_wfMem ?_
  dsimp only
  (repeat' split) <;> simpa using h

theorem execMatrixStepEnd_wfAnswer {s : State} (h : WfMem s) (core : Nat) : WfAnswer (execMatrixStepEnd core s) := by
  unfold execMatrixStepEnd
  refine next_wfMem ?_
  split <;> simpa using h

theorem execMcommit_wfAnswer {s : State} (h : WfMem s) (m : Mark) : WfAnswer (execMcommit m s) := by
  refine next_wfMem (unit_wfMem h ?_)
  dsimp only
  split <;> simpa using h

theorem execMwaitb_wfAnswer {s : State} (h : WfMem s) (m : Mark) (d : Reg) (n : BitVec 4) : WfAnswer (execMwaitb m d n s) := by
  refine next_wfMem (unit_wfMem h ?_)
  dsimp only
  split <;> simpa using h

theorem execMstat_wfAnswer {s : State} (h : WfMem s) (m : Mark) (d b : Reg) (c : BitVec 1) :
    WfAnswer (execMstat m d b c s) := next_wfMem (unit_wfMem h (by simpa using h))

theorem execMzero_wfAnswer {s : State} (h : WfMem s) (m : Mark) (d : Reg) (k : BitVec 1) : WfAnswer (execMzero m d k s) := by
  refine next_wfMem (unit_wfMem h (kernelForm_wfMem _ _ ?_))
  refine ownedForm_wfMem h _ _ _ fun s' hs => ?_
  split
  · exact hs
  · simpa using hs

theorem execMld_wfAnswer {s : State} (h : WfMem s) (m : Mark) (d a b : Reg) (k : BitVec 1) : WfAnswer (execMld m d a b k s) := by
  refine next_wfMem (unit_wfMem h (kernelForm_wfMem _ _ (transferCheck_wfMem _ _ _ ?_)))
  refine ownedForm_wfMem h _ _ _ fun s' hs => ?_
  split
  · exact hs
  · simpa using hs

theorem execMst_wfAnswer {s : State} (h : WfMem s) (m : Mark) (d a : Reg) (k : BitVec 1) : WfAnswer (execMst m d a k s) := by
  refine next_wfMem (unit_wfMem h (kernelForm_wfMem _ _ (transferCheck_wfMem _ _ _ ?_)))
  refine ownedForm_wfMem h _ _ _ fun s' hs => ?_
  split
  · exact hs
  · simpa using hs

theorem execCbld_wfAnswer {s : State} (h : WfMem s) (m : Mark) (a b : Reg) (k : BitVec 1) : WfAnswer (execCbld m a b k s) := by
  refine next_wfMem (unit_wfMem h (kernelForm_wfMem _ _ (transferCheck_wfMem _ _ _ ?_)))
  refine ownedForm_wfMem h _ _ _ fun s' hs => ?_
  split
  · exact hs
  · simpa using hs

theorem execTileLoadDone_wfAnswer {s : State} (h : WfMem s) (id : Nat) : WfAnswer (execTileLoadDone id s) := by
  unfold execTileLoadDone
  refine next_wfMem ?_
  dsimp only
  (repeat' split) <;> simpa using h

theorem execCbldDone_wfAnswer {s : State} (h : WfMem s) (id : Nat) : WfAnswer (execCbldDone id s) := by
  unfold execCbldDone
  refine next_wfMem ?_
  dsimp only
  (repeat' split) <;> simpa using h

theorem execAcceptanceReturn_wfAnswer {s : State} (h : WfMem s) (id : ℕ) : WfAnswer (execAcceptanceReturn id s) := by
  unfold execAcceptanceReturn
  refine next_wfMem ?_
  split
  · split
    · exact portTranslate_wfMem h _
    · refine ite_wfMem (by simpa using h) ?_
      split
      · exact leave_wfMem h _
      · exact ite_wfMem (by simpa using h) (leave_wfMem (by simpa using h) _)
    · exact h
  · split
    · simpa using h
    · split
      · simpa using h
      · exact h

theorem execDeferredResultLand_wfAnswer {s : State} (h : WfMem s) (id : Nat) : WfAnswer (execDeferredResultLand id s) := by
  unfold execDeferredResultLand
  refine next_wfMem ?_
  (repeat' split) <;> simpa using h

theorem execQldDataArrive_wfAnswer {s : State} (h : WfMem s) (id : Nat) : WfAnswer (execQldDataArrive id s) := by
  unfold execQldDataArrive
  refine next_wfMem ?_
  (repeat' split) <;> simpa using h

theorem execMarkerCommit_wfAnswer {s : State} (h : WfMem s) (t : ThreadRef) : WfAnswer (execMarkerCommit t s) := by
  unfold execMarkerCommit
  refine next_wfMem ?_
  split <;> simpa using h

theorem execBerthTake_wfAnswer {s : State} (h : WfMem s) (core : Nat) : WfAnswer (execBerthTake core s) := by
  unfold execBerthTake
  refine next_wfMem ?_
  dsimp only
  (repeat' split) <;> simpa using h

theorem execBerthPrefetchDone_wfAnswer {s : State} (h : WfMem s) (core n : ℕ) :
    WfAnswer (execBerthPrefetchDone core n s) := by
  unfold execBerthPrefetchDone
  refine next_wfMem ?_
  split
  · exact h
  next b _ =>
  refine ite_wfMem h (ite_wfMem (by simpa using h) ?_)
  split
  · split
    · exact h
    · next g i _ =>
      have hi := sameMem_inputTurn s core (loadRef core n) g i b.copied
      split <;> next heq => simp_all
  · exact h

theorem execSlotTakesRider_wfAnswer {s : State} (h : WfMem s) (core slot : Nat) : WfAnswer (execSlotTakesRider core slot s) := by
  unfold execSlotTakesRider
  refine next_wfMem ?_
  dsimp only
  (repeat' split) <;> simpa using h

theorem execFmt_wfAnswer {s : State} (h : WfMem s) (a b d e : BitVec 5) (c : BitVec 2) : WfAnswer (execFmt a b d e c s) :=
  next_wfMem (ite_wfMem (by simpa using h) (issuePrefix_wfMem h ..))

theorem execRep_wfAnswer {s : State} (h : WfMem s) (c : BitVec 8) (d a b : BitVec 5) : WfAnswer (execRep c d a b s) :=
  next_wfMem (issuePrefix_wfMem h ..)

theorem execCmp_wfAnswer {s : State} (h : WfMem s) (m : Mark) (c : BitVec 4) (k : BitVec 2) (p : BitVec 4) (a b : Reg) :
    WfAnswer (execCmp m c k p a b s) := next_wfMem (unit_wfMem h (compareBody_wfMem h ..))

theorem execCmpi_wfAnswer {s : State} (h : WfMem s) (m : Mark) (c : BitVec 4) (k : BitVec 2) (p : BitVec 4) (a : Reg)
    (y : BitVec 10) : WfAnswer (execCmpi m c k p a y s) := next_wfMem (unit_wfMem h (compareBody_wfMem h ..))

theorem execBt_wfAnswer {s : State} (h : WfMem s) (m : Mark) (q : BitVec 4) (d : BitVec 20) : WfAnswer (execBt m q d s) := by
  refine next_wfMem (unit_wfMem h ?_)
  (repeat' split) <;> simpa using h

theorem execBf_wfAnswer {s : State} (h : WfMem s) (m : Mark) (q : BitVec 4) (d : BitVec 20) : WfAnswer (execBf m q d s) := by
  refine next_wfMem (unit_wfMem h ?_)
  (repeat' split) <;> simpa using h

theorem execJ_wfAnswer {s : State} (h : WfMem s) (m : Mark) (d : BitVec 25) :
    WfAnswer (execJ m d s) := next_wfMem (unit_wfMem h (by simpa using h))

theorem execJal_wfAnswer {s : State} (h : WfMem s) (m : Mark) (d : Reg) (i : BitVec 20) :
    WfAnswer (execJal m d i s) := next_wfMem (unit_wfMem h (by simpa using h))

theorem execJr_wfAnswer {s : State} (h : WfMem s) (m : Mark) (a : Reg) : WfAnswer (execJr m a s) :=
  next_wfMem (unit_wfMem h (jumpTo_wfMem _ _ (by simpa using h)))

theorem execJalr_wfAnswer {s : State} (h : WfMem s) (m : Mark) (d a : Reg) : WfAnswer (execJalr m d a s) :=
  next_wfMem (unit_wfMem h (jumpTo_wfMem _ _ (by simpa using h)))

theorem execRd_wfAnswer {s : State} (h : WfMem s) (p : Packet) : WfAnswer (execRd p s) :=
  next_wfMem (received_wfMem h _ _ fun _ hs => by simpa using hs)

theorem execRdl_wfAnswer {s : State} (h : WfMem s) (p : Packet) : WfAnswer (execRdl p s) :=
  next_wfMem (received_wfMem h _ _ fun _ hs => ite_wfMem (by simpa using hs) (by simpa using hs))

theorem execWr_wfAnswer {s : State} (h : WfMem s) (p : Packet) : WfAnswer (execWr p s) :=
  next_wfMem (received_wfMem h _ _ fun _ hs => serveWrite_wfMem hs _)

theorem execWrd_wfAnswer {s : State} (h : WfMem s) (p : Packet) : WfAnswer (execWrd p s) :=
  next_wfMem (received_wfMem h _ _ fun _ hs => ite_wfMem (by simpa using hs) (serveWrite_wfMem hs _))

theorem execAtm_wfAnswer {s : State} (h : WfMem s) (p : Packet) : WfAnswer (execAtm p s) := by
  refine next_wfMem (received_wfMem h _ _ fun s' hs => ?_)
  dsimp only
  refine ite_wfMem (by simpa using hs) (ite_wfMem (by simpa using hs) ?_)
  split <;> simpa using hs

theorem execBka_wfAnswer {s : State} (h : WfMem s) (p : Packet) : WfAnswer (execBka p s) := by
  refine next_wfMem (received_wfMem h _ _ fun s' hs => ?_)
  split
  · exact ite_wfMem (by simpa using hs) (by simpa using hs)
  · simpa using hs

theorem execRds_wfAnswer {s : State} (h : WfMem s) (p : Packet) : WfAnswer (execRds p s) :=
  next_wfMem (received_wfMem h _ _ fun _ hs => ite_wfMem (by simpa using hs) (by simpa using hs))

theorem execRdx_wfAnswer {s : State} (h : WfMem s) (p : Packet) : WfAnswer (execRdx p s) :=
  next_wfMem (received_wfMem h _ _ fun _ hs => ite_wfMem (by simpa using hs) (by simpa using hs))

theorem execWb_wfAnswer {s : State} (h : WfMem s) (p : Packet) : WfAnswer (execWb p s) := by
  refine next_wfMem (received_wfMem h _ _ fun s' hs => ?_)
  refine ite_wfMem (by simpa using hs) (ite_wfMem (by simpa using hs) ?_)
  split <;> simpa using hs

theorem execData_wfAnswer {s : State} (h : WfMem s) (p : Packet) : WfAnswer (execData p s) := by
  refine next_wfMem (received_wfMem h _ _ fun s' hs => ?_)
  split
  · exact peerRead_wfMem hs ..
  · exact hs

theorem execAck_wfAnswer {s : State} (h : WfMem s) (p : Packet) : WfAnswer (execAck p s) := by
  refine next_wfMem (received_wfMem h _ _ fun s' hs => ?_)
  split <;> simpa using hs

theorem execErr_wfAnswer {s : State} (h : WfMem s) (p : Packet) : WfAnswer (execErr p s) := by
  refine next_wfMem (received_wfMem h _ _ fun s' hs => ?_)
  split <;> simpa using hs

theorem execNoroute_wfAnswer {s : State} (h : WfMem s) (tag : BitVec 16) : WfAnswer (execNoroute tag s) := by
  unfold execNoroute
  refine next_wfMem ?_
  split <;> simpa using h

theorem execSnprsp_wfAnswer {s : State} (h : WfMem s) (p : Packet) : WfAnswer (execSnprsp p s) := by
  refine next_wfMem (received_wfMem h _ _ fun s' hs => ?_)
  split
  · exact hs
  · next line _ =>
    have hw : WfMem (if p.stat = 1 then writeHome s' line p.mask (p.flits.getD 0 0) else s') :=
      ite_wfMem (writeHome_wfMem hs ..) hs
    simpa using hw

theorem execAgentTimeout_wfAnswer {s : State} (h : WfMem s) (line : Nat) : WfAnswer (execAgentTimeout line s) := by
  unfold execAgentTimeout
  refine next_wfMem ?_
  dsimp only
  (repeat' split) <;> simpa using h

theorem execResyncRecordWritten_wfAnswer {s : State} (h : WfMem s) : WfAnswer (execResyncRecordWritten s) := by
  unfold execResyncRecordWritten
  refine next_wfMem ?_
  (repeat' split) <;> simpa using h

theorem execPowerOn_wfAnswer (s : State) : WfAnswer (execPowerOn s) := by
  unfold execPowerOn
  exact next_wfMem coldReset_wfMem

theorem execCold_wfAnswer {s : State} (h : WfMem s) (who : Agent) : WfAnswer (execCold who s) :=
  next_wfMem (ite_wfMem coldReset_wfMem h)

theorem execWarm_wfAnswer {s : State} (h : WfMem s) (who : Agent) : WfAnswer (execWarm who s) :=
  next_wfMem (ite_wfMem (warmReset_wfMem h) h)

theorem execBootDone_wfAnswer {s : State} (h : WfMem s) (trained : Bool) (portsUp : BitVec 16) :
    WfAnswer (execBootDone trained portsUp s) :=
  next_wfMem (ite_wfMem h (ite_wfMem (bootState_wfMem h _) (by simpa using h)))

theorem execRefresh_wfAnswer {s : State} (h : WfMem s) (pch dbank : Nat) : WfAnswer (execRefresh pch dbank s) := by
  unfold execRefresh
  refine next_wfMem ?_
  split <;> simpa using h

theorem execRecalibration_wfAnswer {s : State} (h : WfMem s) (_pch : Nat) : WfAnswer (execRecalibration _pch s) := next_wfMem h

theorem execPatrolScrub_wfAnswer {s : State} (h : WfMem s) (place : ScrubPlace) (found : ScrubFind) :
    WfAnswer (execPatrolScrub place found s) := by
  unfold execPatrolScrub
  refine next_wfMem ?_
  split <;> simpa using h

theorem execTelemetrySample_wfAnswer {s : State} (h : WfMem s) (die : Nat) (pwr : BitVec 16) (temp : BitVec 8) :
    WfAnswer (execTelemetrySample die pwr temp s) := by
  unfold execTelemetrySample
  refine next_wfMem ?_
  split <;> simpa using h

theorem execPowerWindow_wfAnswer {s : State} (h : WfMem s) (exceeded : Bool) :
    WfAnswer (execPowerWindow exceeded s) := next_wfMem h

theorem execCoreIdle_wfAnswer {s : State} (h : WfMem s) (core : Nat) : WfAnswer (execCoreIdle core s) := by
  unfold execCoreIdle
  refine next_wfMem ?_
  split <;> simpa using h

theorem execCoreWake_wfAnswer {s : State} (h : WfMem s) (core : Nat) : WfAnswer (execCoreWake core s) := by
  unfold execCoreWake
  refine next_wfMem ?_
  split <;> simpa using h

theorem execStackSelfRefresh_wfAnswer {s : State} (h : WfMem s) (stack : Nat) : WfAnswer (execStackSelfRefresh stack s) := by
  unfold execStackSelfRefresh
  refine next_wfMem ?_
  split <;> simpa using h

theorem execLinkRetraining_wfAnswer {s : State} (h : WfMem s) (port : Nat) (result : PortState) :
    WfAnswer (execLinkRetraining port result s) := by
  unfold execLinkRetraining
  refine next_wfMem ?_
  dsimp only
  (repeat' split) <;> simpa using h

theorem execFlitResend_wfAnswer {s : State} (h : WfMem s) (die : Nat) : WfAnswer (execFlitResend die s) := by
  unfold execFlitResend
  refine next_wfMem ?_
  split <;> simpa using h

theorem execParityError_wfAnswer {s : State} (h : WfMem s) (die : ℕ) : WfAnswer (execParityError die s) :=
  next_wfMem (fenceDie_wfMem h _)

theorem execFadd_wfAnswer {s : State} (h : WfMem s) (m : Mark) (d a b : Reg) (p : BitVec 1) :
    WfAnswer (execFadd m d a b p s) := next_wfMem (unit_wfMem h (by simpa using h))

theorem execFsub_wfAnswer {s : State} (h : WfMem s) (m : Mark) (d a b : Reg) (p : BitVec 1) :
    WfAnswer (execFsub m d a b p s) := next_wfMem (unit_wfMem h (by simpa using h))

theorem execFmul_wfAnswer {s : State} (h : WfMem s) (m : Mark) (d a b : Reg) (p : BitVec 1) :
    WfAnswer (execFmul m d a b p s) := next_wfMem (unit_wfMem h (by simpa using h))

theorem execFdiv_wfAnswer {s : State} (h : WfMem s) (m : Mark) (d a b : Reg) (p : BitVec 1) :
    WfAnswer (execFdiv m d a b p s) := next_wfMem (unit_wfMem h (by simpa using h))

theorem execFmin_wfAnswer {s : State} (h : WfMem s) (m : Mark) (d a b : Reg) (p : BitVec 1) :
    WfAnswer (execFmin m d a b p s) := next_wfMem (unit_wfMem h (by simpa using h))

theorem execFmax_wfAnswer {s : State} (h : WfMem s) (m : Mark) (d a b : Reg) (p : BitVec 1) :
    WfAnswer (execFmax m d a b p s) := next_wfMem (unit_wfMem h (by simpa using h))

theorem execFma_wfAnswer {s : State} (h : WfMem s) (m : Mark) (d a b : Reg) (p : BitVec 1) :
    WfAnswer (execFma m d a b p s) := next_wfMem (unit_wfMem h (by simpa using h))

theorem execFsqrt_wfAnswer {s : State} (h : WfMem s) (m : Mark) (d a : Reg) (p : BitVec 1) :
    WfAnswer (execFsqrt m d a p s) := next_wfMem (unit_wfMem h (by simpa using h))

theorem execFcmp_wfAnswer {s : State} (h : WfMem s) (m : Mark) (d a b : Reg) (x : BitVec 5) (p : BitVec 1) :
    WfAnswer (execFcmp m d a b x p s) := next_wfMem (unit_wfMem h (by simpa using h))

theorem execFcvt_wfAnswer {s : State} (h : WfMem s) (m : Mark) (d a : Reg) (x : BitVec 5) (p : BitVec 1) :
    WfAnswer (execFcvt m d a x p s) := next_wfMem (unit_wfMem h (by simpa using h))

theorem execAdd_wfAnswer {s : State} (h : WfMem s) (m : Mark) (d a b : Reg) :
    WfAnswer (execAdd m d a b s) := next_wfMem (unit_wfMem h (form3_wfMem h ..))

theorem execSub_wfAnswer {s : State} (h : WfMem s) (m : Mark) (d a b : Reg) :
    WfAnswer (execSub m d a b s) := next_wfMem (unit_wfMem h (form3_wfMem h ..))

theorem execAnd_wfAnswer {s : State} (h : WfMem s) (m : Mark) (d a b : Reg) :
    WfAnswer (execAnd m d a b s) := next_wfMem (unit_wfMem h (form3_wfMem h ..))

theorem execOr_wfAnswer {s : State} (h : WfMem s) (m : Mark) (d a b : Reg) :
    WfAnswer (execOr m d a b s) := next_wfMem (unit_wfMem h (form3_wfMem h ..))

theorem execXor_wfAnswer {s : State} (h : WfMem s) (m : Mark) (d a b : Reg) :
    WfAnswer (execXor m d a b s) := next_wfMem (unit_wfMem h (form3_wfMem h ..))

theorem execAndn_wfAnswer {s : State} (h : WfMem s) (m : Mark) (d a b : Reg) :
    WfAnswer (execAndn m d a b s) := next_wfMem (unit_wfMem h (form3_wfMem h ..))

theorem execShl_wfAnswer {s : State} (h : WfMem s) (m : Mark) (d a b : Reg) :
    WfAnswer (execShl m d a b s) := next_wfMem (unit_wfMem h (form3_wfMem h ..))

theorem execShr_wfAnswer {s : State} (h : WfMem s) (m : Mark) (d a b : Reg) :
    WfAnswer (execShr m d a b s) := next_wfMem (unit_wfMem h (form3_wfMem h ..))

theorem execSra_wfAnswer {s : State} (h : WfMem s) (m : Mark) (d a b : Reg) :
    WfAnswer (execSra m d a b s) := next_wfMem (unit_wfMem h (form3_wfMem h ..))

theorem execMin_wfAnswer {s : State} (h : WfMem s) (m : Mark) (d a b : Reg) :
    WfAnswer (execMin m d a b s) := next_wfMem (unit_wfMem h (form3_wfMem h ..))

theorem execMax_wfAnswer {s : State} (h : WfMem s) (m : Mark) (d a b : Reg) :
    WfAnswer (execMax m d a b s) := next_wfMem (unit_wfMem h (form3_wfMem h ..))

theorem execMinu_wfAnswer {s : State} (h : WfMem s) (m : Mark) (d a b : Reg) :
    WfAnswer (execMinu m d a b s) := next_wfMem (unit_wfMem h (form3_wfMem h ..))

theorem execMaxu_wfAnswer {s : State} (h : WfMem s) (m : Mark) (d a b : Reg) :
    WfAnswer (execMaxu m d a b s) := next_wfMem (unit_wfMem h (form3_wfMem h ..))

theorem execMul_wfAnswer {s : State} (h : WfMem s) (m : Mark) (d a b : Reg) :
    WfAnswer (execMul m d a b s) := next_wfMem (unit_wfMem h (form3_wfMem h ..))

theorem execMulh_wfAnswer {s : State} (h : WfMem s) (m : Mark) (d a b : Reg) :
    WfAnswer (execMulh m d a b s) := next_wfMem (unit_wfMem h (form3_wfMem h ..))

theorem execMulhu_wfAnswer {s : State} (h : WfMem s) (m : Mark) (d a b : Reg) :
    WfAnswer (execMulhu m d a b s) := next_wfMem (unit_wfMem h (form3_wfMem h ..))

theorem execDiv_wfAnswer {s : State} (h : WfMem s) (m : Mark) (d a b : Reg) :
    WfAnswer (execDiv m d a b s) := next_wfMem (unit_wfMem h (form3_wfMem h ..))

theorem execDivu_wfAnswer {s : State} (h : WfMem s) (m : Mark) (d a b : Reg) :
    WfAnswer (execDivu m d a b s) := next_wfMem (unit_wfMem h (form3_wfMem h ..))

theorem execRem_wfAnswer {s : State} (h : WfMem s) (m : Mark) (d a b : Reg) :
    WfAnswer (execRem m d a b s) := next_wfMem (unit_wfMem h (form3_wfMem h ..))

theorem execRemu_wfAnswer {s : State} (h : WfMem s) (m : Mark) (d a b : Reg) :
    WfAnswer (execRemu m d a b s) := next_wfMem (unit_wfMem h (form3_wfMem h ..))

theorem execClz_wfAnswer {s : State} (h : WfMem s) (m : Mark) (d a : Reg) :
    WfAnswer (execClz m d a s) := next_wfMem (unit_wfMem h (form2_wfMem h ..))

theorem execCtz_wfAnswer {s : State} (h : WfMem s) (m : Mark) (d a : Reg) :
    WfAnswer (execCtz m d a s) := next_wfMem (unit_wfMem h (form2_wfMem h ..))

theorem execPopc_wfAnswer {s : State} (h : WfMem s) (m : Mark) (d a : Reg) :
    WfAnswer (execPopc m d a s) := next_wfMem (unit_wfMem h (form2_wfMem h ..))

theorem execSext_wfAnswer {s : State} (h : WfMem s) (m : Mark) (d a b : Reg) :
    WfAnswer (execSext m d a b s) := next_wfMem (unit_wfMem h (form2_wfMem h ..))

theorem execAddi_wfAnswer {s : State} (h : WfMem s) (m : Mark) (d a : Reg) (i : BitVec 15) :
    WfAnswer (execAddi m d a i s) := next_wfMem (unit_wfMem h (form2_wfMem h ..))

theorem execAndi_wfAnswer {s : State} (h : WfMem s) (m : Mark) (d a : Reg) (i : BitVec 15) :
    WfAnswer (execAndi m d a i s) := next_wfMem (unit_wfMem h (form2_wfMem h ..))

theorem execOri_wfAnswer {s : State} (h : WfMem s) (m : Mark) (d a : Reg) (i : BitVec 15) :
    WfAnswer (execOri m d a i s) := next_wfMem (unit_wfMem h (form2_wfMem h ..))

theorem execXori_wfAnswer {s : State} (h : WfMem s) (m : Mark) (d a : Reg) (i : BitVec 15) :
    WfAnswer (execXori m d a i s) := next_wfMem (unit_wfMem h (form2_wfMem h ..))

theorem execShli_wfAnswer {s : State} (h : WfMem s) (m : Mark) (d a : Reg) (n : BitVec 6) :
    WfAnswer (execShli m d a n s) := next_wfMem (unit_wfMem h (form2_wfMem h ..))

theorem execShri_wfAnswer {s : State} (h : WfMem s) (m : Mark) (d a : Reg) (n : BitVec 6) :
    WfAnswer (execShri m d a n s) := next_wfMem (unit_wfMem h (form2_wfMem h ..))

theorem execSrai_wfAnswer {s : State} (h : WfMem s) (m : Mark) (d a : Reg) (n : BitVec 6) :
    WfAnswer (execSrai m d a n s) := next_wfMem (unit_wfMem h (form2_wfMem h ..))

theorem execLui_wfAnswer {s : State} (h : WfMem s) (m : Mark) (d : Reg) (i : BitVec 20) :
    WfAnswer (execLui m d i s) := next_wfMem (unit_wfMem h (by simpa using h))

theorem execSlotWake_wfAnswer {s : State} (h : WfMem s) (t : ThreadRef) : WfAnswer (execSlotWake t s) := by
  unfold execSlotWake
  refine next_wfMem ?_
  dsimp only
  (repeat' split) <;> simpa using h

theorem execQdead_wfAnswer {s : State} (h : WfMem s) (core : Nat) : WfAnswer (execQdead core s) := by
  unfold execQdead
  refine next_wfMem ?_
  dsimp only
  (repeat' split) <;> simpa using h

theorem execQuantumExpiry_wfAnswer {s : State} (h : WfMem s) (core slot : Nat) : WfAnswer (execQuantumExpiry core slot s) := by
  unfold execQuantumExpiry
  refine next_wfMem ?_
  dsimp only
  (repeat' split) <;> simpa using h

theorem execTravelDepart_wfAnswer {s : State} (h : WfMem s) (t : ThreadRef) : WfAnswer (execTravelDepart t s) := by
  unfold execTravelDepart
  refine next_wfMem ?_
  dsimp only
  (repeat' split) <;> simpa using h

theorem execTravelArrival_wfAnswer {s : State} (h : WfMem s) (n : Nat) : WfAnswer (execTravelArrival n s) := by
  unfold execTravelArrival
  refine next_wfMem ?_
  (repeat' split) <;> simpa using h

theorem execSpawnArrival_wfAnswer {s : State} (h : WfMem s) (n : Nat) : WfAnswer (execSpawnArrival n s) := by
  unfold execSpawnArrival
  refine next_wfMem ?_
  (repeat' split) <;> simpa using h

theorem execTravelReturn_wfAnswer {s : State} (h : WfMem s) (n : Nat) : WfAnswer (execTravelReturn n s) := by
  unfold execTravelReturn
  refine next_wfMem ?_
  dsimp only
  (repeat' split) <;> simpa using h

theorem vecOne_wfAnswer {s : State} (h : WfMem s) (i : Instr) (d a : Reg) (int : Bool) (op : Rounding → ℕ → LaneResult) :
    WfAnswer (vecOne i d a int op s) := next_wfMem (unit_wfMem h (by simpa using h))

theorem vecTwo_wfAnswer {s : State} (h : WfMem s) (i : Instr) (d a b : Reg) (int : Bool)
    (op : Rounding → ℕ → ℕ → LaneResult) : WfAnswer (vecTwo i d a b int op s) := next_wfMem (unit_wfMem h (by simpa using h))

theorem execVadd_wfAnswer {s : State} (h : WfMem s) (m : Mark) (d a b : Reg) (t : BitVec 1) :
    WfAnswer (execVadd m d a b t s) := vecTwo_wfAnswer h ..

theorem execVsub_wfAnswer {s : State} (h : WfMem s) (m : Mark) (d a b : Reg) (t : BitVec 1) :
    WfAnswer (execVsub m d a b t s) := vecTwo_wfAnswer h ..

theorem execVmul_wfAnswer {s : State} (h : WfMem s) (m : Mark) (d a b : Reg) (t : BitVec 1) :
    WfAnswer (execVmul m d a b t s) := vecTwo_wfAnswer h ..

theorem execVfma_wfAnswer {s : State} (h : WfMem s) (m : Mark) (d a b c : Reg) (t : BitVec 1) :
    WfAnswer (execVfma m d a b c t s) := next_wfMem (unit_wfMem h (by simpa using h))

theorem execVmin_wfAnswer {s : State} (h : WfMem s) (m : Mark) (d a b : Reg) (t : BitVec 1) :
    WfAnswer (execVmin m d a b t s) := vecTwo_wfAnswer h ..

theorem execVmax_wfAnswer {s : State} (h : WfMem s) (m : Mark) (d a b : Reg) (t : BitVec 1) :
    WfAnswer (execVmax m d a b t s) := vecTwo_wfAnswer h ..

theorem execVdiv_wfAnswer {s : State} (h : WfMem s) (m : Mark) (d a b : Reg) (t : BitVec 1) :
    WfAnswer (execVdiv m d a b t s) := vecTwo_wfAnswer h ..

theorem execVabs_wfAnswer {s : State} (h : WfMem s) (m : Mark) (d a : Reg) (t : BitVec 1) :
    WfAnswer (execVabs m d a t s) := vecOne_wfAnswer h ..

theorem execVneg_wfAnswer {s : State} (h : WfMem s) (m : Mark) (d a : Reg) (t : BitVec 1) :
    WfAnswer (execVneg m d a t s) := vecOne_wfAnswer h ..

theorem execVsqrt_wfAnswer {s : State} (h : WfMem s) (m : Mark) (d a : Reg) : WfAnswer (execVsqrt m d a s) := vecOne_wfAnswer h ..

theorem execVrcp_wfAnswer {s : State} (h : WfMem s) (m : Mark) (d a : Reg) : WfAnswer (execVrcp m d a s) := vecOne_wfAnswer h ..

theorem execVrsq_wfAnswer {s : State} (h : WfMem s) (m : Mark) (d a : Reg) : WfAnswer (execVrsq m d a s) := vecOne_wfAnswer h ..

theorem execVexp2_wfAnswer {s : State} (h : WfMem s) (m : Mark) (d a : Reg) : WfAnswer (execVexp2 m d a s) := vecOne_wfAnswer h ..

theorem execVlog2_wfAnswer {s : State} (h : WfMem s) (m : Mark) (d a : Reg) : WfAnswer (execVlog2 m d a s) := vecOne_wfAnswer h ..

theorem execVcvt_wfAnswer {s : State} (h : WfMem s) (m : Mark) (d a : Reg) (p : BitVec 2) : WfAnswer (execVcvt m d a p s) := by
  refine next_wfMem (unit_wfMem h ?_)
  dsimp only
  (repeat' split) <;> simpa using h

theorem vecBits_wfAnswer {s : State} (h : WfMem s) (i : Instr) (d a b : Reg) (op : Lane → Lane → Lane) :
    WfAnswer (vecBits i d a b op s) := next_wfMem (unit_wfMem h (by simpa using h))

theorem execVand_wfAnswer {s : State} (h : WfMem s) (m : Mark) (d a b : Reg) :
    WfAnswer (execVand m d a b s) := vecBits_wfAnswer h ..

theorem execVor_wfAnswer {s : State} (h : WfMem s) (m : Mark) (d a b : Reg) :
    WfAnswer (execVor m d a b s) := vecBits_wfAnswer h ..

theorem execVxor_wfAnswer {s : State} (h : WfMem s) (m : Mark) (d a b : Reg) :
    WfAnswer (execVxor m d a b s) := vecBits_wfAnswer h ..

theorem execVshl_wfAnswer {s : State} (h : WfMem s) (m : Mark) (d a b : Reg) :
    WfAnswer (execVshl m d a b s) := vecBits_wfAnswer h ..

theorem execVshr_wfAnswer {s : State} (h : WfMem s) (m : Mark) (d a b : Reg) :
    WfAnswer (execVshr m d a b s) := vecBits_wfAnswer h ..

theorem execVsra_wfAnswer {s : State} (h : WfMem s) (m : Mark) (d a b : Reg) :
    WfAnswer (execVsra m d a b s) := vecBits_wfAnswer h ..

theorem execVcmp_wfAnswer {s : State} (h : WfMem s) (m : Mark) (a b c : Reg) :
    WfAnswer (execVcmp m a b c s) := next_wfMem (unit_wfMem h (by simpa using h))

theorem execVsel_wfAnswer {s : State} (h : WfMem s) (m : Mark) (d a b : Reg) :
    WfAnswer (execVsel m d a b s) := next_wfMem (unit_wfMem h (by simpa using h))

theorem execVbcast_wfAnswer {s : State} (h : WfMem s) (m : Mark) (d a : Reg) :
    WfAnswer (execVbcast m d a s) := next_wfMem (unit_wfMem h (by simpa using h))

theorem execVins_wfAnswer {s : State} (h : WfMem s) (m : Mark) (d a : Reg) (n : BitVec 4) :
    WfAnswer (execVins m d a n s) := next_wfMem (unit_wfMem h (by simpa using h))

theorem execVext_wfAnswer {s : State} (h : WfMem s) (m : Mark) (d a : Reg) (n : BitVec 4) :
    WfAnswer (execVext m d a n s) := next_wfMem (unit_wfMem h (by simpa using h))

theorem execVperm_wfAnswer {s : State} (h : WfMem s) (m : Mark) (d a b : Reg) :
    WfAnswer (execVperm m d a b s) := next_wfMem (unit_wfMem h (by simpa using h))

theorem execVslide_wfAnswer {s : State} (h : WfMem s) (m : Mark) (d a b : Reg) (n : BitVec 4) :
    WfAnswer (execVslide m d a b n s) := next_wfMem (unit_wfMem h (by simpa using h))

theorem execVredadd_wfAnswer {s : State} (h : WfMem s) (m : Mark) (d a : Reg) (t : BitVec 1) :
    WfAnswer (execVredadd m d a t s) := next_wfMem (unit_wfMem h (by simpa using h))

theorem execVredmax_wfAnswer {s : State} (h : WfMem s) (m : Mark) (d a : Reg) (t : BitVec 1) :
    WfAnswer (execVredmax m d a t s) := next_wfMem (unit_wfMem h (by simpa using h))

theorem execVredmin_wfAnswer {s : State} (h : WfMem s) (m : Mark) (d a : Reg) (t : BitVec 1) :
    WfAnswer (execVredmin m d a t s) := next_wfMem (unit_wfMem h (by simpa using h))

theorem scanUnit_wfAnswer {s : State} (h : WfMem s) (i : Instr) (d a : Reg) (int : Bool)
    (op : Rounding → ℕ → ℕ → LaneResult) : WfAnswer (scanUnit i d a int op s) := next_wfMem (unit_wfMem h (by simpa using h))

theorem execVscan_wfAnswer {s : State} (h : WfMem s) (m : Mark) (d a : Reg) (t : BitVec 1) :
    WfAnswer (execVscan m d a t s) := scanUnit_wfAnswer h ..

theorem execVscanm_wfAnswer {s : State} (h : WfMem s) (m : Mark) (d a : Reg) (t : BitVec 1) :
    WfAnswer (execVscanm m d a t s) := scanUnit_wfAnswer h ..

theorem execVscanl_wfAnswer {s : State} (h : WfMem s) (m : Mark) (d a b c : Reg) :
    WfAnswer (execVscanl m d a b c s) := next_wfMem (unit_wfMem h (by simpa using h))

/-! ### The step -/

theorem exec_wfAnswer {s : State} (h : WfMem s) : ∀ i, WfAnswer (exec i s)
  | .nop => execNop_wfAnswer h
  | .brk m c => execBrk_wfAnswer h m c
  | .trap m c => execTrap_wfAnswer h m c
  | .eret m => execEret_wfAnswer h m
  | .rdsys m d n => execRdsys_wfAnswer h m d n
  | .wrsys m d n => execWrsys_wfAnswer h m d n
  | .susp m a => execSusp_wfAnswer h m a
  | .resm m a => execResm_wfAnswer h m a
  | .rdslot m d a => execRdslot_wfAnswer h m d a
  | .wrslot m d a => execWrslot_wfAnswer h m d a
  | .ctxkill m a => execCtxkill_wfAnswer h m a
  | .fmt a b d e c => execFmt_wfAnswer h a b d e c
  | .rep c d a b => execRep_wfAnswer h c d a b
  | .lui m d imm => execLui_wfAnswer h m d imm
  | .add m d a b => execAdd_wfAnswer h m d a b
  | .sub m d a b => execSub_wfAnswer h m d a b
  | .and m d a b => execAnd_wfAnswer h m d a b
  | .or m d a b => execOr_wfAnswer h m d a b
  | .xor m d a b => execXor_wfAnswer h m d a b
  | .andn m d a b => execAndn_wfAnswer h m d a b
  | .shl m d a b => execShl_wfAnswer h m d a b
  | .shr m d a b => execShr_wfAnswer h m d a b
  | .sra m d a b => execSra_wfAnswer h m d a b
  | .min m d a b => execMin_wfAnswer h m d a b
  | .max m d a b => execMax_wfAnswer h m d a b
  | .minu m d a b => execMinu_wfAnswer h m d a b
  | .maxu m d a b => execMaxu_wfAnswer h m d a b
  | .clz m d a => execClz_wfAnswer h m d a
  | .ctz m d a => execCtz_wfAnswer h m d a
  | .popc m d a => execPopc_wfAnswer h m d a
  | .sext m d a b => execSext_wfAnswer h m d a b
  | .addi m d a imm => execAddi_wfAnswer h m d a imm
  | .andi m d a imm => execAndi_wfAnswer h m d a imm
  | .ori m d a imm => execOri_wfAnswer h m d a imm
  | .xori m d a imm => execXori_wfAnswer h m d a imm
  | .shli m d a n => execShli_wfAnswer h m d a n
  | .shri m d a n => execShri_wfAnswer h m d a n
  | .srai m d a n => execSrai_wfAnswer h m d a n
  | .mul m d a b => execMul_wfAnswer h m d a b
  | .mulh m d a b => execMulh_wfAnswer h m d a b
  | .mulhu m d a b => execMulhu_wfAnswer h m d a b
  | .div m d a b => execDiv_wfAnswer h m d a b
  | .divu m d a b => execDivu_wfAnswer h m d a b
  | .rem m d a b => execRem_wfAnswer h m d a b
  | .remu m d a b => execRemu_wfAnswer h m d a b
  | .fadd m d a b p => execFadd_wfAnswer h m d a b p
  | .fsub m d a b p => execFsub_wfAnswer h m d a b p
  | .fmul m d a b p => execFmul_wfAnswer h m d a b p
  | .fma m d a b p => execFma_wfAnswer h m d a b p
  | .fdiv m d a b p => execFdiv_wfAnswer h m d a b p
  | .fsqrt m d a p => execFsqrt_wfAnswer h m d a p
  | .fmin m d a b p => execFmin_wfAnswer h m d a b p
  | .fmax m d a b p => execFmax_wfAnswer h m d a b p
  | .fcmp m d a b x p => execFcmp_wfAnswer h m d a b x p
  | .fcvt m d a x p => execFcvt_wfAnswer h m d a x p
  | .cmp m c k p a b => execCmp_wfAnswer h m c k p a b
  | .cmpi m c k p a imm => execCmpi_wfAnswer h m c k p a imm
  | .bt m q d => execBt_wfAnswer h m q d
  | .bf m q d => execBf_wfAnswer h m q d
  | .j m d => execJ_wfAnswer h m d
  | .jal m d imm => execJal_wfAnswer h m d imm
  | .jr m a => execJr_wfAnswer h m a
  | .jalr m d a => execJalr_wfAnswer h m d a
  | .ld m d a p z o => execLd_wfAnswer h m d a p z o
  | .st m d a p z o => execSt_wfAnswer h m d a p z o
  | .ldv m d a p o => execLdv_wfAnswer h m d a p o
  | .stv m d a p o => execStv_wfAnswer h m d a p o
  | .aadd m d a p z o => execAadd_wfAnswer h m d a p z o
  | .aand m d a p z o => execAand_wfAnswer h m d a p z o
  | .aor m d a p z o => execAor_wfAnswer h m d a p z o
  | .axor m d a p z o => execAxor_wfAnswer h m d a p z o
  | .amin m d a p z o => execAmin_wfAnswer h m d a p z o
  | .amax m d a p z o => execAmax_wfAnswer h m d a p z o
  | .aswp m d a p z o => execAswp_wfAnswer h m d a p z o
  | .acas m d a p z o => execAcas_wfAnswer h m d a p z o
  | .afadd m d a p z o => execAfadd_wfAnswer h m d a p z o
  | .clean m a b => execClean_wfAnswer h m a b
  | .inval m a b => execInval_wfAnswer h m a b
  | .flush m a b => execFlush_wfAnswer h m a b
  | .pref m d a b => execPref_wfAnswer h m d a b
  | .fenceAcq m sc => execFenceAcq_wfAnswer h m sc
  | .fenceRel m sc => execFenceRel_wfAnswer h m sc
  | .fenceFull m sc => execFenceFull_wfAnswer h m sc
  | .bar m d a b sc => execBar_wfAnswer h m d a b sc
  | .bara m d a b sc => execBara_wfAnswer h m d a b sc
  | .barw m d a sc => execBarw_wfAnswer h m d a sc
  | .barx m d a b sc => execBarx_wfAnswer h m d a b sc
  | .barq m d a sc => execBarq_wfAnswer h m d a sc
  | .send m d a b md => execSend_wfAnswer h m d a b md
  | .recv m d => execRecv_wfAnswer h m d
  | .waitm m => execWaitm_wfAnswer h m
  | .mbput m d a b md => execMbput_wfAnswer h m d a b md
  | .mbget m d a b md => execMbget_wfAnswer h m d a b md
  | .chainSet m a => execChainSet_wfAnswer h m a
  | .chainRel m a => execChainRel_wfAnswer h m a
  | .chainAcq m d => execChainAcq_wfAnswer h m d
  | .spawn m d a b => execSpawn_wfAnswer h m d a b
  | .yield m => execYield_wfAnswer h m
  | .exit m => execExit_wfAnswer h m
  | .trig m => execTrig_wfAnswer h m
  | .gwait m => execGwait_wfAnswer h m
  | .migrate m a => execMigrate_wfAnswer h m a
  | .rqput m d a b => execRqput_wfAnswer h m d a b
  | .bpush m d a z v => execBpush_wfAnswer h m d a z v
  | .bpushn m d a n z v => execBpushn_wfAnswer h m d a n z v
  | .bpop m d a z v => execBpop_wfAnswer h m d a z v
  | .bpeek m d a z v => execBpeek_wfAnswer h m d a z v
  | .bmput m d a b => execBmput_wfAnswer h m d a b
  | .bmget m d a b => execBmget_wfAnswer h m d a b
  | .bmdel m d a b => execBmdel_wfAnswer h m d a b
  | .bhput m d a => execBhput_wfAnswer h m d a
  | .bhpop m d a => execBhpop_wfAnswer h m d a
  | .bhtop m d a => execBhtop_wfAnswer h m d a
  | .bgadd m d a b o => execBgadd_wfAnswer h m d a b o
  | .bgrd m d a b => execBgrd_wfAnswer h m d a b
  | .bgclr m a b l => execBgclr_wfAnswer h m a b l
  | .bpset m d a b => execBpset_wfAnswer h m d a b
  | .blink m a b c => execBlink_wfAnswer h m a b c
  | .bstat m d a => execBstat_wfAnswer h m d a
  | .bvadd m a b c t => execBvadd_wfAnswer h m a b c t
  | .bvmul m d a b t => execBvmul_wfAnswer h m d a b t
  | .bvfma m d a b c t => execBvfma_wfAnswer h m d a b c t
  | .bvfill m a b c => execBvfill_wfAnswer h m a b c
  | .bvcvt m a b r => execBvcvt_wfAnswer h m a b r
  | .bvsum m d a b t => execBvsum_wfAnswer h m d a b t
  | .bvrmax m d a b t => execBvrmax_wfAnswer h m d a b t
  | .bsmx m a b => execBsmx_wfAnswer h m a b
  | .rowcpy m d a b => execRowcpy_wfAnswer h m d a b
  | .rowset m d b => execRowset_wfAnswer h m d b
  | .rowand m d a b => execRowand_wfAnswer h m d a b
  | .rowor m d a b => execRowor_wfAnswer h m d a b
  | .rowxor m d a b => execRowxor_wfAnswer h m d a b
  | .rownot m d a b => execRownot_wfAnswer h m d a b
  | .rowmaj m d a b => execRowmaj_wfAnswer h m d a b
  | .cpy m d a b => execCpy_wfAnswer h m d a b
  | .walk m d a b => execWalk_wfAnswer h m d a b
  | .mxv m d a b => execMxv_wfAnswer h m d a b
  | .qld m a imm => execQld_wfAnswer h m a imm
  | .qst m a imm => execQst_wfAnswer h m a imm
  | .vadd m d a b t => execVadd_wfAnswer h m d a b t
  | .vsub m d a b t => execVsub_wfAnswer h m d a b t
  | .vmul m d a b t => execVmul_wfAnswer h m d a b t
  | .vfma m d a b c t => execVfma_wfAnswer h m d a b c t
  | .vmin m d a b t => execVmin_wfAnswer h m d a b t
  | .vmax m d a b t => execVmax_wfAnswer h m d a b t
  | .vdiv m d a b t => execVdiv_wfAnswer h m d a b t
  | .vabs m d a t => execVabs_wfAnswer h m d a t
  | .vneg m d a t => execVneg_wfAnswer h m d a t
  | .vsqrt m d a => execVsqrt_wfAnswer h m d a
  | .vrcp m d a => execVrcp_wfAnswer h m d a
  | .vrsq m d a => execVrsq_wfAnswer h m d a
  | .vexp2 m d a => execVexp2_wfAnswer h m d a
  | .vlog2 m d a => execVlog2_wfAnswer h m d a
  | .vcvt m d a p => execVcvt_wfAnswer h m d a p
  | .vand m d a b => execVand_wfAnswer h m d a b
  | .vor m d a b => execVor_wfAnswer h m d a b
  | .vxor m d a b => execVxor_wfAnswer h m d a b
  | .vshl m d a b => execVshl_wfAnswer h m d a b
  | .vshr m d a b => execVshr_wfAnswer h m d a b
  | .vsra m d a b => execVsra_wfAnswer h m d a b
  | .vcmp m a b c => execVcmp_wfAnswer h m a b c
  | .vsel m d a b => execVsel_wfAnswer h m d a b
  | .vbcast m d a => execVbcast_wfAnswer h m d a
  | .vins m d a n => execVins_wfAnswer h m d a n
  | .vext m d a n => execVext_wfAnswer h m d a n
  | .vperm m d a b => execVperm_wfAnswer h m d a b
  | .vslide m d a b n => execVslide_wfAnswer h m d a b n
  | .vredadd m d a t => execVredadd_wfAnswer h m d a t
  | .vredmax m d a t => execVredmax_wfAnswer h m d a t
  | .vredmin m d a t => execVredmin_wfAnswer h m d a t
  | .vscan m d a t => execVscan_wfAnswer h m d a t
  | .vscanm m d a t => execVscanm_wfAnswer h m d a t
  | .vscanl m d a b c => execVscanl_wfAnswer h m d a b c
  | .mma m d a b => execMma_wfAnswer h m d a b
  | .mzero m d k => execMzero_wfAnswer h m d k
  | .mld m d a b k => execMld_wfAnswer h m d a b k
  | .mst m d a k => execMst_wfAnswer h m d a k
  | .mcommit m => execMcommit_wfAnswer h m
  | .mwaitb m d n => execMwaitb_wfAnswer h m d n
  | .mstat m d b c => execMstat_wfAnswer h m d b c
  | .cbld m a b k => execCbld_wfAnswer h m a b k
  | .tableWalk die entry => execTableWalk_wfAnswer h die entry
  | .deferredResultLand id => execDeferredResultLand_wfAnswer h id
  | .acceptanceReturn id => execAcceptanceReturn_wfAnswer h id
  | .markerCommit t => execMarkerCommit_wfAnswer h t
  | .storeAck id => execStoreAck_wfAnswer h id
  | .clearance id => execClearance_wfAnswer h id
  | .homeRequest line => execHomeRequest_wfAnswer h line
  | .invalidate die home => execInvalidate_wfAnswer h die home
  | .recallWords die home => execRecallWords_wfAnswer h die home
  | .recallAndDiscard die home => execRecallAndDiscard_wfAnswer h die home
  | .forwardWord line word => execForwardWord_wfAnswer h line word
  | .reservationGrant line word => execReservationGrant_wfAnswer h line word
  | .fillReply id => execFillReply_wfAnswer h id
  | .leaseExpiry place line => execLeaseExpiry_wfAnswer h place line
  | .bankOperation core bank => execBankOperation_wfAnswer h core bank
  | .personalityChange core bank => execPersonalityChange_wfAnswer h core bank
  | .link core bank => execLink_wfAnswer h core bank
  | .bankAluLineStep core bank => execBankAluLineStep_wfAnswer h core bank
  | .pinAccept core bank => execPinAccept_wfAnswer h core bank
  | .matrixStepStart core => execMatrixStepStart_wfAnswer h core
  | .matrixStepEnd core => execMatrixStepEnd_wfAnswer h core
  | .heldWriteProceed core bank => execHeldWriteProceed_wfAnswer h core bank
  | .tileLoadDone id => execTileLoadDone_wfAnswer h id
  | .cbldDone id => execCbldDone_wfAnswer h id
  | .mxvAccept core => execMxvAccept_wfAnswer h core
  | .mxvEntryReserve core => execMxvEntryReserve_wfAnswer h core
  | .qldDataArrive id => execQldDataArrive_wfAnswer h id
  | .qdead core => execQdead_wfAnswer h core
  | .rowStep core cmd => execRowStep_wfAnswer h core cmd
  | .copyEngineTurn stack => execCopyEngineTurn_wfAnswer h stack
  | .traversalHop core cmd => execTraversalHop_wfAnswer h core cmd
  | .engineCompletion core cmd => execEngineCompletion_wfAnswer h core cmd
  | .slotWake t => execSlotWake_wfAnswer h t
  | .messageInsert core => execMessageInsert_wfAnswer h core
  | .sendRetry t => execSendRetry_wfAnswer h t
  | .sendAnswer t => execSendAnswer_wfAnswer h t
  | .travelDepart t => execTravelDepart_wfAnswer h t
  | .travelArrival n => execTravelArrival_wfAnswer h n
  | .travelReturn n => execTravelReturn_wfAnswer h n
  | .spawnArrival n => execSpawnArrival_wfAnswer h n
  | .quantumExpiry core slot => execQuantumExpiry_wfAnswer h core slot
  | .berthTake core => execBerthTake_wfAnswer h core
  | .berthPrefetchDone core berth => execBerthPrefetchDone_wfAnswer h core berth
  | .slotTakesRider core slot => execSlotTakesRider_wfAnswer h core slot
  | .frontEndPop => execFrontEndPop_wfAnswer h
  | .batchHandout die => execBatchHandout_wfAnswer h die
  | .groupPlace die => execGroupPlace_wfAnswer h die
  | .gridComplete gid => execGridComplete_wfAnswer h gid
  | .pilotElection => execPilotElection_wfAnswer h
  | .ctxkillComplete n => execCtxkillComplete_wfAnswer h n
  | .xinvComplete t => execXinvComplete_wfAnswer h t
  | .evacuationComplete core => execEvacuationComplete_wfAnswer h core
  | .accessPortDone t => execAccessPortDone_wfAnswer h t
  | .resyncRecordWritten => execResyncRecordWritten_wfAnswer h
  | .bootDone trained portsUp => execBootDone_wfAnswer h trained portsUp
  | .rd p => execRd_wfAnswer h p
  | .rdl p => execRdl_wfAnswer h p
  | .wr p => execWr_wfAnswer h p
  | .wrd p => execWrd_wfAnswer h p
  | .atm p => execAtm_wfAnswer h p
  | .data p => execData_wfAnswer h p
  | .ack p => execAck_wfAnswer h p
  | .err p => execErr_wfAnswer h p
  | .replay die entry => execReplay_wfAnswer h die entry
  | .faultAction die entry => execFaultAction_wfAnswer h die entry
  | .engineResume core cmd => execEngineResume_wfAnswer h core cmd
  | .engineEnd core cmd => execEngineEnd_wfAnswer h core cmd
  | .dieFence who die => execDieFence_wfAnswer h who die
  | .dispatcherTimeout die => execDispatcherTimeout_wfAnswer h die
  | .carveWrite core v => execCarveWrite_wfAnswer h core v
  | .ctxidWrite who core v => execCtxidWrite_wfAnswer h who core v
  | .xinvWrite t v => execXinvWrite_wfAnswer h t v
  | .bpcfgWrite who core bank v => execBpcfgWrite_wfAnswer h who core bank v
  | .vpoolWrite quad v => execVpoolWrite_wfAnswer h quad v
  | .srtWrite core n v => execSrtWrite_wfAnswer h core n v
  | .evacGo who core v => execEvacGo_wfAnswer h who core v
  | .fwdClear core => execFwdClear_wfAnswer h core
  | .resumeThread t => execResumeThread_wfAnswer h t
  | .endThread t => execEndThread_wfAnswer h t
  | .accessPortGo t v => execAccessPortGo_wfAnswer h t v
  | .biasTableWrite index v => execBiasTableWrite_wfAnswer h index v
  | .rsync v => execRsync_wfAnswer h v
  | .hkill who v => execHkill_wfAnswer h who v
  | .registerWrite who off v => execRegisterWrite_wfAnswer h who off v
  | .powerOn => execPowerOn_wfAnswer s
  | .cold who => execCold_wfAnswer h who
  | .warm who => execWarm_wfAnswer h who
  | .refresh pch dbank => execRefresh_wfAnswer h pch dbank
  | .patrolScrub place found => execPatrolScrub_wfAnswer h place found
  | .recalibration pch => execRecalibration_wfAnswer h pch
  | .telemetrySample die pwr temp => execTelemetrySample_wfAnswer h die pwr temp
  | .powerWindow exceeded => execPowerWindow_wfAnswer h exceeded
  | .coreIdle core => execCoreIdle_wfAnswer h core
  | .coreWake core => execCoreWake_wfAnswer h core
  | .stackSelfRefresh stack => execStackSelfRefresh_wfAnswer h stack
  | .linkRetraining port result => execLinkRetraining_wfAnswer h port result
  | .flitResend die => execFlitResend_wfAnswer h die
  | .noroute tag => execNoroute_wfAnswer h tag
  | .bka p => execBka_wfAnswer h p
  | .rds p => execRds_wfAnswer h p
  | .rdx p => execRdx_wfAnswer h p
  | .wb p => execWb_wfAnswer h p
  | .snprsp p => execSnprsp_wfAnswer h p
  | .agentTimeout line => execAgentTimeout_wfAnswer h line
  | .parityError die => execParityError_wfAnswer h die

theorem issueStep_wfAnswer {s : State} (h : WfMem s) (t : ThreadRef) : WfAnswer (issueStep t s) := by
  have hn := nextAct_wfMem (s := { s with cur := t }) h
  unfold issueStep
  split
  · next heq => rw [heq] at hn; exact exec_wfAnswer hn _
  · next heq => rw [heq] at hn; exact hn

theorem WfAnswer.ite {c : Prop} [Decidable c] {a b : Answer} (ha : WfAnswer a) (hb : WfAnswer b) :
    WfAnswer (if c then a else b) := by
  split
  · exact ha
  · exact hb

theorem move_wfAnswer {s : State} (h : WfMem s) : ∀ w, WfAnswer (move w s)
  | .issue t => .ite (issueStep_wfAnswer h t) (next_wfMem h)
  | .event i => .ite (exec_wfAnswer h i) (next_wfMem h)

theorem step_wfAnswer {s : State} (h : WfMem s) : WfAnswer (step s) := by
  unfold step
  split
  · exact move_wfAnswer (by simpa using h) _
  · dsimp only
    split
    · exact move_wfAnswer (by simpa using h) _
    · exact next_wfMem (by simpa using h)

theorem WfAnswer.wfMem {a : Answer} (ha : WfAnswer a) {t : State} (ht : a = .next t) : WfMem t := by
  subst ht
  exact ha

/-- Settles O6: no meaning of an instruction or an event, and so no step, takes a memory out of canonical form. -/
theorem stepKeepsMemoryCanonical : Obligations.StepKeepsMemoryCanonical := by
  unfold Obligations.StepKeepsMemoryCanonical
  intro s t hs hstep
  rw [memOk_iff_wfMem] at hs ⊢
  exact (step_wfAnswer hs).wfMem hstep

end Sys2Proof.Machine
end

section
/-! # WRSYS and the change of a context

A WRSYS that issues with the right does the write of its register (R318-R320); a core that gets another context loses its tiles
and its codebook (R405). -/

namespace Sys2Proof.Machine
open Sys2Proof.Claims

theorem isKS_eq_kernelSlotUp (s : State) : isKS s = kernelSlotUp s := by
  simp [isKS, kernelSlotUp, beq_eq_decide]

/-- Who may write a register holds the right that its write asks for. -/
theorem holdsRight_of_writable {s : State} {n : ℕ} (h : writable s n = true) : holdsRight s (mayWrite n) = true := by
  have hp : ((me s).ss.priv != 0) = kernelUp s := by
    rw [Bool.eq_iff_iff]; simp [kernelUp, BitVec.toNat_eq]; omega
  unfold writable at h
  unfold mayWrite
  split_ifs at h ⊢ <;> simp_all [holdsRight, isKS_eq_kernelSlotUp] <;> omega

theorem agentNs_iff (s : State) : agentNs s s.cur.core = true ↔ nonSecure s := by
  unfold agentNs nonSecure myCore
  split <;> simp_all [ctxNs]

/-- A change of the current thread leaves the world of every core's agent alone. -/
theorem agentNs_modMe (s : State) (f : Thread → Thread) (core : ℕ) : agentNs (modMe s f) core = agentNs s core := by
  simp [agentNs, modMe, modThread]

/-- A secure agent gives a core any context, a non-secure one only a non-secure core a non-secure context (R20). -/
theorem ctxidAllowed_iff (s : State) (v : Word) :
    ctxidAllowed s s.cur.core (agentNs s s.cur.core) v = true ↔
      (nonSecure s → (myCore s).ctxid.getLsbD 16 = true ∧ v.getLsbD 16 = true) := by
  rw [← agentNs_iff]
  cases agentNs s s.cur.core <;> simp [ctxidAllowed, ctxNs, myCore]

/-- The write of a register by who has the right to it, of one that is not read-only (R18, R319, R320). -/
def writeSystemRegister (s : State) (k : ℕ) (v : Word) : Res :=
  let c := s.cur.core
  if k = 0 then .done (modMe s fun th => writeStatus th v)
  else if k = 3 then .done (modCore s c fun x => { x with cycleOff := v - word s.now })
  else if k = 0x10 then if !ctxidAllowed s c (agentNs s c) v then .fault .world 12 0 none else .done (ctxidSet s c v)
  else if k = 0x11 then writeAndWait s fun s w => carveWrite s c v.toNat w
  else if k = 0x15 then .done (vpoolSet s (quadOf c) v.toNat)
  else if k = 0x16 then .wait .xinv (xinvBegin s s.cur v)
  else if 0x20 ≤ k ∧ k < 0x40 then writeAndWait s fun s w => bpcfgWrite s c (k - 0x20) v (!agentNs s c) w
  else if 0x40 ≤ k then .done (srtSet s c (k - 0x40) v)
  else .done (coreRegSet s c (blockOffset k) v)

/-- From BPCFG on, a register is a bank's word or an entry of the saved-rider table. -/
theorem writeSystemRegister_high {k : ℕ} (h : 0x20 ≤ k) (s : State) (v : Word) :
    writeSystemRegister s k v = if k < 0x40 then
        writeAndWait s fun s' w => bpcfgWrite s' s.cur.core (k - 0x20) v (!agentNs s' s.cur.core) w
      else .done (srtSet s s.cur.core (k - 0x40) v) := by
  have hne : k ≠ 0 ∧ k ≠ 3 ∧ k ≠ 0x10 ∧ k ≠ 0x11 ∧ k ≠ 0x15 ∧ k ≠ 0x16 := by omega
  simp only [writeSystemRegister, hne, h, true_and, if_false]
  split
  · rfl
  · next hlt => rw [if_pos (Nat.le_of_not_lt hlt)]

theorem mayWrite_high {k : ℕ} (h : 0x20 ≤ k) : mayWrite k ≠ 4 := by
  unfold mayWrite
  split_ifs <;> omega

/-- What a write that is answered in the register's own time does: it issues with its thread asking, and waits where it was not
answered at once. -/
theorem settle_writeAndWait (i : Instr) (s : State) (f : State → BankSrc → State) :
    let t := f (modMe { s with nextId := s.nextId + 1 } fun th => { th with prog := .asked s.nextId }) (.writer s.cur s.nextId)
    settle i s (writeAndWait s f) = if (me t).prog = .none then done i s t else park (done i s t) .change := by
  simp only [writeAndWait, fresh, beq_iff_eq]
  split <;> rfl

/-- A WRSYS whose issuer has the right does what the register's write does. -/
theorem exec_wrsys {m : Mark} {d : Reg} {n : BitVec 10} {s : State} (h : Issues (.wrsys m d n) s)
    (hw : writable s n.toNat = true) (hro : mayWrite n.toNat ≠ 4) :
    exec (.wrsys m d n) s = .next (settle (.wrsys m d n) s (writeSystemRegister s n.toNat (srcG s (.wrsys m d n) .d d.toNat))) := by
  refine congrArg Host.Outcome.next ((unit_of_issues h _).trans ?_)
  simp only [holdsRight_of_writable hw, hro, if_false, Bool.not_true, Bool.false_eq_true]
  rfl

theorem systemRegisterChanges : SystemRegisterChanges := by
  unfold SystemRegisterChanges
  dsimp only
  intro m d n s h hw
  have hx := exec_wrsys h hw
  generalize srcG s (.wrsys m d n) .d d.toNat = v at hx ⊢
  refine ⟨fun hn hns hv => ?_, fun hn hv => ?_, fun hn => ?_, fun h1 h2 => ?_, fun hn => ?_, fun hn => ?_, fun h1 h2 => ?_⟩
  · have hk : n.toNat = 0x10 := by rw [hn]; rfl
    have ha : ctxidAllowed s s.cur.core (agentNs s s.cur.core) v = false := by
      rw [← Bool.not_eq_true, ctxidAllowed_iff]
      intro hall
      obtain ⟨ho, hv'⟩ := hall hns
      rcases hv with h | h
      · exact Bool.false_ne_true (h.symm.trans ho)
      · exact Bool.false_ne_true (h.symm.trans hv')
    rw [hx (by simp [hk, mayWrite])]
    simp [hk, writeSystemRegister, ha]
  · have hk : n.toNat = 0x10 := by rw [hn]; rfl
    rw [hx (by simp [hk, mayWrite])]
    simp [hk, writeSystemRegister, (ctxidAllowed_iff s v).2 hv, done]
  · have hk : n.toNat = 0x15 := by rw [hn]; rfl
    rw [hx (by simp [hk, mayWrite])]
    simp [hk, writeSystemRegister, done]
  · rw [hx (mayWrite_high (by omega)), writeSystemRegister_high (by omega), if_neg (by omega)]
    rfl
  · have hk : n.toNat = 0x16 := by rw [hn]; rfl
    rw [hx (by simp [hk, mayWrite])]
    simp [hk, writeSystemRegister, done]
  · have hk : n.toNat = 0x11 := by rw [hn]; rfl
    rw [hx (by simp [hk, mayWrite])]
    simp [hk, writeSystemRegister, settle_writeAndWait]
  · rw [hx (mayWrite_high h1), writeSystemRegister_high h1, if_pos (by omega), settle_writeAndWait]
    simp only [agentNs_modMe]
    rfl

/-- The reserved bits of CTXID read zero (R22). -/
theorem ctxid_word_eq (v : Word) : word (field v.toNat 63 24 * 2 ^ 24 + v.toNat % 2 ^ 17) = v &&& 0xFFFFFFFFFF01FFFF := by
  have hm : (0xFFFFFFFFFF01FFFF : Word) = BitVec.ofNat 64 (2 ^ 24 * (2 ^ 40 - 1) + (2 ^ 17 - 1)) := rfl
  apply BitVec.eq_of_getLsbD_eq
  intro i hi
  rw [BitVec.getLsbD_and, word, BitVec.getLsbD_ofNat, hm, BitVec.getLsbD_ofNat, mul_comm (field v.toNat 63 24), field,
    Nat.testBit_two_pow_mul_add _ (by omega), Nat.testBit_two_pow_mul_add _ (by norm_num)]
  by_cases h : i < 24
  · simp [h, hi, Nat.testBit_mod_two_pow, Nat.testBit_two_pow_sub_one, BitVec.getLsbD, Bool.and_comm, -Nat.reducePow,
      -Nat.reduceSub]
  · have he : i - 24 + 24 = i := by omega
    have hl : i - 24 < 40 := by omega
    simp [h, hi, hl, he, Nat.testBit_mod_two_pow, Nat.testBit_div_two_pow, Nat.testBit_two_pow_sub_one, BitVec.getLsbD,
      -Nat.reducePow, -Nat.reduceSub]

theorem coreAt_ctxidSet_other (s : State) {c c' : ℕ} (v : Word) (h : c' ≠ c) : coreAt (ctxidSet s c v) c' = coreAt s c' := by
  simp [ctxidSet, coreAt_modCore, h]

theorem ctxid_ctxidSet (s : State) (c : ℕ) (v : Word) :
    (coreAt (ctxidSet s c v) c).ctxid = v &&& 0xFFFFFFFFFF01FFFF ∧ (coreAt (ctxidSet s c v) c).killed = false := by
  simp only [ctxidSet, coreAt_modCore, ctxid_word_eq, if_true]
  split
  · next h => exact ⟨h, rfl⟩
  · exact ⟨rfl, rfl⟩

/-- A new context takes the words and the owners of the tiles, and the codebook (R405). -/
theorem ctxidSet_new {s : State} {c : ℕ} {v : Word} (h : (coreAt s c).ctxid ≠ v &&& 0xFFFFFFFFFF01FFFF) :
    (∀ n < 16, tileAt (ctxidSet s c v) c n = { tileAt s c n with data := [], owner := 0 }) ∧
      (coreAt (ctxidSet s c v) c).book = [] ∧ (coreAt (ctxidSet s c v) c).cbtV = false ∧
      (coreAt (ctxidSet s c v) c).cbtOwner = 0 := by
  simp only [tileAt, ctxidSet, coreAt_modCore, ctxid_word_eq, if_true, h, if_false, and_self, and_true]
  intro n hn
  rw [aget_foldl_aset Tile.reset (fun x => { x with data := [], owner := 0 }) _ List.nodup_range]
  simp [hn]

theorem ctxidSet_same {s : State} {c : ℕ} {v : Word} (h : (coreAt s c).ctxid = v &&& 0xFFFFFFFFFF01FFFF) :
    (coreAt (ctxidSet s c v) c).tiles = (coreAt s c).tiles ∧ (coreAt (ctxidSet s c v) c).book = (coreAt s c).book := by
  simp only [ctxidSet, coreAt_modCore, ctxid_word_eq, h, if_true, and_self]

theorem contextChangeClearsTiles : ContextChangeClearsTiles := fun s c v =>
  ⟨(ctxid_ctxidSet s c v).1, ctxidSet_new, ctxidSet_same, fun _ => coreAt_ctxidSet_other s v, rfl, rfl⟩

/-- Settles O20: a WRSYS with the right does its register's write, and a new context takes the tiles and the codebook with it. -/
theorem systemRegisterWrites : Obligations.SystemRegisterWrites := ⟨systemRegisterChanges, contextChangeClearsTiles⟩

end Sys2Proof.Machine
end

section
/-! # Writes of the control window by an agent

What each write leaves of the registers it does not name, and what the events of R17, R45, R61 and R465 do. -/

namespace Sys2Proof.Machine
open Sys2Proof.Claims

/-! ### Bias and quads under the home's operations -/

@[simp] theorem backL1_bias (s : State) (core pa : ℕ) : (backL1 s core pa).bias = s.bias := by
  unfold backL1 setL2; (repeat' split) <;> rfl

@[simp] theorem backL1_quads (s : State) (core pa : ℕ) : (backL1 s core pa).quads = s.quads := by
  unfold backL1 setL2; (repeat' split) <;> rfl

@[simp] theorem gatherL1_bias (s : State) (die pa : ℕ) : (gatherL1 s die pa).bias = s.bias :=
  foldl_keeps State.bias _ (by simp) _ _

@[simp] theorem writeHome_bias (s : State) (line : ℕ) (m : BitVec 64) (d : Line) : (writeHome s line m d).bias = s.bias := by
  unfold writeHome setLlc writeArray; (repeat' split) <;> rfl

@[simp] theorem poisonHome_bias (s : State) (line : ℕ) : (poisonHome s line).bias = s.bias := by
  unfold poisonHome setLlc; split <;> rfl

@[simp] theorem cleanLlc_bias (s : State) (line : ℕ) : (cleanLlc s line).bias = s.bias := by
  unfold cleanLlc writeArray setLlc; dsimp only; (repeat' split) <;> rfl

@[simp] theorem evictL1_bias (s : State) (core pa : ℕ) : (evictL1 s core pa).bias = s.bias := by simp [evictL1, dropL1]

@[simp] theorem evictL1_quads (s : State) (core pa : ℕ) : (evictL1 s core pa).quads = s.quads := by simp [evictL1, dropL1]

@[simp] theorem dropL1s_bias (s : State) (die pa : ℕ) (p : ℕ → L1Line → Bool) : (dropL1s s die pa p).bias = s.bias :=
  foldl_keeps State.bias _ (by simp) _ _

@[simp] theorem setL2_bias (s : State) (die pa : ℕ) (l : L2Line) : (setL2 s die pa l).bias = s.bias := rfl

@[simp] theorem refreshReplies_bias (s : State) (line : ℕ) (m : BitVec 64) (d : Line) (bad : Bool) :
    (refreshReplies s line m d bad).bias = s.bias := rfl

@[simp] theorem trimDeferred_bias (s : State) (die pa : ℕ) (w : BitVec 16) : (trimDeferred s die pa w).bias = s.bias := rfl

@[simp] theorem releaseWords_bias (s : State) (die pa : ℕ) (words : BitVec 16) (back : Bool) :
    (releaseWords s die pa words back).bias = s.bias := by
  simp [releaseWords, apply_ite State.bias]

@[simp] theorem recallNow_bias (s : State) (line : ℕ) (words : BitVec 16) (back : Bool) :
    (recallNow s line words back).bias = s.bias := by
  unfold recallNow
  dsimp only
  split_ifs
  · rfl
  · simp
  · exact foldl_keeps State.bias _ (by simp) _ _

@[simp] theorem dropBase_bias (s : State) (die pa : ℕ) : (dropBase s die pa).bias = s.bias := by simp [dropBase]

@[simp] theorem invalidateNow_bias (s : State) (line : ℕ) : (invalidateNow s line).bias = s.bias := by
  refine foldl_keeps State.bias _ (fun s d => ?_) _ s
  split
  · exact foldl_keeps State.bias _ (fun s pa => by split <;> simp) _ s
  · rfl

@[simp] theorem wakeStack_bias (s : State) (line : ℕ) : (wakeStack s line).bias = s.bias := by
  unfold wakeStack; split <;> rfl

@[simp] theorem flipLine_bias (s : State) (line : ℕ) : (flipLine s line).2.bias = s.bias := by
  unfold flipLine; split <;> simp [fresh]

/-! ### Writes of a register by an agent -/

theorem finishWrite_agent (s : State) : finishWrite s .agent = s := rfl

/-- A word of the bias table gives the bias of its 64 pages (R33). -/
theorem biasWrite_bias (s : State) (k : ℕ) (v : Word) (i : ℕ) :
    (biasWrite s k v .agent).bias.contains i = if i / 64 = k then v.getLsbD (i % 64) else s.bias.contains i := by
  have hb : (biasWrite s k v .agent).bias =
      (((List.range 64).filter fun j => v.getLsbD j).map (64 * k + ·)).foldl sins (s.bias.filter fun i => i / 64 != k) := by
    unfold biasWrite
    extract_lets new turned x
    have hx : x.2.bias = new.foldl sins (s.bias.filter fun i => i / 64 != k) :=
      foldl_keeps (fun y : List ℕ × State => y.2.bias) _ (by simp) _ _
    split <;> exact hx
  have hn : i ∈ ((List.range 64).filter fun j => v.getLsbD j).map (64 * k + ·) ↔ i / 64 = k ∧ v.getLsbD (i % 64) = true := by
    simp only [List.mem_map, List.mem_filter, List.mem_range]
    constructor
    · rintro ⟨j, ⟨hj, hv⟩, rfl⟩
      rw [show (64 * k + j) % 64 = j by omega]
      exact ⟨by omega, hv⟩
    · rintro ⟨hk, hv⟩
      exact ⟨i % 64, ⟨by omega, hv⟩, by omega⟩
  rw [hb, Bool.eq_iff_iff, List.contains_iff_mem, mem_foldl_sins, hn]
  split
  · next h => simp [h]
  · next h => simp [h]

theorem vpoolSet_members (s : State) (q v : ℕ) : (quadAt (vpoolSet s q v) q).members = BitVec.ofNat 4 v := by
  have hq : (vpoolSet s q v).quads = (modQuad s q fun x => { x with members := BitVec.ofNat 4 v }).quads := by
    refine foldl_keeps State.quads _ (fun s i => ?_) _ _
    exact foldl_keeps State.quads _ (by simp) _ _
  rw [quadAt, hq]
  exact congrArg Quad.members ((quadAt_modQuad s q q _).trans (if_pos rfl))

@[simp] theorem coreAt_deliver_srt (s : State) (dst : ℕ) (m : Msg) (c : ℕ) :
    (coreAt (deliver s dst m) c).srt = (coreAt s c).srt := by
  unfold deliver
  rw [coreAt_modCore]
  split
  · next h => rw [h]; split <;> rfl
  · rfl

@[simp] theorem coreAt_toSupervisor_srt (s : State) (die : ℕ) (ns : Bool) (w0 w1 : Word) (c : ℕ) :
    (coreAt (toSupervisor s die ns w0 w1) c).srt = (coreAt s c).srt := by
  unfold toSupervisor
  dsimp only
  generalize (if ns = true then (dieAt s die).nrid else (dieAt s die).srid) = tag
  split
  · rfl
  · simp

@[simp] theorem coreAt_sendEvent_srt (s : State) (dst type slot : ℕ) (rid : BitVec 32) (detail : Word) (c : ℕ) :
    (coreAt (sendEvent s dst type slot rid detail) c).srt = (coreAt s c).srt := by
  unfold sendEvent
  dsimp only
  split <;> simp

/-- An entry of the saved-rider table is written alone; that a message already waits for its rider changes no entry (R61). -/
theorem srtSet_srt (s : State) (c n : ℕ) (v : Word) :
    (coreAt (srtSet s c n v) c).srt = aset 0 (coreAt s c).srt n (v.extractLsb' 0 32) := by
  unfold srtSet
  extract_lets new old s1 s2 k
  have h1 : (coreAt s1 c).srt = aset 0 (coreAt s c).srt n new := by simp [s1]
  have h2 : (coreAt s2 c).srt = aset 0 (coreAt s c).srt n new := by
    rw [← h1]
    simp only [s2, coreAt_modCore, if_true]
    split <;> rfl
  split
  · simpa using h2
  · exact h2

/-! ### The change of a core's L1 ways (R45) -/

@[simp] theorem carveBusy_enqueueBank (s : State) (core bank : ℕ) (q : BankReq) (c : ℕ) :
    (coreAt (enqueueBank s core bank q) c).carveBusy = (coreAt s c).carveBusy := by
  simp only [enqueueBank, modBank, coreAt_modCore]
  split
  · next h => rw [h]
  · rfl

/-- A write of CARVE while no change is under way: a value above 16 is refused, a smaller one takes effect at once, a larger one begins
a change (R45, R47). -/
theorem carveWrite_refused {s : State} {core v : ℕ} (hb : (coreAt s core).carveBusy = none) (h : 16 < v % 32) :
    carveWrite s core v .agent = modCore s core fun c => { c with carveRef := true } := by
  simp [carveWrite, hb, carveApply, h, finishWrite_agent]

theorem carveWrite_shrinks {s : State} {core v : ℕ} (hb : (coreAt s core).carveBusy = none) (h : v % 32 ≤ 16)
    (hk : v % 32 < (coreAt s core).carveK) : carveWrite s core v .agent = endCarve s core (v % 32) .agent := by
  have hne : v % 32 ≠ (coreAt s core).carveK := by omega
  simp [carveWrite, hb, carveApply, h, hk, hne]

theorem carveWrite_grows {s : State} {core v : ℕ} (hb : (coreAt s core).carveBusy = none) (h : v % 32 ≤ 16)
    (hk : (coreAt s core).carveK < v % 32) : (coreAt (carveWrite s core v .agent) core).carveBusy = some (v % 32, .agent) := by
  have h1 : v % 32 ≠ (coreAt s core).carveK := by omega
  have h2 : ¬v % 32 < (coreAt s core).carveK := by omega
  unfold carveWrite carveApply
  simp only [hb, Option.isSome_none, Bool.false_eq_true, if_false, Nat.not_lt.mpr h, h1, h2]
  rw [foldl_keeps (fun s => (coreAt s core).carveBusy) _ (fun s b => by split <;> simp)]
  simp

/-! ### BPCFG as an event (R61) -/

/-- A request of an agent has no place among the slots' operations of its cycle: it goes last. -/
theorem insertArrival_agent (l : List BankReq) (core bank : ℕ) (cmd : BankCmd) (now : ℕ) :
    insertArrival l { agentReq .agent core bank cmd with came := now } = l ++ [{ agentReq .agent core bank cmd with came := now }] := by
  have hr : arrivalRank { agentReq .agent core bank cmd with came := now } = none := rfl
  unfold insertArrival
  rw [hr, List.takeWhile_eq_nil_iff.2]
  · simp
  · intro hl
    split <;> simp_all

theorem bpcfgWrite_l1 {s : State} {core bank : ℕ} (v : Word) (ns : Bool) (h : servesL1 s core bank = true) :
    bpcfgWrite s core bank v ns .agent = s := by
  simp [bpcfgWrite, h, finishWrite_agent]

theorem bankAt_modBank_same (s : State) (core bank : ℕ) (f : Bank → Bank) :
    bankAt (modBank s core bank f) core bank = f (bankAt s core bank) := by
  simp [bankAt, modBank]

theorem bpcfgWrite_queues {s : State} {core bank : ℕ} (v : Word) (ns : Bool) (hl : servesL1 s core bank = false)
    (hw : mustWait s core bank = false) :
    bankAt (bpcfgWrite s core bank v (!ns) .agent) core bank = { bankAt s core bank with
      queue := (bankAt s core bank).queue ++ [{ agentReq .agent core bank (.config v ns) with came := s.now }] } := by
  simp only [bpcfgWrite, hl, hw, Bool.false_eq_true, if_false, enqueueBank, bankAt_modBank_same, Bool.not_not]
  rw [← insertArrival_agent]
  rfl

theorem bpcfgWrite_waits {s : State} {core bank : ℕ} (v : Word) (ns : Bool) (hl : servesL1 s core bank = false)
    (hw : mustWait s core bank = true) :
    bankAt (bpcfgWrite s core bank v (!ns) .agent) core bank = { bankAt s core bank with
      net := (bankAt s core bank).net ++ [{ agentReq .agent core bank (.config v ns) with came := s.now }] } := by
  simp only [bpcfgWrite, hl, hw, Bool.false_eq_true, if_false, if_true, holdArrival, bankAt_modBank_same, Bool.not_not]
  rw [← insertArrival_agent]
  rfl

/-- CTXID written by an agent that may give the core its context (R20, R22, R320). -/
theorem exec_ctxidWrite {who : Agent} {core : ℕ} {v : Word} {s : State}
    (h : who.ns = true → ctxNs (coreAt s core).ctxid = true ∧ ctxNs v = true) :
    exec (.ctxidWrite who core v) s = .next (ctxidSet s core v) := by
  have ha : ctxidAllowed s core who.ns v = true := by
    cases hns : who.ns with
    | false => rfl
    | true => simp [ctxidAllowed, h hns]
  exact congrArg Host.Outcome.next (if_pos ha)

theorem exec_registerWrite {who : Agent} {off : ℕ} {v : Word} {s t : State} (h : regWrite s who off v .agent = some t) :
    exec (.registerWrite who off v) s = .next t :=
  congrArg (fun x => Host.Outcome.next (Option.getD x s)) h

theorem regWrite_node {who : Agent} {off : ℕ} {i : ℕ} (v : Word) (s : State) (h : regPlace off = .node i) :
    regWrite s who off v .agent = some (nodeWrite s i v) := by
  simp [regWrite, h, answered, finishWrite_agent]

/-- Settles O55: each write leaves what its register says, and what it does to banks, quads and lines changes no other. -/
theorem agentsWriteRegisters : Obligations.AgentsWriteRegisters := by
  unfold Obligations.AgentsWriteRegisters
  refine ⟨fun core v s hb => ⟨fun h => ?_, fun hk h => ?_, fun hk h => ?_⟩, fun core v s hb => ?_, fun who core v s h => ?_,
    fun who core bank v s => ⟨fun hl => ?_, fun hl hw => ?_, fun hl hw => ?_⟩, fun q v s => ?_, fun core n v s => ?_,
    fun k v s => ?_, fun v s => rfl, fun s n hn ha => ?_, fun s v rest hn hr he => ?_, fun who off v s t h => ?_,
    fun who off v s i h => ?_⟩
  · exact ⟨_, rfl, by simp [carveWrite_refused hb h]⟩
  · refine ⟨_, rfl, ?_⟩
    rw [carveWrite_shrinks hb h hk]
    simp [endCarve, finishWrite_agent]
  · exact ⟨_, rfl, carveWrite_grows hb h hk⟩
  · refine ⟨_, rfl, ?_⟩
    simp [carveWrite, hb]
  · refine givesSome_of_exec (exec_ctxidWrite h) ?_
    rw [ctxid_word_eq, (ctxid_ctxidSet s core v).1]
    refine ⟨rfl, (ctxid_ctxidSet s core v).2, fun hne => ?_⟩
    obtain ⟨htiles, -, hcbt, -⟩ := ctxidSet_new hne.symm
    exact ⟨hcbt, htiles⟩
  · exact congrArg Host.Outcome.next (bpcfgWrite_l1 v _ hl)
  · refine givesSome_of_exec rfl ?_
    rw [bpcfgWrite_queues v _ hl hw]
  · refine givesSome_of_exec rfl ?_
    rw [bpcfgWrite_waits v _ hl hw]
    exact ⟨rfl, rfl⟩
  · refine givesSome_of_exec rfl ?_
    rw [vpoolSet_members]
    rfl
  · refine givesSome_of_exec rfl ?_
    rw [srtSet_srt]
    exact ⟨aget_aset_same .., fun m hm => aget_aset_other _ _ _ hm⟩
  · exact ⟨_, rfl, biasWrite_bias s k v⟩
  · have hq : (s.inflight.any fun a => a.t == resyncRef) = false := by
      rw [List.any_eq_false]
      exact fun a h => by simpa using ha a h
    refine congrArg Host.Outcome.next ?_
    simp [hn, hq]
  · refine congrArg Host.Outcome.next ?_
    simp [hn, hr, he]
  · exact exec_registerWrite h
  · refine givesSome_of_exec (exec_registerWrite (regWrite_node v s h)) ?_
    simp [nodeWrite]

end Sys2Proof.Machine
end

section
/-! # Packets of the fabric

What a packet of another node does once its header is taken (R448-R455). -/

namespace Sys2Proof.Machine
open Sys2Proof.Claims

/-! ### A packet that reaches the package -/

section
variable {p : Packet} {s : State}

theorem takeLoop_of_other (h : p.src ≠ s.nid) : takeLoop s p = s := if_neg h

theorem loopWaits_of_other (h : p.src ≠ s.nid) : loopWaits s p = false := by simp [loopWaits, h]

/-- A well-formed packet of another node gets its code's service; the codes 0x07 and 0x10 are for devices alone. -/
theorem received_of_reaches {opc : ℕ} (h : Reaches p s opc) (hk : knownOpc opc = true) (h7 : opc ≠ 0x07) (h10 : opc ≠ 0x10)
    (k : State → State) : received s p opc k = k s := by
  obtain ⟨hdst, hsrc, hopc, hok⟩ := h
  have hn : notForHosts p = false := by
    have h1 : p.opc ≠ 0x07 := fun h => h7 (by rw [← hopc, h]; rfl)
    have h2 : p.opc ≠ 0x10 := fun h => h10 (by rw [← hopc, h]; rfl)
    rw [notForHosts, beq_eq_false_iff_ne.2 h1, beq_eq_false_iff_ne.2 h2, Bool.or_self, Bool.and_false]
  simp [received, hdst, loopWaits_of_other hsrc, hopc, hk, hn, hok, takeLoop_of_other hsrc]

/-- A code that is for devices only is refused to hosts (R454). -/
theorem received_of_host (hdst : p.dst = s.nid) (hsrc : p.src ≠ s.nid) (hh : p.hostn = true) (ho : p.opc = 0x07 ∨ p.opc = 0x10)
    (opc : ℕ) (k : State → State) : received s p opc k = respondErr s p 2 := by
  rcases ho with ho | ho <;> simp [received, hdst, loopWaits_of_other hsrc, ho, knownOpc, notForHosts, hh]

theorem received_of_unknown (hdst : p.dst = s.nid) (hsrc : p.src ≠ s.nid) (ho : p.opc = 0x7F) (opc : ℕ) (k : State → State) :
    received s p opc k = respondErr s p 6 := by
  simp [received, hdst, loopWaits_of_other hsrc, ho, knownOpc, takeLoop_of_other hsrc]

theorem targetOf_dram {n : ℕ} (ha : p.addr.toNat % n = 0) (hd : inDram p.addr.toNat) : targetOf s p n = .dram := by
  obtain ⟨w, hw | hw⟩ := hd <;> simp [targetOf, ha, hw]

theorem targetOf_bank {n w : ℕ} (ha : p.addr.toNat % n = 0) (hw : window p.addr.toNat = .bank w) :
    targetOf s p n = .bank (bankOf w).1 (bankOf w).2 (w % 65536) := by simp [targetOf, ha, hw]

theorem targetOf_misaligned {n : ℕ} (ha : p.addr.toNat % n ≠ 0) : targetOf s p n = .refused := if_pos ha

theorem packetBytes_line (h : p.size = 4) : packetBytes p = 64 := if_pos h

theorem serveRead_dram (ha : p.addr.toNat % packetBytes p = 0) (hd : inDram p.addr.toNat) :
    serveRead s p 0 = atHomeOf s p (packetBytes p) (.hostRead 0) := by
  simp [serveRead, targetOf_dram ha hd]

theorem serveRead_line {kind : ℕ} (hk : kind ≠ 0) (ha : p.addr.toNat % 64 = 0) (hd : inDram p.addr.toNat) :
    serveRead s p kind = atHomeOf s p 64 (.hostRead kind) := by
  simp [serveRead, hk, targetOf_dram ha hd]

theorem serveRead_misaligned (ha : p.addr.toNat % packetBytes p ≠ 0) : serveRead s p 0 = respondErr s p 2 := by
  simp [serveRead, targetOf_misaligned ha]

theorem serveWrite_dram (ha : p.addr.toNat % packetBytes p = 0) (hd : inDram p.addr.toNat)
    (hf : p.flits.length = if p.size = 4 then 1 else 0) :
    serveWrite s p = atHomeOf s p (packetBytes p) (.hostWrite (packetData p).2 (packetData p).1) := by
  simp [serveWrite, hf, targetOf_dram ha hd]

/-- The request of a packet joins the queue of its home. -/
theorem joins_of_atHomeOf {i : Instr} {n : ℕ} {k : ReqKind} (h : exec i s = .next (atHomeOf s p n k)) : Joins i s p n k := h

end

theorem gives_received {i : Instr} {p : Packet} {s t : State} {opc : ℕ} {k : State → State} (h : Reaches p s opc)
    (hi : exec i s = .next (received s p opc k)) (hk : k s = t) (hkn : knownOpc opc = true) (h7 : opc ≠ 0x07 ) (h10 : opc ≠ 0x10) :
    exec i s = .next t := by
  rw [hi, received_of_reaches h hkn h7 h10, hk]

theorem fabricRequestsJoinTheirHomes : FabricRequestsJoinTheirHomes := by
  unfold FabricRequestsJoinTheirHomes
  refine ⟨fun p s h ha hd => ?_, fun p s h ha hd hh => ?_, fun p s h hh => ?_, fun p s h ha hd hf => ?_,
    fun p s h ha hd hh hz hf => ?_, fun p s h ha hd hh hz => ?_, fun p s w h ha hw hf => ?_, fun p s h ha hd hh => ?_,
    fun p s h ha hd hh => ?_, fun p s h ha hd hh hf => ?_, fun p s h ha => ?_, fun p s hdst hsrc hh ho => ?_,
    fun p s hdst hsrc ho => ?_⟩
  · exact joins_of_atHomeOf (gives_received h rfl (serveRead_dram ha hd) rfl (by decide) (by decide))
  · exact joins_of_atHomeOf (gives_received h rfl (by simp [hh, serveRead_line _ ha hd]) rfl (by decide) (by decide))
  · exact gives_received h rfl (by simp [hh]) rfl (by decide) (by decide)
  · exact joins_of_atHomeOf (gives_received h rfl (serveWrite_dram ha hd hf) rfl (by decide) (by decide))
  · refine joins_of_atHomeOf (gives_received h rfl ?_ rfl (by decide) (by decide))
    have hp : ({ p with size := 4 } : Packet) = p := by rw [← hz]
    have hn := packetBytes_line hz
    rw [if_neg (by simp [hh]), hp, serveWrite_dram (by rw [hn]; exact ha) hd (by simp [hz, hf]), hn, packetData, if_pos hz]
  · refine joins_of_atHomeOf (gives_received h rfl ?_ rfl (by decide) (by decide))
    have hz' : ¬(p.size ≠ 2 ∧ p.size ≠ 3) := by tauto
    simp only [hh, hz', targetOf_dram ha hd, Bool.false_eq_true, if_false]
  · refine gives_received h rfl ?_ rfl (by decide) (by decide)
    have hf' : (!p.flits.isEmpty && p.size != 4) = false := by
      rcases hf with hf | hf <;> simp [hf]
    simp only [targetOf_bank ha hw, hf', Bool.false_eq_true, if_false]
  · exact joins_of_atHomeOf (gives_received h rfl (by simp [hh, serveRead_line _ ha hd]) rfl (by decide) (by decide))
  · exact joins_of_atHomeOf (gives_received h rfl (by simp [hh, serveRead_line _ ha hd]) rfl (by decide) (by decide))
  · exact joins_of_atHomeOf (gives_received h rfl (by simp [hh, hf, targetOf_dram ha hd]) rfl (by decide) (by decide))
  · exact gives_received h rfl (serveRead_misaligned ha) rfl (by decide) (by decide)
  · exact congrArg Host.Outcome.next (received_of_host hdst hsrc hh ho ..)
  · exact congrArg Host.Outcome.next (received_of_unknown hdst hsrc ho ..)

/-! ### Responses -/

/-- An access that a change of its own fields names is the changed access. -/
theorem mem_modAccess_inflight {s : State} {id : ℕ} {f : Access → Access} {b : Access}
    (hb : b ∈ (modAccess s id f).inflight) (hid : b.id = id) : ∃ a ∈ s.inflight, b = f a := by
  obtain ⟨a, ha, rfl⟩ := List.mem_map.mp hb
  split at hid
  · next h => exact ⟨a, ha, if_pos h⟩
  · next h => exact absurd (beq_iff_eq.2 hid) h

/-- A peer that answers with ERR fails the access that asked it (R156, R452). -/
theorem peerFails_of_thread {a : Access} (ha : a.t.slot ≠ 14) (s : State) (stat : ℕ) :
    peerFails s a stat = if stat = 4 ∧ (isLoad a.kind ∨ a.kind = .atomic) then
        modAccess s a.id fun x => { x with poison := true, stage := .landing }
      else failAccess s a.id (if stat = 3 then worldFail a else nodeFail a) := if_neg ha

/-! ### The homes under the failure of an access -/

theorem homeAt_of_homes {s t : State} (h : t.homes = s.homes) (line : ℕ) : homeAt t line = homeAt s line := by
  rw [homeAt, h, homeAt]

theorem skipPrefetch_homes (s : State) (a : Access) : (skipPrefetch s a).homes = s.homes := by
  unfold skipPrefetch
  split
  · split <;> rfl
  · rfl

theorem failAccess_homes (s : State) (id : ℕ) (f : Fail) : (failAccess s id f).homes = s.homes := by
  unfold failAccess
  split
  · rfl
  · next a _ =>
    split
    · exact skipPrefetch_homes s a
    · extract_lets s1 s2 s3
      have h2 : s2.homes = s.homes := by
        simp only [s2, ackStore, subSack]
        (repeat' split) <;> rfl
      have h3 : s3.homes = s.homes := by
        rw [← h2]
        simp only [s3]
        split
        · rfl
        · rfl
        · split <;> rfl
        · rfl
      rw [← h3]
      split
      · split <;> rfl
      · split
        · split <;> rfl
        · split <;> rfl

theorem refuseReq_homes (s : State) (r : HomeReq) (c : FaultClass) (k : ℕ) : (refuseReq s r c k).homes = s.homes := by
  unfold refuseReq
  split
  · rfl
  · split
    · exact failAccess_homes ..
    · rfl

/-- An agent that stays silent: the snoop ends, and the device requests that wait for it fail (R240). -/
theorem agentTimeout_clears {s : State} {line : ℕ} (hx : (homeAt s line).snoop.isSome = true) :
    GivesSome (.agentTimeout line) s fun t =>
      (homeAt t line).snoop = none ∧ (∀ r ∈ (homeAt t line).queue, deviceReq r = false) ∧
      ∀ x ∈ (homeAt t line).resv, x.granted = true := by
  obtain ⟨x, hx⟩ := Option.isSome_iff_exists.mp hx
  refine givesSome_of_exec rfl ?_
  simp only [hx]
  rw [homeAt_of_homes (foldl_keeps State.homes _ (fun s r => refuseReq_homes s r _ _) _ _), homeAt_modHome, if_pos rfl]
  refine ⟨rfl, fun r hr => ?_, fun y hy => ?_⟩
  · simpa using (List.mem_filter.mp hr).2
  · exact (List.mem_filter.mp hy).2

theorem fabricResponsesReachTheirAccess : FabricResponsesReachTheirAccess := by
  unfold FabricResponsesReachTheirAccess
  refine ⟨fun p s a h ha hk => ?_, fun p s a h ha hk hp hf => ?_, fun p s a h ha hk => ?_, fun p s a h ha hk => ?_,
    fun p s a h ha hs hk => ⟨fun hst => ?_, fun hst => ?_, fun h3 h4 => ?_⟩, fun tag s a ha hs => ?_,
    fun p s line h hl => ⟨fun hst => ?_, fun hst => ?_⟩, fun line s hx => ?_⟩
  · refine givesSome_of_exec (gives_received h rfl rfl rfl (by decide) (by decide)) ?_
    simp only [ha]
    intro b hb hid
    simp only [peerRead, hk] at hb
    obtain ⟨x, -, rfl⟩ := mem_modAccess_inflight hb hid
    exact ⟨rfl, rfl, rfl⟩
  · refine gives_received h rfl ?_ rfl (by decide) (by decide)
    simp only [ha]
    simp [peerRead, hk, hf]
  · refine gives_received h rfl ?_ rfl (by decide) (by decide)
    simp only [ha]
    simp [peerWrote, hk, isStore]
  · refine gives_received h rfl ?_ rfl (by decide) (by decide)
    simp only [ha]
    simp [peerWrote, hk, isStore]
  · refine gives_received h rfl ?_ rfl (by decide) (by decide)
    simp only [ha, hst]
    rw [peerFails_of_thread hs]
    simp [worldFail]
  · refine gives_received h rfl ?_ rfl (by decide) (by decide)
    simp only [ha, hst]
    rw [peerFails_of_thread hs]
    simp [hk, isLoad]
  · refine gives_received h rfl ?_ rfl (by decide) (by decide)
    have h3' : p.stat.toNat ≠ 3 := fun he => h3 (BitVec.eq_of_toNat_eq he)
    have h4' : p.stat.toNat ≠ 4 := fun he => h4 (BitVec.eq_of_toNat_eq he)
    simp only [ha]
    rw [peerFails_of_thread hs]
    simp [h3', h4', nodeFail]
  · refine congrArg Host.Outcome.next ?_
    simp only [ha]
    rw [peerFails_of_thread hs]
    simp [nodeFail]
  · refine gives_received h rfl ?_ rfl (by decide) (by decide)
    simp only [hl, hst, if_false]
    rfl
  · refine gives_received h rfl ?_ rfl (by decide) (by decide)
    simp only [hl, hst, if_true]
    rfl
  · exact agentTimeout_clears hx

/-- Settles O58: a well-formed packet of another node gets its code's service, and a response the access, or the home, that asked. -/
theorem fabricPackets : Obligations.FabricPackets := ⟨fabricRequestsJoinTheirHomes, fabricResponsesReachTheirAccess⟩

end Sys2Proof.Machine
end

section
/-! # Walks, faults and wakes

What the events of the coalescing buffer, of stopped and parked threads, of XINV and of the access port do. -/

namespace Sys2Proof.Machine
open Sys2Proof.Claims

/-! ### Coalescing entries -/

theorem toSupervisor_inflight (s : State) (die : ℕ) (ns : Bool) (w0 w1 : Word) :
    (toSupervisor s die ns w0 w1).inflight = s.inflight := by
  unfold toSupervisor
  dsimp only
  generalize (if ns = true then (dieAt s die).nrid else (dieAt s die).srid) = tag
  split <;> rfl

theorem tellFault_inflight (s : State) (die : ℕ) (e : Coal) : (tellFault s die e).inflight = s.inflight :=
  toSupervisor_inflight ..

theorem coalRemove_inflight (s : State) (die n : ℕ) : (coalRemove s die n).inflight = s.inflight := by
  unfold coalRemove
  dsimp only
  split
  · split
    · split
      · rfl
      · exact tellFault_inflight ..
    · rfl
  · rfl

/-- Whether a waiter is a PREF is a matter of the accesses in flight. -/
theorem waitsToPrefetch_of_inflight {s t : State} (h : t.inflight = s.inflight) : waitsToPrefetch t = waitsToPrefetch s := by
  funext w
  cases w <;> simp [waitsToPrefetch, accessAt, h]

/-- A walk that fails tells the supervisor, unless only PREFs wait for it, which then skip their lines (R35, R38). -/
theorem walkFails_told {s : State} {e : Coal} (h : ∀ w ∈ e.waiters, waitsToPrefetch s w = false) (die c : ℕ) :
    walkFails s die e c =
      tellFault (modCoal s die e.index fun _ => { e with walking := false, cause := c }) die { e with walking := false, cause := c } := by
  have hkept : (e.waiters.filter fun w => !waitsToPrefetch s w) = e.waiters :=
    List.filter_eq_self.2 fun w hw => by simp [h w hw]
  have hnone : ∀ f x, e.waiters.filter (waitsToPrefetch (tellFault (modCoal s die e.index f) die x)) = [] := fun f x => by
    have ht : (tellFault (modCoal s die e.index f) die x).inflight = s.inflight := tellFault_inflight ..
    rw [waitsToPrefetch_of_inflight ht, List.filter_eq_nil_iff]
    exact fun w hw => by simp [h w hw]
  unfold walkFails
  simp only [hkept, Bool.and_not_self, Bool.false_eq_true, if_false, hnone]
  rfl

theorem walkFails_skipped {s : State} {e : Coal} (hne : e.waiters ≠ []) (h : ∀ w ∈ e.waiters, waitsToPrefetch s w = true)
    (die c : ℕ) : walkFails s die e c = e.waiters.foldl skipWaiter (coalRemove s die e.index) := by
  have hgone : (e.waiters.filter fun w => !waitsToPrefetch s w) = [] :=
    List.filter_eq_nil_iff.2 fun w hw => by simp [h w hw]
  have hall : e.waiters.filter (waitsToPrefetch (coalRemove s die e.index)) = e.waiters := by
    rw [waitsToPrefetch_of_inflight (coalRemove_inflight ..), List.filter_eq_self]
    exact h
  unfold walkFails
  simp [hgone, hall, hne]

section
variable {die n : ℕ} {s : State} {e : Coal} (he : coalAt s die n = some e)
include he

/-! The walk of an entry that has a walker, by what it finds. -/

theorem exec_tableWalk_leaf {s1 : State} {l : Leaf} (hw : e.walking = true) (hh : hasWalker s die n = true) (hl : e.leaf = none)
    (h : walkNow s (.walk die n) e.ctx (e.vpn * 65536) (entryStores s e) = .leaf s1 l) :
    exec (.tableWalk die n) s = .next (satisfy (installLeaf s1 e.core l) die l n) := by
  refine congrArg Host.Outcome.next ?_
  simp only [he, hw, hh, hl, h, Bool.not_true, Bool.or_self, Bool.false_eq_true, if_false]

theorem exec_tableWalk_fail {s1 : State} {c : ℕ} (hw : e.walking = true) (hh : hasWalker s die n = true) (hl : e.leaf = none)
    (h : walkNow s (.walk die n) e.ctx (e.vpn * 65536) (entryStores s e) = .fail s1 c) :
    exec (.tableWalk die n) s = .next (walkFails s1 die e c) := by
  refine congrArg Host.Outcome.next ?_
  simp only [he, hw, hh, hl, h, Bool.not_true, Bool.or_self, Bool.false_eq_true, if_false]

theorem exec_tableWalk_dirty {s1 : State} {l l' : Leaf} (hw : e.walking = true) (hh : hasWalker s die n = true)
    (hl : e.leaf = some l) (h : setDirty s (.walk die n) (ctxNs e.ctx) l = .leaf s1 l') :
    exec (.tableWalk die n) s = .next (satisfy (installLeaf s1 e.core l') die l' n) := by
  refine congrArg Host.Outcome.next ?_
  simp only [he, hw, hh, hl, h, Bool.not_true, Bool.or_self, Bool.false_eq_true, if_false]

theorem exec_tableWalk_changed {s1 : State} {l : Leaf} (hw : e.walking = true) (hh : hasWalker s die n = true)
    (hl : e.leaf = some l) (h : setDirty s (.walk die n) (ctxNs e.ctx) l = .changed s1) :
    exec (.tableWalk die n) s = .next (walkAgain s1 die e l) := by
  refine congrArg Host.Outcome.next ?_
  simp only [he, hw, hh, hl, h, Bool.not_true, Bool.or_self, Bool.false_eq_true, if_false]

theorem exec_tableWalk_idle (hh : hasWalker s die n = false) : exec (.tableWalk die n) s = .next s := by
  refine congrArg Host.Outcome.next ?_
  simp [he, hh]

theorem replayEntry_walking (hw : e.walking = true) : replayEntry s die n = s := by simp [replayEntry, he, hw]

theorem faultEntry_walking (hw : e.walking = true) : faultEntry s die n = s := by simp [faultEntry, he, hw]

theorem replayEntry_told (hw : e.walking = false) (hc : e.cause = 7) : replayEntry s die n = tellFault s die e := by
  simp [replayEntry, he, hw, hc]

theorem faultEntry_failed (hw : e.walking = false) :
    faultEntry s die n = e.waiters.foldl (failWaiter e) (coalRemove s die n) := by simp [faultEntry, he, hw]

/-- An entry that is walked again goes behind the others (R37). -/
theorem replayEntry_last (hw : e.walking = false) (hc : e.cause ≠ 7) :
    (dieAt (replayEntry s die n) die).coal =
      ((dieAt s die).coal.filter fun x => x.index != n) ++ [{ e with walking := true, leaf := none }] := by
  simp [replayEntry, he, hw, hc]

theorem index_of_coalAt : e.index = n := by
  have := List.find?_some he
  simpa using this

theorem coalAt_replayEntry (hw : e.walking = false) (hc : e.cause ≠ 7) :
    coalAt (replayEntry s die n) die n = some { e with walking := true, leaf := none } ∧
      (dieAt (replayEntry s die n) die).coal.getLast? = coalAt (replayEntry s die n) die n := by
  have hf : coalAt (replayEntry s die n) die n = some { e with walking := true, leaf := none } := by
    unfold coalAt
    rw [replayEntry_last he hw hc, List.find?_append]
    have hn : ((dieAt s die).coal.filter fun x => x.index != n).find? (fun x => x.index == n) = none := by
      rw [List.find?_eq_none]
      intro x hx
      simpa using (List.mem_filter.mp hx).2
    simp [hn, index_of_coalAt he]
  refine ⟨hf, ?_⟩
  rw [hf, replayEntry_last he hw hc]
  simp

end

/-! ### Stopped threads -/

theorem threadAt_sendEvent (s : State) (c type slot : ℕ) (rid : BitVec 32) (d : Word) (t : ThreadRef) :
    threadAt (sendEvent s c type slot rid d) t = threadAt s t := by
  unfold sendEvent
  dsimp only
  split
  · exact threadAt_deliver ..
  · exact toSupervisor_threads ..

/-- A slot that is freed holds no thread. -/
theorem threadAt_freeSlot (s : State) (t : ThreadRef) : threadAt (freeSlot s t) t = Thread.reset := by
  have h : ∀ s f, (∀ k, (f k : Core).threads = k.threads) →
      threadAt (modCore (setThread s t Thread.reset) t.core f) t = Thread.reset := fun s f hf => by
    rw [threadAt_modCore _ _ _ hf, threadAt_setThread_same]
  unfold freeSlot
  dsimp only
  split
  · rw [threadAt_sendEvent, h]
    exact fun _ => rfl
  · rw [h]
    exact fun _ => rfl

theorem threadAt_endRider (s : State) (t : ThreadRef) : threadAt (endRider s t) t = Thread.reset := by
  unfold endRider
  dsimp only
  split <;> exact threadAt_freeSlot ..

theorem stoppedThread_iff (th : Thread) : stoppedThread th = true ↔ th.run ≠ .free ∧ (th.froz = true ∨ th.susp = true) := by
  simp [stoppedThread]

theorem threadAt_endStopped {s : State} {t : ThreadRef} (h : stoppedThread (threadAt s t) = true) :
    threadAt (endStopped s t) t = Thread.reset := by
  unfold endStopped
  rw [if_neg (by simp [h])]
  exact threadAt_endRider ..

/-- RESUME of a thread without results lets it go on (R434). -/
theorem resumeFrozen_plain {s : State} {t : ThreadRef} (hr : (threadAt s t).run ≠ .free) (hf : (threadAt s t).froz = true)
    (ho : (threadAt s t).outs = []) : resumeFrozen s t = modThread s t fun th => { th with froz := false } := by
  have ha : acceptanceOf (threadAt (modThread s t fun th => { th with froz := false }) t) = none := by
    simp [acceptanceOf, ho]
  unfold resumeFrozen
  simp only [hr, hf, ho, Bool.not_true, Bool.false_eq_true, or_self, if_false, List.filter_nil, List.foldl_nil, answerRecord, ha]

/-- RESUME of a thread whose failed load is answered with a value of its g register: the result is good (R434). -/
theorem resumeFrozen_answered {s : State} {t : ThreadRef} {o : Out} (hr : (threadAt s t).run ≠ .free)
    (hf : (threadAt s t).froz = true) (ho : (threadAt s t).outs = [o]) (hh : holdsEntry o.kind = true) (hfail : o.fail.isSome = true)
    (hact : o.act = 1) (hfile : o.file = .g) (hk : o.kind ≠ .struct) :
    (threadAt (resumeFrozen s t) t).outs = [{ o with fail := none, act := 0, flags := 0, bst := none }] ∧
      (threadAt (resumeFrozen s t) t).froz = false := by
  have ha : threadAt (answerEntry t (modThread s t fun th => { th with froz := false }) o) t =
      { threadAt s t with froz := false, outs := [{ o with fail := none, act := 0, flags := 0, bst := none }] } := by
    simp only [answerEntry, hact, hfile, and_self, if_true, modOut, threadAt_modThread_same]
    simp [ho, hk, hfile]
  have hres : resumeFrozen s t = answerEntry t (modThread s t fun th => { th with froz := false }) o := by
    unfold resumeFrozen
    simp only [hr, hf, ho, hh, hfail, Bool.not_true, Bool.false_eq_true, or_self, if_false, Bool.and_self, List.filter_cons_of_pos,
      List.filter_nil, List.foldl_cons, List.foldl_nil, answerRecord]
    rw [ha]
    simp [acceptanceOf]
  rw [hres, ha]
  exact ⟨rfl, rfl⟩

/-! ### Parked threads -/

/-- A parked thread whose condition holds is READY, with what it waited for (R183). -/
theorem exec_slotWake {t : ThreadRef} {s : State} {w : Park} (hr : (threadAt s t).run = .parked w) (hc : ∀ c, w ≠ .copy c)
    (hf : (threadAt s t).froz = false) (he : parkEnds s t w = true) :
    exec (.slotWake t) s = .next (modThread (served s t w) t fun th => { th with run := .ready }) := by
  refine congrArg Host.Outcome.next ?_
  simp only [hf, hr, he, Bool.false_eq_true, if_false, if_true]

theorem served_other (s : State) (t : ThreadRef) {w : Park} (hp : ∀ n, w ≠ .chainPop n) (hq : w ≠ .chainPush)
    (hm : w ≠ .marker) : served s t w = s := by
  unfold served
  split
  · next n => exact absurd rfl (hp n)
  · exact absurd rfl hq
  · exact absurd rfl hm
  · rfl

theorem threadAt_takeEntries (s : State) (t : ThreadRef) (n : ℕ) :
    threadAt (takeEntries s t n) t = { threadAt s t with popped := (coreAt s t.core).chain.take n } := by
  unfold takeEntries
  rw [threadAt_modThread_same, threadAt_modCore]
  exact fun _ => rfl

theorem chain_takeEntries (s : State) (t : ThreadRef) (n : ℕ) :
    (coreAt (takeEntries s t n) t.core).chain = (coreAt s t.core).chain.drop n := by
  unfold takeEntries
  rw [chain_modThread, coreAt_modCore, if_pos rfl]

/-! ### XINV (R33) -/

/-- The beginning of an XINV, seen through what it leaves of the cores' tables and its entry in the list. -/
theorem xinvBegin_cores (s : State) (t : ThreadRef) (v : Word) :
    (xinvBegin s t v).cores = (dropLeaves s (xinvCores v t.core) (xinvQuads v t.core) (xinvNames v)).cores := by
  refine foldl_keeps State.cores _ (fun s d => ?_) _ _
  split <;> rfl

theorem xinvBegin_xinvs (s : State) (t : ThreadRef) (v : Word) :
    (xinvBegin s t v).xinvs.map (·.t) = s.xinvs.map (·.t) ++ [t] := by
  unfold xinvBegin
  extract_lets gone waits rows s1 forget s2
  have h2 : s2.xinvs = s.xinvs := foldl_keeps State.xinvs _ (fun s d => by split <;> rfl) _ _
  simp [h2]

theorem tlb_xinvBegin (s : State) (t : ThreadRef) (v : Word) (h : xinvCores v t.core t.core = true) :
    ∀ l ∈ (coreAt (xinvBegin s t v) t.core).tlb, xinvNames v l = false := by
  rw [coreAt, xinvBegin_cores]
  refine aget_of_forall (p := fun k : Core => ∀ l ∈ k.tlb, xinvNames v l = false) (by simp [Core.reset]) fun e he hk => ?_
  obtain ⟨he, -⟩ := List.mem_filter.mp he
  obtain ⟨x, -, rfl⟩ := List.mem_map.mp he
  have hc : xinvCores v t.core x.1 = true := by
    split at hk <;> exact hk ▸ h
  rw [if_pos hc]
  intro l hl
  simpa using (List.mem_filter.mp hl).2

/-! ### The access port -/

theorem threadAt_inflight (s : State) (l : List Access) (t : ThreadRef) :
    threadAt { s with inflight := l } t = threadAt s t := rfl

/-- A load or a store of the access port, aligned and of a policy that it may have, outside the device region, goes in flight (R432). -/
theorem portStart_sends {s : State} {t : ThreadRef} {v : Word} (hb : (threadAt s t).port.busy = false) (hv : bit v.toNat 63 = true)
    (hk : v.toNat % 4 < 2) (ha : (threadAt s t).port.paddr.toNat % 2 ^ field v.toNat 3 2 = 0) (hp : field v.toNat 6 4 < 4)
    (hd : inDeviceRegion (threadAt s t).port.paddr.toNat = false) :
    (threadAt (portStart s t v) t).port.busy = true ∧
      ∃ a ∈ (portStart s t v).inflight, a.t = t ∧ a.kind = .port (v.toNat % 4) ∧ a.stage = .coal ∧
        a.va = (threadAt s t).port.paddr.toNat ∧ a.n = 2 ^ field v.toNat 3 2 ∧ a.pol = field v.toNat 6 4 := by
  have h2 : v.toNat % 4 ≠ 2 := by omega
  have h3 : v.toNat % 4 ≠ 3 := by omega
  have hp' : ¬4 ≤ field v.toNat 6 4 := by omega
  unfold portStart
  simp only [hb, hv, h2, h3, ha, hp', hd, Bool.not_true, Bool.false_eq_true, or_self, if_false, ne_eq, not_true_eq_false, false_and,
    and_false]
  refine ⟨?_, _, List.mem_append_right _ (List.mem_singleton_self _), rfl, rfl, rfl, rfl, rfl, rfl⟩
  rw [threadAt_inflight, threadAt_modThread_same]

/-- Settles O50: one rule for each event, by what its entry, its thread or its access stands at. -/
theorem walksFaultsAndWakes : Obligations.WalksFaultsAndWakes := by
  unfold Obligations.WalksFaultsAndWakes
  refine ⟨fun die n s e he _ hh => exec_tableWalk_idle he hh,
    fun die n s e he hw hh hl => ⟨fun s1 l h => ?_, fun s1 c h => ⟨fun hp => ?_, fun hne hp => ?_⟩⟩, fun die n s e l he hw hh hl => ⟨fun s1 l' h => ?_, fun s1 h => ?_⟩,
    fun die n s e he hw => ⟨fun hc => ?_, fun hc => ?_, ?_⟩, fun die n s e he hw => ⟨?_, ?_⟩, fun t s hr hf ho => ?_,
    fun t s o hr hf ho hh hfail hact hfile hk => ?_, fun t s hr hs => ?_, fun t s w hr hc hp hq hm hf he => ?_,
    fun t s n hr hf he => ?_, fun t s hr hf he => ?_, fun t s hr hf he => ?_, fun t v s hi => ?_, fun t s x hx hy hr => ?_,
    fun t v s hs hb hv hk ha hp hd => ?_, fun t s a ha hst hpo hrid => ?_⟩
  · exact exec_tableWalk_leaf he hw hh hl h
  · exact (exec_tableWalk_fail he hw hh hl h).trans (congrArg _ (walkFails_told hp die c))
  · exact (exec_tableWalk_fail he hw hh hl h).trans (congrArg _ (walkFails_skipped hne hp die c))
  · exact exec_tableWalk_dirty he hw hh hl h
  · exact exec_tableWalk_changed he hw hh hl h
  · exact givesSome_of_exec rfl (coalAt_replayEntry he hw hc)
  · exact congrArg Host.Outcome.next (replayEntry_told he hw hc)
  · exact congrArg Host.Outcome.next (faultEntry_failed he hw)
  · exact congrArg Host.Outcome.next (replayEntry_walking he hw)
  · exact congrArg Host.Outcome.next (faultEntry_walking he hw)
  · refine givesSome_of_exec rfl ?_
    rw [resumeFrozen_plain hr hf ho, threadAt_modThread_same]
  · exact givesSome_of_exec rfl (resumeFrozen_answered hr hf ho hh hfail hact hfile hk)
  · exact givesSome_of_exec rfl (threadAt_endStopped ((stoppedThread_iff _).2 ⟨hr, hs⟩))
  · refine givesSome_of_exec (exec_slotWake hr hc hf he) ?_
    rw [served_other s t hp hq hm, threadAt_modThread_same]
  · refine givesSome_of_exec (exec_slotWake hr nofun hf he) ⟨?_, ?_⟩
    · rw [threadAt_modThread_same]
      exact congrArg (fun th : Thread => { th with run := .ready }) (threadAt_takeEntries s t n)
    · rw [chain_modThread]
      exact chain_takeEntries s t n
  · refine givesSome_of_exec (exec_slotWake hr nofun hf he) ?_
    simp [served]
  · refine givesSome_of_exec (exec_slotWake hr nofun hf he) ?_
    simp [served]
  · refine givesSome_of_exec (congrArg Host.Outcome.next (if_pos hi)) ⟨?_, ?_, fun l hl hc => ?_⟩
    · rw [threadAt_modThread_same]
    · exact xinvBegin_xinvs s t v
    · exact tlb_xinvBegin s t v hc l (by simpa [modThread] using hl)
  · refine givesSome_of_exec rfl ?_
    simp only [hx, hy, Bool.not_true, Bool.false_eq_true, if_false]
    refine ⟨?_, rfl⟩
    rw [threadAt_modThread_same]
    have ht : (threadAt { s with xinvs := s.xinvs.erase x } t).run = .parked .xinv := hr
    simp [ht]
  · have hstop : stoppedThread (threadAt s t) = true := (stoppedThread_iff _).2 hs
    exact givesSome_of_exec (congrArg Host.Outcome.next (if_pos hstop)) (portStart_sends hb hv hk ha hp hd)
  · refine givesSome_of_exec rfl ?_
    have hr : ((threadAt (dropAccess s a.id) t).rid != a.rid) = false := by simpa using hrid
    simp only [ha, hst, hr, hpo, Bool.false_eq_true, if_false, portEnds, threadAt_modThread_same]
    rfl

end Sys2Proof.Machine
end

section
/-! # Homes and their LLC

What a home has of a line, and what it does for the request at the head of the line's queue (R51, R54, R149). -/

namespace Sys2Proof.Machine
open Sys2Proof.Claims

/-! ### Bytes of a line -/

/-- A masked write changes the bytes of its range that the mask names. -/
theorem rdByte_wrMasked (m : Memory) (a n mask v x : ℕ) :
    rdByte (wrMasked m a n mask v) x =
      if a ≤ x ∧ x < a + n ∧ mask.testBit (x - a) then BitVec.ofNat 8 (v / 256 ^ (x - a)) else rdByte m x := by
  induction n generalizing m a mask v with
  | zero =>
    rw [if_neg (by omega)]
    rfl
  | succ n ih =>
    have hw : ∀ y, y ≠ a → rdByte (if mask % 2 = 1 then wrByte m a (BitVec.ofNat 8 v) else m) y = rdByte m y := by
      intro y hy
      split
      · exact rdByte_wrByte_other _ _ hy
      · rfl
    simp only [wrMasked]
    obtain hx | rfl | hx := lt_trichotomy x a
    · rw [rdByte_wrMasked_outside _ _ _ _ _ _ (.inl (by omega)), hw x (by omega), if_neg (by omega)]
    · rw [rdByte_wrMasked_outside _ _ _ _ _ _ (.inl (by omega))]
      by_cases hm : mask % 2 = 1 <;> simp [hm, Nat.testBit_zero]
    · obtain ⟨k, rfl⟩ := Nat.exists_eq_add_of_lt hx
      have hk : a + k + 1 - a = k + 1 := by omega
      have hk' : a + k + 1 - (a + 1) = k := by omega
      rw [ih, hk, hk', hw _ (by omega), Nat.div_div_eq_div_mul, ← Nat.pow_succ', Nat.testBit_succ]
      exact if_congr (by constructor <;> rintro ⟨_, _, hb⟩ <;> exact ⟨by omega, by omega, hb⟩) rfl rfl

theorem mergeBytes_lt (mask a b n : ℕ) : mergeBytes mask a b n < 2 ^ (8 * n) := by
  induction n generalizing mask a b with
  | zero => simp [mergeBytes]
  | succ n ih =>
    have h := ih (mask / 2) (a / 256) (b / 256)
    rw [mergeBytes, Nat.mul_succ, Nat.pow_add]
    split <;> omega

/-- Byte i of two numbers merged is that of the one which the mask names. -/
theorem mergeBytes_byte {n i : ℕ} (h : i < n) (mask a b : ℕ) :
    mergeBytes mask a b n / 256 ^ i % 256 = (if mask.testBit i then a else b) / 256 ^ i % 256 := by
  induction n generalizing mask a b i with
  | zero => omega
  | succ n ih =>
    rw [mergeBytes]
    cases i with
    | zero =>
      simp only [Nat.pow_zero, Nat.div_one, Nat.testBit_zero, decide_eq_true_eq]
      split <;> omega
    | succ i =>
      have hd : ∀ c x, (c % 256 + 256 * x) / 256 = x := by omega
      have hif : ((if mask % 2 = 1 then a % 256 else b % 256) + 256 * mergeBytes (mask / 2) (a / 256) (b / 256) n) / 256 =
          mergeBytes (mask / 2) (a / 256) (b / 256) n := by split <;> exact hd ..
      rw [Nat.pow_succ', ← Nat.div_div_eq_div_mul, ← Nat.div_div_eq_div_mul, hif, ih (by omega), Nat.testBit_succ]
      split <;> rfl

/-- Byte i of a line, from the line as a number. -/
theorem extractByte_eq (d : Line) (i : ℕ) : d.extractLsb' (8 * i) 8 = BitVec.ofNat 8 (d.toNat / 256 ^ i) := by
  apply BitVec.eq_of_toNat_eq
  rw [BitVec.extractLsb'_toNat, BitVec.toNat_ofNat, Nat.shiftRight_eq_div_pow, Nat.pow_mul]

theorem overlay_byte (mask : BitVec 64) (a b : Line) {i : ℕ} (h : i < 64) :
    (overlay mask a b).extractLsb' (8 * i) 8 =
      if mask.getLsbD i then a.extractLsb' (8 * i) 8 else b.extractLsb' (8 * i) 8 := by
  have hlt := mergeBytes_lt mask.toNat a.toNat b.toNat 64
  simp only [extractByte_eq, overlay, BitVec.toNat_ofNat]
  rw [show 8 * 64 = 512 from rfl] at hlt
  rw [Nat.mod_eq_of_lt hlt]
  apply BitVec.eq_of_toNat_eq
  have hb := mergeBytes_byte h mask.toNat a.toNat b.toNat
  rw [BitVec.toNat_ofNat, show (2 : ℕ) ^ 8 = 256 from rfl, hb]
  change (if mask.getLsbD i then a.toNat else b.toNat) / 256 ^ i % 256 = _
  split <;> rfl

/-! ### The LLC (R51, R54) -/

theorem find?_aput {α : Type} (l : Assoc α) (k k' : ℕ) (v : α) :
    ((aput l k v).find? fun e => e.1 == k') = if k' = k then some (k, v) else l.find? fun e => e.1 == k' := by
  induction l with
  | nil =>
    by_cases h : k' = k
    · simp [aput, h]
    · simp [aput, h, Ne.symm h]
  | cons e r ih =>
    obtain ⟨k₀, v₀⟩ := e
    simp only [aput]
    split_ifs with h1 h2 h3 <;> grind

theorem find?_adel {α : Type} (l : Assoc α) (k : ℕ) : ((adel l k).find? fun e => e.1 == k) = none := by
  rw [adel_eq_filter, List.find?_filter, List.find?_eq_none.2 (fun e _ => by grind)]

theorem llcAt_setLlc (s : State) (line line' : ℕ) (l : LlcLine) :
    llcAt (setLlc s line l) line' = if line' = line then some l else llcAt s line' := by
  unfold llcAt setLlc
  rw [find?_aput]
  split <;> rfl

theorem llcAt_dropLlc (s : State) (line : ℕ) : llcAt (dropLlc s line) line = none := by
  unfold llcAt dropLlc
  rw [find?_adel, Option.map_none]

/-- Byte i of a line as its home has it. -/
def homeByte (s : State) (line i : ℕ) : Byte := (homeData s line).extractLsb' (8 * i) 8

theorem homeData_of_llc {s : State} {line : ℕ} {l : LlcLine} (h : llcAt s line = some l) : homeData s line = l.data := by
  rw [homeData, h]

theorem linePoison_of_llc {s : State} {line : ℕ} {l : LlcLine} (h : llcAt s line = some l) : linePoison s line = l.bad := by
  rw [linePoison, h]

/-- What a home has of a line depends on the LLC and the DRAM array. -/
theorem homeData_congr {s t : State} (hl : t.llc = s.llc) (hd : t.dram = s.dram) (line : ℕ) : homeData t line = homeData s line := by
  unfold homeData llcAt
  rw [hl, hd]

/-- A write at a home whose LLC has the line changes the LLC only. -/
theorem writeHome_of_llc {s : State} {line : ℕ} {l : LlcLine} (h : llcAt s line = some l) (m : BitVec 64) (d : Line) :
    writeHome s line m d =
      if m = 0 then s else setLlc s line ⟨overlay m d l.data, true, l.bad && m != BitVec.allOnes 64⟩ := by
  rw [writeHome, h]

theorem homeByte_setLlc (s : State) (line line' i : ℕ) (l : LlcLine) :
    homeByte (setLlc s line l) line' i = if line' = line then l.data.extractLsb' (8 * i) 8 else homeByte s line' i := by
  unfold homeByte homeData
  rw [llcAt_setLlc]
  by_cases h : line' = line
  · simp [h]
  · simp only [h, if_false]
    rfl

/-- The write changes the bytes of its line that its mask names, and no other byte that a home holds (R51). -/
theorem homeByte_writeHome {s : State} {line : ℕ} {l : LlcLine} (h : llcAt s line = some l) (m : BitVec 64) (d : Line)
    (line' : ℕ) {i : ℕ} (hi : i < 64) :
    homeByte (writeHome s line m d) line' i =
      if line' = line ∧ m.getLsbD i = true then d.extractLsb' (8 * i) 8 else homeByte s line' i := by
  rw [writeHome_of_llc h]
  split
  · next hm => simp [hm]
  · rw [homeByte_setLlc, overlay_byte _ _ _ hi]
    by_cases hl : line' = line
    · subst hl
      simp [homeByte, homeData_of_llc h]
    · simp [hl]

/-- A modified line goes to the DRAM array, byte for byte (R54). -/
theorem cleanLlc_dram {s : State} {line : ℕ} {l : LlcLine} (h : llcAt s line = some l) :
    (cleanLlc s line).dram =
      if l.dirty then wrMasked s.dram (64 * line) 64 (BitVec.allOnes 64).toNat l.data.toNat else s.dram := by
  unfold cleanLlc
  rw [h]
  dsimp only
  split <;> split <;> rfl

theorem rdByte_writtenLine (m : Memory) (line : ℕ) (d : Line) (a : ℕ) :
    rdByte (wrMasked m (64 * line) 64 (BitVec.allOnes 64).toNat d.toNat) a =
      if a / 64 = line then d.extractLsb' (8 * (a % 64)) 8 else rdByte m a := by
  rw [rdByte_wrMasked, extractByte_eq]
  by_cases hl : a / 64 = line
  · have hk : a - 64 * line = a % 64 := by omega
    have hb : (BitVec.allOnes 64).getLsbD (a % 64) = true := by
      rw [BitVec.getLsbD_allOnes, decide_eq_true_eq]
      exact Nat.mod_lt _ (by decide)
    rw [if_pos ⟨by omega, by omega, hk ▸ hb⟩, if_pos hl, hk]
  · rw [if_neg (by omega), if_neg hl]

/-! ### A line enters the LLC -/

/-- The state with a line in the LLC, when there is room for it. -/
def entered (s : State) (line : ℕ) : State := if (llcAt s line).isSome then s else fetchLlc s line

theorem enterLlc_room {s : State} {line : ℕ} (h : (llcAt s line).isSome = true ∨ (llcMates s line).length < 16) :
    enterLlc s line = (true, entered s line) := by
  unfold enterLlc entered
  split
  · rfl
  · next hn => exact if_pos (h.resolve_left hn)

@[simp] theorem entered_homes (s : State) (line : ℕ) : (entered s line).homes = s.homes := by unfold entered; split <;> rfl

@[simp] theorem entered_dram (s : State) (line : ℕ) : (entered s line).dram = s.dram := by unfold entered; split <;> rfl

@[simp] theorem entered_sram (s : State) (line : ℕ) : (entered s line).sram = s.sram := by unfold entered; split <;> rfl

@[simp] theorem entered_dies (s : State) (line : ℕ) : (entered s line).dies = s.dies := by unfold entered; split <;> rfl

@[simp] theorem entered_nextId (s : State) (line : ℕ) : (entered s line).nextId = s.nextId := by unfold entered; split <;> rfl

/-- The line that has entered is the home's line as it was, with its mark (R51). -/
theorem llcAt_entered (s : State) (line : ℕ) :
    ∃ l, llcAt (entered s line) line = some l ∧ l.data = homeData s line ∧ l.bad = linePoison s line := by
  unfold entered homeData linePoison
  cases h : llcAt s line with
  | some l => exact ⟨l, by simp [h], rfl, rfl⟩
  | none => exact ⟨⟨rdLine s.dram (64 * line), false, s.dramBad.contains line⟩, by simp [fetchLlc, llcAt_setLlc], rfl, rfl⟩

theorem homeData_entered (s : State) (line line' : ℕ) : homeData (entered s line) line' = homeData s line' := by
  by_cases hl : line' = line
  · subst hl
    obtain ⟨l, h, hd, -⟩ := llcAt_entered s line'
    rw [homeData_of_llc h, hd]
  · unfold entered
    split
    · rfl
    · rw [fetchLlc, homeData, llcAt_setLlc, if_neg hl]
      rfl

theorem linePoison_entered (s : State) (line : ℕ) : linePoison (entered s line) line = linePoison s line := by
  obtain ⟨l, h, -, hb⟩ := llcAt_entered s line
  rw [linePoison_of_llc h, hb]

/-! ### The stack wakes (R490) -/

/-- To wake a stack changes the stacks only. -/
theorem wakeStack_eq (s : State) (line : ℕ) : wakeStack s line = { s with qdies := (wakeStack s line).qdies } := by
  unfold wakeStack
  split <;> rfl

@[simp] theorem homeAt_wakeStack (s : State) (line line' : ℕ) : homeAt (wakeStack s line) line' = homeAt s line' := by
  rw [wakeStack_eq]; rfl

@[simp] theorem llcAt_wakeStack (s : State) (line line' : ℕ) : llcAt (wakeStack s line) line' = llcAt s line' := by
  rw [wakeStack_eq]; rfl

@[simp] theorem llcMates_wakeStack (s : State) (line line' : ℕ) : llcMates (wakeStack s line) line' = llcMates s line' := by
  rw [wakeStack_eq]; rfl

@[simp] theorem homeFree_wakeStack (s : State) (line line' : ℕ) : homeFree (wakeStack s line) line' = homeFree s line' := by
  rw [wakeStack_eq]; rfl

@[simp] theorem homeData_wakeStack (s : State) (line line' : ℕ) : homeData (wakeStack s line) line' = homeData s line' := by
  rw [wakeStack_eq]; rfl

@[simp] theorem linePoison_wakeStack (s : State) (line line' : ℕ) : linePoison (wakeStack s line) line' = linePoison s line' := by
  rw [wakeStack_eq]; rfl

@[simp] theorem dieAt_wakeStack (s : State) (line d : ℕ) : dieAt (wakeStack s line) d = dieAt s d := by
  rw [wakeStack_eq]; rfl

@[simp] theorem wakeStack_nextId (s : State) (line : ℕ) : (wakeStack s line).nextId = s.nextId := by
  rw [wakeStack_eq]

/-- The regions of a stack stay when it wakes, so the worlds of its lines do too (R457). -/
@[simp] theorem secureLine_wakeStack (s : State) (line line' : ℕ) : secureLine (wakeStack s line) line' = secureLine s line' := by
  have hr : ∀ n, (stackAt (wakeStack s line) n).regions = (stackAt s n).regions := by
    intro n
    unfold wakeStack
    split
    · rw [stackAt_modStack]
      split
      · next h => rw [h]
      · rfl
    · rfl
  simp only [secureLine, regionAt, hr]

/-! ### Serving a request (R149) -/

/-- The request at the head of a line's queue leaves it. -/
def popped (s : State) (line : ℕ) (rest : List HomeReq) : State := modHome s line fun h => { h with queue := rest }

/-- Nobody has been asked for a line, and nobody waits to be told (R452). -/
structure Unasked (h : Home) : Prop where
  snoop : h.snoop = none
  snooped : h.snooped = []
  unanswered : h.unanswered = []

theorem biasReady_unasked {s : State} {line : ℕ} (h : Unasked (homeAt s line)) (who : Asker) (excl ns bias : Bool) :
    biasReady s line who excl ns bias = if bias then .wait (sendSnoop s line who excl ns) else .yes s := by
  simp [biasReady, h.snoop, h.snooped, h.unanswered]

theorem answerUsed_unasked {s : State} {line : ℕ} (h : Unasked (homeAt s line)) (who : Asker) : answerUsed s line who = s := by
  simp [answerUsed, h.snooped]

theorem Unasked.awake {s : State} {line : ℕ} (h : Unasked (homeAt s line)) : Unasked (homeAt (wakeStack s line) line) := by
  rwa [homeAt_wakeStack]

/-- The request at the head of the queue of a line whose home waits for nothing. -/
structure AtHead (s : State) (line : ℕ) (r : HomeReq) (rest : List HomeReq) : Prop where
  queue : (homeAt s line).queue = r :: rest
  act : (homeAt s line).act = none
  free : homeFree s line = true

theorem AtHead.awake {s : State} {line : ℕ} {r : HomeReq} {rest : List HomeReq} (h : AtHead s line r rest) :
    AtHead (wakeStack s line) line r rest := ⟨by simpa using h.queue, by simpa using h.act, by simpa using h.free⟩

section
variable {s : State} {line : ℕ} {r : HomeReq} {rest : List HomeReq}

/-- What a home asks for itself, it begins at once. -/
theorem serveHome_evict (h : AtHead s line r rest) (hk : r.kind = .evict) :
    serveHome s line = startHome (popped s line rest) line r := by
  simp [serveHome, h.act, h.queue, h.free, hk, popped]

theorem homeRefuses_device (hh : r.host = none) :
    homeRefuses s line r = if r.ns && secureLine s line then some (.world, 12) else none := by
  simp [homeRefuses, hh]

/-- A non-secure request of a die to a secure line is refused (R458). -/
theorem serveHome_refused (h : AtHead s line r rest) (hh : r.host = none) (he : r.kind ≠ .evict) (hf : r.kind ≠ .flip)
    (hns : r.ns = true) (hs : secureLine s line = true) :
    serveHome s line = refuseReq (popped s line rest) r .world 12 := by
  simp [serveHome, h.act, h.queue, h.free, he, hf, sameNodeAhead, homeRefuses_device, hh, hns, hs, popped]

/-- A request of a die to a line of its world is begun once the line is in the LLC, when it is no reservation and asks no agent. -/
theorem serveHome_admitted (h : AtHead s line r rest) (hh : r.host = none) (he : r.kind ≠ .evict) (hf : r.kind ≠ .flip)
    (hr : ∀ w, r.kind ≠ .reserve w) (hw : r.ns = true → secureLine s line = false) (hu : Unasked (homeAt s line))
    (hb : r.bias = false) (hl : (llcAt s line).isSome = true ∨ (llcMates s line).length < 16) :
    serveHome s line = startHome (popped (entered s line) line rest) line r := by
  have hw' : (r.ns && secureLine s line) = false := by
    cases hns : r.ns with
    | false => rfl
    | true => rw [hw hns]; rfl
  have hu' : Unasked (homeAt (entered s line) line) := by rwa [homeAt_of_homes (entered_homes s line)]
  have he' : (r.kind == .evict || r.kind == .flip) = false := by simp [he, hf]
  unfold serveHome
  simp only [h.act, h.queue, h.free, he', sameNodeAhead, homeRefuses_device hh, hw', enterLlc_room hl, hh, Bool.not_true,
    Bool.false_eq_true, if_false, if_true, biasReady_unasked hu', answerUsed_unasked hu', hb]
  rfl

end

/-- No word is recalled of a line that no die owns. -/
theorem wordsRecalled_unowned {s : State} {line : ℕ} (ho : (homeAt s line).own = 0) (r : HomeReq) : wordsRecalled s line r = 0 := by
  unfold wordsRecalled
  dsimp only
  rw [ho]
  generalize (if (homeAt s line).odie = r.die then (l2At s r.die r.pa).own else 0) = mine
  have hz : r.words &&& 0 &&& ~~~mine = 0 := by simp
  have hz' : r.words &&& 0 = 0 := by simp
  rw [hz, hz']
  cases r.kind with
  | own _ | reserve _ => exact ite_self _
  | hostRead k =>
    match k with
    | 1 | 2 => exact ite_self _
    | 0 | _ + 3 => rfl
  | _ => rfl

/-- A request that needs nothing of other holders is performed at once (R149). -/
theorem startHome_alone {s : State} {line : ℕ} {r : HomeReq} (ho : (homeAt s line).own = 0)
    (hs : takesLine r = false ∨ (homeAt s line).shr = 0) : startHome s line r = finishHome s line r := by
  have hl : (if takesLine r then (List.range 4).filter fun d => (homeAt s line).shr.getLsbD d else []) = [] := by
    rcases hs with h | h <;> simp [h]
  unfold startHome
  simp only [wordsRecalled_unowned ho, hl, List.filter_nil, List.foldl_nil, List.length_nil, true_or, if_true]

/-- The reply for a line that no die owns carries all its words (R148). -/
theorem answerReq_unowned {s : State} {line : ℕ} (ho : (homeAt s line).own = 0) (r : HomeReq) (share : Bool) :
    answerReq s line r 0 share = stageAccess { s with nextId := s.nextId + 1 } r.id
      (.reply ⟨homeData s line, 0, 0, share, linePoison s line, s.nextId⟩) := by
  have hm : ownedElsewhere { s with nextId := s.nextId + 1 } line r.die r.pa &&& ~~~(0 : BitVec 16) = 0 := by
    have ho' : (homeAt { s with nextId := s.nextId + 1 } line).own = 0 := ho
    simp [ownedElsewhere, ho']
  unfold answerReq fresh
  dsimp only
  rw [hm]
  rfl

theorem finishHome_readWt {s : State} {line : ℕ} {r : HomeReq} (hk : r.kind = .readWt) (hf : (dieAt s (dieOf r.t.core)).fenced = false) :
    finishHome s line r = answerReq s line r 0 false := by
  simp [finishHome, fromFenced, hk, hf]

theorem finishHome_evict {s : State} {line : ℕ} {r : HomeReq} (hk : r.kind = .evict) :
    finishHome s line r = dropLlc (cleanLlc s line) line := by
  simp [finishHome, fromFenced, hk]

/-- What a store of a die does to the copies of its line, or a QST, which comes from no die (R117, R144). -/
def copiesTake (s : State) (r : HomeReq) (m : BitVec 64) (d : Line) : State :=
  if r.die < 4 then storeIntoCopies s (dieOf r.t.core) r.core r.pa m d else copiesAge s r.core r.pa

theorem applyWrite_unshared {s : State} {pa : ℕ} (hs : (homeAt s (homeLine pa)).shr = 0) (die : ℕ) (m : BitVec 64) (d : Line) (op : ℕ) :
    applyWrite s die pa m d op = (0, writeHome s (homeLine pa) m d) := by
  simp [applyWrite, hs]

/-- A `.wt` write of a line that no die shares is performed at once: at the home, and in the copies of its own die (R144, R147). -/
theorem finishHome_write {s : State} {line : ℕ} {r : HomeReq} {m : BitVec 64} {d : Line} (hk : r.kind = .write 1 m d)
    (hp : homeLine r.pa = line) (hs : (homeAt s line).shr = 0) :
    finishHome s line r = storePerformed (copiesTake (writeHome { s with nextId := s.nextId + 1 } line m d) r m d) r.id := by
  subst hp
  have hs' : (homeAt { s with nextId := s.nextId + 1 } (homeLine r.pa)).shr = 0 := hs
  simp [finishHome, fromFenced, hk, fresh, applyWrite_unshared hs', copiesTake]

end Sys2Proof.Machine
end

section
/-! # The copies of a die

What the operations on L1 and L2 lines leave of the rest of the package, and of the lines that they do not name (R44, R50, R54, R144). -/

namespace Sys2Proof.Machine
open Sys2Proof.Claims

/-! ### What lies outside the cores and dies -/

/-- A state but for its cores and its dies, where all copies are. -/
def beyondCopies (s : State) : State := { s with cores := [], dies := [] }

@[simp] theorem beyondCopies_setL2 (s : State) (die pa : ℕ) (l : L2Line) : beyondCopies (setL2 s die pa l) = beyondCopies s := rfl

@[simp] theorem beyondCopies_setL1 (s : State) (core pa : ℕ) (l : L1Line) : beyondCopies (setL1 s core pa l) = beyondCopies s := rfl

@[simp] theorem beyondCopies_backL1 (s : State) (core pa : ℕ) : beyondCopies (backL1 s core pa) = beyondCopies s := by
  unfold backL1
  split
  · split <;> rfl
  · rfl

@[simp] theorem beyondCopies_evictL1 (s : State) (core pa : ℕ) : beyondCopies (evictL1 s core pa) = beyondCopies s :=
  beyondCopies_backL1 ..

@[simp] theorem beyondCopies_dropL1s (s : State) (die pa : ℕ) (sel : ℕ → L1Line → Bool) :
    beyondCopies (dropL1s s die pa sel) = beyondCopies s := foldl_keeps beyondCopies _ (by simp) _ _

@[simp] theorem beyondCopies_gatherL1 (s : State) (die pa : ℕ) : beyondCopies (gatherL1 s die pa) = beyondCopies s :=
  foldl_keeps beyondCopies _ (by simp) _ _

@[simp] theorem beyondCopies_dropBase (s : State) (die pa : ℕ) : beyondCopies (dropBase s die pa) = beyondCopies s := by
  simp [dropBase]

@[simp] theorem beyondCopies_storeIntoCopies (s : State) (die core pa : ℕ) (m : BitVec 64) (d : Line) :
    beyondCopies (storeIntoCopies s die core pa m d) = beyondCopies s := by
  unfold storeIntoCopies
  extract_lets s1 l keeps s2 s3
  have h2 : beyondCopies s2 = beyondCopies s := by
    simp only [s2]
    split
    · simp [s1]
    · split <;> simp [s1]
  have h3 : beyondCopies s3 = beyondCopies s := by
    simp only [s3]
    split
    · rw [beyondCopies_setL1, h2]
    · exact h2
  rw [beyondCopies_dropL1s, h3]

@[simp] theorem beyondCopies_copiesAge (s : State) (core pa : ℕ) : beyondCopies (copiesAge s core pa) = beyondCopies s := by
  unfold copiesAge
  extract_lets l s1
  have h1 : beyondCopies s1 = beyondCopies s := by
    simp only [s1]
    split <;> rfl
  split
  · rw [beyondCopies_setL1, h1]
  · exact h1

/-- A store that its home performs changes nothing of its own beyond the copies. -/
@[simp] theorem beyondCopies_copiesTake (s : State) (r : HomeReq) (m : BitVec 64) (d : Line) :
    beyondCopies (copiesTake s r m d) = beyondCopies s := by
  unfold copiesTake
  split <;> simp

/-- What is the same beyond the copies: the memories, the LLC, the homes, and the accesses under way. -/
theorem same_of_beyondCopies {s t : State} (h : beyondCopies t = beyondCopies s) :
    t.dram = s.dram ∧ t.llc = s.llc ∧ t.homes = s.homes ∧ t.inflight = s.inflight ∧ t.sram = s.sram :=
  ⟨(congrArg State.dram h :), (congrArg State.llc h :), (congrArg State.homes h :), (congrArg State.inflight h :),
    (congrArg State.sram h :)⟩

/-! ### Lines of the L2 -/

/-- A line of an L2 but for its bytes and its mark, which alone an L1 copy gives back to it. -/
def bareLine (l : L2Line) : L2Line := { l with data := 0, poison := false }

theorem bareLine_giveBack (l : L2Line) (d : Line) (bad : Bool) : bareLine { l with data := d, poison := bad } = bareLine l := rfl

/-- The line that a die's L2 has, without them. -/
def bareL2 (s : State) (die pa : ℕ) : L2Line := bareLine (l2At s die pa)

theorem l2At_setL2 (s : State) (die die' pa pa' : ℕ) (l : L2Line) :
    l2At (setL2 s die pa l) die' pa' = if die' = die ∧ pa' / 64 = pa / 64 then l else l2At s die' pa' := by
  unfold l2At setL2
  rw [dieAt_modDie]
  by_cases hd : die' = die
  · subst hd
    simp [aget_aset]
  · simp [hd]

theorem l2At_congr_line (s : State) (die : ℕ) {pa pa' : ℕ} (h : pa' / 64 = pa / 64) : l2At s die pa' = l2At s die pa := by
  rw [l2At, l2At, h]

theorem l2At_of_dies {s t : State} (h : t.dies = s.dies) (die pa : ℕ) : l2At t die pa = l2At s die pa := by
  unfold l2At dieAt
  rw [h]

@[simp] theorem bareL2_backL1 (s : State) (core pa die pa' : ℕ) : bareL2 (backL1 s core pa) die pa' = bareL2 s die pa' := by
  unfold backL1
  split
  · split
    · unfold bareL2
      dsimp only
      rw [l2At_setL2]
      split
      · next h =>
        obtain ⟨rfl, hp⟩ := h
        exact (bareLine_giveBack _ _ _).trans (congrArg bareLine (l2At_congr_line _ _ hp).symm)
      · rfl
    · rfl
  · rfl

@[simp] theorem bareL2_evictL1 (s : State) (core pa die pa' : ℕ) : bareL2 (evictL1 s core pa) die pa' = bareL2 s die pa' :=
  bareL2_backL1 ..

@[simp] theorem bareL2_dropL1s (s : State) (die pa die' pa' : ℕ) (sel : ℕ → L1Line → Bool) :
    bareL2 (dropL1s s die pa sel) die' pa' = bareL2 s die' pa' :=
  foldl_keeps (bareL2 · die' pa') _ (by simp) _ _

@[simp] theorem bareL2_gatherL1 (s : State) (die pa die' pa' : ℕ) : bareL2 (gatherL1 s die pa) die' pa' = bareL2 s die' pa' :=
  foldl_keeps (bareL2 · die' pa') _ (by simp) _ _

/-- What remains of an L2 line whose base copy goes: its deferred bytes (R446). -/
def droppedL2 (l : L2Line) : L2Line :=
  if l.dmask = 0 then L2Line.reset else { L2Line.reset with dmask := l.dmask, ddata := l.ddata, dns := l.dns }

theorem bareL2_dropBase (s : State) (die pa pa' : ℕ) :
    bareL2 (dropBase s die pa) die pa' = if pa' / 64 = pa / 64 then droppedL2 (bareL2 s die pa) else bareL2 s die pa' := by
  simp only [dropBase, bareL2_dropL1s]
  simp only [bareL2, l2At_setL2, true_and]
  split
  · by_cases h : (l2At s die pa).dmask = 0
    · exact (congrArg bareLine (if_pos h)).trans (if_pos h).symm
    · exact (congrArg bareLine (if_neg h)).trans (if_neg h).symm
  · rfl

theorem droppedL2_st (l : L2Line) : (droppedL2 l).st = .inv := by
  unfold droppedL2
  split <;> rfl

theorem droppedL2_own (l : L2Line) : (droppedL2 l).own = 0 := by
  unfold droppedL2
  split <;> rfl

theorem droppedL2_dmask (l : L2Line) : (droppedL2 l).dmask = l.dmask := by
  unfold droppedL2
  split
  · next h => exact h.symm
  · rfl

theorem droppedL2_ddata (l : L2Line) : (droppedL2 l).ddata = if l.dmask = 0 then 0 else l.ddata := by
  unfold droppedL2
  split <;> rfl

/-! ### Words that leave a line (R53) -/

/-- What remains of an L2 line from which owned words have gone. -/
def releasedL2 (l : L2Line) (words : BitVec 16) : L2Line :=
  let own := l.own &&& ~~~(l.own &&& words)
  if l.own &&& words = 0 then l
  else if own = 0 ∧ l.dmask = 0 then L2Line.reset
  else { l with own := own, owners := l.owners.filter (fun e => own.getLsbD e.1), st := if own = 0 then .inv else l.st }

theorem releasedL2_own (l : L2Line) (words : BitVec 16) : (releasedL2 l words).own &&& words = 0 := by
  have h : l.own &&& ~~~(l.own &&& words) &&& words = 0 := by
    rw [BitVec.and_assoc, BitVec.and_comm (~~~_) words, ← BitVec.and_assoc]
    exact BitVec.and_not_self _
  unfold releasedL2
  extract_lets own
  split
  · assumption
  · split
    · exact BitVec.zero_and
    · exact h

theorem releasedL2_st (l : L2Line) (words : BitVec 16) (h : l.st ≠ .shared) : (releasedL2 l words).st ≠ .shared := by
  unfold releasedL2
  extract_lets own
  split
  · exact h
  · split
    · nofun
    · dsimp only
      split
      · nofun
      · exact h

theorem bareLine_releasedL2 (l : L2Line) (words : BitVec 16) : bareLine (releasedL2 l words) = releasedL2 (bareLine l) words := by
  unfold releasedL2 bareLine
  dsimp only
  split
  · rfl
  · split <;> rfl

theorem writeHome_dies (s : State) (line : ℕ) (m : BitVec 64) (d : Line) : (writeHome s line m d).dies = s.dies := by
  unfold writeHome
  split
  · split <;> rfl
  · rfl

theorem poisonHome_dies (s : State) (line : ℕ) : (poisonHome s line).dies = s.dies := by
  unfold poisonHome
  split <;> rfl

/-- What a release makes of the lines of its die, but for their bytes: it takes the words from the line that it names. -/
theorem bareL2_releaseWords (s : State) (die pa pa' : ℕ) (words : BitVec 16) (back : Bool) :
    bareL2 (releaseWords s die pa words back) die pa' =
      if pa' / 64 = pa / 64 then releasedL2 (bareL2 s die pa) words else bareL2 s die pa' := by
  have hb : ∀ p, bareL2 s die p = bareL2 (gatherL1 s die pa) die p := by simp
  rw [hb, hb]
  unfold releaseWords
  extract_lets g l w line s0 s1 own l' s2 s3 gone
  split
  · next hw =>
    have hr : releasedL2 (bareL2 g die pa) words = bareL2 g die pa := if_pos hw
    rw [hr]
    split
    · next hp => rw [bareL2, l2At_congr_line _ _ hp, bareL2]
    · rfl
  · next hw =>
    have h1 : s1.dies = g.dies := by
      simp only [s1]
      split
      · split
        · rw [poisonHome_dies]
          exact writeHome_dies ..
        · exact writeHome_dies ..
      · rfl
    have h3 : bareL2 s3 die pa' = bareL2 s2 die pa' := bareL2_dropL1s ..
    change bareL2 s3 die pa' = _
    rw [h3]
    simp only [bareL2, s2, l2At_setL2, true_and, l2At_of_dies h1]
    split
    · exact (congrArg bareLine (if_neg hw).symm).trans (bareLine_releasedL2 l words)
    · rfl

theorem l1At_dropL1 (s : State) (core pa : ℕ) : l1At (dropL1 s core pa) core pa = none := by
  unfold l1At dropL1
  rw [coreAt_modCore, if_pos rfl, find?_adel, Option.map_none]

/-- Words that are thrown away reach neither the LLC nor the DRAM array (R106). -/
theorem releaseWords_discards (s : State) (die pa : ℕ) (words : BitVec 16) :
    (releaseWords s die pa words false).dram = s.dram ∧ (releaseWords s die pa words false).llc = s.llc := by
  unfold releaseWords
  extract_lets g l w line s0 s1 own l' s2 s3 gone
  have hg : beyondCopies g = beyondCopies s := beyondCopies_gatherL1 ..
  have h3 : beyondCopies s3 = beyondCopies s := (beyondCopies_dropL1s ..).trans hg
  split
  · obtain ⟨hd, hl, -⟩ := same_of_beyondCopies hg
    exact ⟨hd, hl⟩
  · obtain ⟨hd, hl, -⟩ := same_of_beyondCopies h3
    exact ⟨hd, hl⟩

end Sys2Proof.Machine
end

section
/-! # Messages of the homes at a die

A message is taken behind the replies that the home sent before, and each kind does its own to the die's lines (R54, R106, R147, R148). -/

namespace Sys2Proof.Machine
open Sys2Proof.Claims

/-- What each step of a fold establishes for its own entry, and no step undoes, holds for all entries after it. -/
theorem foldl_establishes {α σ : Type} {Q : α → σ → Prop} {f : σ → α → σ} (hest : ∀ s a, Q a (f s a))
    (hkeep : ∀ s a b, Q b s → Q b (f s a)) (l : List α) (s : σ) : ∀ a ∈ l, Q a (l.foldl f s) := by
  induction l generalizing s with
  | nil => nofun
  | cons x l ih =>
    intro a ha
    rcases List.mem_cons.1 ha with rfl | ha
    · exact List.foldlRecOn l f (hest s a) fun t ht b _ => hkeep t b a ht
    · exact ih _ a ha

/-! ### The message at the head -/

/-- A message leaves the inbox of its die. -/
def inboxWithout (s : State) (die : ℕ) (m : HomeMsg) : State := modDie s die fun d => { d with inbox := d.inbox.erase m }

section
variable {s : State} {die home : ℕ} {m : HomeMsg}

theorem takeHead_waits (hm : headMsg s die home = some m) (hr : replyAhead s die home m.seq = true) (sel : HomeMsgKind → Bool) :
    takeHead s die home sel = s := by
  simp [takeHead, hm, hr]

theorem takeHead_taken (hm : headMsg s die home = some m) (hr : replyAhead s die home m.seq = false) {sel : HomeMsgKind → Bool}
    (hs : sel m.kind = true) :
    takeHead s die home sel = acknowledge (takeMsg (inboxWithout s die m) die m) m := by
  simp [takeHead, hm, hr, hs, inboxWithout]

end

@[simp] theorem acknowledge_dies (s : State) (m : HomeMsg) : (acknowledge s m).dies = s.dies := by
  unfold acknowledge
  split <;> rfl

@[simp] theorem acknowledge_llc (s : State) (m : HomeMsg) : (acknowledge s m).llc = s.llc := by
  unfold acknowledge
  split <;> rfl

@[simp] theorem acknowledge_shr (s : State) (m : HomeMsg) (line : ℕ) : (homeAt (acknowledge s m) line).shr = (homeAt s line).shr := by
  unfold acknowledge
  split
  · rw [homeAt_modHome]
    split
    · next h => rw [h]
    · rfl
  · rfl

@[simp] theorem clearShare_dies (s : State) (die line : ℕ) : (clearShare s die line).dies = s.dies := by
  unfold clearShare
  split <;> rfl

@[simp] theorem clearShare_llc (s : State) (die line : ℕ) : (clearShare s die line).llc = s.llc := by
  unfold clearShare
  split <;> rfl

theorem sharedTo_of_inflight {s t : State} (h : t.inflight = s.inflight) (die line : ℕ) : sharedTo t die line = sharedTo s die line := by
  unfold sharedTo
  rw [h]

/-- The SHR bit of a die to which no tracked copy is under way is clear (R147). -/
theorem clearShare_shr {s : State} {die line : ℕ} (hd : die < 4) (hs : sharedTo s die line = false) :
    (homeAt (clearShare s die line) line).shr.getLsbD die = false := by
  have hbit : ∀ (shr : BitVec 4) (d : Fin 4), (BitVec.ofNat 4 (shr.toNat - b01 (shr.getLsbD d) * 2 ^ d.val)).getLsbD d = false := by
    decide
  simp only [clearShare, hs, Bool.false_eq_true, if_false, homeAt_modHome, if_true]
  exact hbit _ ⟨die, hd⟩

/-! ### What the kinds of messages do to a line -/

/-- A die gives up its tracked copy of a line under one address. -/
def unshared (die : ℕ) (s : State) (pa : ℕ) : State := if (l2At s die pa).st == .shared then dropBase s die pa else s

@[simp] theorem beyondCopies_unshared (die : ℕ) (s : State) (pa : ℕ) : beyondCopies (unshared die s pa) = beyondCopies s := by
  unfold unshared
  split
  · exact beyondCopies_dropBase ..
  · rfl

/-- When a die gives up one line, each of its lines is as it was, or what remains of that one, but for its bytes. -/
theorem bareL2_unshared (die : ℕ) (s : State) (pa pa' : ℕ) :
    bareL2 (unshared die s pa) die pa' = bareL2 s die pa' ∨ bareL2 (unshared die s pa) die pa' = droppedL2 (bareL2 s die pa) := by
  unfold unshared
  split
  · rw [bareL2_dropBase]
    split
    · exact .inr rfl
    · exact .inl rfl
  · exact .inl rfl

theorem unshared_st_same (die : ℕ) (s : State) (pa : ℕ) : (l2At (unshared die s pa) die pa).st ≠ .shared := by
  unfold unshared
  split
  · have h := congrArg L2Line.st (bareL2_dropBase s die pa pa)
    rw [if_pos rfl, droppedL2_st] at h
    exact fun hs => absurd (h.symm.trans hs) (by decide)
  · next h => exact fun hs => h (beq_iff_eq.2 hs)

theorem unshared_st (die : ℕ) (s : State) (pa pa' : ℕ) (h : (l2At s die pa').st ≠ .shared) :
    (l2At (unshared die s pa) die pa').st ≠ .shared := by
  rcases bareL2_unshared die s pa pa' with hb | hb
  · exact fun hs => h ((congrArg L2Line.st hb).symm.trans hs)
  · exact fun hs => absurd ((droppedL2_st _).symm.trans ((congrArg L2Line.st hb).symm.trans hs)) (by decide)

theorem unshared_own (die : ℕ) (s : State) (pa pa' : ℕ) (w : BitVec 16) (h : (l2At s die pa').own &&& w = 0) :
    (l2At (unshared die s pa) die pa').own &&& w = 0 := by
  rcases bareL2_unshared die s pa pa' with hb | hb
  · exact (congrArg (fun l => L2Line.own l &&& w) hb).trans h
  · refine (congrArg (fun l => L2Line.own l &&& w) hb).trans ?_
    simp only [droppedL2_own]
    exact BitVec.zero_and

theorem releaseWords_own_same (s : State) (die pa : ℕ) (w : BitVec 16) (back : Bool) :
    (l2At (releaseWords s die pa w back) die pa).own &&& w = 0 := by
  have h := congrArg L2Line.own (bareL2_releaseWords s die pa pa w back)
  rw [if_pos rfl] at h
  exact (congrArg (· &&& w) h).trans (releasedL2_own ..)

theorem releaseWords_own (s : State) (die pa pa' : ℕ) (w : BitVec 16) (back : Bool) (h : (l2At s die pa').own &&& w = 0) :
    (l2At (releaseWords s die pa w back) die pa').own &&& w = 0 := by
  refine (congrArg (fun l => L2Line.own l &&& w) (bareL2_releaseWords s die pa pa' w back)).trans ?_
  split
  · exact releasedL2_own ..
  · exact h

theorem releaseWords_st (s : State) (die pa pa' : ℕ) (w : BitVec 16) (back : Bool) (h : (l2At s die pa').st ≠ .shared) :
    (l2At (releaseWords s die pa w back) die pa').st ≠ .shared := by
  have hb := congrArg L2Line.st (bareL2_releaseWords s die pa pa' w back)
  intro hs
  have hs' := hb.symm.trans hs
  split at hs'
  · next hp =>
    refine releasedL2_st _ w ?_ hs'
    exact fun hs => h ((congrArg L2Line.st (l2At_congr_line s die hp)).trans hs)
  · exact h hs'

/-- A die throws away words of a line under one address, and its tracked copy (R106). -/
def discarded (die : ℕ) (w : BitVec 16) (s : State) (pa : ℕ) : State := unshared die (releaseWords s die pa w false) pa

theorem discarded_homes (die : ℕ) (w : BitVec 16) (s : State) (pa : ℕ) :
    (discarded die w s pa).dram = s.dram ∧ (discarded die w s pa).llc = s.llc := by
  obtain ⟨hd, hl⟩ := releaseWords_discards s die pa w
  obtain ⟨hd', hl', -⟩ := same_of_beyondCopies (beyondCopies_unshared die (releaseWords s die pa w false) pa)
  exact ⟨hd'.trans hd, hl'.trans hl⟩

/-! ### The messages, kind by kind -/

section
variable {s : State} {die home : ℕ} {m : HomeMsg}

theorem takeMsg_invalidate (hk : m.kind = .invalidate) :
    takeMsg s die m = clearShare ((aliasesOf m.line).foldl (unshared die) s) die m.line := by
  unfold takeMsg
  rw [hk]
  rfl

theorem takeMsg_discard {w : BitVec 16} (hk : m.kind = .discard w) :
    takeMsg s die m = clearShare ((aliasesOf m.line).foldl (discarded die w) s) die m.line := by
  unfold takeMsg
  rw [hk]
  rfl

theorem takeMsg_recall {w : BitVec 16} (hk : m.kind = .recall w) :
    takeMsg s die m = (aliasesOf m.line).foldl (fun s pa => releaseWords s die pa w true) s := by
  unfold takeMsg
  rw [hk]

theorem takeMsg_aliasCopy {pa : ℕ} (hk : m.kind = .aliasCopy pa) :
    takeMsg s die m =
      if holdsShared (unshared die s (otherAlias pa)) die m.line then unshared die s (otherAlias pa)
      else clearShare (unshared die s (otherAlias pa)) die m.line := by
  unfold takeMsg
  rw [hk]
  rfl

/-- What an invalidation under the line's other address leaves, whether or not the home is told (R148). -/
theorem acknowledge_aliasCopy {pa : ℕ} (hk : m.kind = .aliasCopy pa) :
    let t := acknowledge (takeMsg (inboxWithout s die m) die m) m
    (l2At t die (otherAlias pa)).st ≠ .shared ∧ t.dram = s.dram ∧ t.llc = s.llc := by
  intro t
  simp only [t, takeMsg_aliasCopy hk]
  generalize hu : unshared die (inboxWithout s die m) (otherAlias pa) = u
  have hb : beyondCopies u = beyondCopies s := hu ▸ beyondCopies_unshared die (inboxWithout s die m) (otherAlias pa)
  obtain ⟨hd, hl, -⟩ := same_of_beyondCopies hb
  have hst : (l2At u die (otherAlias pa)).st ≠ .shared := hu ▸ unshared_st_same die _ _
  split
  · exact ⟨by rwa [l2At_of_dies (acknowledge_dies ..)], by simpa using hd, by simpa using hl⟩
  · exact ⟨by rwa [l2At_of_dies ((acknowledge_dies ..).trans (clearShare_dies ..))], by simpa using hd, by simpa using hl⟩

/-- What an invalidation leaves (R147, R148). -/
theorem acknowledge_invalidate (hk : m.kind = .invalidate) :
    let t := acknowledge (takeMsg (inboxWithout s die m) die m) m
    (∀ pa ∈ aliasesOf m.line, (l2At t die pa).st ≠ .shared) ∧
    (die < 4 → sharedTo s die m.line = false → (homeAt t m.line).shr.getLsbD die = false) ∧ t.dram = s.dram ∧ t.llc = s.llc := by
  intro t
  simp only [t, takeMsg_invalidate hk]
  generalize hu : (aliasesOf m.line).foldl (unshared die) (inboxWithout s die m) = u
  have hb : beyondCopies u = beyondCopies s :=
    hu ▸ foldl_keeps beyondCopies _ (beyondCopies_unshared die) _ _
  obtain ⟨hd, hl, -, hi, -⟩ := same_of_beyondCopies hb
  refine ⟨fun pa hpa => ?_, fun h4 hs => ?_, by simpa using hd, by simpa using hl⟩
  · rw [l2At_of_dies ((acknowledge_dies ..).trans (clearShare_dies ..)), ← hu]
    exact foldl_establishes (Q := fun pa s => (l2At s die pa).st ≠ .shared) (unshared_st_same die) (unshared_st die) _ _ pa hpa
  · rw [acknowledge_shr]
    exact clearShare_shr h4 ((sharedTo_of_inflight hi ..).trans hs)

/-- What a discard leaves: nothing reaches the home (R106). -/
theorem acknowledge_discard {w : BitVec 16} (hk : m.kind = .discard w) :
    let t := acknowledge (takeMsg (inboxWithout s die m) die m) m
    t.dram = s.dram ∧ t.llc = s.llc ∧ ∀ pa ∈ aliasesOf m.line, (l2At t die pa).own &&& w = 0 ∧ (l2At t die pa).st ≠ .shared := by
  intro t
  simp only [t, takeMsg_discard hk]
  generalize hu : (aliasesOf m.line).foldl (discarded die w) (inboxWithout s die m) = u
  have hd : u.dram = s.dram := hu ▸ foldl_keeps State.dram _ (fun s pa => (discarded_homes die w s pa).1) _ _
  have hl : u.llc = s.llc := hu ▸ foldl_keeps State.llc _ (fun s pa => (discarded_homes die w s pa).2) _ _
  refine ⟨by simpa using hd, by simpa using hl, fun pa hpa => ?_⟩
  rw [l2At_of_dies ((acknowledge_dies ..).trans (clearShare_dies ..)), ← hu]
  refine foldl_establishes (Q := fun pa s => (l2At s die pa).own &&& w = 0 ∧ (l2At s die pa).st ≠ .shared) (fun s pa => ?_)
    (fun s pa pa' h => ?_) _ _ pa hpa
  · exact ⟨unshared_own die _ pa pa w (releaseWords_own_same ..), unshared_st_same die _ pa⟩
  · exact ⟨unshared_own die _ pa pa' w (releaseWords_own _ _ _ _ _ _ h.1), unshared_st die _ pa pa' (releaseWords_st _ _ _ _ _ _ h.2)⟩

/-- What a recall leaves: no recalled word is owned (R53). -/
theorem acknowledge_recall {w : BitVec 16} (hk : m.kind = .recall w) :
    ∀ pa ∈ aliasesOf m.line, (l2At (acknowledge (takeMsg (inboxWithout s die m) die m) m) die pa).own &&& w = 0 := by
  intro pa hpa
  rw [l2At_of_dies (acknowledge_dies ..), takeMsg_recall hk]
  exact foldl_establishes (Q := fun pa s => (l2At s die pa).own &&& w = 0) (fun s pa => releaseWords_own_same ..)
    (fun s pa pa' h => releaseWords_own _ _ _ _ _ _ h) _ _ pa hpa

end

theorem diesObeyTheirHomes : DiesObeyTheirHomes := by
  unfold DiesObeyTheirHomes
  refine ⟨fun die home s m hm hr => ?_, fun die home s m hm hr hk => ?_, fun die home s m pa hm hr hk => ?_,
    fun die home s m w hm hr hk => ?_, fun die home s m w hm hr hk => ?_, fun core line s c hc hst ht => ?_,
    fun die line s hst ht => ?_⟩
  · exact ⟨congrArg Host.Outcome.next (takeHead_waits hm hr _), congrArg Host.Outcome.next (takeHead_waits hm hr _),
      congrArg Host.Outcome.next (takeHead_waits hm hr _)⟩
  · exact givesSome_of_exec (congrArg Host.Outcome.next (takeHead_taken hm hr (by rw [hk]))) (acknowledge_invalidate hk)
  · exact givesSome_of_exec (congrArg Host.Outcome.next (takeHead_taken hm hr (by rw [hk]))) (acknowledge_aliasCopy hk)
  · exact givesSome_of_exec (congrArg Host.Outcome.next (takeHead_taken hm hr (by rw [hk]))) (acknowledge_recall hk)
  · exact givesSome_of_exec (congrArg Host.Outcome.next (takeHead_taken hm hr (by rw [hk]))) (acknowledge_discard hk)
  · refine givesSome_of_exec (t := dropL1 s core (64 * line)) (congrArg Host.Outcome.next ?_) (l1At_dropL1 ..)
    simp [hc, hst, ht]
  · refine givesSome_of_exec (congrArg Host.Outcome.next (if_pos ⟨hst, ht⟩)) ?_
    have hb := bareL2_dropBase s die (64 * line) (64 * line)
    rw [if_pos rfl] at hb
    exact ⟨(congrArg L2Line.st hb).trans (droppedL2_st _), (congrArg L2Line.dmask hb).trans (droppedL2_dmask _),
      (congrArg L2Line.ddata hb).trans (droppedL2_ddata _)⟩

end Sys2Proof.Machine
end

section
/-! # Homes serve their requests

The event HOME_REQUEST for a read, a write and an eviction, the grant of a reservation, and the package after power-on (R147-R153, R488). -/

namespace Sys2Proof.Machine
open Sys2Proof.Claims

/-! ### Requests at the head of a queue -/

@[simp] theorem homeAt_popped (s : State) (line : ℕ) (rest : List HomeReq) :
    homeAt (popped s line rest) line = { homeAt s line with queue := rest } := by
  rw [popped, homeAt_modHome, if_pos rfl]

section
variable {s : State} {line : ℕ} {r : HomeReq} {rest : List HomeReq}

/-- A `.wt` read of a line that no die owns is answered with the home's data (R149). -/
theorem serveHome_readWt (h : AtHead s line r rest) (ho : (homeAt s line).own = 0) (hu : Unasked (homeAt s line)) (hb : r.bias = false)
    (hw : r.ns = true → secureLine s line = false) (hh : r.host = none) (hk : r.kind = .readWt)
    (hf : (dieAt s (dieOf r.t.core)).fenced = false) (hl : (llcAt s line).isSome = true ∨ (llcMates s line).length < 16) :
    serveHome s line = stageAccess { popped (entered s line) line rest with nextId := s.nextId + 1 } r.id
      (.reply ⟨homeData s line, 0, 0, false, linePoison s line, s.nextId⟩) := by
  have ho' : (homeAt (popped (entered s line) line rest) line).own = 0 := by
    rw [homeAt_popped, homeAt_of_homes (entered_homes s line)]
    exact ho
  have hf' : (dieAt (popped (entered s line) line rest) (dieOf r.t.core)).fenced = false := by
    rw [dieAt, show (popped (entered s line) line rest).dies = s.dies from entered_dies s line]
    exact hf
  have hd : homeData (popped (entered s line) line rest) line = homeData s line := homeData_entered s line line
  have hp : linePoison (popped (entered s line) line rest) line = linePoison s line := linePoison_entered s line
  have hn : (popped (entered s line) line rest).nextId = s.nextId := entered_nextId s line
  rw [serveHome_admitted h hh (by rw [hk]; nofun) (by rw [hk]; nofun) (by rw [hk]; nofun) hw hu hb hl,
    startHome_alone ho' (.inl (by rw [takesLine, hk])), finishHome_readWt hk hf', answerReq_unowned ho', hd, hp, hn]

/-- An eviction writes a modified line to DRAM, and the line leaves the LLC (R54). -/
theorem serveHome_evicts (h : AtHead s line r rest) (ho : (homeAt s line).own = 0) (hs : (homeAt s line).shr = 0)
    (hk : r.kind = .evict) :
    serveHome s line = dropLlc (cleanLlc (popped s line rest) line) line := by
  rw [serveHome_evict h hk, startHome_alone (by simpa using ho) (.inr (by simpa using hs)), finishHome_evict hk]

/-- A `.wt` write of a line that no die owns or shares is performed at once (R147, R149). -/
theorem serveHome_write {m : BitVec 64} {d : Line} (h : AtHead s line r rest) (ho : (homeAt s line).own = 0)
    (hs : (homeAt s line).shr = 0) (hu : Unasked (homeAt s line)) (hb : r.bias = false)
    (hw : r.ns = true → secureLine s line = false) (hh : r.host = none) (hk : r.kind = .write 1 m d) (hp : homeLine r.pa = line)
    (hl : (llcAt s line).isSome = true ∨ (llcMates s line).length < 16) :
    serveHome s line = storePerformed (copiesTake
      (writeHome { popped (entered s line) line rest with nextId := (popped (entered s line) line rest).nextId + 1 } line m d) r m d) r.id := by
  have hh' : homeAt (popped (entered s line) line rest) line = { homeAt s line with queue := rest } := by
    rw [homeAt_popped, homeAt_of_homes (entered_homes s line)]
  rw [serveHome_admitted h hh (by rw [hk]; nofun) (by rw [hk]; nofun) (by rw [hk]; nofun) hw hu hb hl,
    startHome_alone (by rw [hh']; exact ho) (.inr (by rw [hh']; exact hs)), finishHome_write hk hp (by rw [hh']; exact hs)]

end

theorem cleanLlc_homes (s : State) (line : ℕ) : (cleanLlc s line).homes = s.homes := by
  unfold cleanLlc
  split
  · dsimp only
    split <;> split <;> rfl
  · rfl

theorem storePerformed_beyond (s : State) (id : ℕ) :
    (storePerformed s id).dram = s.dram ∧ (storePerformed s id).llc = s.llc ∧ (storePerformed s id).homes = s.homes ∧
    (storePerformed s id).sram = s.sram := by
  unfold storePerformed
  split
  · exact ⟨rfl, rfl, rfl, rfl⟩
  · split <;> exact ⟨rfl, rfl, rfl, rfl⟩

/-- What a store that its home performs does beyond the copies of its die and its own access: it writes the home's line. -/
theorem storePerformed_copiesTake (s : State) (r : HomeReq) (m : BitVec 64) (d : Line) :
    let t := storePerformed (copiesTake s r m d) r.id
    (∀ line i, homeByte t line i = homeByte s line i) ∧ t.dram = s.dram ∧ t.sram = s.sram ∧ t.homes = s.homes := by
  obtain ⟨hd, hl, hh, hm⟩ := storePerformed_beyond (copiesTake s r m d) r.id
  obtain ⟨hd', hl', hh', -, hm'⟩ := same_of_beyondCopies (beyondCopies_copiesTake s r m d)
  refine ⟨fun line i => ?_, hd.trans hd', hm.trans hm', hh.trans hh'⟩
  rw [homeByte, homeData_congr (hl.trans hl') (hd.trans hd'), homeByte]

theorem writeHome_of_llc_beyond {s : State} {line : ℕ} {l : LlcLine} (h : llcAt s line = some l) (m : BitVec 64) (d : Line) :
    (writeHome s line m d).dram = s.dram ∧ (writeHome s line m d).sram = s.sram ∧ (writeHome s line m d).homes = s.homes := by
  rw [writeHome_of_llc h]
  split <;> exact ⟨rfl, rfl, rfl⟩

/-! ### Reservations (R152, R153, R461) -/

theorem reservationGrant_begins {s : State} {line word : ℕ} {x : Resv} (ha : (homeAt s line).act = none) (hf : homeFree s line = true)
    (hg : grantable (homeAt s line).resv word = some x) (hl : (llcAt s line).isSome = true) (hu : Unasked (homeAt s line)) :
    exec (.reservationGrant line word) s =
      .next (if x.req.bias then sendSnoop s line (.req x.req.seq) true x.req.ns else startHome s line x.req) := by
  have he : enterLlc s line = (true, s) := by simp [enterLlc, hl]
  refine congrArg Host.Outcome.next ?_
  simp only [ha, hf, hg, he, biasReady_unasked hu, Option.isSome_none, Bool.not_true, Bool.or_self, Bool.false_eq_true, if_false]
  cases x.req.bias <;> simp [answerUsed_unasked hu]

theorem homeServesItsQueue : HomeServesItsQueue := by
  unfold HomeServesItsQueue
  refine ⟨?_, fun line s r rest l _ hq ha hf hk ho hs hl => ?_, fun line s r rest hq ha hf hh he hfl hns hsec => ?_,
    fun line word s x ha hf hg hl hb h1 h2 h3 => ?_, fun line word s x ha hf hg hl hb h1 h2 h3 => ?_,
    fun line word s x y a ha hf hx hy hod hsh hg hh hdie hpa hacc hown => ?_⟩
  · intro line s r rest awake s1 hl hq ha ho h1 h2 h3 hf hb hw hh hk hfen
    have h : AtHead (wakeStack s line) line r rest := AtHead.awake ⟨hq, ha, hf⟩
    have hs1 : s1 = entered (wakeStack s line) line := by simp only [s1, awake, entered, llcAt_wakeStack]
    refine congrArg Host.Outcome.next ?_
    rw [hs1, serveHome_readWt h (by simpa using ho) (Unasked.awake ⟨h1, h2, h3⟩) hb (by simpa using hw) hh hk
      (by simpa using hfen) (by simpa using hl), homeData_wakeStack, linePoison_wakeStack, wakeStack_nextId]
    rfl
  · have h : AtHead (wakeStack s line) line r rest := AtHead.awake ⟨hq, ha, hf⟩
    have hl' : llcAt (popped (wakeStack s line) line rest) line = some l := (llcAt_wakeStack ..).trans hl
    have hd : (popped (wakeStack s line) line rest).dram = s.dram := (sameMem_wakeStack ..).1
    refine givesSome_of_exec (congrArg Host.Outcome.next (serveHome_evicts h (by simpa using ho) (by simpa using hs) hk))
      ⟨llcAt_dropLlc .., ?_, fun a => ?_⟩
    · have hh : (dropLlc (cleanLlc (popped (wakeStack s line) line rest) line) line).homes = (popped (wakeStack s line) line rest).homes :=
        cleanLlc_homes ..
      rw [homeAt_of_homes hh, homeAt_popped]
    · rw [(sameMem_dropLlc ..).1, cleanLlc_dram hl', hd]
      cases l.dirty with
      | false => simp
      | true => simp only [if_true, and_true, rdByte_writtenLine]
  · have h : AtHead (wakeStack s line) line r rest := AtHead.awake ⟨hq, ha, hf⟩
    exact congrArg Host.Outcome.next (serveHome_refused h hh he hfl hns (by simpa using hsec))
  · exact (reservationGrant_begins ha hf hg hl ⟨h1, h2, h3⟩).trans (by rw [hb]; rfl)
  · exact (reservationGrant_begins ha hf hg hl ⟨h1, h2, h3⟩).trans (by rw [hb]; rfl)
  · refine congrArg Host.Outcome.next ?_
    simp [ha, hf, hx, hy, hod, hsh, hg, hh, hdie, hpa, hacc, hown]

/-- Settles O44: the homes serve their requests, and the dies do what the homes' messages say. -/
theorem homesAndCopies : Obligations.HomesAndCopies := ⟨homeServesItsQueue, diesObeyTheirHomes⟩

/-- Settles O59: the write reaches the LLC line alone, by the rule of `writeHome`; what follows it touches only copies and the access. -/
theorem homeWriteStoresOnlyItsBytes : Obligations.HomeWriteStoresOnlyItsBytes := by
  unfold Obligations.HomeWriteStoresOnlyItsBytes
  intro line s r rest m d _ hq hk hh hp ha ho hs h1 h2 h3 hf hb hw hl byteOf
  have h : AtHead (wakeStack s line) line r rest := AtHead.awake ⟨hq, ha, hf⟩
  have hserve := serveHome_write h (by simpa using ho) (by simpa using hs) (Unasked.awake ⟨h1, h2, h3⟩) hb
    (by simpa using hw) hh hk hp (by simpa using hl)
  set u : State := { popped (entered (wakeStack s line) line) line rest with
    nextId := (popped (entered (wakeStack s line) line) line rest).nextId + 1 }
  obtain ⟨l, hlu, -⟩ : ∃ l, llcAt u line = some l ∧ _ := llcAt_entered (wakeStack s line) line
  obtain ⟨hbyte, hd, hm, hhomes⟩ := storePerformed_copiesTake (writeHome u line m d) r m d
  obtain ⟨hd', hm', hhomes'⟩ := writeHome_of_llc_beyond hlu m d
  refine givesSome_of_exec (congrArg Host.Outcome.next hserve) ⟨fun a => ?_, ?_, ?_, ?_⟩
  · have hs : homeByte u (a / 64) (a % 64) = homeByte s (a / 64) (a % 64) :=
      congrArg (BitVec.extractLsb' _ 8) ((homeData_entered (wakeStack s line) line _).trans (homeData_wakeStack ..))
    change homeByte _ (a / 64) (a % 64) = _
    rw [hbyte, homeByte_writeHome hlu _ _ _ (Nat.mod_lt a (by decide)), hs]
    rfl
  · exact (hd.trans hd').trans ((entered_dram ..).trans (sameMem_wakeStack ..).1)
  · exact (hm.trans hm').trans ((entered_sram ..).trans (sameMem_wakeStack ..).2)
  · rw [homeAt_of_homes (hhomes.trans hhomes')]
    exact congrArg Home.queue (homeAt_popped (entered (wakeStack s line) line) line rest)

/-- Settles O7: every table of the package is empty then, so each part of it reads as its reset value. -/
theorem resetValues : Obligations.ResetValues :=
  ⟨by rw [memOk_iff_wfMem]; exact reset_mem_wf, rfl, rdByte_nil, fun _ => ⟨rfl, rfl, rfl, rfl, rfl⟩, fun _ => rfl⟩

end Sys2Proof.Machine
end

section
/-! # Banks take turns, change their personality and link

Whose turn it is at a bank, and what the events BANK_OPERATION, PIN_ACCEPT, MXV_ACCEPT, HELD_WRITE_PROCEED, BANK_ALU_LINE_STEP,
PERSONALITY_CHANGE and LINK come to (R67, R77-R85, R97). -/

namespace Sys2Proof.Machine
open Sys2Proof.Claims

/-! ### Whose turn it is (R67, R97) -/

theorem turnReq_idle {s : State} {c b : ℕ} (hchg : (bankAt s c b).chg = none) (halu : (bankAt s c b).alu = none) :
    turnReq s c b = (bankAt s c b).queue.head? := by
  simp [turnReq, hchg, halu]

/-- Beside a bank ALU command a request has its turn only if it may pass the command. -/
theorem turnReq_beside_alu {s : State} {c b : ℕ} {u : AluRun} {q : BankReq} (hchg : (bankAt s c b).chg = none)
    (halu : (bankAt s c b).alu = some u) (h : turnReq s c b = some q) :
    q ∈ (bankAt s c b).queue ∧ passesAlu u c b q = true := by
  simp only [turnReq, hchg, halu] at h
  split at h
  · next q' rest hdrop =>
    obtain ⟨hpass, hq⟩ := Option.ite_none_right_eq_some.mp h
    obtain rfl : q' = q := Option.some.inj hq
    exact ⟨List.mem_of_mem_drop (hdrop ▸ List.mem_cons_self ..), (Bool.and_eq_true_iff.mp hpass).1⟩
  · cases h

theorem passesAlu_otherThread {u : AluRun} {c b : ℕ} {q : BankReq} (h : passesAlu u c b q = true) : q.t ≠ u.req.t := by
  simpa using (Bool.and_eq_true_iff.mp h).1

theorem passesAlu_outsideRegion {u : AluRun} {c b : ℕ} {q : BankReq} (h : passesAlu u c b q = true) :
    writesRegion u c b q = false := by
  have hcmd := (Bool.and_eq_true_iff.mp h).2
  cases hq : q.cmd with
  | write | vwrite => simpa [hq] using hcmd
  | _ => simp [writesRegion, hq]

/-! ### A full queue (R58, R67) -/

@[simp] theorem length_insertArrival (l : List BankReq) (q : BankReq) : (insertArrival l q).length = l.length + 1 := by
  simp only [insertArrival, List.length_append, List.length_cons, List.length_take, List.length_drop]
  omega

theorem mustWait_of_full {s : State} {c b : ℕ} (h : 32 ≤ (bankAt s c b).queue.length) : mustWait s c b = true := by
  simp [mustWait, holdsArrivals, h]

theorem admitBank_of_full {s : State} {c b : ℕ} (h : 32 ≤ (bankAt s (forwarded s c) b).queue.length) (q : BankReq) :
    admitBank s c b q = holdArrival s (forwarded s c) b { q with came := s.now } := by
  simp [admitBank, mustWait_of_full h]

@[simp] theorem bankAt_holdArrival_same (s : State) (c b : ℕ) (q : BankReq) :
    bankAt (holdArrival s c b q) c b = { bankAt s c b with net := insertArrival (bankAt s c b).net q } :=
  bankAt_modBank_same ..

/-! ### A request that has its turn -/

/-- The bank without the request, which has left its queue. -/
def unqueued (s : State) (c b : ℕ) (q : BankReq) : State := modBank s c b fun k => { k with queue := k.queue.erase q }

/-- The state after the turn of the request q, by what becomes of it. -/
def afterTurn (s : State) (c b : ℕ) (q : BankReq) : BankAct → State
  | .held => s
  | .forward c' b' => admitBank (blockRole (unqueued s c b q) c b q) c' b' { q with fwd := true }
  | .done s' r => bankReply (unqueued s' c b q) q r
  | .started s' => unqueued s' c b q

section
variable {i : Instr} {s : State} {c b kind : ℕ} {q : BankReq} (h : Heads s c b q kind)
include h

theorem takeTurn_of_heads : takeTurn s c b kind = afterTurn s c b q (bankPerform s c b q) := by
  obtain ⟨hturn, hcame, hnet, hidle, hfenced, hl1, hkind⟩ := h
  simp only [takeTurn, hnet, List.length_nil, acceptArrivals, hturn, hkind, bne_self_eq_false, Nat.not_le.mpr hcame, decide_false,
    hidle, hfenced, hl1, Bool.or_self, Bool.false_and, Bool.false_eq_true, if_false]
  cases bankPerform s c b q <;> rfl

/-- An event that gives the bank its turn performs the request, whichever event it is. -/
theorem performs_of_takeTurn (hi : exec i s = .next (takeTurn s c b kind)) : Performs i s c b q := by
  intro s' r hdone
  rw [takeTurn_of_heads h, hdone] at hi
  exact hi

end

/-- MXV_ACCEPT gives its turn to the lowest bank of the core whose turn is that of a vector (R380). -/
theorem exec_mxvAccept {s : State} {c b : ℕ} {p : ℕ → Bool}
    (hp : ∀ n, p n = (turnReq s c n).elim false fun q => turnKind q == 2) (h : (List.range 16).find? p = some b) :
    exec (.mxvAccept c) s = .next (takeTurn s c b 2) := by
  have unique : ∀ {f : ℕ → Bool} {x : Option ℕ}, (∀ n, f n = p n) → (List.range 16).find? f = x → x = some b := by
    intro f x hf hx
    rw [← hx, funext hf, h]
  refine congrArg Host.Outcome.next ?_
  split
  · next hnone => cases unique (fun n => by rw [hp]; cases turnReq s c n <;> rfl) hnone
  · next b' hsome =>
    obtain rfl : b' = b := Option.some.inj (unique (fun n => by rw [hp]; cases turnReq s c n <;> rfl) hsome)
    rfl

theorem exec_heldWriteProceed {s : State} {c b : ℕ} (h : aluWrites s c b = false) :
    exec (.heldWriteProceed c b) s = .next (takeTurn s c b 0) :=
  congrArg Host.Outcome.next (by simp [h])

/-! ### The line steps of a bank ALU command (R97, R99) -/

section
variable {s : State} {c b : ℕ} {u : AluRun} (halu : (bankAt s c b).alu = some u)
include halu

theorem aluTurn_ran {s' : State} {u' : AluRun} (h : aluStep s c b u = .ran s' u') :
    aluTurn s c b = if u'.step = aluSteps u'.c
      then bankReply (modBank s' c b fun x => { x with alu := none }) u'.req ⟨some 0, aluValue u', [], u'.flags, none⟩
      else modBank s' c b fun x => { x with alu := some u' } := by
  simp only [aluTurn, halu, h]

theorem aluTurn_poison {l : ℕ} (h : aluStep s c b u = .poison l) :
    aluTurn s c b = bankReply (modBank s c b fun x => { x with alu := none }) u.req (.ofFail .poison l) := by
  simp only [aluTurn, halu, h]

end

/-- Settles O45: every event of a bank that is not of a change or a link gives a request its turn, or a command its next step. -/
theorem bankTurns : Obligations.BankTurns := by
  unfold Obligations.BankTurns
  refine ⟨fun s c b q rest hq hchg halu => ?_, fun s c b u q hchg halu h => ?_, fun s c b q hfull => ?_,
    fun c b q s h => performs_of_takeTurn h rfl, fun c b q s h c' b' hfwd => ?_, fun c b q s h hheld => ?_,
    fun c b q s h => performs_of_takeTurn h rfl, fun c b q s h hw => performs_of_takeTurn h (exec_heldWriteProceed hw),
    fun c b q s h hfirst => performs_of_takeTurn h (exec_mxvAccept (fun n => by cases turnReq s c n <;> rfl) hfirst),
    fun c b s u s' u' halu hran => ⟨fun hlast => ?_, fun hmore => ?_⟩,
    fun c b s u l halu hbad => ?_⟩
  · rw [turnReq_idle hchg halu, hq, List.head?_cons]
  · obtain ⟨hmem, hpass⟩ := turnReq_beside_alu hchg halu h
    exact ⟨hmem, passesAlu_otherThread hpass, passesAlu_outsideRegion hpass⟩
  · rw [admitBank_of_full hfull, bankAt_holdArrival_same]
    exact ⟨rfl, length_insertArrival ..⟩
  · exact congrArg Host.Outcome.next ((takeTurn_of_heads h).trans (congrArg (afterTurn s c b q) hfwd))
  · exact congrArg Host.Outcome.next ((takeTurn_of_heads h).trans (congrArg (afterTurn s c b q) hheld))
  · exact congrArg Host.Outcome.next ((aluTurn_ran halu hran).trans (if_pos hlast))
  · exact congrArg Host.Outcome.next ((aluTurn_ran halu hran).trans (if_neg hmore))
  · exact congrArg Host.Outcome.next (aluTurn_poison halu hbad)

/-! ### A change of personality (R77, R78) -/

theorem rdByte_zeroRange {m : Memory} {a n x : ℕ} (hlo : a ≤ x) (hhi : x < a + n) : rdByte (zeroRange m a n) x = 0 := by
  refine aget_of_forall (p := fun v => v = 0) rfl fun e he hx => ?_
  have hout : e.1 < a ∨ a + n ≤ e.1 := by simpa using (List.mem_filter.mp he).2
  omega

theorem rdByte_clearBankBytes (s : State) (c b : ℕ) {o : ℕ} (ho : o < 65536) :
    rdByte (clearBankBytes s c b).sram (bankOff c b o) = 0 :=
  rdByte_zeroRange (by simp [bankOff]) (by simp only [bankOff]; omega)

/-- A bank that stands alone has no other bank to tell of its change: the mode is applied to it, no more BUSY. -/
theorem changeNow_alone {s : State} {c b : ℕ} (h : (bankAt s c b).comp = []) (p : Params) (mode : ℕ) :
    changeNow s c b p mode =
      applyMode (modBank s c b fun x => { x with busy := false }) c b p mode (collect s c b).1 := by
  simp [changeNow, compositeOf, h]

theorem applyMode_clear (s : State) (c b : ℕ) (p : Params) (es : List Element) :
    applyMode s c b p 0 es =
      (modBank (clearBankBytes (modBank s c b (emptyBank p)) c b) c b fun x => { x with upd := [] }, 0, 0) := rfl

@[simp] theorem bankAt_clearBankBytes (s : State) (c b c' b' : ℕ) : bankAt (clearBankBytes s c b) c' b' = bankAt s c' b' := rfl

section
variable {s : State} {c b : ℕ} {u : ChangeRun} (hchg : (bankAt s c b).chg = some u)
include hchg

section
variable (hlink : u.isLink = false) (hmode : u.mode < 3) (hcarve : u.carve = false) (hothers : othersDrained s c b = true)
  (hpins : pinsAllow s (bankOf u.req.addr).1 (bankOf u.req.addr).2 u.mode = true)
include hlink hmode hcarve hothers hpins

theorem exec_personalityChange_applied {w : Word} (hcmd : u.req.cmd = .change w)
    (hclean : changePoisoned s (bankOf u.req.addr).1 (bankOf u.req.addr).2 u.mode = false) :
    let x := changeNow (modBank s c b fun b => { b with chg := none }) (bankOf u.req.addr).1 (bankOf u.req.addr).2 u.p u.mode
    exec (.personalityChange c b) s = .next (bankReply (sendBack x.1 c b) u.req
      { BankResult.ofStatus x.2.1 with value := BitVec.ofNat 512 x.2.2 }) :=
  congrArg Host.Outcome.next (by
    simp [hchg, hlink, Nat.not_le.mpr hmode, hcarve, hothers, hpins, hclean, hcmd])

theorem exec_personalityChange_poisoned
    (hbad : changePoisoned s (bankOf u.req.addr).1 (bankOf u.req.addr).2 u.mode = true) :
    exec (.personalityChange c b) s = .next (bankReply
      ((compositeOf s c b).foldl (fun s x => modBank s x.1 x.2 fun y => { y with busy := false })
        (modBank s c b fun b => { b with chg := none })) u.req (.ofFail .poison 0)) :=
  congrArg Host.Outcome.next (by
    simp [hchg, hlink, Nat.not_le.mpr hmode, hcarve, hothers, hpins, hbad])

end

/-! ### A link (R81) -/

theorem exec_link (hlink : u.isLink = true) :
    let s1 := modBank (((c, b) :: u.names).foldl (fun s x => modBank s x.1 x.2 fun y => { y with busy := false }) s) c b
      fun y => { y with chg := none }
    exec (.link c b) s = .next (if linkOk s1 c b u.names = true then bankReply (linkNow s1 c b u.names) u.req (.ofStatus 0)
      else bankReply s1 u.req (.ofStatus 5)) :=
  congrArg Host.Outcome.next (by simp [hchg, hlink])

end

/-- Settles O46: the event of a change or of a link ends it by the conditions that hold then; a bank that stands alone and is cleared
is empty, holds zeros and is no more BUSY. -/
theorem personalityChangesAndLinks : Obligations.PersonalityChangesAndLinks := by
  unfold Obligations.PersonalityChangesAndLinks
  refine ⟨fun c b s u w hchg hlink hmode hcarve hcmd hothers hpins hclean =>
      exec_personalityChange_applied hchg hlink hmode hcarve hothers hpins hcmd hclean,
    fun c b s u hchg hlink hmode hcarve hothers hpins hbad =>
      exec_personalityChange_poisoned hchg hlink hmode hcarve hothers hpins hbad,
    fun c b s u hchg hlink => ⟨fun hok => ?_, fun hno => ?_⟩, fun s c b p hcomp => ?_⟩
  · exact (exec_link hchg hlink).trans (congrArg Host.Outcome.next (if_pos hok))
  · exact (exec_link hchg hlink).trans (congrArg Host.Outcome.next (if_neg (Bool.eq_false_iff.mp hno)))
  · rw [changeNow_alone hcomp, applyMode_clear]
    refine ⟨rfl, ?_, ?_, ?_, fun o ho => rdByte_clearBankBytes _ _ _ ho⟩ <;>
      simp only [bankAt_modBank_same, bankAt_clearBankBytes, emptyBank]

end Sys2Proof.Machine
end

section
/-! # Rows at their homes

A row step reads its source rows line by line, which leaves every line at its home as it was, and writes its destination row line by
line, which changes that row alone, where no die owns a word of them (R100, R106). -/

namespace Sys2Proof.Machine
open Sys2Proof.Claims

/-! ### Lines of the DRAM array -/

theorem rdNat_congr {m m' : Memory} {a n : ℕ} (h : ∀ x, a ≤ x → x < a + n → rdByte m x = rdByte m' x) :
    rdNat m a n = rdNat m' a n := by
  induction n generalizing a with
  | zero => rfl
  | succ n ih => rw [rdNat, rdNat, h a le_rfl (by omega), ih fun x hlo hhi => h x (by omega) (by omega)]

/-- Bytes that are those of a number read as the number. -/
theorem rdNat_of_bytes {m : Memory} {a n v : ℕ} (h : ∀ i < n, rdByte m (a + i) = BitVec.ofNat 8 (v / 256 ^ i)) :
    rdNat m a n = v % 256 ^ n := by
  induction n generalizing a v with
  | zero => rw [rdNat, Nat.pow_zero, Nat.mod_one]
  | succ n ih =>
    have h0 := h 0 (Nat.succ_pos n)
    rw [Nat.add_zero, Nat.pow_zero, Nat.div_one] at h0
    have hr : rdNat m (a + 1) n = v / 256 % 256 ^ n := ih fun i hi => by
      rw [Nat.add_assoc, Nat.add_comm 1, h (i + 1) (Nat.succ_lt_succ hi), Nat.pow_succ', Nat.div_div_eq_div_mul]
    rw [rdNat, h0, hr, BitVec.toNat_ofNat, show 256 ^ (n + 1) = 256 * 256 ^ n from Nat.pow_succ', Nat.mod_mul]

/-- A line written whole reads as written, and every other line as before. -/
theorem rdLine_writtenLine (m : Memory) (line line' : ℕ) (d : Line) :
    rdLine (wrMasked m (64 * line) 64 (BitVec.allOnes 64).toNat d.toNat) (64 * line') =
      if line' = line then d else rdLine m (64 * line') := by
  have hb := rdByte_writtenLine m line d
  have ha : 64 * line' / 64 * 64 = 64 * line' := by omega
  rw [rdLine, rdLine, ha]
  split
  · next h =>
    subst h
    have hlt : d.toNat < 256 ^ 64 := by
      rw [show 256 = 2 ^ 8 from rfl, ← Nat.pow_mul, show 8 * 64 = 512 from rfl]
      exact d.isLt
    rw [rdNat_of_bytes (v := d.toNat) fun i hi => ?_]
    · rw [Nat.mod_eq_of_lt hlt, BitVec.ofNat_toNat, BitVec.setWidth_eq]
    · rw [hb, if_pos (by omega), extractByte_eq, show (64 * line' + i) % 64 = i by omega]
  · next h => rw [rdNat_congr fun x hlo hhi => (hb x).trans (if_neg (by omega))]

@[simp] theorem llcAt_writeArray (s : State) (line line' : ℕ) (m : BitVec 64) (d : Line) :
    llcAt (writeArray s line m d) line' = llcAt s line' := rfl

theorem rdLine_writeArray (s : State) (line line' : ℕ) (d : Line) :
    rdLine (writeArray s line (BitVec.allOnes 64) d).dram (64 * line') = if line' = line then d else rdLine s.dram (64 * line') :=
  rdLine_writtenLine ..

theorem homeData_of_array {s : State} {line : ℕ} (h : llcAt s line = none) : homeData s line = rdLine s.dram (64 * line) := by
  rw [homeData, h]

theorem llcAt_dropLlc_other (s : State) {line line' : ℕ} (h : line' ≠ line) : llcAt (dropLlc s line) line' = llcAt s line' := by
  unfold llcAt dropLlc
  rw [adel_eq_filter, List.find?_filter]
  refine congrArg (Option.map _) (List.find?_congr fun e _ => ?_)
  by_cases he : e.1 = line'
  · simp [he, Ne.symm h]
  · simp [he]

/-! ### A source line (R106) -/

/-- What a home has of every line, its mark and its owners are as before. -/
structure SameAtHomes (t s : State) : Prop where
  homes : t.homes = s.homes
  data : ∀ line, homeData t line = homeData s line
  poison : ∀ line, linePoison t line = linePoison s line

theorem SameAtHomes.refl (s : State) : SameAtHomes s s := ⟨rfl, fun _ => rfl, fun _ => rfl⟩

theorem SameAtHomes.trans {u t s : State} (h : SameAtHomes u t) (h' : SameAtHomes t s) : SameAtHomes u s :=
  ⟨h.homes.trans h'.homes, fun l => (h.data l).trans (h'.data l), fun l => (h.poison l).trans (h'.poison l)⟩

theorem SameAtHomes.own {t s : State} (h : SameAtHomes t s) (line : ℕ) : (homeAt t line).own = (homeAt s line).own := by
  rw [homeAt_of_homes h.homes]

theorem homeData_congr_line {s t : State} {line : ℕ} (hl : llcAt t line = llcAt s line)
    (hd : rdLine t.dram (64 * line) = rdLine s.dram (64 * line)) : homeData t line = homeData s line := by
  rw [homeData, homeData, hl, hd]

theorem linePoison_congr_line {s t : State} {line : ℕ} (hl : llcAt t line = llcAt s line)
    (hb : line ∈ t.dramBad ↔ line ∈ s.dramBad) : linePoison t line = linePoison s line := by
  have hb' : t.dramBad.contains line = s.dramBad.contains line := by rw [Bool.eq_iff_iff]; simpa using hb
  rw [linePoison, linePoison, hl, hb']

section
variable {s : State} {line : ℕ} {l : LlcLine} (hl : llcAt s line = some l)
include hl

/-- A modified LLC line goes to the DRAM array and stays in the LLC. -/
theorem sameAtHomes_writeBack :
    SameAtHomes (writeArray (setLlc s line { l with dirty := false }) line (BitVec.allOnes 64) l.data) s := by
  have hllc : ∀ line', llcAt (writeArray (setLlc s line { l with dirty := false }) line (BitVec.allOnes 64) l.data) line' =
      if line' = line then some { l with dirty := false } else llcAt s line' := fun line' => by rw [llcAt_writeArray, llcAt_setLlc]
  refine ⟨rfl, fun line' => ?_, fun line' => ?_⟩ <;> by_cases hline : line' = line
  · subst hline
    rw [homeData_of_llc hl, homeData_of_llc ((hllc _).trans (if_pos rfl))]
  · exact homeData_congr_line ((hllc _).trans (if_neg hline)) ((rdLine_writeArray ..).trans (if_neg hline))
  · subst hline
    rw [linePoison_of_llc hl, linePoison_of_llc ((hllc _).trans (if_pos rfl))]
  · refine linePoison_congr_line ((hllc _).trans (if_neg hline)) ?_
    simp [writeArray, setLlc, sdel, hline]

/-- The mark of a line that the LLC has is kept there: that of the array is not read (R446). -/
theorem sameAtHomes_mark : SameAtHomes { s with dramBad := sins s.dramBad line } s := by
  refine ⟨rfl, fun _ => rfl, fun line' => ?_⟩
  by_cases hline : line' = line
  · subst hline
    rw [linePoison_of_llc hl, linePoison_of_llc (s := { s with dramBad := sins s.dramBad line' }) hl]
  · exact linePoison_congr_line rfl (by simp [mem_sins, hline])

end

/-- A line written back to the DRAM array is at its home what it was (R54, R106). -/
theorem sameAtHomes_cleanLlc (s : State) (line : ℕ) : SameAtHomes (cleanLlc s line) s := by
  unfold cleanLlc
  split
  · next l hl =>
    extract_lets t
    have ht : SameAtHomes t s ∧ ∃ l', llcAt t line = some l' := by
      simp only [t]
      split
      · exact ⟨sameAtHomes_writeBack hl, _, (llcAt_setLlc s line line _).trans (if_pos rfl)⟩
      · exact ⟨.refl s, l, hl⟩
    obtain ⟨hsame, l', hl'⟩ := ht
    split
    · exact (sameAtHomes_mark hl').trans hsame
    · exact hsame
  · exact .refl s

theorem recallNow_unowned {s : State} {line : ℕ} (h : (homeAt s line).own = 0) (w : BitVec 16) (back : Bool) :
    recallNow s line w back = s := by
  have hz : (homeAt s line).own &&& w = 0 := by rw [h]; exact BitVec.zero_and
  exact if_pos hz

/-! ### The source rows (R100, R106) -/

/-- What a row step does to a line of a source row. -/
def readRowLine (a : List Line × State) (line : ℕ) : List Line × State :=
  let s := cleanLlc (recallNow a.2 line (BitVec.allOnes 16) true) line
  (a.1 ++ [homeData s line], s)

theorem foldl_readRowLine {s : State} {lines : List ℕ} (h : ∀ l ∈ lines, (homeAt s l).own = 0) (got : List Line) :
    (lines.foldl readRowLine (got, s)).1 = got ++ lines.map (homeData s) ∧
      SameAtHomes (lines.foldl readRowLine (got, s)).2 s := by
  induction lines generalizing s got with
  | nil => exact ⟨(List.append_nil _).symm, .refl s⟩
  | cons l lines ih =>
    have hc := sameAtHomes_cleanLlc s l
    have hstep : readRowLine (got, s) l = (got ++ [homeData s l], cleanLlc s l) := by
      simp only [readRowLine, recallNow_unowned (h l (List.mem_cons_self ..)), hc.data]
    obtain ⟨hgot, hsame⟩ := ih (s := cleanLlc s l) (fun x hx => (hc.own x).trans (h x (List.mem_cons_of_mem _ hx)))
      (got ++ [homeData s l])
    rw [List.foldl_cons, hstep]
    refine ⟨?_, hsame.trans hc⟩
    rw [hgot, List.map_congr_left fun x _ => hc.data x, List.append_assoc, List.map_cons, List.singleton_append]

/-- A row of which no die owns a word is read as its homes have it. -/
theorem readRow_unowned {s : State} {b : ℕ} (h : ∀ l ∈ rowLines b, (homeAt s l).own = 0) :
    (readRow s b).1 = (rowLines b).map (homeData s) ∧ SameAtHomes (readRow s b).2 s :=
  foldl_readRowLine h []

/-- What a row step does to a source row: the rows read so far, and the next one. -/
def readNextRow (a : State × List (List Line)) (b : ℕ) : State × List (List Line) := ((readRow a.1 b).2, a.2 ++ [(readRow a.1 b).1])

theorem foldl_readNextRow {s : State} {rows : List ℕ} (h : ∀ l ∈ rows.flatMap rowLines, (homeAt s l).own = 0)
    (got : List (List Line)) :
    (rows.foldl readNextRow (s, got)).2 = got ++ rows.map (fun b => (rowLines b).map (homeData s)) ∧
      SameAtHomes (rows.foldl readNextRow (s, got)).1 s := by
  induction rows generalizing s got with
  | nil => exact ⟨(List.append_nil _).symm, .refl s⟩
  | cons b rows ih =>
    rw [List.flatMap_cons] at h
    obtain ⟨hrow, hc⟩ := readRow_unowned fun l hl => h l (List.mem_append_left _ hl)
    obtain ⟨hgot, hsame⟩ := ih (s := (readRow s b).2) (fun x hx => (hc.own x).trans (h x (List.mem_append_right _ hx)))
      (got ++ [(readRow s b).1])
    rw [List.foldl_cons]
    refine ⟨hgot.trans ?_, hsame.trans hc⟩
    rw [hrow, List.append_assoc, List.map_cons, List.singleton_append, funext hc.data]

/-! ### The destination row (R106) -/

/-- What a row step does to a line of its destination row. -/
def writeRowLine (s : State) (e : ℕ × Line) : State :=
  writeArray (dropLlc (recallNow (invalidateNow s e.1) e.1 (BitVec.allOnes 16) false) e.1) e.1 (BitVec.allOnes 64) e.2

/-- Sharers that are told to drop a line change what their home knows of them, and no word of it. -/
theorem invalidateNow_homes (s : State) (line : ℕ) :
    (invalidateNow s line).dram = s.dram ∧ (invalidateNow s line).llc = s.llc ∧
      ∀ l, (homeAt (invalidateNow s line) l).own = (homeAt s l).own := by
  unfold invalidateNow
  extract_lets h t
  have ht : beyondCopies t = beyondCopies s := by
    refine foldl_keeps beyondCopies _ (fun s d => ?_) _ _
    split
    · exact foldl_keeps beyondCopies _ (fun s pa => beyondCopies_unshared d s pa) _ _
    · rfl
  obtain ⟨hd, hl, hh, -⟩ := same_of_beyondCopies ht
  refine ⟨hd, hl, fun l => ?_⟩
  rw [homeAt_modHome]
  split
  · next he => rw [he, homeAt_of_homes hh]
  · rw [homeAt_of_homes hh]

/-- A line of which no die owns a word is written, and no other line changes. -/
theorem writeRowLine_unowned {s : State} {e : ℕ × Line} (h : (homeAt s e.1).own = 0) :
    (∀ l, homeData (writeRowLine s e) l = if l = e.1 then e.2 else homeData s l) ∧
      ∀ l, (homeAt (writeRowLine s e) l).own = (homeAt s l).own := by
  obtain ⟨hd, hl, ho⟩ := invalidateNow_homes s e.1
  have hw : writeRowLine s e = writeArray (dropLlc (invalidateNow s e.1) e.1) e.1 (BitVec.allOnes 64) e.2 := by
    rw [writeRowLine, recallNow_unowned ((ho _).trans h)]
  rw [hw]
  refine ⟨fun l => ?_, ho⟩
  by_cases hline : l = e.1
  · rw [if_pos hline, homeData_of_array (by rw [llcAt_writeArray, hline, llcAt_dropLlc]), rdLine_writeArray, if_pos hline]
  · have hdrop : llcAt (dropLlc (invalidateNow s e.1) e.1) l = llcAt s l := by
      rw [llcAt_dropLlc_other _ hline, llcAt, hl, llcAt]
    rw [if_neg hline, homeData_congr_line ((llcAt_writeArray ..).trans hdrop)]
    rw [rdLine_writeArray, if_neg hline, (sameMem_dropLlc ..).1, hd]

/-- A row is written line by line: each line of it reads as its own value. -/
theorem foldl_writeRowLine {s : State} {es : List (ℕ × Line)} (hn : (es.map Prod.fst).Nodup) (h : ∀ e ∈ es, (homeAt s e.1).own = 0) :
    (∀ e ∈ es, homeData (es.foldl writeRowLine s) e.1 = e.2) ∧
      ∀ l ∉ es.map Prod.fst, homeData (es.foldl writeRowLine s) l = homeData s l := by
  induction es generalizing s with
  | nil => exact ⟨List.forall_mem_nil _, fun _ _ => rfl⟩
  | cons e es ih =>
    obtain ⟨hne, hn⟩ := List.nodup_cons.mp hn
    obtain ⟨hdata, hown⟩ := writeRowLine_unowned (h e (List.mem_cons_self ..))
    obtain ⟨hin, hout⟩ := ih (s := writeRowLine s e) hn fun x hx => (hown _).trans (h x (List.mem_cons_of_mem _ hx))
    refine ⟨fun x hx => ?_, fun l hl => ?_⟩
    · rcases List.mem_cons.mp hx with rfl | hx
      · exact (hout _ hne).trans ((hdata _).trans (if_pos rfl))
      · exact hin x hx
    · obtain ⟨hle, hl⟩ := not_or.mp (mt List.mem_cons.mpr hl)
      exact (hout l hl).trans ((hdata l).trans (if_neg hle))

theorem nodup_rowLines (b : ℕ) : (rowLines b).Nodup :=
  List.nodup_range.map fun _ _ h => Nat.add_left_cancel h

/-- Line j of a row that is written reads as the j-th of the values. -/
theorem homeData_writeRow {s : State} {b : ℕ} (h : ∀ l ∈ rowLines b, (homeAt s l).own = 0) (v : ℕ → Line) {j : ℕ}
    (hj : j < 16) :
    homeData (writeRow s (rowLines b) ((List.range 16).map v)) (b / 64 + j) = v j := by
  have hz : (rowLines b).zip ((List.range 16).map v) = (List.range 16).map fun i => (b / 64 + i, v i) := List.zip_map' ..
  have hkeys : ((List.range 16).map fun i => (b / 64 + i, v i)).map Prod.fst = rowLines b := by rw [List.map_map]; rfl
  have hw : writeRow s (rowLines b) ((List.range 16).map v) =
      ((List.range 16).map fun i => (b / 64 + i, v i)).foldl writeRowLine s := by rw [← hz]; rfl
  rw [hw]
  refine (foldl_writeRowLine (hkeys ▸ nodup_rowLines b) fun e he => h _ ?_).1 (b / 64 + j, v j)
    (List.mem_map.mpr ⟨j, List.mem_range.mpr hj, rfl⟩)
  rw [← hkeys]
  exact List.mem_map_of_mem he

end Sys2Proof.Machine
end

section
/-! # Row steps

A row step that its command sends to empty sequencers is performed in the same act: it may take the lines of its rows, and writes its
destination row (R100-R103, R106). -/

namespace Sys2Proof.Machine
open Sys2Proof.Claims

/-! ### What lies outside the engines -/

/-- A state but for its cores and its quay dies, where the commands and the engines' work are. -/
def beyondEngines (s : State) : State := { s with cores := [], qdies := [] }

theorem beyondEngines_setCmd (s : State) (core n : ℕ) (c : Option Cmd) : beyondEngines (setCmd s core n c) = beyondEngines s := rfl

theorem beyondEngines_keepCommand (s : State) (core n : ℕ) (c : Cmd) : beyondEngines (keepCommand s core n c) = beyondEngines s :=
  beyondEngines_setCmd ..

theorem beyondEngines_endCommand (s : State) (core n : ℕ) (c : Cmd) (status result : ℕ) :
    beyondEngines (endCommand s core n c status result) = beyondEngines s :=
  (beyondEngines_setCmd ..).trans (show beyondEngines (leaveEngine s core n) = beyondEngines s from rfl)

theorem beyondEngines_modStack (s : State) (n : ℕ) (f : Stack → Stack) : beyondEngines (modStack s n f) = beyondEngines s := rfl

theorem beyondEngines_wakeStack (s : State) (line : ℕ) : beyondEngines (wakeStack s line) = beyondEngines s := by
  unfold wakeStack
  split <;> rfl

theorem homeData_of_beyondEngines {s t : State} (h : beyondEngines t = beyondEngines s) (line : ℕ) : homeData t line = homeData s line :=
  (congrArg (homeData · line) h :)

/-- The worlds of lines depend on the region registers of the stacks (R457). -/
theorem secureLine_of_regions {s t : State} (h : ∀ n, (stackAt t n).regions = (stackAt s n).regions) (line : ℕ) :
    secureLine t line = secureLine s line := by
  simp only [secureLine, regionAt, h]

/-- The sequencers of a quay die have no part in the world of a line. -/
theorem secureLine_modRows (s : State) (n : ℕ) (f : List RowStep → List RowStep) (line : ℕ) :
    secureLine (modStack s n fun k => { k with rows := f k.rows }) line = secureLine s line := by
  refine secureLine_of_regions (fun m => ?_) line
  rw [stackAt_modStack]
  split
  · next h => rw [h]
  · rfl

/-! ### The lines of a row step (R103, R106, R111, R458) -/

/-- A row step may take a line: its home is quiet, no die owns a word of it, and neither its bias, nor a mark, nor its world stops the
step. -/
structure Takeable (s : State) (ns : Bool) (line : ℕ) : Prop where
  quiet : lineQuiet s line = true
  unowned : (homeAt s line).own = 0
  unbiased : hostBias s line = false
  unmarked : linePoison s line = false
  world : ns = true → secureLine s line = false

theorem Takeable.of_engines {s t : State} {ns : Bool} {line : ℕ} (h : Takeable s ns line) (he : beyondEngines t = beyondEngines s)
    (hw : secureLine t line = secureLine s line) : Takeable t ns line where
  quiet := (congrArg (lineQuiet · line) he :).trans h.quiet
  unowned := (congrArg (fun x => (homeAt x line).own) he :).trans h.unowned
  unbiased := (congrArg (hostBias · line) he :).trans h.unbiased
  unmarked := (congrArg (linePoison · line) he :).trans h.unmarked
  world := fun hns => hw.trans (h.world hns)

theorem find?_none_of_lines {rows vas : List ℕ} {f : ℕ → Bool} (h : ∀ l ∈ rows.flatMap rowLines, f l = false) :
    (rows.zip vas).find? (fun e => (rowLines e.1).any f) = none := by
  rw [List.find?_eq_none]
  intro e he
  rw [Bool.not_eq_true, List.any_eq_false]
  exact fun l hl => Bool.eq_false_iff.mp (h l (List.mem_flatMap.mpr ⟨e.1, (List.of_mem_zip he).1, hl⟩))

/-- The rows that a step reads. -/
def sourceRows (r : RowStep) : List ℕ := r.rows.take (r.rows.length - 1)

theorem sourceRows_lines {r : RowStep} {b l : ℕ} (hb : b ∈ sourceRows r) (hl : l ∈ rowLines b) : l ∈ r.rows.flatMap rowLines :=
  List.mem_flatMap.mpr ⟨b, List.mem_of_mem_take hb, hl⟩

/-- The stacks of a step's rows are woken (R490). -/
def rowsWoken (s : State) (r : RowStep) : State := r.rows.foldl (fun s b => wakeStack s (b / 64)) s

theorem beyondEngines_rowsWoken (s : State) (r : RowStep) : beyondEngines (rowsWoken s r) = beyondEngines s :=
  foldl_keeps beyondEngines _ (fun s b => beyondEngines_wakeStack s (b / 64)) _ _

theorem secureLine_rowsWoken (s : State) (r : RowStep) (line : ℕ) : secureLine (rowsWoken s r) line = secureLine s line :=
  foldl_keeps (secureLine · line) _ (fun s b => secureLine_wakeStack s (b / 64) line) _ _

section
variable {s : State} {c : Cmd} {r : RowStep} (h : ∀ l ∈ r.rows.flatMap rowLines, Takeable s (ctxNs c.ctx) l)
include h

/-- A step that may take all its lines stops its command for none of them. -/
theorem rowStops_none : rowStops s c r = none := by
  have hworld := find?_none_of_lines (vas := stepVas c r.step) (f := fun l => ctxNs c.ctx && secureLine s l) fun l hl => by
    cases hns : ctxNs c.ctx with
    | false => rfl
    | true => rw [(h l hl).world hns, Bool.and_false]
  have hbias := find?_none_of_lines (vas := stepVas c r.step) (f := hostBias s) fun l hl => (h l hl).unbiased
  have hmark : ((sourceRows r).zip (stepVas c r.step)).find? (fun e => (rowLines e.1).any (linePoison (readRow s e.1).2)) = none := by
    rw [List.find?_eq_none]
    intro e he
    rw [Bool.not_eq_true, List.any_eq_false]
    intro l hl
    have hsrc := (List.of_mem_zip he).1
    have hread := (readRow_unowned fun x hx => (h x (sourceRows_lines hsrc hx)).unowned).2
    rw [hread.poison, (h l (sourceRows_lines hsrc hl)).unmarked, Bool.not_eq_true]
  rw [sourceRows] at hmark
  simp only [rowStops, hworld, hbias, hmark, Option.map_none]

theorem takeable_rowsWoken : ∀ l ∈ r.rows.flatMap rowLines, Takeable (rowsWoken s r) (ctxNs c.ctx) l := fun l hl =>
  (h l hl).of_engines (beyondEngines_rowsWoken s r) (secureLine_rowsWoken s r l)

theorem rowReady_of_takeable (hc : cmdAt s r.core r.cmd = some c) : rowReady s r = true := by
  have hquiet : (r.rows.flatMap rowLines).all (lineQuiet s) = true := List.all_eq_true.mpr fun l hl => (h l hl).quiet
  simp only [rowReady, hc, hquiet, rowStops_none h, Option.isNone_none, Bool.true_or, Bool.and_true, Bool.or_true]

end

/-! ### The step is performed (R100, R102) -/

/-- Line j of source row k of a step, as its home has it; zeros where there is no such row (R100). -/
def sourceLine (s : State) (r : RowStep) (k j : ℕ) : Line :=
  if k < r.rows.length - 1 then homeData s (r.rows.getD k 0 / 64 + j) else 0

theorem sourceLine_of_engines {s t : State} (h : beyondEngines t = beyondEngines s) (r : RowStep) (k j : ℕ) :
    sourceLine t r k j = sourceLine s r k j := by
  rw [sourceLine, sourceLine, homeData_of_beyondEngines h]

/-- What a step has read of its sources. -/
def sourcesRead (s : State) (r : RowStep) : List (List Line) :=
  (sourceRows r).map fun b => (rowLines b).map (homeData s)

theorem getD_sourcesRead (s : State) (r : RowStep) (k : ℕ) {j : ℕ} (hj : j < 16) :
    ((sourcesRead s r).getD k []).getD j 0 = sourceLine s r k j := by
  unfold sourceLine
  split
  · next hk =>
    have hrow : (sourcesRead s r).getD k [] = (rowLines (r.rows.getD k 0)).map (homeData s) := by
      have hk' : k < r.rows.length := by omega
      simp [sourcesRead, sourceRows, hk, hk']
    rw [hrow]
    simp [rowLines, hj]
  · next hk =>
    have hrow : (sourcesRead s r).getD k [] = [] := List.getD_eq_default _ _ (by simp [sourcesRead, sourceRows]; omega)
    rw [hrow]
    rfl

/-- The sources of a step are read and its destination is written. -/
def rowWritten (s : State) (fn : ℕ) (fill : Bool) (r : RowStep) : State :=
  let x := (sourceRows r).foldl readNextRow (s, [])
  let line := fun (k j : ℕ) => (x.2.getD k []).getD j 0
  writeRow x.1 (rowLines (dstRow r)) ((List.range 16).map fun j => rowValue fn fill (line 0 j) (line 1 j) (line 2 j))

theorem dstRow_mem {r : RowStep} (h : r.rows ≠ []) : dstRow r ∈ r.rows := by
  rw [dstRow, List.getLastD_eq_getLast?, List.getLast?_eq_some_getLast h]
  exact List.getLast_mem h

/-- A step of whose lines no die owns a word writes its destination row as its operation says of the source rows (R100). -/
theorem homeData_rowWritten {s : State} {r : RowStep} (h : ∀ l ∈ r.rows.flatMap rowLines, (homeAt s l).own = 0) (hr : r.rows ≠ [])
    (fn : ℕ) (fill : Bool) {j : ℕ} (hj : j < 16) :
    homeData (rowWritten s fn fill r) (dstRow r / 64 + j) =
      rowValue fn fill (sourceLine s r 0 j) (sourceLine s r 1 j) (sourceLine s r 2 j) := by
  have hsrc : ∀ l ∈ (sourceRows r).flatMap rowLines, (homeAt s l).own = 0 := fun l hl => by
    obtain ⟨b, hb, hl⟩ := List.mem_flatMap.mp hl
    exact h l (sourceRows_lines hb hl)
  obtain ⟨hgot, hsame⟩ := foldl_readNextRow hsrc []
  have hdst : ∀ l ∈ rowLines (dstRow r), (homeAt ((sourceRows r).foldl readNextRow (s, [])).1 l).own = 0 :=
    fun l hl => (hsame.own l).trans (h l (List.mem_flatMap.mpr ⟨_, dstRow_mem hr, hl⟩))
  rw [rowWritten, homeData_writeRow hdst _ hj, hgot, List.nil_append, ← sourcesRead]
  simp only [getD_sourcesRead s r _ hj]

section
variable {s : State} {c : Cmd} {r : RowStep} (h : ∀ l ∈ r.rows.flatMap rowLines, Takeable s (ctxNs c.ctx) l)
  (hc : cmdAt s r.core r.cmd = some c) {fn : ℕ} (hk : c.kind = .row fn) (hid : c.id = r.id)
include h hc hk hid

/-- Beyond the engines, a step that may take its lines does what it does to them. -/
theorem beyondEngines_rowStepNow : beyondEngines (rowStepNow s r) =
    beyondEngines (rowWritten (rowsWoken s r) fn (bit c.opw.toNat 32) r) := by
  have hstops := rowStops_none (takeable_rowsWoken h)
  rw [rowsWoken] at hstops
  unfold rowStepNow rowWritten readNextRow sourceRows rowsWoken
  simp only [hc, hk, hid, ne_eq, not_true_eq_false, if_false, hstops, apply_ite beyondEngines, beyondEngines_endCommand,
    beyondEngines_keepCommand, ite_self]

/-- A step that may take its lines writes its destination row (R100). -/
theorem homeData_rowStepNow (hr : r.rows ≠ []) {j : ℕ} (hj : j < 16) :
    homeData (rowStepNow s r) (dstRow r / 64 + j) =
      rowValue fn (bit c.opw.toNat 32) (sourceLine s r 0 j) (sourceLine s r 1 j) (sourceLine s r 2 j) := by
  rw [homeData_of_beyondEngines (beyondEngines_rowStepNow h hc hk hid),
    homeData_rowWritten (fun l hl => (takeable_rowsWoken h l hl).unowned) hr _ _ hj]
  simp only [sourceLine_of_engines (beyondEngines_rowsWoken s r)]

end

/-! ### The step is sent (R102) -/

theorem flatMap_aput_of_nil {α β : Type} {l : Assoc α} {f : ℕ × α → List β} (h : ∀ e ∈ l, f e = []) (k : ℕ) (v : α) :
    (aput l k v).flatMap f = f (k, v) := by
  induction l with
  | nil => simp [aput]
  | cons e l ih =>
    obtain ⟨he, hl⟩ := List.forall_mem_cons.mp h
    have hnil : l.flatMap f = [] := List.flatMap_eq_nil_iff.mpr hl
    simp only [aput]
    split
    · simp [he, hnil]
    · split
      · simp [hnil]
      · rw [List.flatMap_cons, he, ih hl, List.nil_append]

/-- A command has sent a step to the sequencer of a quay die. -/
def stepSent (s : State) (c : Cmd) (r : RowStep) : State :=
  modStack (keepCommand s r.core r.cmd { c with next := r.step + 1 }) (stackOf (dstRow r)) fun k => { k with rows := k.rows ++ [r] }

/-- A step is in no sequencer any more. -/
def stepTaken (s : State) (r : RowStep) : State :=
  modStack s (stackOf (dstRow r)) fun k => { k with rows := k.rows.erase r }

@[simp] theorem cmdAt_modStack (s : State) (n : ℕ) (f : Stack → Stack) (core cmd : ℕ) :
    cmdAt (modStack s n f) core cmd = cmdAt s core cmd := rfl

@[simp] theorem cmdAt_setCmd_same (s : State) (core n : ℕ) (c : Option Cmd) : cmdAt (setCmd s core n c) core n = c := by
  simp [cmdAt, setCmd]

@[simp] theorem cmdAt_keepCommand_same (s : State) (core n : ℕ) (c : Cmd) : cmdAt (keepCommand s core n c) core n = some c :=
  cmdAt_setCmd_same ..

/-- The operands of a step with what it needs of each: its sources are read and its destination is written. -/
theorem zip_needs (srcs : List ℕ) (dst : ℕ) :
    (srcs ++ [dst]).zip ((List.range (srcs ++ [dst]).length).map fun k =>
        if k + 1 = (srcs ++ [dst]).length then Need.store else Need.load) =
      srcs.map (fun a => (a, Need.load)) ++ [(dst, Need.store)] := by
  have hlen : (srcs ++ [dst]).length = srcs.length + 1 := by simp
  simp only [hlen]
  refine List.ext_getElem (by simp) fun i h1 h2 => ?_
  rw [List.getElem_zip, List.getElem_map, List.getElem_range]
  rcases Nat.lt_or_ge i srcs.length with hi | hi
  · rw [if_neg (by omega), List.getElem_append_left hi, List.getElem_append_left (by simpa using hi), List.getElem_map]
  · have he : i = srcs.length := by simp at h2; omega
    subst he
    simp

section
variable {s : State} {c : Cmd} {r : RowStep} (hq : ∀ e ∈ s.qdies, e.2.rows = [])
include hq

/-- The step that has been sent to an empty sequencer is the only one that stands there first. -/
theorem firstForBank_stepSent : (stepSent s c r).qdies.flatMap (fun e => firstForBank e.2 r.core r.cmd) = [r] := by
  have hrows : (stackAt s (stackOf (dstRow r))).rows = [] := aget_of_forall (p := fun k : Stack => k.rows = []) rfl fun e he _ => hq e he
  have hput : (stepSent s c r).qdies = aput s.qdies (stackOf (dstRow r))
      { stackAt s (stackOf (dstRow r)) with rows := (stackAt s (stackOf (dstRow r))).rows ++ [r] } := by
    refine if_neg fun he => ?_
    exact List.append_ne_nil_of_right_ne_nil _ (List.cons_ne_nil r []) (congrArg Stack.rows he)
  rw [hput, hrows, flatMap_aput_of_nil fun e he => by simp [firstForBank, hq e he]]
  simp [firstForBank]

/-- The only step at the sequencers that may be performed is performed. -/
theorem rowTurn_stepSent (hready : rowReady (stepSent s c r) r = true) :
    rowTurn (stepSent s c r) r.core r.cmd = rowStepNow (stepTaken (stepSent s c r) r) r := by
  have hrs : ((stepSent s c r).qdies.flatMap fun e => firstForBank e.2 r.core r.cmd).filter (rowReady (stepSent s c r)) = [r] := by
    rw [firstForBank_stepSent hq, List.filter_singleton, hready]
    rfl
  unfold rowTurn
  simp only [hrs, List.length_singleton, Nat.mod_one, List.getElem?_cons_zero]
  rfl

end

section
variable {s : State} {c : Cmd} {r : RowStep}

theorem takeable_stepSent {ns : Bool} {line : ℕ} (h : Takeable s ns line) : Takeable (stepSent s c r) ns line := by
  refine h.of_engines rfl ?_
  rw [stepSent, secureLine_modRows _ _ (· ++ [r])]
  exact secureLine_of_regions (fun _ => rfl) line

theorem takeable_stepTaken {ns : Bool} {line : ℕ} (h : Takeable s ns line) : Takeable (stepTaken s r) ns line :=
  h.of_engines rfl (secureLine_modRows s _ (·.erase r) line)

theorem cmdAt_stepTaken (core cmd : ℕ) : cmdAt (stepTaken s r) core cmd = cmdAt s core cmd := cmdAt_modStack ..

theorem cmdAt_stepSent : cmdAt (stepSent s c r) r.core r.cmd = some { c with next := r.step + 1 } :=
  cmdAt_keepCommand_same ..

/-- A command sends its next step while nothing of it is under way. -/
theorem sendRow_sends {core n fn i : ℕ} {bs : List ℕ} (hi : nextRow c.ahead (c.ahead.length + 1) c.next = i)
    (hmore : i < c.opw.toNat % 2 ^ 17) (hrun : c.stage = .running) (hsent : sentSteps s core n = [])
    (hplaces : rowPlaces s core n c ((c.srcs.map fun a => (a.toNat + 1024 * i) % 2 ^ 64).map (fun a => (a, Need.load)) ++
      [((c.d.toNat + 1024 * i) % 2 ^ 64, Need.store)]) = .ok s bs) (hpath : ¬(fn = 0 ∧ rowPath bs = 2)) :
    sendRow s core n c fn = stepSent s c ⟨core, n, c.id, i, bs⟩ := by
  have hvas : stepVas c i = (c.srcs.map fun a => (a.toNat + 1024 * i) % 2 ^ 64) ++ [(c.d.toNat + 1024 * i) % 2 ^ 64] :=
    List.map_append
  unfold sendRow stepSent
  simp only [hi, hsent, hvas, zip_needs, hplaces, Nat.not_le.mpr hmore, hrun, ne_eq, not_true_eq_false, or_self, if_false,
    List.any_nil, Bool.false_eq_true, hpath]

/-- A step that its command sends while its sequencers are empty is performed in the same act (R100, R102). -/
theorem homeData_rowTurn_stepSent {fn : ℕ} (hq : ∀ e ∈ s.qdies, e.2.rows = []) (hk : c.kind = .row fn) (hid : r.id = c.id)
    (hr : r.rows ≠ []) (h : ∀ l ∈ r.rows.flatMap rowLines, Takeable s (ctxNs c.ctx) l) {j : ℕ} (hj : j < 16) :
    homeData (rowTurn (stepSent s c r) r.core r.cmd) (dstRow r / 64 + j) =
      rowValue fn (bit c.opw.toNat 32) (sourceLine s r 0 j) (sourceLine s r 1 j) (sourceLine s r 2 j) := by
  have hready : rowReady (stepSent s c r) r = true :=
    rowReady_of_takeable (c := { c with next := r.step + 1 }) (fun l hl => takeable_stepSent (h l hl)) cmdAt_stepSent
  have hsrc : ∀ k, sourceLine (stepTaken (stepSent s c r) r) r k j = sourceLine s r k j := fun k =>
    sourceLine_of_engines (beyondEngines_modStack ..) r k j
  rw [rowTurn_stepSent hq hready, ← hsrc, ← hsrc, ← hsrc]
  exact homeData_rowStepNow (c := { c with next := r.step + 1 }) (fun l hl => takeable_stepTaken (takeable_stepSent (h l hl)))
    ((cmdAt_stepTaken ..).trans cmdAt_stepSent) hk hid.symm hr hj

end

/-- Settles O48: the step that is sent is the only one at the sequencers, so it is performed; its sources are read as the homes have
them, and writing one line of the destination changes no other. -/
theorem rowStepComputesTheRow : Obligations.RowStepComputesTheRow := by
  unfold Obligations.RowStepComputesTheRow
  intro core cmd s c fn bs i srcs dst _ hc hk hrun hmore hq hsent hplaces hpath hlen _ hlines
  have hexec : exec (.rowStep core cmd) s = .next (rowTurn (stepSent s c ⟨core, cmd, c.id, i, bs⟩) core cmd) := by
    refine congrArg Host.Outcome.next ?_
    simp only [hc, hk, sendRow_sends (i := i) rfl hmore hrun hsent hplaces hpath]
  refine givesSome_of_exec hexec ?_
  intro j hj row
  have hr : bs ≠ [] := List.ne_nil_of_length_eq_add_one hlen
  have hsource : ∀ k, sourceLine s ⟨core, cmd, c.id, i, bs⟩ k j = row k := fun k => by
    simp only [sourceLine, hlen, Nat.add_sub_cancel, row]
  rw [← hsource, ← hsource, ← hsource]
  exact homeData_rowTurn_stepSent (r := ⟨core, cmd, c.id, i, bs⟩) hq hk rfl hr (fun l hl =>
    let ⟨hquiet, hown, hbias, hmark, hworld⟩ := hlines l hl
    ⟨hquiet, hown, hbias, hmark, hworld⟩) hj

end Sys2Proof.Machine
end

section
/-! # Engine acts and dead quay slots

What the events COPY_ENGINE_TURN, TRAVERSAL_HOP, ENGINE_COMPLETION, ENGINE_RESUME, ENGINE_END and QDEAD come to (R118, R124-R130, R438). -/

namespace Sys2Proof.Machine
open Sys2Proof.Claims

/-! ### The copy engine (R102, R128) -/

section
variable {s : State} {stack core n : ℕ} {rest : List Turn}

/-- The copy engine gives its turn to the command that stands first. -/
theorem exec_copyEngineTurn_command (ht : (stackAt s stack).turns = ⟨core, n, none⟩ :: rest) :
    exec (.copyEngineTurn stack) s = .next (copyCommandTurn s stack ⟨core, n, none⟩ rest) :=
  congrArg Host.Outcome.next (by simp only [ht])

/-- A row copy that stands first is made in one turn, once its homes are quiet. -/
theorem exec_copyEngineTurn_row {r : RowStep} (ht : (stackAt s stack).turns = ⟨core, n, some r⟩ :: rest) :
    exec (.copyEngineTurn stack) s =
      .next (if rowReady s r = true then rowStepNow (modStack s stack fun k => { k with turns := rest }) r else s) :=
  congrArg Host.Outcome.next (by simp only [ht])

/-- A copy that has reached a multiple of 4 KiB and goes on takes its next turn behind the others (R128). -/
theorem copyCommandTurn_goesOn {c c' : Cmd} (hc : cmdAt s core n = some c) (hrun : c.stage = .running) (hk : c.kind = .cpy)
    (hc' : cmdAt (copyTurn core n 64 s c) core n = some c') (hrun' : c'.stage = .running) (hpage : c'.count % 4096 = 0)
    (hmoved : c'.count ≠ c.count) :
    copyCommandTurn s stack ⟨core, n, none⟩ rest =
      modStack (copyTurn core n 64 s c) stack fun k => { k with turns := rest ++ [⟨core, n, none⟩] } := by
  have hgo : ¬(c.stage ≠ .running ∨ c.kind ≠ .cpy) := by simp [hrun, hk]
  simp only [copyCommandTurn, hc, hgo, if_false, hc', hrun', ne_eq, not_true_eq_false, hpage, hmoved, not_false_eq_true, and_self, if_true]

end

/-! ### The traversal engine (R129, R130) -/

theorem walkRuns_iff {s : State} {core n : ℕ} : walkRuns s core n = true ↔ (core, n) ∈ (stackAt s (core / 64)).walks.take 32 :=
  List.contains_iff_mem

section
variable {s : State} {core n : ℕ} {c : Cmd} (hc : cmdAt s core n = some c)
include hc

/-- A walk that is none of the first 32 waits for its turn (R130). -/
theorem exec_traversalHop_waits (hw : (core, n) ∉ (stackAt s (core / 64)).walks.take 32) : exec (.traversalHop core n) s = .next s := by
  have hstop : c.stage ≠ .running ∨ c.kind ≠ .walk ∨ (!walkRuns s core n) = true := by
    rw [Bool.eq_false_iff.mpr (mt walkRuns_iff.mp hw)]
    exact .inr (.inr rfl)
  exact congrArg Host.Outcome.next (by simp only [hc, hstop, if_true])

section
variable (hrun : c.stage = .running) (hk : c.kind = .walk) (hw : (core, n) ∈ (stackAt s (core / 64)).walks.take 32)
include hrun hk hw

omit hc in
theorem walk_hops : ¬(c.stage ≠ .running ∨ c.kind ≠ .walk ∨ (!walkRuns s core n) = true) := by
  rw [walkRuns_iff.mpr hw]
  simp [hrun, hk]

/-- A walk with nothing left to read ends. -/
theorem exec_traversalHop_ends {st r : ℕ} (hwant : walkWants c = .ends st r) :
    exec (.traversalHop core n) s = .next (endCommand s core n c st r) :=
  congrArg Host.Outcome.next (by simp only [hc, walk_hops hrun hk hw, if_false, hwant])

/-- A walk ends at its limit, with the address that it would have read. -/
theorem exec_traversalHop_limit {a k : ℕ} (hwant : walkWants c = .read a k) (hlim : walkLimit c.opw ≤ c.count) :
    exec (.traversalHop core n) s = .next (endCommand s core n c 2 a) :=
  congrArg Host.Outcome.next (by simp only [hc, walk_hops hrun hk hw, if_false, hwant, hlim, if_true])

/-- A walk below its limit makes one read of DRAM. -/
theorem exec_traversalHop_reads {a k pa : ℕ} {s1 s2 : State} {ls : List Line} (hwant : walkWants c = .read a k)
    (hlim : c.count < walkLimit c.opw) (hplace : engineDram s core n (engineCtx s core c) c.priv a Need.load 1 = .ok s1 pa)
    (hd : isDram pa = true) (hread : readLines s1 (.engine c.id) (ctxNs (engineCtx s core c)) [homeLine pa] = .got s2 ls false) :
    exec (.traversalHop core n) s =
      .next (walkGot (answerUsed s2 (homeLine pa) (.engine c.id)) core n c a (lineBytes (ls.headD 0) (pa % 64) k)) :=
  congrArg Host.Outcome.next (by
    simp only [hc, walk_hops hrun hk hw, if_false, hwant, Nat.not_le.mpr hlim, hplace, hd, hread, Bool.not_true, Bool.false_eq_true])

end

/-! ### Completion (R124-R127) -/

section
variable {st : ℕ} (hst : c.stage = .finished st) (hk : c.kind ≠ .mxv)
include hst hk

/-- The completion at a barrier object subtracts the command's bytes from it, and frees the slot (R127). -/
theorem exec_engineCompletion_barrier (hkind : compKind c.comp = 2) :
    exec (.engineCompletion core n) s = .next (setCmd (changeBarrier s (forwarded s core) (compLevel c.comp) (compObj c.comp)
      (subtractBytes (barrierAt s (forwarded s core) (compLevel c.comp) (compObj c.comp)) (completionBytes c st) c.wrote)) core n none) := by
  refine congrArg Host.Outcome.next ?_
  simp only [hc, hst, hkind, if_true]

/-- The completion by a message is inserted where its queue has room and nothing has come before it in its cycle, and frees the slot (R124,
R125, R199). -/
theorem exec_engineCompletion_message (hkind : compKind c.comp ≠ 2) (hroom : queueRoom (coreAt s (forwarded s core)) false = true)
    (hins : (coreAt s (forwarded s core)).inserted < s.now) (hcame : ∀ m ∈ (coreAt s (forwarded s core)).ni, s.now ≤ m.came) :
    exec (.engineCompletion core n) s = .next (setCmd (insertMessage s (forwarded s core) (completionMessage c st)) core n none) := by
  refine congrArg Host.Outcome.next ?_
  have hmay : (queueRoom (coreAt s (forwarded s core)) false && decide ((coreAt s (forwarded s core)).inserted < s.now) &&
      (coreAt s (forwarded s core)).ni.all fun m => decide (s.now ≤ m.came)) = true := by
    simpa [hroom, hins] using hcame
  simp only [hc, hst, hkind, hmay, if_false, if_true]

end

/-! ### A stopped command (R438) -/

section
variable {r k va : ℕ} (hst : c.stage = .stopped r k va)
include hst

/-- A stopped command that is told to go on runs, and stands again in the order of its engine (R438). -/
def resumed (s : State) (core n : ℕ) (c : Cmd) : State :=
  let s := keepCommand s core n { c with stage := .running }
  match c.kind with
  | .cpy => queueCopy s core n
  | .walk => queueWalk s core n
  | _ => s

theorem exec_engineResume_stopped : exec (.engineResume core n) s = .next (resumed s core n c) :=
  congrArg Host.Outcome.next (by simp only [resumeCommand, hc, hst]; rfl)

theorem exec_engineEnd_stopped : exec (.engineEnd core n) s = .next (endCommand s core n c 6 0) :=
  congrArg Host.Outcome.next (by simp only [stopEnds, hc, hst])

end
end

theorem cmdAt_resumed (s : State) (core n : ℕ) (c : Cmd) : cmdAt (resumed s core n c) core n = some { c with stage := .running } := by
  unfold resumed
  dsimp only
  split <;> exact cmdAt_keepCommand_same ..

theorem turns_resumed {s : State} {core n : ℕ} {c : Cmd} (hk : c.kind = .cpy) :
    (stackAt (resumed s core n c) (core / 64)).turns = (stackAt s (core / 64)).turns ++ [⟨core, n, none⟩] := by
  simp only [resumed, hk, queueCopy, stackAt_modStack, if_true]
  rfl

theorem walks_resumed {s : State} {core n : ℕ} {c : Cmd} (hk : c.kind = .walk) :
    (core, n) ∈ (stackAt (resumed s core n c) (core / 64)).walks := by
  simp only [resumed, hk, queueWalk, stackAt_modStack, if_true]
  split
  · next h => exact List.contains_iff_mem.mp h
  · exact List.mem_append_right _ (List.mem_singleton_self _)

theorem cmdAt_endCommand (s : State) (core n : ℕ) (c : Cmd) (st r : ℕ) :
    cmdAt (endCommand s core n c st r) core n = some { c with stage := .finished st, result := r % 2 ^ 56 } :=
  cmdAt_setCmd_same ..

/-! ### A dead quay slot (R118) -/

/-- The fault record of a thread of a dead quay slot. -/
def deadInfo (s : State) (row : ℕ) (t : ThreadRef) : FaultInfo :=
  ⟨some .qdead, 0, true, 0, row, false, false, (threadAt s t).pc.toNat⟩

/-- Both threads of a core's quay slot are frozen. -/
def quayFrozen (s : State) (core row : ℕ) : State :=
  [(⟨core, 7, 0⟩ : ThreadRef), ⟨core, 7, 1⟩].foldl
    (fun t x => modThread t x fun th => { th with froz := true, fault := deadInfo s row x }) s

/-- A dead quay slot whose threads both live freezes both and sends one packet, which names the first (R118, R429). -/
theorem exec_qdead_both {s : State} {core row : ℕ} (hd : deadRow s core = some row) (h0 : (threadAt s ⟨core, 7, 0⟩).run ≠ .free)
    (h1 : (threadAt s ⟨core, 7, 1⟩).run ≠ .free) :
    exec (.qdead core) s = .next (sendFault (quayFrozen s core row) ⟨core, 7, 0⟩ (deadInfo s row ⟨core, 7, 0⟩)) := by
  have hlive : (slotThreads ⟨core, 7, 0⟩).filter (fun t => (threadAt s t).run != .free) = [⟨core, 7, 0⟩, ⟨core, 7, 1⟩] := by
    simp [slotThreads, h0, h1]
  refine congrArg Host.Outcome.next ?_
  simp only [hd, hlive]
  rfl

theorem threadAt_quayFrozen_first (s : State) (core row : ℕ) : threadAt (quayFrozen s core row) ⟨core, 7, 0⟩ =
    { threadAt s ⟨core, 7, 0⟩ with froz := true, fault := deadInfo s row ⟨core, 7, 0⟩ } := by
  simp only [quayFrozen, List.foldl_cons, List.foldl_nil]
  rw [threadAt_modThread_other _ _ (.inr (show tid ⟨core, 7, 0⟩ ≠ tid ⟨core, 7, 1⟩ by simp [tid])), threadAt_modThread_same]

theorem froz_quayFrozen_second (s : State) (core row : ℕ) : (threadAt (quayFrozen s core row) ⟨core, 7, 1⟩).froz = true := by
  simp only [quayFrozen, List.foldl_cons, List.foldl_nil, threadAt_modThread_same]

theorem threadAt_sendFault (s : State) (t : ThreadRef) (f : FaultInfo) (x : ThreadRef) : threadAt (sendFault s t f) x = threadAt s x :=
  toSupervisor_threads ..

/-- Settles O49: each event of an engine does what its command's stage and its place in the engine's order say, and a dead quay slot
freezes both its threads. -/
theorem engineActs : Obligations.EngineActs := by
  unfold Obligations.EngineActs
  refine ⟨fun stack core n rest s c c' ht hc hrun hk hc' hrun' hpage hmoved => ?_,
    fun stack core n r rest s ht => ⟨fun hready => ?_, fun hbusy => ?_⟩,
    fun core n s c hc _ hw => exec_traversalHop_waits hc hw,
    fun core n s c hc hrun hk hw => ⟨fun st r hwant => exec_traversalHop_ends hc hrun hk hw hwant,
      fun a k hwant hlim => exec_traversalHop_limit hc hrun hk hw hwant hlim,
      fun a k s1 pa s2 ls hwant hlim hplace hd hread => exec_traversalHop_reads hc hrun hk hw hwant hlim hplace hd hread⟩,
    fun core n s c st hc hst hk => ⟨fun hkind => exec_engineCompletion_barrier hc hst hk hkind,
      fun hkind hroom hins hcame => exec_engineCompletion_message hc hst hk hkind hroom hins hcame⟩,
    fun core n s c r k va hc hst => ⟨?_, ?_⟩, fun core s row hd h0 h1 => ?_⟩
  · exact (exec_copyEngineTurn_command ht).trans
      (congrArg Host.Outcome.next (copyCommandTurn_goesOn hc hrun hk hc' hrun' hpage hmoved))
  · exact (exec_copyEngineTurn_row ht).trans (congrArg Host.Outcome.next (if_pos hready))
  · exact (exec_copyEngineTurn_row ht).trans (congrArg Host.Outcome.next (if_neg (Bool.eq_false_iff.mp hbusy)))
  · exact givesSome_of_exec (exec_engineResume_stopped hc hst) ⟨cmdAt_resumed .., turns_resumed, walks_resumed⟩
  · exact givesSome_of_exec (exec_engineEnd_stopped hc hst) (cmdAt_endCommand ..)
  · refine givesSome_of_exec (exec_qdead_both hd h0 h1) ?_
    simp only [threadAt_sendFault, threadAt_quayFrozen_first, froz_quayFrozen_second, deadInfo, and_self]

end Sys2Proof.Machine
end

section
/-! # Matrix steps and MXV entries

What the events MATRIX_STEP_START, MATRIX_STEP_END and MXV_ENTRY_RESERVE come to (R132, R380, R414, R418, R423). -/

namespace Sys2Proof.Machine
open Sys2Proof.Claims

/-! ### Steps of the queue -/

theorem id_of_stepAt {s : State} {core id : ℕ} {m : MStep} (h : stepAt s core id = some m) : m.id = id := by
  simpa using List.find?_some h

/-- A step after a change of its own fields that keeps its name. -/
theorem stepAt_modStep (s : State) (core id : ℕ) {f : MStep → MStep} (hf : ∀ m, (f m).id = m.id) :
    stepAt (modStep s core id f) core id = (stepAt s core id).map f := by
  simp only [stepAt, modStep, coreAt_modCore, if_true]
  induction (coreAt s core).mq with
  | nil => rfl
  | cons m l ih =>
    by_cases h : m.id = id
    · simp [h, hf]
    · simpa [h] using ih

@[simp] theorem stepAt_subPin (s : State) (core : ℕ) (p : ℕ × ℕ) (id : ℕ) : stepAt (subPin s core p) core id = stepAt s core id := by
  simp [stepAt, subPin, modBank]

/-- A step without its pins. -/
def unpinned (m : MStep) : MStep := { m with pins := [] }

/-- The pins of a step drop: it keeps its other fields (R89). -/
theorem stepAt_dropPins (s : State) (core : ℕ) (m : MStep) :
    stepAt (dropPins s core m) core m.id = (stepAt s core m.id).map unpinned := by
  have hpins : stepAt (m.pins.foldl (fun t p => subPin t core p) s) core m.id = stepAt s core m.id :=
    foldl_keeps (fun t => stepAt t core m.id) _ (fun t p => stepAt_subPin t core p m.id) m.pins s
  exact (stepAt_modStep (f := unpinned) _ core m.id fun _ => rfl).trans (congrArg (Option.map unpinned) hpins)

/-! ### The start of a step (R414, R418) -/

/-- A step as the reading of its operands leaves it, its pins still placed (R414). -/
def begunStep (s : State) (m : MStep) : MStep :=
  { m with
    started := true, begun := s.nextId, aVal := blockLines s m.aAddr 1536, bVal := blockLines s m.bAddr (16 * mmaRowB m.fa m.fb),
    sVal := rdBytes s.sram m.sAddr (stepScales m) }

section
variable {s : State} {core : ℕ} {m : MStep} (hroom : ((coreAt s core).mq.filter fun x => x.started).length < 2)
  (hfirst : (coreAt s core).mq.find? (mayStart s core) = some m)
include hroom hfirst

/-- A step that meets an uncorrectable line fails (R418). -/
theorem exec_matrixStepStart_poisoned
    (hbad : (blockPoison s m.aAddr 1536 || blockPoison s m.bAddr (16 * mmaRowB m.fa m.fb) ||
      (m.scl != 0 && blockPoison s m.sAddr (stepScales m))) = true) :
    exec (.matrixStepStart core) s = .next (failStep s core m 1) :=
  congrArg Host.Outcome.next (by simp only [Nat.not_le.mpr hroom, if_false, hfirst, hbad, if_true])

/-- A step whose lines are good reads them and drops its pins (R414). -/
theorem matrixStepStart_reads (hm : stepAt s core m.id = some m) (hA : blockPoison s m.aAddr 1536 = false)
    (hB : blockPoison s m.bAddr (16 * mmaRowB m.fa m.fb) = false) (hS : m.scl = 0 ∨ blockPoison s m.sAddr (stepScales m) = false) :
    GivesSome (.matrixStepStart core) s fun t => stepAt t core m.id = some (unpinned (begunStep s m)) := by
  have hS' : (m.scl != 0 && blockPoison s m.sAddr (stepScales m)) = false := by
    rcases hS with h | h <;> simp [h]
  let reads (x : MStep) : MStep := { begunStep s x with bVal := blockLines s x.bAddr (16 * mmaRowB m.fa m.fb) }
  let t := modStep (fresh s).2 core m.id reads
  have ht : stepAt t core m.id = some (begunStep s m) :=
    (stepAt_modStep (f := reads) _ core m.id fun _ => rfl).trans (congrArg (Option.map reads) hm)
  refine ⟨dropPins t core (begunStep s m), congrArg Host.Outcome.next ?_, ?_⟩
  · simp only [Nat.not_le.mpr hroom, if_false, hfirst, hA, hB, hS', Bool.or_self, Bool.false_eq_true]
    split
    · next m' hm' => rw [Option.some.inj (hm'.symm.trans ht)]; rfl
    · next hnone => cases hnone.symm.trans ht
  · exact (stepAt_dropPins t core (begunStep s m)).trans (congrArg (Option.map unpinned) ht)

end

/-! ### The end of a step (R414, R415) -/

/-- The step under computation is the started one that started before the others. -/
theorem computedStep_of_first {q : List MStep} {m : MStep} (hmem : m ∈ q) (hstarted : m.started = true)
    (hfirst : ∀ x ∈ q, x.started = true → x ≠ m → m.begun < x.begun) : computedStep q = some m := by
  have hle : ∀ x ∈ q, x.started = true → m.begun ≤ x.begun := fun x hx hs =>
    (eq_or_ne x m).elim (fun h => h ▸ le_rfl) fun h => (hfirst x hx hs h).le
  have hfound : (computedStep q).isSome = true :=
    List.find?_isSome.mpr ⟨m, hmem, by simpa [hstarted, or_iff_not_imp_left] using hle⟩
  obtain ⟨x, hx⟩ := Option.isSome_iff_exists.mp hfound
  have hxq := List.mem_of_find?_eq_some hx
  obtain ⟨hxs, hxle⟩ : x.started = true ∧ ∀ y ∈ q, y.started = false ∨ x.begun ≤ y.begun := by
    simpa using List.find?_some (l := q) hx
  have hxm : x.begun ≤ m.begun := (hxle m hmem).resolve_left (by simp [hstarted])
  rw [hx, Option.some.injEq]
  exact not_imp_comm.mp (hfirst x hxq hxs) (Nat.not_lt.mpr hxm)

/-! ### The next entry of an MXV (R132, R380, R423) -/

theorem ldq_setCmd (s : State) (core n : ℕ) (c : Option Cmd) (core' : ℕ) :
    (coreAt (setCmd s core n c) core').ldq = (coreAt s core').ldq := by
  unfold setCmd
  rw [coreAt_modCore]
  split
  · next h => rw [h]
  · rfl

/-- The entry that an MXV reserves joins the load queue of its thread's core, behind the others. -/
theorem ldq_mxvPlace (s : State) (core n : ℕ) (c : Cmd) (poison : Bool) :
    (coreAt (mxvPlace s core n c poison) c.t.core).ldq = (coreAt s c.t.core).ldq ++
      [⟨c.id, true, BitVec.ofNat 512 (packElems 32 (c.outs.map BitVec.toNat)), 0, poison || c.bad⟩] := by
  unfold mxvPlace
  dsimp only
  rw [ldq_setCmd]
  split <;> simp

section
variable {s : State} {core n : ℕ} {c : Cmd} (hslot : mxvSlot s core = some n) (hc : cmdAt s core n = some c)
include hslot hc

/-- An MXV whose table is still loading waits (R423). -/
theorem exec_mxvEntryReserve_waits (hrun : c.stage = .running) (hphase : c.phase = 1)
    (hbook : (coreAt s c.t.core).bookLoad.isSome = true) : exec (.mxvEntryReserve core) s = .next s :=
  congrArg Host.Outcome.next (by simp only [hslot, hc, hrun, hphase, hbook, and_self, if_true, ite_self])

section
variable (hroom : (coreAt s c.t.core).ldq.length < 16)
include hroom

/-- An MXV that runs fills its next entry with its rows. -/
theorem exec_mxvEntryReserve_running (hrun : c.stage = .running) (hbook : c.phase = 1 → (coreAt s c.t.core).bookLoad = none)
    {s' : State} {c' : Cmd} (hrows : mxvEntryRows core n (mxvRows c.d) 16 s
      (if c.phase = 1 then { c with phase := 0, book := (coreAt s c.t.core).book } else c) = .done s' c') :
    exec (.mxvEntryReserve core) s = .next (mxvPlace s' core n c' false) := by
  refine congrArg Host.Outcome.next ?_
  by_cases hphase : c.phase = 1
  · simp only [hphase, if_true, hrun] at hrows
    simp only [hslot, hc, Nat.not_le.mpr hroom, hrun, hphase, hbook hphase, Option.isSome_none, Bool.false_eq_true,
      and_false, if_false, if_true, hrows]
  · simp only [hphase, if_false] at hrows
    simp only [hslot, hc, Nat.not_le.mpr hroom, hrun, hphase, false_and, if_false, hrows]

/-- An MXV that was ended reserves a poisoned entry (R438). -/
theorem exec_mxvEntryReserve_finished {k : ℕ} (hend : c.stage = .finished k) :
    exec (.mxvEntryReserve core) s = .next (mxvPlace s core n { c with outs := [] } true) :=
  congrArg Host.Outcome.next (by simp only [hslot, hc, Nat.not_le.mpr hroom, hend, if_false])

end
end

/-- Settles O47: the step that may start first reads its lines or fails, the one that started first ends, and the core's MXV fills an
entry. -/
theorem matrixEngineActs : Obligations.MatrixEngineActs := by
  unfold Obligations.MatrixEngineActs
  refine ⟨fun core s m hroom hfirst hm hA hB hS => matrixStepStart_reads hroom hfirst hm hA hB hS,
    fun core s m hroom hfirst hbad => exec_matrixStepStart_poisoned hroom hfirst (by simp [hbad]),
    fun core s m hmem hstarted hfirst => ?_, fun core n s c s' c' hslot hc hroom hrun hbook hrows => ?_,
    fun core n s c hslot hc hrun hphase hbook => exec_mxvEntryReserve_waits hslot hc hrun hphase hbook,
    fun core n s c k hslot hc hroom hend => ?_⟩
  · exact congrArg Host.Outcome.next (by simp only [computedStep_of_first hmem hstarted hfirst])
  · exact givesSome_of_exec (exec_mxvEntryReserve_running hslot hc hroom hrun hbook hrows) (ldq_mxvPlace ..)
  · exact givesSome_of_exec (exec_mxvEntryReserve_finished hslot hc hroom hend) (ldq_mxvPlace ..)

end Sys2Proof.Machine
end

section
/-! # Accesses leave, or wait

What the event ACCEPTANCE_RETURN comes to (R123, R155, R162, R165, R294, R412, R432). -/

namespace Sys2Proof.Machine
open Sys2Proof.Claims

/-! ### An access that is under way -/

section
variable {id : ℕ} {s : State} {a : Access} (ha : accessAt s id = some a)
include ha

/-- The access port's access walks on its own (R432). -/
theorem exec_acceptanceReturn_port (hstage : a.stage = .coal) {k : ℕ} (hkind : a.kind = .port k) :
    exec (.acceptanceReturn id) s = .next (portTranslate s a) :=
  congrArg Host.Outcome.next (by simp only [ha, hstage, hkind])

section
variable (hstage : a.stage = .checked)
include hstage

/-- An access that something holds back waits (R98, R160-R163, R180). -/
theorem exec_acceptanceReturn_held (hheld : heldBack s a = true ∨ splitsStore s a = true) :
    exec (.acceptanceReturn id) s = .next (acceptWaiting s a) :=
  congrArg Host.Outcome.next (by simp only [ha, hstage, Bool.or_eq_true, hheld, if_true])

/-- A release whose conditions do not hold yet waits, with later deferred lines written back (R142, R162). -/
theorem exec_acceptanceReturn_unreleased (hheld : heldBack s a = false) (hsplit : splitsStore s a = false) {k : ℕ}
    (hscope : releaseScope a = some k) (hready : releaseReady s a k = false) :
    exec (.acceptanceReturn id) s = .next (flushLater s a k) :=
  congrArg Host.Outcome.next (by
    simp only [ha, hstage, hheld, hsplit, Bool.or_self, Bool.false_eq_true, if_false, hscope, hready, Bool.not_false, if_true])

/-- An access that nothing holds back leaves, once its release, where it is one, is done (R123, R155). -/
theorem exec_acceptanceReturn_leaves {s0 : State} (hmay : MayLeave s a s0) :
    exec (.acceptanceReturn id) s = .next (leave s0 a) := by
  obtain ⟨hheld, hsplit, ⟨hscope, rfl⟩ | ⟨k, hscope, hready, rfl⟩⟩ := hmay
  all_goals
    refine congrArg Host.Outcome.next ?_
    simp only [ha, hstage, hheld, hsplit, Bool.or_self, Bool.false_eq_true, if_false, hscope]
  simp only [hready, Bool.not_true, Bool.false_eq_true, if_false]

end
end

/-! ### Where an access goes -/

/-- An access of memory leaves for what its address names. -/
theorem leave_byWindow {a : Access} (s : State) (hrange : ∀ f l n, a.kind ≠ .range f l n) (hfence : ∀ k, a.kind ≠ .fence k) :
    leave s a = match window a.pa with
      | .bank w => toBank s a w
      | .control o => toControl s a o
      | .peer => toPeer s a
      | .iw _ | .blw _ => toDram s a
      | .hole => failAccess s a.id (Fail.ofCause 6 a.va) := by
  unfold leave
  split
  · next h => exact absurd h (hfence _)
  · next h => exact absurd h (hrange _ _ _)
  · rfl

theorem splitsStore_of_release {s : State} {a : Access} {k : ℕ} (h : releaseScope a = some k) : splitsStore s a = false := by
  have hkind : isStore a.kind = false := by
    unfold releaseScope at h
    split at h <;> simp_all [isStore]
  simp [splitsStore, hkind]

/-- A store or a queue access of DRAM that is held back has passed its checks (R294). -/
theorem acceptWaiting_ofDram {s : State} {a : Access} (hkind : a.kind = .store ∨ a.kind = .qst ∨ a.kind = .qld)
    (hdram : inDram a.pa) : acceptWaiting s a = acceptOut s a.t a.id none none := by
  obtain ⟨w, hw | hw⟩ := hdram <;> rcases hkind with hk | hk | hk <;> simp only [acceptWaiting, hk, hw, acceptEarly]

/-- Accesses of the other kinds return no acceptance while they are held back. -/
theorem acceptWaiting_ofOthers {s : State} {a : Access} (hrange : ∀ f l n, a.kind ≠ .range f l n) (hstore : a.kind ≠ .store)
    (hqst : a.kind ≠ .qst) (hqld : a.kind ≠ .qld) (hbook : a.kind ≠ .bookLoad) (hload : ∀ n, a.kind ≠ .tileLoad n)
    (htile : storesTile a.kind = false) : acceptWaiting s a = s := by
  cases hk : a.kind with
  | range f l n => exact absurd hk (hrange f l n)
  | store => exact absurd hk hstore
  | qst => exact absurd hk hqst
  | qld => exact absurd hk hqld
  | bookLoad => exact absurd hk hbook
  | tileLoad n => exact absurd hk (hload n)
  | tileStore n => simp [hk, storesTile] at htile
  | _ => simp only [acceptWaiting, hk]

/-- Settles O41: an access, a command or a step by the name of the event leaves, waits, or goes on as its stage and kind say. -/
theorem acceptanceReturnPerformsTheAccess : Obligations.AcceptanceReturnPerformsTheAccess := by
  unfold Obligations.AcceptanceReturnPerformsTheAccess
  refine ⟨fun id s a s0 ha hstage hmay hrange hfence => ?_, fun id s a k s0 ha hstage hkind hmay => ?_,
    fun id s a k ha hstage hheld hscope hready =>
      exec_acceptanceReturn_unreleased ha hstage hheld (splitsStore_of_release hscope) hscope hready,
    fun id s a ha hstage hheld hrange htile => ⟨fun hkind hdram => ?_, fun hstore hqst hqld hbook hload => ?_⟩,
    fun id s a f l n ha hstage hheld hkind hf b hb => ?_, fun id s a k ha hstage hkind => exec_acceptanceReturn_port ha hstage hkind,
    fun id s c n ha hcmd => ?_, fun id s c m ha hcmd hstep hm => ⟨fun hopen => ?_, fun hopen => ?_⟩⟩
  · have hleaves : exec (.acceptanceReturn id) s = .next _ :=
      (exec_acceptanceReturn_leaves ha hstage hmay).trans (congrArg Host.Outcome.next (leave_byWindow s0 hrange hfence))
    refine ⟨fun w hw => ?_, fun o hw => ?_, fun hw => ?_, ?_, fun hw => ?_⟩
    · simpa only [Gives, hw] using hleaves
    · simpa only [Gives, hw] using hleaves
    · simpa only [Gives, hw] using hleaves
    · rintro ⟨w, hw | hw⟩ <;> simpa only [Gives, hw] using hleaves
    · simpa only [Gives, hw] using hleaves
  · exact (exec_acceptanceReturn_leaves ha hstage hmay).trans (by simp only [leave, hkind, id_of_accessAt ha])
  · exact (exec_acceptanceReturn_held ha hstage hheld).trans
      (congrArg Host.Outcome.next (id_of_accessAt ha ▸ acceptWaiting_ofDram hkind hdram))
  · exact (exec_acceptanceReturn_held ha hstage hheld).trans
      (congrArg Host.Outcome.next (acceptWaiting_ofOthers hrange hstore hqst hqld hbook hload htile))
  · have hmay : MayLeave s a s := ⟨hheld, by simp [splitsStore, hkind, isStore], .inl ⟨by simp [releaseScope, hkind], rfl⟩⟩
    exact (exec_acceptanceReturn_leaves ha hstage hmay).trans
      (by simp only [leave, hkind, hf, if_false, id_of_accessAt ha, hb])
  · exact congrArg Host.Outcome.next (by simp only [ha, hcmd])
  · exact congrArg Host.Outcome.next (by simp only [ha, hcmd, hstep, stepLeaves, hm, hopen, Bool.false_eq_true, if_false])
  · exact congrArg Host.Outcome.next (by simp only [ha, hcmd, hstep, stepLeaves, hm, hopen, if_true])

end Sys2Proof.Machine
end

section
/-! # Replies, landings and acknowledgements

What the events FILL_REPLY, DEFERRED_RESULT_LAND, QLD_DATA_ARRIVE, TILE_LOAD_DONE, CBLD_DONE, STORE_ACK and CLEARANCE come to (R114,
R136, R160, R164, R290, R422, R423, R446). -/

namespace Sys2Proof.Machine
open Sys2Proof.Claims

/-! ### Parts that an event changes -/

@[simp] theorem tileAt_modTile_same (s : State) (c n : ℕ) (f : Tile → Tile) : tileAt (modTile s c n f) c n = f (tileAt s c n) := by
  simp [tileAt, modTile]

@[simp] theorem ldq_acceptOut (s : State) (t : ThreadRef) (id : ℕ) (b : Option (BitVec 3)) (f : Option Fail) (c : ℕ) :
    (coreAt (acceptOut s t id b f) c).ldq = (coreAt s c).ldq :=
  coreAt_modThread_ldq ..

@[simp] theorem sack_acceptOut (s : State) (t : ThreadRef) (id : ℕ) (b : Option (BitVec 3)) (f : Option Fail) :
    (threadAt (acceptOut s t id b f) t).sack = (threadAt s t).sack := by
  simp [acceptOut]

section
variable {id : ℕ} {s : State} {a : Access} (ha : accessAt s id = some a)
include ha

/-! ### Replies (R136, R145, R160) -/

section
variable {r : Reply} (hstage : a.stage = .reply r)
include hstage

/-- A reply waits for what its home sent the die before it (R148). -/
theorem exec_fillReply_waits (hd : isDram a.pa = true)
    (hahead : messageAhead s (dieOf a.t.core) (homeLine a.pa / 2 ^ 24) r.seq = true) : exec (.fillReply id) s = .next s :=
  congrArg Host.Outcome.next (by simp only [ha, hstage, hd, hahead, Bool.and_self, if_true])

/-- A reply that nothing is ahead of is taken. -/
theorem exec_fillReply_taken (hahead : messageAhead s (dieOf a.t.core) (homeLine a.pa / 2 ^ 24) r.seq = false) :
    exec (.fillReply id) s = .next (takeReply (stageAccess s id .checked) { a with stage := .checked } r) :=
  congrArg Host.Outcome.next (by simp only [ha, hstage, hahead, Bool.and_false, Bool.false_eq_true, if_false])

end

/-! ### Landings (R114, R290, R422, R423) -/

section
variable (hstage : a.stage = .landing)
include hstage

theorem exec_deferredResultLand_load (hkind : a.kind = .load) (hberth : forBerth a = false) :
    exec (.deferredResultLand id) s = .next (landResult s a) := by
  have hlands : mayLand s a = true := by simp [mayLand, hkind]
  exact congrArg Host.Outcome.next (by simp only [ha, hstage, hkind, hberth, hlands, true_or, Bool.not_false, and_self, if_true])

theorem exec_qldDataArrive (hkind : a.kind = .qld) : exec (.qldDataArrive id) s =
    .next (dropAccess (modCore (acceptOut s a.t id none none) a.t.core fun k =>
      { k with ldq := k.ldq.map fun e => if e.id == id then fillEntry a e else e }) id) :=
  congrArg Host.Outcome.next (by simp only [ha, hstage, hkind, and_self, if_true])

theorem exec_tileLoadDone {n : ℕ} (hkind : a.kind = .tileLoad n) : exec (.tileLoadDone id) s =
    .next (dropAccess (modTile s a.t.core n fun x =>
      { x with data := tileData ((a.lines.flatMap fun l => elems 32 16 l.toNat).map (BitVec.ofNat 32)), status := 0,
               pend := x.pend - 1 }) id) :=
  congrArg Host.Outcome.next (by simp only [ha, hstage, hkind])

/-- The table's bytes in their one form: empty for all zero. -/
def bookData (l : List Byte) : List Byte := if l.all fun x => x == 0 then [] else l

theorem exec_cbldDone (hkind : a.kind = .bookLoad) : exec (.cbldDone id) s =
    .next (dropAccess (modCore s a.t.core fun k =>
      { k with book := bookData ((a.lines.flatMap fun l => bytesOf 64 l.toNat).take 768), cbtV := true, bookLoad := none }) id) :=
  congrArg Host.Outcome.next (by simp only [ha, hstage, hkind, bookData])

end

/-! ### Acknowledgements (R136, R164) -/

theorem exec_storeAck (hstage : a.stage = .acked) (hkind : a.kind = .store) (hwaits : a.waits = []) (hsackd : a.sackd = true) :
    exec (.storeAck id) s = .next (dropAccess (acceptOut (ackStore s a) a.t id none none) id) :=
  congrArg Host.Outcome.next (by
    simp only [ha, hstage, hkind, hwaits, hsackd, Bool.not_false, List.all_nil, and_self, if_true])

end

/-- A load's good value is its result's, and the access leaves (R290). -/
theorem landResult_load {s : State} {a : Access} {o : Out} (hkind : a.kind = .load) (hsackd : a.sackd = false)
    (hgood : a.poison = false) (ho : ((threadAt s a.t).outs.find? fun x => x.id == a.id) = some o) (hld : o.kind = .ld) :
    landResult s a = dropAccess (landOut s a.t a.id a.value a.bst a.flags none) a.id := by
  simp [landResult, landedValue, hkind, hsackd, hgood, ho, hld]

theorem landResult_poisoned {s : State} {a : Access} (hbad : a.poison = true) : landResult s a = failAccess s a.id (poisonFail a) := by
  simp [landResult, hbad]

theorem getD_bookData (l : List Byte) (i : ℕ) : (bookData l).getD i 0 = l.getD i 0 := by
  unfold bookData
  split
  · next h =>
    have hzero : ∀ x ∈ l, x = 0 := by simpa using h
    rw [List.getD_nil, List.getD_eq_getElem?_getD]
    cases hi : l[i]? with
    | none => rfl
    | some x => exact (hzero x (List.mem_of_getElem? hi)).symm
  · rfl

/-- Settles O42: a reply is taken by its access's kind and policy, a landing fills what its kind names, and an acknowledgement or a
clearance ends what waits for it. -/
theorem repliesAndAcknowledgements : Obligations.RepliesAndAcknowledgements := by
  unfold Obligations.RepliesAndAcknowledgements
  refine ⟨fun id s a r ha hstage hd hahead => exec_fillReply_waits ha hstage hd hahead, fun id s a r ha hstage hahead => ?_,
    fun id s a ha hstage hkind hberth hsackd => ⟨fun hbad => ?_, fun hgood o ho hld => ?_⟩, fun id s a ha hstage hkind hfmt => ?_,
    fun id s a n ha hstage hkind => ?_, fun id s a ha hstage hkind => ?_, fun id s a ha hstage hkind hwaits hsackd hrid => ?_,
    fun id s c hc => ⟨fun hwi => ?_, fun a hwi ha => ?_⟩⟩
  · have htaken := exec_fillReply_taken ha hstage hahead
    obtain rfl := id_of_accessAt ha
    refine ⟨fun hkind => ⟨fun hpol => ?_, fun hpol => ?_, fun hpol hlease => ?_, fun hpol hlease => ?_, fun hpol => ?_⟩,
      fun hkind => ?_, fun hkind => ?_⟩
    · simpa only [Gives, takeReply, hkind, hpol] using htaken
    · simpa only [Gives, takeReply, hkind, hpol] using htaken
    · simpa only [Gives, takeReply, hkind, hpol, stageAccess_coreAt, hlease, if_false] using htaken
    · simpa only [Gives, takeReply, hkind, hpol, stageAccess_coreAt, hlease, if_true] using htaken
    · simpa only [Gives, takeReply, hkind, hpol] using htaken
    · simpa only [Gives, takeReply, hkind, accMask, accData] using htaken
    · simpa only [Gives, takeReply, hkind] using htaken
  · exact id_of_accessAt ha ▸ (exec_deferredResultLand_load ha hstage hkind hberth).trans
      (congrArg Host.Outcome.next (landResult_poisoned hbad))
  · obtain rfl := id_of_accessAt ha
    refine givesSome_of_exec ((exec_deferredResultLand_load ha hstage hkind hberth).trans
      (congrArg Host.Outcome.next (landResult_load hkind hsackd hgood ho hld))) ⟨accessAt_dropAccess .., ?_⟩
    rw [dropAccess_threadAt, threadAt_landOut]
  · refine givesSome_of_exec (exec_qldDataArrive ha hstage hkind) ⟨accessAt_dropAccess .., ?_⟩
    simp [fillEntry, hfmt]
  · refine givesSome_of_exec (exec_tileLoadDone ha hstage hkind) ⟨accessAt_dropAccess .., ?_⟩
    simp
  · refine givesSome_of_exec (exec_cbldDone ha hstage hkind) ⟨accessAt_dropAccess .., ?_⟩
    simp only [dropAccess_coreAt, coreAt_modCore, if_true, true_and]
    exact fun i _ => getD_bookData _ i
  · refine givesSome_of_exec (exec_storeAck ha hstage hkind hwaits hsackd) ⟨accessAt_dropAccess .., ?_⟩
    simp [ackStore, hrid, subSack]
  · exact congrArg Host.Outcome.next (by simp only [hc, hwi, Bool.false_eq_true, if_false])
  · have hstill : accessAt { s with clears := s.clears.erase c } id = some a := ha
    exact congrArg Host.Outcome.next (by simp only [hc, hwi, if_true, wiPerformed, hstill])

end Sys2Proof.Machine
end

section
/-! # What an issued unit comes to, by its body

A unit that issues completes, waits or faults as its body says; one whose body is a release, or ends with an acquire fence, has the
clauses that `AfterRelease` and `Fences` name (R142, R162, R163). -/

namespace Sys2Proof.Machine
open Sys2Proof.Claims

/-! ### Releases and acquire fences in a body -/

theorem withRelease_released {s : State} {scope : ℕ} (k : State → Res) (h : released (begun s scope) s.cur scope = true) :
    withRelease s scope k = k (wbsDone (begun s scope) scope) :=
  if_pos ((congrArg (fun t => released (begun s scope) t scope) (beginRelease_cur ..)).trans h)

theorem withRelease_unreleased {s : State} {scope : ℕ} (k : State → Res) (h : released (begun s scope) s.cur scope = false) :
    withRelease s scope k = .park (.release scope) (begun s scope) :=
  if_neg (Bool.eq_false_iff.mp ((congrArg (fun t => released (begun s scope) t scope) (beginRelease_cur ..)).trans h))

/-- The reads before a name are back, as an acquire fence asks (R163). -/
theorem readsReturned_iff (s : State) : readsReturned s s.cur s.nextId = true ↔ ReadsBack s := by
  unfold readsReturned ReadsBack stepsRead
  rw [Bool.and_eq_true, List.all_eq_true, List.all_eq_true]
  refine and_congr (forall₂_congr fun a _ => ?_)
    (Iff.trans (b := ∀ m ∈ (myCore s).mq, s.cur.slot < 7 → m.rid = (me s).rid → m.id < s.nextId → m.want = [])
      (forall₂_congr fun m _ => ?_) ⟨fun h hdeck m hm => h m hm hdeck, fun h m hm hdeck => h hdeck m hm⟩)
  · cases a.stage <;> simp [imp_iff_not_or, or_assoc]
  · simp [isDeck, imp_iff_not_or, or_assoc, me]

/-! ### An issued unit -/

section
variable {i : Instr} {s : State} {body : State → Res} (h : Issues i s) (hexec : exec i s = .next (unit i body s))
include h hexec

theorem exec_settles {r : Res} (hbody : body s = r) : exec i s = .next (settle i s r) :=
  hexec.trans (congrArg Host.Outcome.next ((unit_of_issues h body).trans (congrArg (settle i s) hbody)))

theorem exec_done {s' : State} (hbody : body s = .done s') : exec i s = .next (done i s s') := exec_settles h hexec hbody

theorem exec_waiting {s' : State} {w : Park} (hbody : body s = .park w s') : exec i s = .next (waiting i s s' w) :=
  exec_settles h hexec hbody

theorem exec_fault {c : FaultClass} {n d : ℕ} {a : Option ℕ} (hbody : body s = .fault c n d a) :
    exec i s = .next (preciseFault s c n d a) :=
  exec_settles h hexec hbody

/-- A unit that is a release acts once the release's conditions hold, and waits until then (R142, R162). -/
theorem afterRelease_of_body {scope : ℕ} {k : State → Res} {P : State → Prop} (hbody : body s = withRelease s scope k)
    (hacts : ∀ t, t = wbsDone (begun s scope) scope → exec i s = .next (settle i s (k t)) → P t) : AfterRelease i s scope P :=
  ⟨fun hrel => hacts _ rfl (exec_settles h hexec (hbody.trans (withRelease_released k hrel))),
    fun hrel => exec_waiting h hexec (hbody.trans (withRelease_unreleased k hrel))⟩

/-- A unit that ends with an acquire fence is complete once the reads are back, and waits until then (R163). -/
theorem fences_of_body {t : State} {level : ℕ} (hcur : t.cur = s.cur) (hbody : body s = phaseFence t level) : Fences i s t level := by
  refine ⟨fun hback => exec_done h hexec ?_, fun hback => exec_waiting h hexec ?_⟩
  · rw [hbody, phaseFence, if_pos ((readsReturned_iff t).mpr hback), hcur]
  · rw [hbody, phaseFence, if_neg (mt (readsReturned_iff t).mp hback)]

end

end Sys2Proof.Machine
end

section
/-! # Messages and mailboxes

What SEND, RECV, WAITM, MBPUT and MBGET come to (R119, R200, R357-R359). -/

namespace Sys2Proof.Machine
open Sys2Proof.Claims

/-! ### Fields of a destination word -/

theorem field_eq_div {w hi lo n : ℕ} (hn : hi + 1 - lo = n) (hw : w < 2 ^ (lo + n)) : field w hi lo = w / 2 ^ lo := by
  rw [field, hn, Nat.mod_eq_of_lt]
  exact Nat.div_lt_of_lt_mul (by rwa [← pow_add])

/-- The bits of a word above a position are zero if and only if the word lies below it. -/
theorem field_top_ne_zero_iff (w : Word) (lo : ℕ) (hlo : lo ≤ 63) : field w.toNat 63 lo ≠ 0 ↔ 2 ^ lo ≤ w.toNat := by
  have hw : w.toNat < 2 ^ (lo + (64 - lo)) := by
    rw [Nat.add_sub_cancel' (by omega)]
    exact w.isLt
  rw [field_eq_div rfl hw, Nat.div_ne_zero_iff]
  simp

/-! ### An act that an open fence holds back (R162) -/

theorem pastFences_open {s : State} (k : State → Res) (h : fenceOpen s s.cur s.nextId = true) :
    pastFences s k = .park .fences s := if_pos h

theorem pastFences_past {s : State} (k : State → Res) (h : fenceOpen s s.cur s.nextId = false) : pastFences s k = k s :=
  if_neg (Bool.eq_false_iff.mp h)

/-! ### Messages (R200, R357, R358) -/

theorem hasMessage_iff (s : State) : hasMessage s = true ↔ ∃ x ∈ (myCore s).msgs, x.tag = (me s).rid := by
  simp [hasMessage]

theorem messageInstructions : MessageInstructions := by
  refine ⟨fun m d a b md s h => ?_, fun m d s h => ?_, fun m s h => ?_⟩
  · refine ⟨fun v hprog => exec_done h rfl (by simp only [hprog]; rfl), fun n hprog => exec_waiting h rfl (by simp only [hprog]),
      fun hprog hdst => exec_fault h rfl ?_, fun hprog hdst hopen => exec_waiting h rfl ?_,
      fun hprog hdst hpast => exec_waiting h rfl ?_⟩
    · simp only [hprog]
      exact if_pos ((field_top_ne_zero_iff _ 42 (by omega)).mpr hdst)
    · simp only [hprog]
      exact (if_neg (mt (field_top_ne_zero_iff _ 42 (by omega)).mp (Nat.not_le.mpr hdst))).trans (pastFences_open _ hopen)
    · simp only [hprog]
      refine (if_neg (mt (field_top_ne_zero_iff _ 42 (by omega)).mp (Nat.not_le.mpr hdst))).trans ((pastFences_past _ hpast).trans ?_)
      rw [field_eq_div (n := 10) rfl hdst]
      rfl
  · exact ⟨fun hopen => exec_waiting h rfl (pastFences_open _ hopen),
      fun hpast hnone => exec_done h rfl ((pastFences_past _ hpast).trans (by simp only [hnone])),
      fun x hpast hsome => exec_done h rfl ((pastFences_past _ hpast).trans (by simp only [hsome, modCore_cur]))⟩
  · refine ⟨fun hmsg => exec_done h rfl (if_pos ((hasMessage_iff s).mpr hmsg)),
      fun hnone => exec_waiting h rfl (if_neg fun hmsg => ?_)⟩
    obtain ⟨x, hx, htag⟩ := (hasMessage_iff s).mp hmsg
    exact hnone x hx htag

/-! ### Mailboxes (R119, R359) -/

theorem mailTurn_of_none_waits {s : State} {t : ThreadRef} (h : (coreAt s t.core).mwait = []) (n : ℕ) (put : Bool) :
    mailTurn s t n put = true ↔ (put = true ↔ n ∉ (coreAt s t.core).mfull) := by
  cases put <;> simp [mailTurn, mailFree, mailWaiters, h]

theorem mailboxInstructions : MailboxInstructions := by
  refine ⟨fun m d a b md s h => ?_, fun m d a b md s h => ?_, fun s t n put hwait => mailTurn_of_none_waits hwait n put⟩
  · refine ⟨fun hopen => exec_waiting h rfl (pastFences_open _ (by simpa using hopen)),
      fun hpast hturn => exec_done h rfl ((pastFences_past _ hpast).trans ?_),
      fun hpast hturn htry => exec_done h rfl ((pastFences_past _ hpast).trans ?_),
      fun hpast hturn htry => exec_waiting h rfl ((pastFences_past _ hpast).trans ?_)⟩
    · exact if_pos hturn
    · exact (if_neg (by simp [hturn])).trans (if_pos htry)
    · exact (if_neg (by simp [hturn])).trans (if_neg (by simp [htry]))
  · refine ⟨fun hopen => exec_waiting h rfl (pastFences_open _ (by simpa using hopen)),
      fun hpast hturn => exec_done h rfl ((pastFences_past _ hpast).trans ?_),
      fun hpast hturn htry => exec_done h rfl ((pastFences_past _ hpast).trans ?_),
      fun hpast hturn htry => exec_waiting h rfl ((pastFences_past _ hpast).trans ?_)⟩
    · exact if_pos hturn
    · exact (if_neg (by simp [hturn])).trans (if_pos htry)
    · exact (if_neg (by simp [hturn])).trans (if_neg (by simp [htry]))

end Sys2Proof.Machine
end

section
/-! # Changes of one core that join

Two writes of one key of a table are the second, and writes of two keys commute, for any table, where the values written are not the
default. So the changes that a unit makes to its thread join into one, past a change of another core. -/

namespace Sys2Proof.Machine

/-! ### Tables -/

section
variable {α : Type}

theorem aput_aput_same (l : Assoc α) (k : ℕ) (v w : α) : aput (aput l k v) k w = aput l k w := by
  induction l with
  | nil => simp [aput]
  | cons e r ih =>
    obtain ⟨j, u⟩ := e
    rcases lt_trichotomy k j with h | rfl | h
    · simp [aput, h]
    · simp [aput]
    · simp [aput, Nat.not_lt.mpr h.le, h.ne', ih]

theorem adel_aput_same (l : Assoc α) (k : ℕ) (v : α) : adel (aput l k v) k = adel l k := by
  induction l with
  | nil => simp [aput, adel]
  | cons e r ih =>
    obtain ⟨j, u⟩ := e
    rcases lt_trichotomy k j with h | rfl | h
    · simp [aput, adel, h]
    · simp [aput, adel]
    · simp [aput, adel, Nat.not_lt.mpr h.le, h.ne', ih]

theorem aput_comm (l : Assoc α) {k k' : ℕ} (h : k < k') (v v' : α) : aput (aput l k v) k' v' = aput (aput l k' v') k v := by
  induction l with
  | nil => simp [aput, h, Nat.not_lt.mpr h.le, h.ne']
  | cons e r ih =>
    obtain ⟨j, u⟩ := e
    rcases lt_trichotomy k' j with h' | rfl | h'
    · simp [aput, h, h', h.trans h', Nat.not_lt.mpr h.le, h.ne']
    · simp [aput, h, Nat.not_lt.mpr h.le, h.ne']
    · rcases lt_trichotomy k j with hk | rfl | hk
      · simp [aput, hk, Nat.not_lt.mpr h'.le, h'.ne', Nat.not_lt.mpr h.le, h.ne']
      · simp [aput, Nat.not_lt.mpr h.le, h.ne']
      · simp [aput, Nat.not_lt.mpr h'.le, h'.ne', Nat.not_lt.mpr hk.le, hk.ne', ih]

theorem countP_aput (l : Assoc α) (k : ℕ) (v : α) {p : ℕ × α → Bool} (hp : ∀ w, p (k, w) = false) :
    (aput l k v).countP p = l.countP p := by
  induction l with
  | nil => simp [aput, hp]
  | cons e r ih =>
    obtain ⟨j, u⟩ := e
    rcases lt_trichotomy k j with h | rfl | h
    · simp [aput, h, hp]
    · simp [aput, hp]
    · simp [aput, Nat.not_lt.mpr h.le, h.ne', List.countP_cons, ih]

theorem countP_adel (l : Assoc α) (k : ℕ) {p : ℕ × α → Bool} (hp : ∀ w, p (k, w) = false) : (adel l k).countP p = l.countP p := by
  induction l with
  | nil => rfl
  | cons e r ih =>
    obtain ⟨j, u⟩ := e
    by_cases h : k = j
    · subst h; simp [adel, hp, ih]
    · simp [adel, h, List.countP_cons, ih]

variable [DecidableEq α] {d : α}

theorem aset_aset_same (l : Assoc α) (k : ℕ) {v : α} (w : α) (hv : v ≠ d) : aset d (aset d l k v) k w = aset d l k w := by
  unfold aset
  rw [if_neg hv]
  split
  · exact adel_aput_same l k v
  · exact aput_aput_same l k v w

theorem aset_comm (l : Assoc α) {k k' : ℕ} (h : k ≠ k') {v v' : α} (hv : v ≠ d) (hv' : v' ≠ d) :
    aset d (aset d l k v) k' v' = aset d (aset d l k' v') k v := by
  simp only [aset, hv, hv', if_false]
  rcases h.lt_or_gt with h | h
  · exact aput_comm l h v v'
  · exact (aput_comm l h v' v).symm

/-- A write of a key leaves what is counted among the others. -/
theorem countP_aset (l : Assoc α) (k : ℕ) (v : α) {p : ℕ × α → Bool} (hp : ∀ w, p (k, w) = false) :
    (aset d l k v).countP p = l.countP p := by
  unfold aset
  split
  · exact countP_adel l k hp
  · exact countP_aput l k v hp

end

/-! ### Cores and threads -/

theorem modCore_modCore_same (s : State) (c : ℕ) {f : Core → Core} (g : Core → Core) (hf : f (coreAt s c) ≠ Core.reset) :
    modCore (modCore s c f) c g = modCore s c (g ∘ f) := by
  unfold modCore
  rw [coreAt_setCore, if_pos rfl]
  simp only [setCore, aset_aset_same _ _ _ hf, Function.comp_apply]

theorem modCore_comm (s : State) {c c' : ℕ} (h : c ≠ c') {f g : Core → Core} (hf : f (coreAt s c) ≠ Core.reset)
    (hg : g (coreAt s c') ≠ Core.reset) : modCore (modCore s c f) c' g = modCore (modCore s c' g) c f := by
  unfold modCore
  rw [coreAt_setCore, coreAt_setCore, if_neg h, if_neg h.symm]
  simp only [setCore, aset_comm _ h hf hg]

/-- A core after a change of one of its threads. -/
def threadChanged (t : ThreadRef) (f : Thread → Thread) (k : Core) : Core :=
  { k with threads := aset Thread.reset k.threads (tid t) (f (aget Thread.reset k.threads (tid t))) }

theorem modThread_eq_modCore (s : State) (t : ThreadRef) (f : Thread → Thread) :
    modThread s t f = modCore s t.core (threadChanged t f) := rfl

/-- A core with a thread that is in a slot is not as at reset. -/
theorem threadChanged_ne_reset {t : ThreadRef} {f : Thread → Thread} {k : Core}
    (h : f (aget Thread.reset k.threads (tid t)) ≠ Thread.reset) : threadChanged t f k ≠ Core.reset := by
  intro hk
  have hread : aget Thread.reset (threadChanged t f k).threads (tid t) = Thread.reset := by rw [hk]; rfl
  exact h ((aget_aset_same ..).symm.trans hread)

theorem threadChanged_comp (t : ThreadRef) {f : Thread → Thread} (g : Thread → Thread) {k : Core}
    (h : f (aget Thread.reset k.threads (tid t)) ≠ Thread.reset) :
    threadChanged t g (threadChanged t f k) = threadChanged t (g ∘ f) k := by
  simp only [threadChanged, aget_aset_same, aset_aset_same _ _ _ h, Function.comp_apply]

theorem modCore_congr {s : State} {c : ℕ} {f g : Core → Core} (h : f (coreAt s c) = g (coreAt s c)) :
    modCore s c f = modCore s c g := by
  unfold modCore; rw [h]

/-- Two changes of a thread in a slot join into one. -/
theorem modThread_modThread_same (s : State) (t : ThreadRef) {f : Thread → Thread} (g : Thread → Thread)
    (hf : f (threadAt s t) ≠ Thread.reset) : modThread (modThread s t f) t g = modThread s t (g ∘ f) := by
  rw [modThread_eq_modCore, modThread_eq_modCore, modThread_eq_modCore, modCore_modCore_same _ _ _ (threadChanged_ne_reset hf)]
  exact modCore_congr (threadChanged_comp t g hf)

/-- Two changes of the current thread, which is in a slot, join into one. -/
theorem modMe_modMe (s : State) {f : Thread → Thread} (g : Thread → Thread) (hf : f (me s) ≠ Thread.reset) :
    modMe (modMe s f) g = modMe s (g ∘ f) := modThread_modThread_same s s.cur g hf

/-- A change of the current thread, and one of another core that leaves it other than at reset, come to the same in either order. -/
theorem modMe_modCore_comm (s : State) {c : ℕ} (hc : c ≠ s.cur.core) {f : Thread → Thread} {g : Core → Core}
    (hf : f (me s) ≠ Thread.reset) (hg : g (coreAt s c) ≠ Core.reset) :
    modMe (modCore s c g) f = modCore (modMe s f) c g :=
  modCore_comm s hc hg (threadChanged_ne_reset hf)

end Sys2Proof.Machine
end

section
/-! # Chains

What CHAIN.set, CHAIN.rel and CHAIN.acq come to (R196, R197, R360). -/

namespace Sys2Proof.Machine
open Sys2Proof.Claims

/-! ### CHAIN.set -/

theorem bit_toNat (v : Word) (k : ℕ) : bit v.toNat k = v.getLsbD k := by
  simp [bit, BitVec.getLsbD, Nat.testBit_eq_decide_div_mod_eq, beq_eq_decide]

/-! ### The room downstream (R197) -/

theorem room_of_mayPush {s : State} {t : ThreadRef} (h : mayPush s t = true) : (coreAt s (t.core + 1)).chain.length < 8 := by
  simp only [mayPush, Bool.or_eq_true, Bool.and_eq_true, decide_eq_true_eq] at h
  omega

theorem tid_ne_of_lower {t : ThreadRef} {x : ℕ} (h : x < min t.slot 7) : tid ⟨t.core, x, 0⟩ ≠ tid t := by
  unfold tid
  split_ifs <;> simp_all <;> omega

theorem waitsPush_congr {s s' : State} {t : ThreadRef} (h : threadAt s' t = threadAt s t) : waitsPush s' t = waitsPush s t := by
  simp only [waitsPush, h]

/-- Whether a thread may push is not changed by a change of the thread that keeps its place (R197, R206). -/
theorem mayPush_modThread (s : State) (t : ThreadRef) {f : Thread → Thread} (hclaim : (f (threadAt s t)).claim = (threadAt s t).claim) :
    mayPush (modThread s t f) t = mayPush s t := by
  have hclaims : claims (modThread s t f) t = claims s t := by
    rw [modThread_eq_modCore]
    unfold claims
    rw [coreAt_modCore, if_pos rfl]
    exact countP_aset _ _ _ fun w => by simp
  have hlower : ∀ x ∈ List.range (min t.slot 7),
      waitsPush (modThread s t f) ⟨t.core, x, 0⟩ = waitsPush s ⟨t.core, x, 0⟩ := fun x hx =>
    waitsPush_congr (threadAt_modThread_other _ _ (.inr (tid_ne_of_lower (List.mem_range.mp hx))))
  have hall : ((List.range (min t.slot 7)).all fun x => !waitsPush (modThread s t f) ⟨t.core, x, 0⟩) =
      (List.range (min t.slot 7)).all fun x => !waitsPush s ⟨t.core, x, 0⟩ := by
    rw [Bool.eq_iff_iff, List.all_eq_true, List.all_eq_true]
    exact forall₂_congr fun x hx => by rw [hlower x hx]
  simp only [mayPush, coreAt_modThread_chain, threadAt_modThread_same, hclaim, hclaims, hall]

/-! ### CHAIN.acq: the entry that it takes (R197, R360) -/

theorem ne_reset_of_run {th : Thread} (h : th.run ≠ .free) : th ≠ Thread.reset := fun e => h (e ▸ rfl)

/-- A thread with the entries that its unit keeps. -/
def keeping (es : List Word) (th : Thread) : Thread := { th with popped := es }

/-- A thread with a result written (R291, R292). -/
def written (r : ℕ) (v : Word) (th : Thread) : Thread := discardOlder (wrG th r v) .g r

/-- A core with an entry that has been pushed to its inbound queue. -/
def pushed (v : Word) (k : Core) : Core := { k with chain := k.chain ++ [v] }

theorem pushed_ne_reset (v : Word) (k : Core) : pushed v k ≠ Core.reset := fun e => by
  simpa [pushed, Core.reset] using congrArg Core.chain e

theorem run_written (r : ℕ) (v : Word) (th : Thread) : (written r v th).run = th.run := by simp [written]

theorem ss_written (r : ℕ) (v : Word) (th : Thread) : (written r v th).ss = th.ss := by simp [written]

theorem written_keeping (es : List Word) (r : ℕ) (v : Word) : written r v ∘ keeping es = keeping es ∘ written r v := by
  funext th
  simp only [Function.comp_apply, written, wrG]
  split <;> rfl

theorem writeG_eq (s : State) (r : ℕ) (v : Word) :
    writeG s r v = if ((me s).ss.dn && r == 29) = true then modCore (modMe s (written r v)) (s.cur.core + 1) (pushed v)
      else modMe s (written r v) := by
  unfold writeG
  dsimp only
  rw [me_modMe, show (discardOlder (wrG (me s) r v) .g r).ss = (me s).ss from ss_written r v (me s)]
  rfl

/-- A change of the current thread, which is in a slot, does not meet a push downstream. -/
theorem modMe_push {s : State} (hrun : (me s).run ≠ .free) {f : Thread → Thread} (hf : ∀ th, (f th).run = th.run) (v : Word) :
    modMe (modCore s (s.cur.core + 1) (pushed v)) f = modCore (modMe s f) (s.cur.core + 1) (pushed v) :=
  modMe_modCore_comm s (by simp) (ne_reset_of_run (by rwa [hf])) (pushed_ne_reset v _)

section
variable {s : State} (hrun : (me s).run ≠ .free)
include hrun

/-- What a thread keeps may change before its result is written, or after it in one act with another change. -/
theorem modMe_writeG_keeping (es : List Word) (r : ℕ) (v : Word) {g : Thread → Thread} (hg : ∀ th, (g th).run = th.run) :
    modMe (writeG (modMe s (keeping es)) r v) g = modMe (writeG s r v) (g ∘ keeping es) := by
  have hw : (written r v (me s)).run ≠ .free := by rwa [run_written]
  have hkw : modMe (modMe s (keeping es)) (written r v) = modMe (modMe s (written r v)) (keeping es) := by
    rw [modMe_modMe _ _ (ne_reset_of_run hrun), modMe_modMe _ _ (ne_reset_of_run hw), written_keeping]
  have hjoin : modMe (modMe (modMe s (written r v)) (keeping es)) g = modMe (modMe s (written r v)) (g ∘ keeping es) :=
    modMe_modMe _ _ (by rw [me_modMe]; exact ne_reset_of_run hw)
  rw [writeG_eq, writeG_eq, me_modMe, hkw, show (keeping es (me s)).ss = (me s).ss from rfl]
  split_ifs
  · have hl := modMe_push (s := modMe (modMe s (written r v)) (keeping es)) (by rw [me_modMe, me_modMe]; exact hw) hg v
    have hr := modMe_push (s := modMe s (written r v)) (f := g ∘ keeping es) (by simpa using hw) (fun th => hg _) v
    exact hl.trans ((congrArg (fun t => modCore t (s.cur.core + 1) (pushed v)) hjoin).trans hr.symm)
  · exact hjoin

end

/-- A thread whose unit waits in its acquire fence (R163). -/
def leaving (th : Thread) : Thread := { th with prog := .leaving }

/-- What CHAIN.acq leaves before its acquire fence: its register, and no entry kept (R360). -/
def acquired (s : State) (d : Reg) (v : Word) : State := modMe (putG s d v) fun th => { th with popped := [], prog := .leaving }

/-- The fence of CHAIN.acq follows a result that is written with the entries that the unit keeps gone, or before they go. -/
theorem putG_unkept {s : State} (hrun : (me s).run ≠ .free) (d : Reg) (v : Word) :
    modMe (putG (modMe s (keeping [])) d v) leaving = acquired s d v := by
  have hnum : dstNum (modMe s (keeping [])) .d d.toNat = dstNum s .d d.toNat := by
    unfold dstNum
    rw [me_modMe]
    rfl
  unfold putG acquired putG
  rw [hnum]
  exact modMe_writeG_keeping hrun [] _ v fun _ => rfl

/-- An entry that the thread keeps is the one that CHAIN.acq takes. -/
theorem popOne_kept {s : State} {v : Word} {rest : List Word} (hkept : (me s).popped = v :: rest) :
    popOne s = some (v, modMe s (keeping [])) := by
  simp only [popOne, hkept, List.isEmpty_cons, Bool.false_and, Bool.false_eq_true, if_false]
  rfl

/-- A core whose inbound queue holds what is named. -/
def queueing (es : List Word) (k : Core) : Core := { k with chain := es }

/-- Otherwise it takes the oldest entry of the queue. -/
theorem popOne_oldest {s : State} (hrun : (me s).run ≠ .free) {v : Word} {rest : List Word} (hkept : (me s).popped = [])
    (hmay : mayPop s s.cur 1 = true) (hchain : (myCore s).chain = v :: rest) :
    popOne s = some (v, modMe (modCore s s.cur.core (queueing rest)) (keeping [])) := by
  have hpop : (me (takeEntries s s.cur 1)).popped = [v] := by
    have hthread : me (takeEntries s s.cur 1) = keeping ((myCore s).chain.take 1) (me s) := threadAt_takeEntries s s.cur 1
    rw [hthread, hchain]
    rfl
  have hrest : modCore s s.cur.core (fun k => queueing (k.chain.drop 1) k) = modCore s s.cur.core (queueing rest) :=
    modCore_congr (by rw [show (coreAt s s.cur.core).chain = v :: rest from hchain]; rfl)
  have hjoin : modMe (takeEntries s s.cur 1) (keeping []) = modMe (modCore s s.cur.core (queueing rest)) (keeping []) := by
    rw [← hrest]
    exact modMe_modMe _ _ (ne_reset_of_run (by rwa [me_modCore _ _ _ rfl]))
  simp only [popOne, hkept, hmay, List.isEmpty_nil, Bool.and_self, if_true, hpop]
  exact congrArg (fun t => some (v, t)) hjoin

theorem popOne_none {s : State} (hkept : (me s).popped = []) (hmay : mayPop s s.cur 1 = false) : popOne s = none := by
  simp [popOne, hkept, hmay]

theorem chain_of_mayPop {s : State} (h : mayPop s s.cur 1 = true) : (myCore s).chain ≠ [] := by
  have hlen : 1 ≤ (myCore s).chain.length := by
    simp only [mayPop, Bool.and_eq_true, decide_eq_true_eq] at h
    exact h.1
  exact List.ne_nil_of_length_pos hlen

theorem run_of_issues {i : Instr} {s : State} (h : Issues i s) : (me s).run ≠ .free := by
  have hready : (me s).run = .ready := by
    have h1 := h.ready
    simp only [canIssue, Bool.and_eq_true, beq_iff_eq] at h1
    exact h1.1.1
  rw [hready]
  exact Run.noConfusion

@[simp] theorem acquired_cur (s : State) (d : Reg) (v : Word) : (acquired s d v).cur = s.cur := (writeG_mem ..).2.2

/-! ### The instructions -/

theorem mayPush_wbsDone (s : State) : mayPush (wbsDone (begun s 2) 2) (wbsDone (begun s 2) 2).cur = mayPush (begun s 2) s.cur :=
  mayPush_modThread s s.cur rfl

theorem chainInstructions : ChainInstructions := by
  have hacq : ∀ {s : State} {d : Reg}, (me s).ss.up = true → d ≠ 28 → (!(me s).ss.up || d == 28) = false := fun hup hd => by
    rw [hup, beq_false_of_ne hd]
    rfl
  refine ⟨fun m a s h => ⟨fun hill => exec_fault h rfl ?_, fun hleg => exec_done h rfl ?_⟩,
    fun m a s h => ⟨fun hdn => exec_fault h rfl ?_, fun hdn hmay => ?_, fun hdn hmay => ?_, fun hmay => room_of_mayPush hmay⟩,
    fun m d s h => ⟨fun hill => exec_fault h rfl ?_, fun hup hd hleaves => ?_, fun ⟨hup, hd, hprog⟩ hkept hmay => ?_,
      fun v rest ⟨hup, hd, hprog⟩ hkept hmay hchain => ?_, fun v rest ⟨hup, hd, hprog⟩ hkept => ?_, chain_of_mayPop⟩⟩
  · exact if_pos (by simpa only [bit_toNat, Bool.or_eq_true] using hill)
  · simp only [bit_toNat]
    exact if_neg (by simpa only [Bool.or_eq_true] using hleg)
  · simp only [hdn, Bool.not_false, if_true]
  · refine afterRelease_of_body h rfl (if_neg (by simp [hdn])) fun t ht hexec => ?_
    subst ht
    simp only [mayPush_wbsDone, hmay, Bool.not_true, Bool.false_eq_true, if_false] at hexec
    exact hexec
  · refine afterRelease_of_body h rfl (if_neg (by simp [hdn])) fun t ht hexec => ?_
    subst ht
    simp only [mayPush_wbsDone, hmay, Bool.not_false, if_true] at hexec
    exact hexec
  · exact if_pos (by simpa using hill)
  · refine fences_of_body h rfl rfl ?_
    simp only [hacq hup hd, hleaves, beq_self_eq_true, Bool.false_eq_true, if_false, if_true]
  · refine exec_waiting h rfl ?_
    simp only [hacq hup hd, beq_false_of_ne hprog, popOne_none hkept hmay, Bool.false_eq_true, if_false]
  · refine fences_of_body (t := acquired _ d v) h rfl (acquired_cur ..) ?_
    have hrun : (me (modCore s s.cur.core (queueing rest))).run ≠ .free := by
      rw [me_modCore _ _ _ rfl]
      exact run_of_issues h
    simp only [hacq hup hd, beq_false_of_ne hprog, popOne_oldest (run_of_issues h) hkept hmay hchain, Bool.false_eq_true, if_false]
    exact congrArg (fun t => phaseFence t 2) (putG_unkept hrun d v)
  · refine fences_of_body (t := acquired s d v) h rfl (acquired_cur ..) ?_
    simp only [hacq hup hd, beq_false_of_ne hprog, popOne_kept hkept, Bool.false_eq_true, if_false]
    exact congrArg (fun t => phaseFence t 2) (putG_unkept (run_of_issues h) d v)

/-- Settles O30: each instruction does, refuses or waits for what its rule says, by the state of its queue, mailbox or binding. -/
theorem messageMailboxAndChainInstructions : Obligations.MessageMailboxAndChainInstructions :=
  ⟨messageInstructions, mailboxInstructions, chainInstructions⟩

end Sys2Proof.Machine
end

section
/-! # Engine commands and quay queues at issue

What the row operations, CPY, WALK, MXV, QLD and QST come to when they issue (R114-R117, R122, R123, R374-R383). -/

namespace Sys2Proof.Machine
open Sys2Proof.Claims

/-! ### A free command slot (R122) -/

theorem freeCommand_eq_none_iff (s : State) (core : ℕ) : freeCommand s core = none ↔ ∀ n < 8, (cmdAt s core n).isSome = true := by
  simp [freeCommand, List.find?_eq_none, Option.isSome_iff_ne_none]

theorem freeCommand_eq_some {s : State} {core n : ℕ} (hn : n < 8) (hfree : cmdAt s core n = none)
    (hlower : ∀ k < n, (cmdAt s core k).isSome = true) : freeCommand s core = some n := by
  rw [freeCommand, List.find?_range_eq_some]
  exact ⟨by simp [hfree], List.mem_range.mpr hn, fun k hk => by simpa using hlower k hk⟩

/-! ### Row operations, CPY and WALK (R374-R378) -/

theorem find?_misaligned_eq_none {addrs : List Word} {al : ℕ} :
    (addrs.find? fun a => a.toNat % al != 0) = none ↔ ∀ x ∈ addrs, x.toNat % al = 0 := by
  simp [List.find?_eq_none]

/-- A completion word names no barrier object, or one that the issuer may use. -/
theorem objectRefused_eq_false {s : State} {comp : Word}
    (h : compKind comp ≠ 2 ∨ barrierAssigned s (compLevel comp) (compObj comp) = true) :
    (compKind comp == 2 && !barrierAssigned s (compLevel comp) (compObj comp)) = false := by
  rcases h with h | h <;> simp [h]

/-- The issue of an engine command, by its completion word, its addresses and the free slots of its unit. -/
theorem engineForms_of_unit {i : Instr} {kind : CmdKind} {al : ℕ} {aligned srcs : State → List Word} {d : State → Word} {b : Reg}
    {s : State} (h : Issues i s) (hexec : exec i s = engineUnit i kind al aligned d srcs b s) :
    EngineForms i kind al (aligned s) (d s) (srcs s) b s := by
  refine ⟨fun hbad => exec_fault h hexec (if_pos hbad), fun hgood hkind hno => exec_fault h hexec ?_,
    fun x ⟨hgood, hobj⟩ hx => exec_fault h hexec ?_, fun ⟨hgood, hobj⟩ hal hfull => exec_waiting h hexec ?_,
    fun n ⟨hgood, hobj⟩ hal hn hfree hlower => exec_done h hexec ?_⟩
  · simp only [hgood, hkind, hno, beq_self_eq_true, Bool.not_false, Bool.and_self, Bool.false_eq_true, if_false, if_true]
  · simp only [hgood, objectRefused_eq_false hobj, hx, Bool.false_eq_true, if_false]
  · simp only [hgood, objectRefused_eq_false hobj, find?_misaligned_eq_none.mpr hal, (freeCommand_eq_none_iff ..).mpr hfull,
      Bool.false_eq_true, if_false]
  · simp only [hgood, objectRefused_eq_false hobj, find?_misaligned_eq_none.mpr hal, freeCommand_eq_some hn hfree hlower,
      Bool.false_eq_true, if_false, fresh, begun, beginRelease_cur]

/-! ### An access of a unit (R135, R190, R194) -/

section
variable {i : Instr} {s : State} {body : State → Res} (h : Issues i s) (hexec : exec i s = .next (unit i body s))
include h hexec

theorem exec_gone {s' : State} (hbody : body s = .gone s') : exec i s = .next s' := exec_settles h hexec hbody

/-- A unit whose body begins an access goes where the access's policy and address say. -/
theorem accessForms_of_body {s1 : State} {a : Access} {o : Out} {vector : Bool} (hcur : s1.cur = s.cur)
    (hbody : body s = beginAccess s1 a o vector) : AccessForms i s s1 a o vector := by
  refine ⟨fun ⟨hva, hdev, hbank⟩ h4 h5 => exec_fault h hexec (hbody.trans ?_), fun hplace h4 => exec_done h hexec (hbody.trans ?_),
    fun h4 hstays => exec_done h hexec (hbody.trans ?_), fun c h4 htravels hgo => ⟨fun hhere => exec_done h hexec (hbody.trans ?_),
      fun haway => exec_gone h hexec (hbody.trans ?_)⟩⟩
  · refine if_pos ?_
    simp only [hcur, hva, hdev, hbank, decide_true, Bool.and_self, Bool.true_and, Bool.and_eq_true, bne_iff_ne]
    exact ⟨h4, h5⟩
  · refine (if_neg ?_).trans (if_neg h4)
    simp only [hcur, Bool.and_eq_true, decide_eq_true_eq, bne_iff_ne]
    rintro ⟨⟨⟨⟨hva, hdev⟩, hbank⟩, -⟩, h5⟩
    exact hplace.elim (fun hno => hno ⟨hva, hdev, hbank⟩) h5
  · refine (if_neg (by simp [h4])).trans ((if_pos h4).trans ?_)
    simp only [hstays, Bool.false_eq_true, if_false]
    rfl
  · refine (if_neg (by simp [h4])).trans ((if_pos h4).trans ?_)
    simp only [htravels, if_true, hgo, hhere, hcur]
    rfl
  · refine (if_neg (by simp [h4])).trans ((if_pos h4).trans ?_)
    simp only [htravels, if_true, hgo, hcur, haway, if_false]

end

/-! ### The instructions -/

theorem engineCommandsIssue : EngineCommandsIssue :=
  ⟨fun _ _ _ _ _ h => engineForms_of_unit h rfl, fun _ _ _ _ h => engineForms_of_unit h rfl,
    fun _ _ _ _ _ h => engineForms_of_unit h rfl, fun _ _ _ _ _ h => engineForms_of_unit h rfl,
    fun _ _ _ _ _ h => engineForms_of_unit h rfl, fun _ _ _ _ _ h => engineForms_of_unit h rfl,
    fun _ _ _ _ _ h => engineForms_of_unit h rfl, fun _ _ _ _ _ h => engineForms_of_unit h rfl,
    fun _ _ _ _ _ h => engineForms_of_unit h rfl⟩

theorem desc_me_writeG (s : State) (r : ℕ) (v : Word) : (me (writeG s r v)).desc = (me s).desc := by
  rw [me_writeG, discardOlder_desc, wrG_desc]

/-- The increment of the address register, where a queue access asks for one (R382, R383). -/
def stepAddress (s : State) (a : Reg) (n : BitVec 1) (v : Word) : State := if n = 1 then writeG s (dstNum s .a a.toNat) v else s

@[simp] theorem stepAddress_cur (s : State) (a : Reg) (n : BitVec 1) (v : Word) : (stepAddress s a n v).cur = s.cur := by
  unfold stepAddress
  split
  · exact (writeG_mem ..).2.2
  · rfl

@[simp] theorem desc_me_stepAddress (s : State) (a : Reg) (n : BitVec 1) (v : Word) :
    (me (stepAddress s a n v)).desc = (me s).desc := by
  unfold stepAddress
  split
  · exact desc_me_writeG ..
  · rfl

/-- A QLD reserves its entry of the load queue at issue (R382). -/
def reserved (s : State) : State :=
  modCore (named_ s) s.cur.core fun k => { k with ldq := k.ldq ++ [⟨s.nextId, false, 0, 0, false⟩] }

theorem me_reserved (s : State) : me (reserved s) = me s := me_modCore (named_ s) s.cur.core _ rfl

/-- The read of a QLD, by its address, its bytes and its memory format. -/
def qldAccess (s : State) (id : ℕ) (ea : Word) (n fmt : ℕ) : Access :=
  { accessOf s id .qld with va := ea.toNat, n := n, pol := 1, fmt := fmt }

/-- The shape and the vector of an MXV are within the limits of R131, as its unit judges them. -/
theorem mxvFits_iff (ok : Bool) (va : ℕ) : ¬((!ok) = true ∨ va % 64 ≠ 0) ↔ ok = true ∧ va % 64 = 0 := by
  simp

theorem quayInstructionsIssue : QuayInstructionsIssue := by
  refine ⟨fun m d a b s h => ⟨fun hal => exec_fault h rfl (if_pos hal),
      fun hal hbad => exec_fault h rfl ((if_neg (not_not.mpr hal)).trans ?_),
      fun ⟨bank, off⟩ hal hfits hown hfull => exec_waiting h rfl ((if_neg (not_not.mpr hal)).trans ?_),
      fun ⟨bank, off⟩ hal hfits hown hroom hcmd => exec_waiting h rfl ((if_neg (not_not.mpr hal)).trans ?_),
      fun bank off k hal hfits hown hroom hcmd => exec_done h rfl ((if_neg (not_not.mpr hal)).trans ?_)⟩,
    fun m a n s h => ⟨fun hal => exec_fault h rfl (if_pos hal),
      fun hal hfull => exec_waiting h rfl ((if_neg (not_not.mpr hal)).trans ?_), fun hal hroom => ?_⟩,
    fun m a n s h => ⟨fun hempty => exec_waiting h rfl ?_, fun e rest hstq => ⟨fun hal => exec_fault h rfl ?_, fun hal => ?_⟩⟩⟩
  · by_cases hfits : mxvShapeOk (srcG s (.mxv m d a b) .d d.toNat) (fmtOf (me s).desc).fa = true ∧
        (srcG s (.mxv m d a b) .b b.toNat).toNat % 64 = 0
    · refine (if_neg ((mxvFits_iff ..).mpr hfits)).trans ?_
      simp only [hbad.resolve_left (not_not.mpr hfits)]
    · exact if_pos (not_imp_comm.mp (mxvFits_iff ..).mp hfits)
  · refine (if_neg ((mxvFits_iff ..).mpr hfits)).trans ?_
    simp only [hown]
    exact if_pos (by simpa using hfull)
  · refine (if_neg ((mxvFits_iff ..).mpr hfits)).trans ?_
    simp only [hown, hcmd]
    exact if_neg (by simpa using hroom)
  · refine (if_neg ((mxvFits_iff ..).mpr hfits)).trans ?_
    simp only [hown, hcmd]
    refine (if_neg (by simpa using hroom)).trans ?_
    rfl
  · exact if_pos (by simpa using hfull)
  · refine accessForms_of_body h rfl ?_ ((if_neg (not_not.mpr hal)).trans ((if_neg (by simpa using hroom)).trans ?_))
    · exact stepAddress_cur ..
    · let ea := srcG s (.qld m a n) .a a.toNat
      let f := if (me s).desc.fmt = 0 then 64 else vectorBytes s
      let t := stepAddress (reserved s) a n (ea + BitVec.ofNat 64 f)
      have hdesc : (me t).desc = (me s).desc := by rw [desc_me_stepAddress, me_reserved]
      let begins (d : Descriptor) : Res :=
        beginAccess t (qldAccess t s.nextId ea f (if d.fmt = 0 then 0 else (fmtOf (me s).desc).fd))
          (outPlain s.nextId .qld ea.toNat) true
      exact Eq.trans (b := begins (me t).desc) rfl (congrArg begins hdesc)
  · simp only [hempty]
  · simp only [hstq]
    exact if_pos hal
  · refine accessForms_of_body h rfl ?_ ?_
    · exact stepAddress_cur ..
    · simp only [hstq]
      exact if_neg (not_not.mpr hal)

/-- Settles O33: an engine command or a queue instruction faults, waits or issues as its operands, its queue and its unit's slots say. -/
theorem engineAndQuayInstructionsIssue : Obligations.EngineAndQuayInstructionsIssue := ⟨engineCommandsIssue, quayInstructionsIssue⟩

end Sys2Proof.Machine
end

section
/-! # The launch of an access

What an access that its unit launches is, and what of its thread and of the memories the launch changes (R136, R290, R291, R294). -/

namespace Sys2Proof.Machine

/-! ### The coalescing table (R35-R37) -/

/-- What joins a table changes its die, and a failed check is told to a supervisor as well. -/
theorem coalesceAt_cases (s : State) (die : ℕ) (t : ThreadRef) (ctx : Word) (va cause kind : ℕ) (w : Waiter) (leaf : Option Leaf) :
    ∃ f, coalesceAt s die t ctx va cause kind w leaf = modDie s die f ∨
      ∃ e, coalesceAt s die t ctx va cause kind w leaf = tellFault (modDie s die f) die e := by
  unfold coalesceAt
  extract_lets asid vpn d e s1
  split
  · exact ⟨_, .inl rfl⟩
  · split
    · split
      · exact ⟨_, .inl rfl⟩
      · exact ⟨_, .inr ⟨_, rfl⟩⟩
    · exact ⟨_, .inl rfl⟩

theorem tellFault_threads (s : State) (die : ℕ) (e : Coal) (x : ThreadRef) : threadAt (tellFault s die e) x = threadAt s x :=
  toSupervisor_threads ..

theorem tellFault_cur (s : State) (die : ℕ) (e : Coal) : (tellFault s die e).cur = s.cur := by
  unfold tellFault toSupervisor
  dsimp only
  generalize (if ctxNs e.ctx = true then (dieAt s die).nrid else (dieAt s die).srid) = tag
  split <;> rfl

/-! ### The translation of an access (R29, R35) -/

/-- What an instruction gave an access: its name, address, size, data, bytes, kind and thread. -/
def given (a : Access) : ℕ × ℕ × ℕ × Line × BitVec 64 × AccKind × ThreadRef := (a.id, a.va, a.n, a.data, a.mask, a.kind, a.t)

/-- A state that differs from another in no thread, and in no access by what its instruction gave it. -/
structure KeepsGiven (s t : State) : Prop where
  inflight : t.inflight.map given = s.inflight.map given
  threads  : ∀ x, threadAt t x = threadAt s x
  cur      : t.cur = s.cur

theorem keepsGiven_modAccess (s : State) (id : ℕ) {f : Access → Access} (hf : ∀ a, given (f a) = given a) :
    KeepsGiven s (modAccess s id f) := by
  refine ⟨?_, fun _ => rfl, rfl⟩
  simp only [modAccess, List.map_map]
  refine List.map_congr_left fun a _ => ?_
  simp only [Function.comp_apply]
  split
  · exact hf a
  · rfl

theorem keepsGiven_coalesce (s : State) (id : ℕ) (g : Stage) (t : ThreadRef) (ctx : Word) (va cause kind : ℕ) (w : Waiter)
    (leaf : Option Leaf) : KeepsGiven s (coalesce (stageAccess s id g) t ctx va cause kind w leaf) := by
  obtain ⟨hgiven, hthreads, hcur⟩ : KeepsGiven s (stageAccess s id g) := keepsGiven_modAccess s id fun _ => rfl
  obtain ⟨f, h | ⟨e, h⟩⟩ := coalesceAt_cases (stageAccess s id g) (dieOf t.core) t ctx va cause kind w leaf
  · rw [coalesce, h]
    exact ⟨hgiven, hthreads, hcur⟩
  · rw [coalesce, h]
    exact ⟨by rw [tellFault_inflight]; exact hgiven, fun x => (tellFault_threads ..).trans (hthreads x),
      (tellFault_cur ..).trans hcur⟩

/-- A translation finds where an access goes, or lets it wait; it does not change what the access is. -/
theorem keepsGiven_translateAccess (s : State) (id : ℕ) : KeepsGiven s (translateAccess s id) := by
  have hchecked : ∀ pa page, KeepsGiven s (checkedAt s id pa page) := fun _ _ => keepsGiven_modAccess s id fun _ => rfl
  unfold translateAccess
  split
  · exact ⟨rfl, fun _ => rfl, rfl⟩
  · next a _ =>
    extract_lets join wait need
    have hjoin : ∀ cause l, KeepsGiven s (join cause l) := fun _ _ => keepsGiven_coalesce ..
    split
    · exact keepsGiven_modAccess s id fun _ => rfl
    split
    · exact hjoin ..
    split
    · split
      · exact hchecked ..
      · exact hjoin ..
    · split
      · exact hjoin ..
      · exact hjoin ..
      · exact hjoin ..
      · extract_lets c
        split
        · exact hjoin ..
        split
        · split
          · exact hchecked ..
          · exact hchecked ..
          · exact hjoin ..
          · exact hjoin ..
        · exact hchecked ..

/-! ### The launch -/

theorem threadAt_addOut (s : State) (t : ThreadRef) (o : Out) : threadAt (addOut s t o) t =
    { threadAt s t with
      outs := (threadAt s t).outs ++ [if holdsEntry o.kind then { o with entry := freeEntry (threadAt s t) } else o] } := by
  simp [addOut]

theorem threadAt_addSack (s : State) (t : ThreadRef) :
    threadAt (addSack s t) t = { threadAt s t with sack := (threadAt s t).sack + 1 } := by
  simp [addSack]

/-- A thread with one more result to wait for, and a store of it with one more acknowledgement (R136, R290). -/
theorem launchAccess_thread (s : State) (a : Access) (o : Out) :
    ∃ o', threadAt (launchAccess s a o) a.t =
      { threadAt s a.t with outs := (threadAt s a.t).outs ++ [o'], sack := (threadAt s a.t).sack + if a.sackd then 1 else 0 } := by
  have hjoins : threadAt { s with inflight := s.inflight ++ [a] } a.t = threadAt s a.t := rfl
  unfold launchAccess
  extract_lets s1 s2 s3
  rw [(keepsGiven_translateAccess ..).threads]
  simp only [s3]
  split
  · exact ⟨_, by rw [threadAt_addSack, threadAt_addOut, hjoins]⟩
  · exact ⟨_, by rw [threadAt_addOut, hjoins]; rfl⟩

theorem launchAccess_inflight (s : State) (a : Access) (o : Out) :
    (launchAccess s a o).inflight.map given = (s.inflight ++ [a]).map given := by
  unfold launchAccess
  dsimp only
  rw [(keepsGiven_translateAccess ..).inflight]
  split <;> rfl

theorem launchAccess_cur (s : State) (a : Access) (o : Out) : (launchAccess s a o).cur = s.cur := by
  unfold launchAccess
  dsimp only
  rw [(keepsGiven_translateAccess ..).cur]
  split <;> rfl

/-- Settles O26: the access joins those in flight as its instruction gave it, and its translation changes neither that nor a thread. -/
theorem launchedAccessIsInFlight : Obligations.LaunchedAccessIsInFlight := by
  intro s a o _ t th
  obtain ⟨o', hthread⟩ := launchAccess_thread s a o
  obtain ⟨hdram, hsram⟩ := sameMem_launchAccess s a o
  have hmem : given a ∈ t.inflight.map given := by
    rw [launchAccess_inflight]
    exact List.mem_map_of_mem (by simp)
  obtain ⟨x, hx, hgiven⟩ := List.mem_map.mp hmem
  simp only [given, Prod.mk.injEq] at hgiven
  obtain ⟨hid, hva, hn, hdata, hmask, hkind, ht⟩ := hgiven
  refine ⟨⟨x, hx, hid, hva, hn, hdata, hmask, hkind, ht⟩, ?_⟩
  simp only [t, th, hthread, List.length_append, List.length_singleton, true_and]
  exact ⟨hdram, hsram, launchAccess_cur s a o⟩

end Sys2Proof.Machine
end

section
/-! # Atomics

What an atomic comes to when it issues, and the value that it stores (R152, R155, R340, R341). -/

namespace Sys2Proof.Machine
open Sys2Proof.Claims

/-! ### The new values (R341) -/

theorem signed_toNat {w : ℕ} (x : BitVec w) : signed w x.toNat = x.toInt := by
  have hx := x.isLt
  rw [signed, Nat.mod_eq_of_lt hx, BitVec.toInt_eq_toNat_cond]
  cases w with
  | zero => simp [BitVec.of_length_zero]
  | succ k =>
    have hhalf : x.toNat < 2 ^ (k + 1 - 1) ↔ 2 * x.toNat < 2 ^ (k + 1) := by
      rw [Nat.add_sub_cancel, pow_succ]
      omega
    simp only [hhalf]
    split <;> simp

section
variable (n : ℕ) (r : Rounding) (x y z : BitVec (8 * n))

/-- The values that the operations 0 to 7 store, of n bytes. -/
theorem atomicNew_integer :
    (atomicNew 0 n r x.toNat y.toNat z.toNat).1 = some (x + y).toNat ∧
    (atomicNew 1 n r x.toNat y.toNat z.toNat).1 = some (x &&& y).toNat ∧
    (atomicNew 2 n r x.toNat y.toNat z.toNat).1 = some (x ||| y).toNat ∧
    (atomicNew 3 n r x.toNat y.toNat z.toNat).1 = some (x ^^^ y).toNat ∧
    (atomicNew 4 n r x.toNat y.toNat z.toNat).1 = some (if y.toInt < x.toInt then y else x).toNat ∧
    (atomicNew 5 n r x.toNat y.toNat z.toNat).1 = some (if x.toInt < y.toInt then y else x).toNat ∧
    (atomicNew 6 n r x.toNat y.toNat z.toNat).1 = some y.toNat ∧
    (atomicNew 7 n r x.toNat y.toNat z.toNat).1 = if x = y then some z.toNat else none := by
  refine ⟨?add, ?and, ?or, ?xor, ?min, ?max, rfl, ?cas⟩
  case add => simp only [atomicNew, BitVec.toNat_add]
  case and => simp only [atomicNew, BitVec.toNat_and]
  case or => simp only [atomicNew, BitVec.toNat_or]
  case xor => simp only [atomicNew, BitVec.toNat_xor]
  case min => simp only [atomicNew, signed_toNat, apply_ite BitVec.toNat]
  case max => simp only [atomicNew, signed_toNat, apply_ite BitVec.toNat]
  case cas => simp only [atomicNew, BitVec.toNat_inj]

end

/-- An operation other than AFADD raises no flag. -/
theorem atomicNew_flags {op : ℕ} (hop : op < 8) (n : ℕ) (r : Rounding) (old x y : ℕ) : (atomicNew op n r old x y).2 = 0 := by
  interval_cases op <;> rfl

theorem atomicNewValues : AtomicNewValues := by
  intro r x y z
  obtain ⟨hadd, hand, hor, hxor, hmin, hmax, hswp, hcas⟩ := atomicNew_integer 8 r x y z
  exact ⟨fun op n old v w hop => atomicNew_flags hop n r old v w, fun old v w => ⟨rfl, rfl⟩,
    hadd, hand, hor, hxor, hmin, hmax, hswp, hcas, fun u v w => atomicNew_integer 4 r u v w⟩

/-! ### The issue (R155, R340) -/

theorem ordRel_eq_true_iff (o : ℕ) : ordRel o = true ↔ 6 ≤ o := decide_eq_true_iff

/-- An atomic faults at a misaligned address; otherwise its access begins, behind the release that its order asks for. -/
theorem atomicForms_of_unit {i : Instr} {op : ℕ} {d a : Reg} {p : BitVec 3} {z : BitVec 1} {o : BitVec 4} {s : State}
    (h : Issues i s) (hexec : exec i s = atomicUnit i op d a p z o s) : AtomicForms i op d a p z o s := by
  refine ⟨fun hmis => exec_fault h hexec (if_pos hmis), fun hal => accessForms_of_body h hexec ?cur ?body⟩
  case cur =>
    split
    · exact beginRelease_cur ..
    · rfl
  case body =>
    refine (if_neg (not_not.mpr hal)).trans ?_
    simp only [ordRel_eq_true_iff]
    rfl

theorem atomicsIssue : AtomicsIssue :=
  ⟨fun _ _ _ _ _ _ _ h => atomicForms_of_unit h rfl, fun _ _ _ _ _ _ _ h => atomicForms_of_unit h rfl,
    fun _ _ _ _ _ _ _ h => atomicForms_of_unit h rfl, fun _ _ _ _ _ _ _ h => atomicForms_of_unit h rfl,
    fun _ _ _ _ _ _ _ h => atomicForms_of_unit h rfl, fun _ _ _ _ _ _ _ h => atomicForms_of_unit h rfl,
    fun _ _ _ _ _ _ _ h => atomicForms_of_unit h rfl, fun _ _ _ _ _ _ _ h => atomicForms_of_unit h rfl,
    fun _ _ _ _ _ _ _ h => atomicForms_of_unit h rfl⟩

/-- Settles O25: the nine atomics share one issue, and each of their operations is that of words of its size. -/
theorem atomicsReadAndWrite : Obligations.AtomicsReadAndWrite := ⟨atomicsIssue, atomicNewValues⟩

end Sys2Proof.Machine
end

section
/-! # Fences

What the three fences come to when they issue (R142, R162, R163, R347). -/

namespace Sys2Proof.Machine
open Sys2Proof.Claims

/-- A unit that ends with the acquire half of a fence drops what it drops once the reads are back, and waits until then (R163). -/
theorem acquires_of_settle {i : Instr} {s t : State} {scope : ℕ} (hcur : t.cur = s.cur)
    (hexec : exec i s = .next (settle i s (acquireFence t scope))) : Acquires i s t scope := by
  refine ⟨fun hback => hexec.trans ?_, fun hback => hexec.trans ?_⟩
  · rw [acquireFence, if_pos ((readsReturned_iff t).mpr hback), hcur]
    rfl
  · rw [acquireFence, if_neg (mt (readsReturned_iff t).mp hback)]
    rfl

theorem openFence_released {s : State} {scope : ℕ} (h : released (begun s scope) s.cur scope = true) :
    openFence s scope = begun s scope :=
  if_pos ((congrArg (fun t => released (begun s scope) t scope) (beginRelease_cur ..)).trans h)

/-- A release fence whose conditions do not hold yet stays in flight (R162). -/
theorem openFence_unreleased {s : State} {scope : ℕ} (h : released (begun s scope) s.cur scope = false) :
    openFence s scope = { begun s scope with
      nextId := (begun s scope).nextId + 1,
      inflight := (begun s scope).inflight ++ [{ accessOf (begun s scope) (begun s scope).nextId (.fence scope) with
        waits := if scope < 3 then [] else (me (begun s scope)).wbs }] } :=
  if_neg (Bool.eq_false_iff.mp ((congrArg (fun t => released (begun s scope) t scope) (beginRelease_cur ..)).trans h))

theorem heldBack_of_fence {s : State} {x a : Access} {k : ℕ} (hx : x ∈ s.inflight) (hfence : x.kind = .fence k) (hid : x.id < a.id)
    (hthread : sameThread x a = true) (hpref : prefetches a.kind = false) : heldBack s a = true := by
  have hholds : holdsLater x = true := by simp [holdsLater, hfence]
  simp only [heldBack, hpref, Bool.not_false, Bool.true_and, Bool.or_eq_true, List.any_eq_true, Bool.and_eq_true, decide_eq_true_eq]
  exact .inr ⟨x, hx, ⟨hid, hthread⟩, .inl hholds⟩

theorem fencesReleaseAndAcquire : FencesReleaseAndAcquire :=
  ⟨fun _ _ _ h => acquires_of_settle rfl (exec_settles h rfl rfl),
    fun _ _ _ h => ⟨fun hrel => exec_done h rfl (congrArg Res.done (openFence_released hrel)),
      fun hrel => exec_done h rfl (congrArg Res.done (openFence_unreleased hrel))⟩,
    fun _ _ _ h => afterRelease_of_body h rfl rfl fun _ ht => acquires_of_settle (ht ▸ beginRelease_cur ..),
    fun _ _ _ _ hx hfence hid hthread hpref => heldBack_of_fence hx hfence hid hthread hpref⟩

end Sys2Proof.Machine
end

section
/-! # What an acquire drops

The lines that `acquireDrops` takes from the L1 of its core and the L2 of its die (R44, R140). -/

namespace Sys2Proof.Machine
open Sys2Proof.Claims

/-! ### One base copy that goes -/

theorem threadAt_evictL1 (s : State) (core pa : ℕ) (x : ThreadRef) : threadAt (evictL1 s core pa) x = threadAt s x := by
  refine (threadAt_modCore _ _ _ (by simp) x).trans ?_
  unfold backL1
  split
  · split <;> rfl
  · rfl

theorem threadAt_dropBase (s : State) (die pa : ℕ) (x : ThreadRef) : threadAt (dropBase s die pa) x = threadAt s x :=
  foldl_keeps (threadAt · x) _ (fun s c => threadAt_evictL1 s c pa x) _ _

theorem l2At_evictL1_other (s : State) (core pa die : ℕ) {pa' : ℕ} (h : pa' / 64 ≠ pa / 64) :
    l2At (evictL1 s core pa) die pa' = l2At s die pa' := by
  change l2At (backL1 s core pa) die pa' = l2At s die pa'
  unfold backL1
  split
  · split
    · rw [l2At_setL2, if_neg fun hk => h hk.2]
    · rfl
  · rfl

/-- A base copy that goes leaves the other lines of every L2 as they are. -/
theorem l2At_dropBase_other (s : State) (die pa die' : ℕ) {pa' : ℕ} (h : pa' / 64 ≠ pa / 64) :
    l2At (dropBase s die pa) die' pa' = l2At s die' pa' := by
  unfold dropBase dropL1s
  rw [foldl_keeps (l2At · die' pa') _ (fun s c => l2At_evictL1_other s c pa die' h), l2At_setL2, if_neg fun hk => h hk.2]

theorem l2At_dropBase_st (s : State) (die pa : ℕ) {pa' : ℕ} (h : pa' / 64 = pa / 64) :
    (l2At (dropBase s die pa) die pa').st = .inv := by
  have hbare := bareL2_dropBase s die pa pa'
  rw [if_pos h] at hbare
  exact (congrArg L2Line.st hbare).trans (droppedL2_st _)

theorem coreAt_backL1 (s : State) (core pa c : ℕ) : coreAt (backL1 s core pa) c = coreAt s c := by
  unfold backL1
  split
  · split <;> rfl
  · rfl

/-- No copy enters an L1 as a base copy goes. -/
theorem mem_l1_of_dropBase {s : State} {die pa c : ℕ} {x : ℕ × L1Line} (hx : x ∈ (coreAt (dropBase s die pa) c).l1) :
    x ∈ (coreAt s c).l1 := by
  have hevict : ∀ s core, x ∈ (coreAt (evictL1 s core pa) c).l1 → x ∈ (coreAt s c).l1 := fun s core h => by
    unfold evictL1 dropL1 at h
    rw [coreAt_modCore, coreAt_backL1, coreAt_backL1] at h
    split at h
    · next hc =>
      simp only [adel_eq_filter] at h
      exact hc ▸ List.mem_of_mem_filter h
    · exact h
  unfold dropBase dropL1s at hx
  extract_lets l l' s0 at hx
  exact List.foldlRecOn (motive := fun t : State => x ∈ (coreAt t c).l1 → x ∈ (coreAt s c).l1) _ _ (b := s0) id
    (fun t ht core _ h => ht (hevict t core h)) hx

/-! ### The base copies of a list of lines -/

/-- The base copies of some lines of a die go, one after another. -/
def dropLines (s : State) (die : ℕ) (lines : Assoc L2Line) : State := lines.foldl (fun s e => dropBase s die (64 * e.1)) s

theorem l2At_dropLines_other (die : ℕ) {pa : ℕ} (lines : Assoc L2Line) (h : ∀ e ∈ lines, e.1 ≠ pa / 64) (s : State) :
    l2At (dropLines s die lines) die pa = l2At s die pa := by
  induction lines generalizing s with
  | nil => rfl
  | cons e lines ih =>
    have hline : pa / 64 ≠ 64 * e.1 / 64 := by
      rw [Nat.mul_div_cancel_left _ (by decide)]
      exact (h e (List.mem_cons_self ..)).symm
    exact (ih (fun x hx => h x (List.mem_cons_of_mem _ hx)) _).trans (l2At_dropBase_other _ _ _ _ hline)

theorem l2At_dropLines_st (die : ℕ) {pa : ℕ} (lines : Assoc L2Line) (h : ∃ e ∈ lines, e.1 = pa / 64) (s : State) :
    (l2At (dropLines s die lines) die pa).st = .inv := by
  induction lines generalizing s with
  | nil => simp at h
  | cons e lines ih =>
    by_cases hlater : ∃ x ∈ lines, x.1 = pa / 64
    · exact ih hlater _
    · obtain ⟨x, hx, hk⟩ := h
      have he : e.1 = pa / 64 := by
        rcases List.mem_cons.mp hx with rfl | hx
        · exact hk
        · exact absurd ⟨x, hx, hk⟩ hlater
      have hothers := l2At_dropLines_other die (pa := pa) lines (fun x hx hk => hlater ⟨x, hx, hk⟩) (dropBase s die (64 * e.1))
      refine (congrArg L2Line.st hothers).trans (l2At_dropBase_st _ _ _ ?_)
      rw [Nat.mul_div_cancel_left _ (by decide), he]

/-! ### The table of an L2 in its canonical form -/

section
variable {α : Type}

theorem lt_of_mem_of_risingFrom {b : ℕ} {l : Assoc α} (h : risingFrom (some b) l = true) {e : ℕ × α} (he : e ∈ l) : b < e.1 := by
  induction l generalizing b with
  | nil => simp at he
  | cons x r ih =>
    obtain ⟨hb, hr⟩ := (risingFrom_some_cons ..).mp h
    rcases List.mem_cons.mp he with rfl | he
    · exact hb
    · exact hb.trans (ih hr he)

/-- A table whose keys rise reads each of its entries. -/
theorem aget_of_mem (d : α) {l : Assoc α} (h : risingFrom none l = true) {e : ℕ × α} (he : e ∈ l) : aget d l e.1 = e.2 := by
  induction l with
  | nil => simp at he
  | cons x r ih =>
    have hr : risingFrom (some x.1) r = true := h
    rcases List.mem_cons.mp he with rfl | he
    · exact if_pos rfl
    · exact (if_neg (lt_of_mem_of_risingFrom hr he).ne').trans (ih (risingFrom_none_of_some hr) he)

end

/-- The leased lines that a die's L2 lists. -/
def leasedLines (s : State) (die : ℕ) : Assoc L2Line := (dieAt s die).l2.filter fun e => e.2.st == .leased

theorem exists_leasedLine {s : State} {die pa : ℕ} (h : (l2At s die pa).st = .leased) : ∃ e ∈ leasedLines s die, e.1 = pa / 64 := by
  by_contra hnone
  refine aget_of_forall (d := L2Line.reset) (k := pa / 64) (p := fun l => l.st ≠ .leased) nofun (fun e he hk hst => ?_) h
  exact hnone ⟨e, List.mem_filter.mpr ⟨he, by simp [hst]⟩, hk⟩

/-- In a canonical table only the line that its key reads is listed, so a listed leased line is a leased line. -/
theorem l2At_of_leasedLine {s : State} {die pa : ℕ} (hcanon : canonical L2Line.reset (dieAt s die).l2 = true) {e : ℕ × L2Line}
    (he : e ∈ leasedLines s die) (hk : e.1 = pa / 64) : (l2At s die pa).st = .leased := by
  obtain ⟨hmem, hst⟩ := List.mem_filter.mp he
  obtain ⟨hrise, -⟩ := Bool.and_eq_true_iff.mp hcanon
  rw [l2At, ← hk, aget_of_mem _ hrise hmem]
  simpa using hst

/-! ### The acquire -/

/-- The leased copies leave the L1 of a core (R44, R140). -/
def dropLeasedL1 (s : State) (core : ℕ) : State := modCore s core fun k => { k with l1 := k.l1.filter fun e => e.2.st != .leased }

theorem acquireDrops_near {s : State} {t : ThreadRef} {scope : ℕ} (h0 : scope ≠ 0) (h3 : scope < 3) :
    acquireDrops s t scope = dropLeasedL1 s t.core := by
  simp only [acquireDrops, h0, h3, if_true, if_false]
  rfl

theorem acquireDrops_far {s : State} {t : ThreadRef} {scope : ℕ} (h3 : 3 ≤ scope) :
    acquireDrops s t scope = dropLines (dropLeasedL1 s t.core) (dieOf t.core) (leasedLines s (dieOf t.core)) := by
  have h0 : scope ≠ 0 := by omega
  simp only [acquireDrops, h0, Nat.not_lt.mpr h3, if_false]
  rfl

theorem beyondCopies_acquireDrops (s : State) (t : ThreadRef) (scope : ℕ) :
    beyondCopies (acquireDrops s t scope) = beyondCopies s := by
  rcases Nat.eq_zero_or_pos scope with rfl | h0
  · rfl
  rcases Nat.lt_or_ge scope 3 with h3 | h3
  · rw [acquireDrops_near h0.ne' h3]
    rfl
  · rw [acquireDrops_far h3]
    exact foldl_keeps beyondCopies _ (by simp) _ _

theorem threadAt_acquireDrops (s : State) (t : ThreadRef) (scope : ℕ) (x : ThreadRef) :
    threadAt (acquireDrops s t scope) x = threadAt s x := by
  have hnear : threadAt (dropLeasedL1 s t.core) x = threadAt s x := threadAt_modCore _ _ _ (by simp) x
  rcases Nat.eq_zero_or_pos scope with rfl | h0
  · rfl
  rcases Nat.lt_or_ge scope 3 with h3 | h3
  · rw [acquireDrops_near h0.ne' h3, hnear]
  · rw [acquireDrops_far h3]
    exact (foldl_keeps (threadAt · x) _ (fun s e => threadAt_dropBase s _ _ x) _ _).trans hnear

theorem l1_dropLeasedL1 (s : State) (core : ℕ) :
    (coreAt (dropLeasedL1 s core) core).l1 = (coreAt s core).l1.filter fun e => e.2.st != .leased := by
  rw [dropLeasedL1, coreAt_modCore, if_pos rfl]

theorem l1_acquireDrops_unleased (s : State) (t : ThreadRef) {scope : ℕ} (h0 : scope ≠ 0) :
    ∀ e ∈ (coreAt (acquireDrops s t scope) t.core).l1, e.2.st ≠ .leased := by
  intro e he
  have hkept : e ∈ (coreAt (dropLeasedL1 s t.core) t.core).l1 := by
    rcases Nat.lt_or_ge scope 3 with h3 | h3
    · rwa [acquireDrops_near h0 h3] at he
    · rw [acquireDrops_far h3] at he
      exact List.foldlRecOn (motive := fun u : State => e ∈ (coreAt u t.core).l1 → e ∈ (coreAt (dropLeasedL1 s t.core) t.core).l1)
        _ _ id (fun _ hu _ _ h => hu (mem_l1_of_dropBase h)) he
  rw [l1_dropLeasedL1] at hkept
  simpa using List.of_mem_filter hkept

/-- At package scope and above the leased lines of the L2 go, and, its table being canonical, no other line changes (R140). -/
theorem l2At_acquireDrops {s : State} {t : ThreadRef} {scope : ℕ}
    (hcanon : canonical L2Line.reset (dieAt s (dieOf t.core)).l2 = true) (h3 : 3 ≤ scope) (pa : ℕ) :
    (l2At (acquireDrops s t scope) (dieOf t.core) pa).st ≠ .leased ∧
    ((l2At s (dieOf t.core) pa).st ≠ .leased →
      l2At (acquireDrops s t scope) (dieOf t.core) pa = l2At s (dieOf t.core) pa) := by
  rw [acquireDrops_far h3]
  by_cases hst : (l2At s (dieOf t.core) pa).st = .leased
  · refine ⟨?_, absurd hst⟩
    rw [l2At_dropLines_st _ _ (exists_leasedLine hst)]
    nofun
  · have hsame := l2At_dropLines_other (dieOf t.core) (pa := pa) (leasedLines s (dieOf t.core))
      (fun e he hk => hst (l2At_of_leasedLine hcanon he hk)) (dropLeasedL1 s t.core)
    exact ⟨fun h => hst ((congrArg L2Line.st hsame).symm.trans h), fun _ => hsame⟩

/-- What `AcquireDropsLeasedLines` says, of every state in which the table of the die's L2 is canonical. -/
theorem acquireDropsLeasedLines_of_canonical (s : State) (t : ThreadRef) (scope : ℕ)
    (hcanon : canonical L2Line.reset (dieAt s (dieOf t.core)).l2 = true) :
    let u := acquireDrops s t scope
    let die := dieOf t.core
    (scope = 0 → u = s) ∧
    (scope = 1 ∨ scope = 2 →
      (coreAt u t.core).l1 = ((coreAt s t.core).l1.filter fun e => e.2.st != .leased) ∧ ∀ d pa, l2At u d pa = l2At s d pa) ∧
    (scope ≠ 0 → ∀ e ∈ (coreAt u t.core).l1, e.2.st ≠ .leased) ∧
    (3 ≤ scope → ∀ pa, (l2At u die pa).st ≠ .leased ∧ ((l2At s die pa).st ≠ .leased → l2At u die pa = l2At s die pa)) ∧
    u.dram = s.dram ∧ u.llc = s.llc ∧ u.sram = s.sram ∧ u.homes = s.homes ∧ (∀ x, threadAt u x = threadAt s x) := by
  obtain ⟨hdram, hllc, hhomes, -, hsram⟩ := same_of_beyondCopies (beyondCopies_acquireDrops s t scope)
  refine ⟨fun h => h ▸ rfl, fun h => ?near, l1_acquireDrops_unleased s t, l2At_acquireDrops hcanon, hdram, hllc, hsram, hhomes,
    threadAt_acquireDrops s t scope⟩
  case near =>
    rw [acquireDrops_near (by omega) (by omega)]
    exact ⟨l1_dropLeasedL1 .., fun _ _ => rfl⟩

/-! ### A table that is not canonical -/

/-- A line that is shared, and one that is leased. -/
def sharedLine : L2Line := { L2Line.reset with st := .shared }
def leasedLine : L2Line := { L2Line.reset with st := .leased }

/-- A package whose die 0 lists line 0 of its L2 twice: its key reads the first entry, a shared line, and the second is leased. -/
def twiceListed : State := modDie State.reset 0 fun d => { d with l2 := [(0, sharedLine), (0, leasedLine)] }

theorem not_acquireDropsLeasedLines : ¬ AcquireDropsLeasedLines := by
  intro h
  obtain ⟨-, -, -, hl2, -⟩ := h twiceListed ⟨0, 0, 0⟩ 3
  have htable : (dieAt twiceListed 0).l2 = [(0, sharedLine), (0, leasedLine)] := by simp [twiceListed]
  have hread : (l2At twiceListed 0 0).st = .shared := by rw [l2At, htable]; rfl
  have hlisted : (0, leasedLine) ∈ leasedLines twiceListed 0 := by simp [leasedLines, htable, leasedLine]
  have hdropped : (l2At (acquireDrops twiceListed ⟨0, 0, 0⟩ 3) 0 0).st = .inv := by
    rw [acquireDrops_far (le_refl 3)]
    exact l2At_dropLines_st _ _ ⟨_, hlisted, rfl⟩ _
  have hkept := congrArg L2Line.st ((hl2 (le_refl 3) 0).2 (show (l2At twiceListed 0 0).st ≠ .leased by rw [hread]; nofun))
  exact LineState.noConfusion (hdropped.symm.trans (hkept.trans hread))

/-- Refutes O28: the statement speaks of every state, and an acquire at package scope drops a shared line of an L2 whose table lists the
line a second time as leased. The fences are as stated (`fencesReleaseAndAcquire`), and so are the drops where the table is canonical, as
writes of a table leave it (`canonical_aset`, `acquireDropsLeasedLines_of_canonical`). -/
theorem not_fencesAndAcquires : ¬ Obligations.FencesAndAcquires := fun ⟨_, hdrops⟩ => not_acquireDropsLeasedLines hdrops

end Sys2Proof.Machine
end

section
/-! # Registers read as written

What g registers, predicates and the status word give back after a write (R186, R270, R305). -/

namespace Sys2Proof.Machine
open Sys2Proof.Claims

theorem registerZeroIsZero : RegisterZeroIsZero := fun th r r' v =>
  ⟨rfl, rfl, fun hr => (rdG_wrG th r r v).trans (if_pos ⟨rfl, hr⟩), fun hne => (rdG_wrG th r r' v).trans (if_neg fun h => hne h.1)⟩

/-! ### Predicates -/

/-- A digit that stands below others, and the digits above it. -/
theorem testBit_low_digit (b : Bool) (h j : ℕ) : (b01 b + 2 * h).testBit j = if j = 0 then b else h.testBit (j - 1) := by
  cases j with
  | zero => cases b <;> simp [b01, Nat.testBit_zero]
  | succ j =>
    have hhalf : (b01 b + 2 * h) / 2 = h := by cases b <;> simp only [b01, Bool.false_eq_true, if_true, if_false] <;> omega
    simp [Nat.testBit_succ, hhalf]

/-- The bits of a number in which bit p has become b. -/
theorem testBit_replaced (n p : ℕ) (b : Bool) (j : ℕ) :
    (n - b01 (bit n p) * 2 ^ p + b01 b * 2 ^ p).testBit j = if j = p then b else n.testBit j := by
  have hdigit : n / 2 ^ p = b01 (bit n p) + 2 * (n / 2 ^ p / 2) := by
    have hmod : n / 2 ^ p % 2 = b01 (bit n p) := by
      rcases Nat.mod_two_eq_zero_or_one (n / 2 ^ p) with h | h <;> simp [bit, b01, h]
    omega
  have hn : n = 2 ^ p * (b01 (bit n p) + 2 * (n / 2 ^ p / 2)) + n % 2 ^ p := by
    rw [← hdigit, Nat.div_add_mod]
  have hnew : n - b01 (bit n p) * 2 ^ p + b01 b * 2 ^ p = 2 ^ p * (b01 b + 2 * (n / 2 ^ p / 2)) + n % 2 ^ p := by
    have hsplit : ∀ c, 2 ^ p * (b01 c + 2 * (n / 2 ^ p / 2)) = b01 c * 2 ^ p + 2 ^ p * (2 * (n / 2 ^ p / 2)) := fun c => by ring
    rw [hsplit] at hn ⊢
    omega
  have hlow : n % 2 ^ p < 2 ^ p := Nat.mod_lt _ (Nat.two_pow_pos p)
  rw [hnew, Nat.testBit_two_pow_mul_add _ hlow, testBit_low_digit,
    show n.testBit j = _ from (congrArg (Nat.testBit · j) hn).trans (Nat.testBit_two_pow_mul_add _ hlow j), testBit_low_digit]
  rcases lt_trichotomy j p with hj | rfl | hj
  · simp [hj, hj.ne]
  · simp
  · simp [hj.ne', Nat.not_lt.mpr hj.le, Nat.sub_ne_zero_of_lt hj]

theorem pw_wrQ (th : Thread) (k : ℕ) (b : Bool) {j : ℕ} (hj : j < 32) :
    (wrQ th k b).pw.getLsbD j = if j = 16 + k then b else th.pw.getLsbD j := by
  simp only [wrQ, BitVec.getLsbD_ofNat, hj, decide_true, Bool.true_and, testBit_replaced]
  rfl

theorem predicateWriteSetsOneBit : PredicateWriteSetsOneBit := fun th k b hk =>
  ⟨(pw_wrQ th k b (by omega)).trans (if_pos rfl), fun _ hj hne => (pw_wrQ th k b hj).trans (if_neg hne)⟩

/-! ### The status word -/

theorem b01_lt (b : Bool) : b01 b < 2 := by cases b <;> decide

/-- The sum of the fields of a status word: each field stands above those before it (R186). -/
def statusSum (th : Thread) : ℕ :=
  let x := th.ss
  th.pw.toNat + 2 ^ 32 * x.skp.toNat + 2 ^ 34 * b01 x.roam + 2 ^ 35 * x.prio.toNat + 2 ^ 37 * b01 x.dn
    + 2 ^ 38 * b01 x.up + 2 ^ 39 * b01 x.stay + 2 ^ 40 * b01 x.anch + 2 ^ 41 * b01 x.prx + 2 ^ 42 * x.repc.toNat
    + 2 ^ 50 * b01 x.pp + 2 ^ 51 * x.bst.toNat + 2 ^ 54 * x.flags.toNat + 2 ^ 59 * x.rnd.toNat + 2 ^ 61 * b01 x.ns
    + 2 ^ 62 * x.priv.toNat

theorem flag_digits_lt (x : Status) : b01 x.roam < 2 ∧ b01 x.dn < 2 ∧ b01 x.up < 2 ∧ b01 x.stay < 2 ∧ b01 x.anch < 2 ∧
    b01 x.prx < 2 ∧ b01 x.pp < 2 ∧ b01 x.ns < 2 := by
  simp only [b01_lt, and_self]

/-- The fields fit in the 64 bits of the word. -/
theorem statusWord_toNat (th : Thread) : (statusWord th).toNat = statusSum th := by
  have hflags := flag_digits_lt th.ss
  refine (BitVec.toNat_ofNat ..).trans (Nat.mod_eq_of_lt ?_)
  omega

theorem bit_eq_of_digit {n k : ℕ} {b : Bool} (h : n / 2 ^ k % 2 = b01 b) : bit n k = b := by cases b <;> simp [bit, h, b01]

theorem ofNat_field_eq {w hi lo n : ℕ} {x : BitVec w} (h : n / 2 ^ lo % 2 ^ (hi + 1 - lo) = x.toNat) :
    BitVec.ofNat w (field n hi lo) = x := by
  rw [field, h, BitVec.ofNat_toNat, BitVec.setWidth_eq]

theorem statusOfWord_statusWord (th : Thread) : statusOfWord (statusWord th) = th.ss := by
  have hflags := flag_digits_lt th.ss
  simp only [statusOfWord, statusWord_toNat]
  change _ = Status.mk th.ss.priv th.ss.ns th.ss.rnd th.ss.flags th.ss.bst th.ss.pp th.ss.repc th.ss.prx th.ss.anch th.ss.stay
    th.ss.up th.ss.dn th.ss.prio th.ss.roam th.ss.skp
  rw [Status.mk.injEq]
  refine ⟨ofNat_field_eq ?_, bit_eq_of_digit ?_, ofNat_field_eq ?_, ofNat_field_eq ?_, ofNat_field_eq ?_, bit_eq_of_digit ?_,
    ofNat_field_eq ?_, bit_eq_of_digit ?_, bit_eq_of_digit ?_, bit_eq_of_digit ?_, bit_eq_of_digit ?_, bit_eq_of_digit ?_,
    ofNat_field_eq ?_, bit_eq_of_digit ?_, ofNat_field_eq ?_⟩
  all_goals simp only [statusSum]; omega

theorem statusWordHoldsItsFields : StatusWordHoldsItsFields := by
  refine fun th => ⟨statusOfWord_statusWord th, BitVec.eq_of_toNat_eq ?_⟩
  rw [BitVec.extractLsb'_toNat, statusWord_toNat]
  simp only [statusSum]
  omega

/-- Settles O8: a table reads what was written, a predicate write replaces one bit of pw, and each field of the status word is the part
of a sum that stands between those below and above it. -/
theorem registersReadAsWritten : Obligations.RegistersReadAsWritten :=
  ⟨registerZeroIsZero, predicateWriteSetsOneBit, statusWordHoldsItsFields⟩

end Sys2Proof.Machine
end

section
/-! # Riders

What SPAWN, RQPUT and MIGRATE come to, and the instructions with which a rider waits or leaves its slot (R195, R203-R205, R224,
R328-R331). -/

namespace Sys2Proof.Machine
open Sys2Proof.Claims

/-! ### Riders that start, queue and move (R195, R328, R331) -/

theorem putG_cur (s : State) (d : Reg) (v : Word) : (putG s d v).cur = s.cur := (writeG_mem ..).2.2

/-- The read of the record of a new rider, under its name: it is listed as a spawn of t, and its access is launched (R328). -/
def spawnRead (s : State) (id : ℕ) (t : ThreadRef) (rid : BitVec 32) (dst addr : ℕ) : State :=
  let s1 := { s with spawns := s.spawns ++ [⟨id, t, rid, dst, addr⟩] }
  launchAccess s1 { accessOf s1 id .spawnRead with va := addr, n := 64, pol := 6 } (outPlain id .other addr)

theorem exec_spawn_reads {m : Mark} {d a b : Reg} {s s1 s2 : State} {rid : BitVec 32} {id : ℕ} (h : Issues (.spawn m d a b) s)
    (hdst : (srcG s (.spawn m d a b) .b b.toNat).toNat < 1024) (hal : (srcG s (.spawn m d a b) .a a.toNat).toNat % 64 = 0)
    (hnew : newRid s s.cur.core = (rid, s1)) (hnamed : fresh s1 = (id, s2)) :
    exec (.spawn m d a b) s = .next (done (.spawn m d a b) s (spawnRead (putG s2 d (word rid.toNat)) id s2.cur rid
      (srcG s (.spawn m d a b) .b b.toNat).toNat (srcG s (.spawn m d a b) .a a.toNat).toNat)) := by
  refine exec_done h rfl ((if_neg (Nat.not_le.mpr hdst)).trans ((if_neg (not_not.mpr hal)).trans ?_))
  rw [hnew]
  dsimp only
  rw [hnamed, ← putG_cur s2 d (word rid.toNat)]
  rfl

theorem riderInstructions : RiderInstructions := by
  refine ⟨fun m d a b s h => ?spawn, fun m d a b s h => ?rqput, fun m a s h =>
    ⟨fun hstays => exec_done h rfl (if_pos (by simpa using hstays)),
      fun hanch hdst => exec_settles h rfl (if_neg (by simp [hanch, hdst]))⟩⟩
  case spawn =>
    intro i dst addr core n rid
    refine ⟨fun hdst => exec_done h rfl (if_pos hdst),
      fun hdst hmis => exec_fault h rfl ((if_neg (Nat.not_le.mpr hdst)).trans (if_pos hmis)), fun hdst hal => ?_⟩
    intro s1 s2 s3 s4
    have hnew : newRid s core = (rid, { s1 with ended := s.ended.filter fun x => x != rid.toNat }) := rfl
    have hnamed : fresh { s1 with ended := s.ended.filter fun x => x != rid.toNat } = (s.nextId, s2) := rfl
    exact (exec_spawn_reads h hdst hal hnew hnamed :)
  case rqput =>
    refine ⟨fun huser => exec_fault h rfl (if_pos huser), fun hpriv hmis => exec_fault h rfl ?_,
      fun hpriv hal haddr => exec_fault h rfl ?_, fun hpriv hal haddr hfull => exec_done h rfl ?_,
      fun hpriv hal haddr hroom => exec_done h rfl ?_⟩
    · exact (if_neg hpriv).trans (if_pos hmis)
    · exact (if_neg hpriv).trans ((if_neg (not_not.mpr hal)).trans (if_pos haddr))
    · exact (if_neg hpriv).trans ((if_neg (not_not.mpr hal)).trans ((if_neg (Nat.not_le.mpr haddr)).trans (if_pos hfull)))
    · exact (if_neg hpriv).trans ((if_neg (not_not.mpr hal)).trans ((if_neg (Nat.not_le.mpr haddr)).trans (if_neg hroom)))

/-! ### Riders that wait or leave (R203-R205, R329) -/

theorem someoneWaits_iff (k : Core) (pri : ℕ) : someoneWaits k pri = true ↔
    (∃ h ∈ k.rq, pri ≤ h.pri) ∨ (∃ h ∈ k.arrivals, pri ≤ h.pri) ∨ ∃ e ∈ k.berths, ∃ b, e.2 = some b ∧ pri ≤ b.handle.pri := by
  simp only [someoneWaits, Bool.or_eq_true, List.any_eq_true, decide_eq_true_eq, or_assoc]
  refine or_congr_right (or_congr_right (exists_congr fun e => and_congr_right fun _ => ?_))
  cases e.2 <;> simp

theorem wbsDone_cur (s : State) (scope : ℕ) : (wbsDone (begun s scope) scope).cur = s.cur := beginRelease_cur ..

theorem riderEndInstructions : RiderEndInstructions := by
  refine ⟨fun m s h => afterRelease_of_body h rfl rfl fun t ht hexec => ?exit,
    fun m s h => afterRelease_of_body h rfl rfl fun t ht hexec => ⟨fun g k hgroup => ?member, fun hgroup => ?alone⟩,
    fun m s h => ⟨fun hlive => exec_waiting h rfl (if_pos hlive), fun hlive houts => exec_waiting h rfl ?marker,
      fun hlive houts => acquires_of_settle rfl (exec_settles h rfl ?acquire)⟩,
    fun m s h => ⟨fun hstays => exec_done h rfl (if_pos ?stays), fun hanch hwaits => exec_settles h rfl (if_neg ?leaves)⟩⟩
  case exit =>
    rw [ht, wbsDone_cur] at hexec
    rw [ht]
    exact hexec
  case member =>
    simp only [hgroup] at hexec
    exact hexec
  case alone =>
    simp only [hgroup] at hexec
    exact hexec
  case marker => exact (if_neg (by simp [hlive])).trans (if_pos (by simpa using houts))
  case acquire => exact (if_neg (by simp [hlive])).trans (if_neg (by simp [houts]))
  case stays => simpa only [← someoneWaits_iff, Bool.or_eq_true, Bool.not_eq_true', Bool.not_eq_true] using hstays
  case leaves => simp [hanch, (someoneWaits_iff ..).mpr hwaits]

/-! ### The count of an instruction that leaves (R224, R298) -/

theorem coreAt_modCore_keeps {β : Type} (p : Core → β) {f : Core → Core} (hf : ∀ k, p (f k) = p k) (s : State) (c c' : ℕ) :
    p (coreAt (modCore s c f) c') = p (coreAt s c') := by
  rw [coreAt_modCore]
  split
  · next h => rw [hf, h]
  · rfl

/-- An event of a core reaches message lists alone. -/
theorem qntm_sendEvent (s : State) (dst type slot : ℕ) (rid : BitVec 32) (detail : Word) (c : ℕ) :
    (coreAt (sendEvent s dst type slot rid detail) c).qntm = (coreAt s c).qntm := by
  have hdeliver : ∀ dst m, (coreAt (deliver s dst m) c).qntm = (coreAt s c).qntm := fun dst m =>
    coreAt_modCore_keeps Core.qntm (fun k => by split <;> rfl) s _ c
  unfold sendEvent
  dsimp only
  split
  · exact hdeliver ..
  · unfold toSupervisor
    dsimp only
    generalize (if ctxNs (coreAt s dst).ctxid = true then (dieAt s (dieOf dst)).nrid else (dieAt s (dieOf dst)).srid) = tag
    split
    · rfl
    · exact hdeliver ..

theorem threadAt_modThread_unchanged {s : State} {t : ThreadRef} {f : Thread → Thread} (hf : f (threadAt s t) = threadAt s t)
    (x : ThreadRef) : threadAt (modThread s t f) x = threadAt s x := by
  by_cases h : x.core = t.core ∧ tid x = tid t
  · have hplace : ∀ u, threadAt u x = threadAt u t := fun u => by rw [threadAt, threadAt, h.1, h.2]
    rw [hplace, hplace, threadAt_modThread_same, hf]
  · exact threadAt_modThread_other _ _ (by tauto)

theorem qntm_noteIssue (s : State) (t : ThreadRef) (c : ℕ) : (coreAt (noteIssue s t) c).qntm = (coreAt s c).qntm := by
  unfold noteIssue
  split
  · exact coreAt_modCore_keeps Core.qntm (by simp) s _ c
  · rfl

theorem threadAt_noteIssue (s : State) (t x : ThreadRef) : threadAt (noteIssue s t) x = threadAt s x := by
  unfold noteIssue
  split
  · exact threadAt_modCore _ _ _ (by simp) x
  · rfl

theorem qntm_countIssue (s : State) (t : ThreadRef) :
    aget 0 (coreAt (countIssue s t) t.core).qntm t.slot =
      if aget 0 (coreAt s t.core).qntm t.slot = 0 then 0 else aget 0 (coreAt s t.core).qntm t.slot - 1 := by
  rw [countIssue, coreAt_modCore, if_pos rfl]
  dsimp only
  split_ifs with h0 h1
  · exact h0
  · exact aget_aset_same ..
  · exact aget_aset_same ..

theorem threadAt_countIssue (s : State) (t x : ThreadRef) : threadAt (countIssue s t) x = threadAt s x :=
  threadAt_modCore _ _ _ (fun k => by dsimp only; split_ifs <;> rfl) x

/-- The counter of a slot goes down by one (R224). -/
def countDown (s : State) (t : ThreadRef) : State :=
  modCore s t.core fun k => { k with qntm := aset 0 k.qntm t.slot (aget 0 (coreAt s t.core).qntm t.slot - 1) }

/-- The threads of a slot whose counter has run out are suspended, or told to be (R224). -/
def expireSlot (s : State) (t : ThreadRef) : State :=
  (slotThreads t).foldl (fun s x => keepSuspended (modThread s x (expireThread x)) x) s

/-- The count of an instruction that leaves, by whether its thread is still in the slot and what the counter holds. -/
theorem countLeaving_stays {before s : State} (h : (threadAt s before.cur).run ≠ .free) :
    countLeaving before s = countIssue (noteIssue s before.cur) before.cur := by
  simp [countLeaving, threadAt_noteIssue, h]

section
variable {before s : State} (h : (threadAt s before.cur).run = .free)
include h

theorem countLeaving_off (hq : aget 0 (coreAt s before.cur.core).qntm before.cur.slot = 0) :
    countLeaving before s = noteIssue s before.cur := by
  simp only [countLeaving, threadAt_noteIssue, h, bne_self_eq_false, Bool.false_eq_true, if_false, qntm_noteIssue]
  exact if_pos hq

theorem countLeaving_counts (hq0 : aget 0 (coreAt s before.cur.core).qntm before.cur.slot ≠ 0)
    (hq1 : aget 0 (coreAt s before.cur.core).qntm before.cur.slot ≠ 1) :
    countLeaving before s = countDown (noteIssue s before.cur) before.cur := by
  simp only [countLeaving, countDown, threadAt_noteIssue, h, bne_self_eq_false, Bool.false_eq_true, if_false, qntm_noteIssue]
  exact (if_neg hq0).trans (if_pos hq1)

theorem countLeaving_expires (hq : aget 0 (coreAt s before.cur.core).qntm before.cur.slot = 1) :
    countLeaving before s = sendEvent (expireSlot (countDown (noteIssue s before.cur) before.cur) before.cur) before.cur.core 0x50
      before.cur.slot (me before).rid (word (nextUnit (me before))) := by
  simp only [countLeaving, countDown, threadAt_noteIssue, h, bne_self_eq_false, Bool.false_eq_true, if_false, qntm_noteIssue]
  exact (if_neg (by rw [hq]; decide)).trans (if_neg (not_not.mpr hq))

end

theorem qntm_countDown (s : State) (t : ThreadRef) :
    aget 0 (coreAt (countDown s t) t.core).qntm t.slot = aget 0 (coreAt s t.core).qntm t.slot - 1 := by
  rw [countDown, coreAt_modCore, if_pos rfl]
  exact aget_aset_same ..

theorem threadAt_countDown (s : State) (t x : ThreadRef) : threadAt (countDown s t) x = threadAt s x :=
  threadAt_modCore _ _ _ (by simp) x

theorem keepSuspended_cores (s : State) (t : ThreadRef) : (keepSuspended s t).cores = s.cores := by
  unfold keepSuspended
  split <;> rfl

theorem qntm_expireSlot (s : State) (t : ThreadRef) (c : ℕ) : (coreAt (expireSlot s t) c).qntm = (coreAt s c).qntm := by
  refine foldl_keeps (fun u => (coreAt u c).qntm) _ (fun u x => ?_) _ _
  simp only [coreAt, keepSuspended_cores]
  exact coreAt_modThread_qntm ..

/-- A deck slot that its rider has left holds no thread to suspend. -/
theorem threadAt_expireSlot {s : State} {t : ThreadRef} (hdeck : t.slot < 7) (h : (threadAt s t).run = .free) (x : ThreadRef) :
    threadAt (expireSlot s t) x = threadAt s x := by
  have hone : slotThreads t = [t] := if_neg (by omega)
  rw [expireSlot, hone, List.foldl_cons, List.foldl_nil]
  have hcores := keepSuspended_cores (modThread s t (expireThread t)) t
  rw [threadAt, coreAt, hcores]
  exact threadAt_modThread_unchanged (by rw [expireThread, h]) x

theorem qntm_countLeaving (before s : State) :
    aget 0 (coreAt (countLeaving before s) before.cur.core).qntm before.cur.slot =
      if aget 0 (coreAt s before.cur.core).qntm before.cur.slot = 0 then 0
      else aget 0 (coreAt s before.cur.core).qntm before.cur.slot - 1 := by
  by_cases hfree : (threadAt s before.cur).run = .free
  · by_cases hq0 : aget 0 (coreAt s before.cur.core).qntm before.cur.slot = 0
    · rw [countLeaving_off hfree hq0, qntm_noteIssue, if_pos hq0, hq0]
    rw [if_neg hq0]
    by_cases hq1 : aget 0 (coreAt s before.cur.core).qntm before.cur.slot = 1
    · rw [countLeaving_expires hfree hq1, qntm_sendEvent, qntm_expireSlot, qntm_countDown, qntm_noteIssue]
    · rw [countLeaving_counts hfree hq0 hq1, qntm_countDown, qntm_noteIssue]
  · rw [countLeaving_stays hfree, qntm_countIssue, qntm_noteIssue]

theorem threadAt_countLeaving {before s : State} (hdeck : before.cur.slot < 7) (x : ThreadRef) :
    threadAt (countLeaving before s) x = threadAt s x := by
  by_cases hfree : (threadAt s before.cur).run = .free
  · by_cases hq0 : aget 0 (coreAt s before.cur.core).qntm before.cur.slot = 0
    · rw [countLeaving_off hfree hq0, threadAt_noteIssue]
    by_cases hq1 : aget 0 (coreAt s before.cur.core).qntm before.cur.slot = 1
    · rw [countLeaving_expires hfree hq1, threadAt_sendEvent,
        threadAt_expireSlot hdeck (by rw [threadAt_countDown, threadAt_noteIssue, hfree]), threadAt_countDown, threadAt_noteIssue]
    · rw [countLeaving_counts hfree hq0 hq1, threadAt_countDown, threadAt_noteIssue]
  · rw [countLeaving_stays hfree, threadAt_countIssue, threadAt_noteIssue]

theorem leavingCountsTheIssue : LeavingCountsTheIssue := by
  intro s s'
  obtain ⟨hdram, hsram⟩ := sameMem_countLeaving s s'
  exact ⟨hdram, hsram, qntm_countLeaving s s', threadAt_countLeaving, fun _ hfree hq => ⟨_, countLeaving_expires hfree hq⟩⟩

/-- Settles O31: each instruction does, refuses or waits for what its rule says, and one with which its rider leaves counts in the slot's
counter, whichever thread is then in the slot. -/
theorem riderInstructionResults : Obligations.RiderInstructionResults :=
  ⟨riderInstructions, riderEndInstructions, leavingCountsTheIssue⟩

end Sys2Proof.Machine
end

section
/-! # Messages on their way

What the insertion of a message comes to, and how its sender learns the answer (R199, R201, R357). -/

namespace Sys2Proof.Machine
open Sys2Proof.Claims

theorem exec_messageInsert_held {core : ℕ} {s : State} (h : (coreAt s core).idle = true ∨ s.now ≤ (coreAt s core).inserted) :
    exec (.messageInsert core) s = .next s :=
  congrArg Host.Outcome.next (if_pos (by simpa using h))

/-- The queue of a core with one message more, inserted now. -/
def queued (m : Msg) (now : ℕ) (k : Core) : Core := { k with msgs := k.msgs ++ [m], inserted := now }

/-- A message of a rider that has not ended and is not saved joins the queue, and nothing else happens (R201, R223). -/
theorem insertMessage_plain {s : State} {core : ℕ} {m : Msg} {f : Core → Core} (hf : ∀ k, (f k).srt = k.srt)
    (hended : s.ended.contains m.tag.toNat = false) (hsaved : srtHolds (coreAt s core) m.tag = false) :
    insertMessage (modCore s core f) core m = modCore (modCore s core f) core (queued m s.now) := by
  have hsrt : srtHolds (coreAt (modCore (modCore s core f) core (queued m s.now)) core) m.tag = false := by
    rw [coreAt_modCore, if_pos rfl, coreAt_modCore, if_pos rfl, ← hsaved]
    simp only [srtHolds, queued, hf]
  refine (if_neg (Bool.eq_false_iff.mp hended)).trans (if_neg ?_)
  rw [Bool.and_eq_true, not_and]
  exact fun h => absurd (hsrt.symm.trans h) Bool.false_ne_true

section
variable {core : ℕ} {s : State} {m : Msg} {rest : List Msg} (hidle : (coreAt s core).idle = false)
  (hturn : (coreAt s core).inserted < s.now)
include hidle hturn

theorem exec_messageInsert_event (hevq : (coreAt s core).evq = m :: rest) (hroom : queueRoom (coreAt s core) true = true) :
    exec (.messageInsert core) s = .next (insertMessage (modCore s core fun k => { k with evq := rest }) core m) := by
  refine congrArg Host.Outcome.next ((if_neg (by simp [hidle, hturn])).trans ?_)
  simp only [hevq, hroom, if_true]

theorem exec_messageInsert_sent (hevq : (coreAt s core).evq = []) (hni : (coreAt s core).ni = m :: rest) (hcame : m.came < s.now) :
    exec (.messageInsert core) s = .next (takeSent (modCore s core fun k => { k with ni := rest }) core m) := by
  have hdrop : modCore s core (fun k => { k with ni := k.ni.drop 1 }) = modCore s core fun k => { k with ni := rest } :=
    modCore_congr (by simp only [hni, List.drop_one, List.tail_cons])
  refine congrArg Host.Outcome.next ((if_neg (by simp [hidle, hturn])).trans ?_)
  simp only [hevq, hni, List.takeWhile_cons, hcame, decide_true, if_true, hdrop]

end

theorem takeSent_mismatch {s : State} {core : ℕ} {m : Msg} (hsrc : m.src.isSome = true) (hctx : (coreAt s core).ctxid ≠ m.ctx) :
    takeSent s core m = answerSender s m 2 := if_pos (by simp [hsrc, hctx])

theorem takeSent_unanswered {s : State} {core : ℕ} {m : Msg} (hsrc : m.src = none) (hroom : queueRoom (coreAt s core) m.system = true) :
    takeSent s core m = insertMessage s core m := by
  simp only [takeSent, answerSender, hsrc, hroom, Option.isSome_none, Bool.false_and, Bool.not_true, Bool.false_eq_true, if_false]

theorem messagesMove : MessagesMove := by
  refine ⟨fun core s h => exec_messageInsert_held h, fun core s m rest hidle hturn hevq hroom hended hsaved => ?event,
    fun core s m rest hidle hturn hevq hni hcame hsrc hroom hended hsaved => ?sent,
    fun core s m rest x hidle hturn hevq hni hcame hsrc hctx hrun hprog => ?mismatch, fun t s v hrun hprog hv => ?answer,
    fun t s hrun hprog => ?retry⟩
  case event =>
    refine givesSome_of_exec (exec_messageInsert_event hidle hturn hevq hroom) ?_
    rw [insertMessage_plain (by simp) hended hsaved]
    simp [queued]
  case sent =>
    refine givesSome_of_exec (exec_messageInsert_sent hidle hturn hevq hni hcame) ?_
    rw [takeSent_unanswered hsrc (by rw [coreAt_modCore, if_pos rfl]; exact hroom), insertMessage_plain (by simp) hended hsaved]
    simp [queued]
  case mismatch =>
    refine givesSome_of_exec (exec_messageInsert_sent hidle hturn hevq hni hcame) ?_
    rw [takeSent_mismatch (by simp [hsrc]) (by rw [coreAt_modCore, if_pos rfl]; exact hctx)]
    have hsender : threadAt (modCore s core fun k => { k with ni := rest }) x = threadAt s x := threadAt_modCore _ _ _ (by simp) x
    simp [answerSender, hsrc, hsender, hrun, hprog]
  case answer =>
    refine givesSome_of_exec (t := modThread s t fun th => { th with run := .ready }) ?_ (threadAt_modThread_same ..)
    refine congrArg Host.Outcome.next ?_
    simp only [hrun, hprog, hv, if_false]
  case retry =>
    refine givesSome_of_exec (t := modThread s t fun th => { th with run := .ready, prog := .none }) ?_ (threadAt_modThread_same ..)
    refine congrArg Host.Outcome.next ?_
    simp only [hrun, hprog]

end Sys2Proof.Machine
end

section
/-! # Riders on their way

What the departure of a rider comes to, and its arrival or return (R190-R193, R195, R328). -/

namespace Sys2Proof.Machine
open Sys2Proof.Claims

/-! ### What the riders of a package are while lines and messages move -/

/-- The riders that travel, and what a thread is. -/
def ridersAt (x : ThreadRef) (s : State) : List Travel × Thread := (s.travels, threadAt s x)

theorem ridersAt_modCore (x : ThreadRef) {s : State} {c : ℕ} {f : Core → Core} (hf : ∀ k, (f k).threads = k.threads) :
    ridersAt x (modCore s c f) = ridersAt x s := congrArg (s.travels, ·) (threadAt_modCore _ _ _ hf x)

theorem ridersAt_mergeL1s (x : ThreadRef) (s : State) (die pa : ℕ) (m : BitVec 64) (d : Line) (bad : Bool) :
    ridersAt x (mergeL1s s die pa m d bad) = ridersAt x s := by
  refine foldl_keeps (ridersAt x) _ (fun s c => ?_) _ _
  split
  · exact ridersAt_modCore x (by simp)
  · rfl

theorem ridersAt_sendBytes (x : ThreadRef) (s : State) (die core pa : ℕ) (t : ThreadRef) (ns : Bool) (m : BitVec 64) (d : Line)
    (bad : Bool) : ridersAt x (sendBytes s die core pa t ns m d bad) = ridersAt x s := by
  unfold sendBytes
  dsimp only
  split_ifs <;> rfl

theorem ridersAt_flushDeferred (x : ThreadRef) (s : State) (die core pa : ℕ) (t : ThreadRef) :
    ridersAt x (flushDeferred s die core pa t) = ridersAt x s := by
  unfold flushDeferred
  dsimp only
  split
  · rfl
  · rw [ridersAt_sendBytes, ridersAt_sendBytes, ridersAt_mergeL1s]
    rfl

/-- The start of a release at package scope takes from its thread the deferred lines, which leave, and notes what it waits for. -/
theorem beginRelease_far (s : State) (t : ThreadRef) : (beginRelease s t 3).travels = s.travels ∧
    ∃ ids, threadAt (beginRelease s t 3) t = { threadAt s t with dlines := [], wbs := ids } := by
  have hflushed : ∀ lines : List ℕ,
      ridersAt t (lines.foldl (fun s pa => flushDeferred s (dieOf t.core) t.core pa t) s) = ridersAt t s := fun lines =>
    foldl_keeps (ridersAt t) _ (fun s pa => ridersAt_flushDeferred ..) lines s
  obtain ⟨htravels, hthread⟩ := Prod.mk.inj (hflushed (threadAt s t).dlines)
  rw [beginRelease, if_neg (lt_irrefl 3)]
  dsimp only
  rw [threadAt_modThread_same, hthread]
  exact ⟨htravels, _, rfl⟩

/-! ### Departure (R190, R191, R195) -/

/-- A thread whose rider departs, as it has released (R190). -/
def releasedOf (s : State) (t : ThreadRef) : State := modThread (beginRelease s t 3) t fun th => { th with wbs := [] }

theorem travels_releasedOf (s : State) (t : ThreadRef) : (releasedOf s t).travels = s.travels := (beginRelease_far s t).1

theorem threadAt_releasedOf (s : State) (t : ThreadRef) :
    threadAt (releasedOf s t) t = { threadAt s t with dlines := [], wbs := [] } := by
  obtain ⟨-, ids, hthread⟩ := beginRelease_far s t
  rw [releasedOf, threadAt_modThread_same, hthread]

theorem rid_packetContext (th : Thread) : (packetContext th).rid = th.rid := rfl

/-- The packet of the rider carries what its thread held before the release. -/
theorem rid_packetContext_releasedOf (s : State) (t : ThreadRef) :
    (packetContext (threadAt (releasedOf s t) t)).rid = (threadAt s t).rid := by
  rw [rid_packetContext, threadAt_releasedOf]

theorem pc_packetContext_releasedOf (s : State) (t : ThreadRef) :
    (packetContext (threadAt (releasedOf s t) t)).pc = (packetContext (threadAt s t)).pc := by
  rw [threadAt_releasedOf]
  rfl

/-- The context of a rider that migrates: it goes on at the unit after its MIGRATE, with STAY 0 (R195). -/
def migrated (th ctx : Thread) : Thread := { ctx with pc := word (nextUnit th), ss := { ctx.ss with stay := false } }

theorem rid_migrated (th ctx : Thread) : (migrated th ctx).rid = ctx.rid := rfl

section
variable {t : ThreadRef} {s : State} {c : ℕ} (hsusp : (threadAt s t).susp = false) (hfroz : (threadAt s t).froz = false)
  (houts : (threadAt s t).outs = []) (hrel : released (beginRelease s t 3) t 3 = true)
include hsusp hfroz houts hrel

theorem exec_travelDepart_migrate (hrun : (threadAt s t).run = .departing (.migrate c)) :
    exec (.travelDepart t) s = .next (sendRider (releasedOf s t) t c
      (migrated (threadAt s t) (packetContext (threadAt (releasedOf s t) t))) false) := by
  refine congrArg Host.Outcome.next ?_
  simp only [hrun, hsusp, hfroz, houts, hrel, List.isEmpty_nil, Bool.not_true, Bool.or_self, Bool.false_eq_true, if_false,
    releasedOf, migrated]

theorem exec_travelDepart_go (hrun : (threadAt s t).run = .departing (.go c)) :
    exec (.travelDepart t) s = .next (sendRider (releasedOf s t) t c (packetContext (threadAt (releasedOf s t) t)) true) := by
  refine congrArg Host.Outcome.next ?_
  simp only [hrun, hsusp, hfroz, houts, hrel, List.isEmpty_nil, Bool.not_true, Bool.or_self, Bool.false_eq_true, if_false,
    releasedOf]

end

theorem travels_sendEvent (s : State) (c type slot : ℕ) (rid : BitVec 32) (d : Word) :
    (sendEvent s c type slot rid d).travels = s.travels := by
  unfold sendEvent toSupervisor
  dsimp only
  split
  · rfl
  · generalize (if ctxNs (coreAt s c).ctxid = true then (dieAt s (dieOf c)).nrid else (dieAt s (dieOf c)).srid) = tag
    split <;> rfl

theorem travels_withdraw (s : State) (t : ThreadRef) : (withdraw s t).travels = s.travels :=
  foldl_keeps State.travels _ (fun s r => by unfold setBarrier; split <;> rfl) _ s

theorem travels_freeSlot (s : State) (t : ThreadRef) : (freeSlot s t).travels = s.travels := by
  unfold freeSlot
  dsimp only
  split
  · rw [travels_sendEvent, modCore_travels, setThread_travels, travels_withdraw]
  · rw [modCore_travels, setThread_travels, travels_withdraw]

/-- A rider that goes to another core leaves its slot FREE and joins those that travel (R191). -/
theorem sendRider_away {s : State} {t : ThreadRef} {c : ℕ} (hc : c ≠ t.core) (ctx : Thread) (go : Bool) :
    threadAt (sendRider s t c ctx go) t = Thread.reset ∧ (sendRider s t c ctx go).travels = s.travels ++
      [⟨s.nextId, c, t.core, ctxAsid (coreAt s t.core).ctxid, ctxNs (coreAt s t.core).ctxid, ctx, false, false, go⟩] := by
  simp only [sendRider, hc, if_false]
  exact ⟨threadAt_freeSlot .., travels_freeSlot ..⟩

/-! ### Arrival and return (R192, R193, R328) -/

section
variable {n : ℕ} {s : State} {x : Travel} (hx : (s.travels.find? fun x => x.id == n) = some x)
include hx

theorem exec_travelArrival (hback : x.back = false) (hspawn : x.spawn = false) :
    exec (.travelArrival n) s = .next (riderArrives s x) := by
  refine congrArg Host.Outcome.next ?_
  simp only [hx, hback, hspawn, Bool.or_self, Bool.false_eq_true, if_false]

theorem exec_spawnArrival (hback : x.back = false) (hspawn : x.spawn = true) :
    exec (.spawnArrival n) s = .next (riderArrives s x) := by
  refine congrArg Host.Outcome.next ?_
  simp only [hx, hback, hspawn, Bool.not_true, Bool.or_self, Bool.false_eq_true, if_false]

theorem exec_travelReturn (hback : x.back = true) (hfenced : (dieAt s (dieOf (forwarded s x.src))).fenced = false) :
    exec (.travelReturn n) s = .next (riderReaches s (forwarded s x.src) x (returnedContext x)) := by
  refine congrArg Host.Outcome.next ?_
  simp only [hx, hback, hfenced, Bool.not_true, Bool.false_eq_true, if_false]

end

theorem riderReaches_alive {s : State} {core : ℕ} {x : Travel} (hkilled : (coreAt s core).killed = false) (ctx : Thread) :
    riderReaches s core x ctx =
      enterArrival { s with travels := s.travels.filter fun y => y.id != x.id } core { ctx with arrival := s.now } :=
  if_neg (Bool.eq_false_iff.mp hkilled)

theorem riderArrives_taken {s : State} {x : Travel} (htakes : takesContext s (forwarded s x.dst) x = true) :
    riderArrives s x = riderReaches s (forwarded s x.dst) x x.ctx := if_pos htakes

theorem riderArrives_returned {s : State} {x : Travel} (htakes : takesContext s (forwarded s x.dst) x = false) :
    riderArrives s x = { s with travels := s.travels.map fun y => if y.id = x.id then { y with back := true } else y } :=
  if_neg (Bool.eq_false_iff.mp htakes)

theorem ridersTravel : RidersTravel := by
  refine ⟨fun t s c hrun hsusp hfroz houts hrel hc => ?migrate, fun t s c hrun hsusp hfroz houts hrel hc => ?go,
    fun n s x hx hback hspawn htakes hkilled => ?arrives, fun n s x hx hback hspawn htakes hkilled => ?starts,
    fun n s x hx hback htakes => ⟨fun hspawn => ?refused, fun hspawn => ?refusedStart⟩,
    fun n s x hx hback hspawn hfenced hkilled => ⟨fun hgo => ?returns, fun hgo => ?stays⟩⟩
  case migrate =>
    obtain ⟨hfree, htravels⟩ := sendRider_away (s := releasedOf s t) hc
      (migrated (threadAt s t) (packetContext (threadAt (releasedOf s t) t))) false
    rw [travels_releasedOf] at htravels
    have hrid := (rid_migrated (threadAt s t) (packetContext (threadAt (releasedOf s t) t))).trans (rid_packetContext_releasedOf s t)
    exact givesSome_of_exec (exec_travelDepart_migrate hsusp hfroz houts hrel hrun)
      ⟨hfree, _, htravels, rfl, rfl, rfl, rfl, rfl, hrid, rfl, rfl⟩
  case go =>
    obtain ⟨hfree, htravels⟩ := sendRider_away (s := releasedOf s t) hc (packetContext (threadAt (releasedOf s t) t)) true
    rw [travels_releasedOf] at htravels
    exact givesSome_of_exec (exec_travelDepart_go hsusp hfroz houts hrel hrun)
      ⟨hfree, _, htravels, rfl, rfl, rfl, pc_packetContext_releasedOf s t, rid_packetContext_releasedOf s t⟩
  case arrives =>
    exact (exec_travelArrival hx hback hspawn).trans
      (congrArg Host.Outcome.next ((riderArrives_taken htakes).trans (riderReaches_alive hkilled _)))
  case starts =>
    exact (exec_spawnArrival hx hback hspawn).trans
      (congrArg Host.Outcome.next ((riderArrives_taken htakes).trans (riderReaches_alive hkilled _)))
  case refused => exact (exec_travelArrival hx hback hspawn).trans (congrArg Host.Outcome.next (riderArrives_returned htakes))
  case refusedStart => exact (exec_spawnArrival hx hback hspawn).trans (congrArg Host.Outcome.next (riderArrives_returned htakes))
  case returns =>
    have hctx : returnedContext x = { x.ctx with stuck := true } := by
      simp only [returnedContext, hspawn, hgo, Bool.false_eq_true, if_false, if_true]
    rw [Gives, exec_travelReturn hx hback hfenced, riderReaches_alive hkilled, hctx]
  case stays =>
    have hctx : returnedContext x = { x.ctx with ss := { x.ctx.ss with stay := true } } := by
      simp only [returnedContext, hspawn, hgo, Bool.false_eq_true, if_false]
    rw [Gives, exec_travelReturn hx hback hfenced, riderReaches_alive hkilled, hctx]

/-- Settles O51: a message is inserted, refused or offered again by the state of its queue and its sender, and a rider departs, arrives or
returns by what its thread and its destination stand at. -/
theorem messagesAndTravel : Obligations.MessagesAndTravel := ⟨messagesMove, ridersTravel⟩

end Sys2Proof.Machine
end

section
/-! # The dispatcher

What the front end's pop, the hand-out of batches, the placement of groups, the end of a grid and the election of the pilot come to
(R205, R209-R217). -/

namespace Sys2Proof.Machine
open Sys2Proof.Claims

/-! ### The front end (R209-R212) -/

theorem frontMayPop_of {s : State} (helect : s.electing = false) (hgrids : s.grids.length < 64)
    (hpers : (bankAt s s.lqCore.toNat s.lqBank.toNat).p.pers = 1) (hesz : (bankAt s s.lqCore.toNat s.lqBank.toNat).p.esz = 3)
    (hbusy : (bankAt s s.lqCore.toNat s.lqBank.toNat).busy = false) (hcount : (bankAt s s.lqCore.toNat s.lqBank.toNat).count ≠ 0) :
    frontMayPop s = true := by
  simp [frontMayPop, helect, hgrids, hpers, hesz, hbusy, hcount]

theorem exec_frontEndPop_now {s : State} (hmay : frontMayPop s = true)
    (hidle : bankIdle (bankAt s s.lqCore.toNat s.lqBank.toNat) = true) : exec .frontEndPop s = .next (popGroup s) := by
  have hnone : ((bankAt s s.lqCore.toNat s.lqBank.toNat).queue ++ (bankAt s s.lqCore.toNat s.lqBank.toNat).net).any
      (fun q => q.cmd == .launch) = false := by
    simp only [bankIdle, Bool.and_eq_true, List.isEmpty_iff] at hidle
    obtain ⟨⟨⟨hqueue, hnet⟩, -⟩, -⟩ := hidle
    rw [hqueue, hnet]
    rfl
  refine congrArg Host.Outcome.next ?_
  simp only [hnone, hmay, hidle, Bool.not_true, Bool.false_eq_true, if_false, if_true]

theorem exec_frontEndPop_waits {s : State} (hmay : frontMayPop s = true)
    (hbusy : bankIdle (bankAt s s.lqCore.toNat s.lqBank.toNat) = false)
    (hnone : ∀ q ∈ (bankAt s s.lqCore.toNat s.lqBank.toNat).queue ++ (bankAt s s.lqCore.toNat s.lqBank.toNat).net, q.cmd ≠ .launch) :
    exec .frontEndPop s = .next (admitBank s s.lqCore.toNat s.lqBank.toNat (launchReq s)) := by
  have hany : ((bankAt s s.lqCore.toNat s.lqBank.toNat).queue ++ (bankAt s s.lqCore.toNat s.lqBank.toNat).net).any
      (fun q => q.cmd == .launch) = false :=
    List.any_eq_false.mpr fun q hq => by simpa using hnone q hq
  refine congrArg Host.Outcome.next ?_
  simp only [hany, hmay, hbusy, Bool.not_true, Bool.false_eq_true, if_false]

/-! ### Batches and groups (R211, R216, R217) -/

/-- A grid whose argument bytes are stored has none left to store (R211). -/
theorem storeArgs_stored {s : State} (h : ∀ g ∈ s.grids, g.inline = []) (key fuel : ℕ) : storeArgs s key fuel = s := by
  cases fuel with
  | zero => rfl
  | succ fuel =>
    unfold storeArgs
    split
    · rfl
    · next g hg => simp [h g (List.mem_of_find?_eq_some hg)]

theorem foldl_storeArgs_stored {s : State} (h : ∀ g ∈ s.grids, g.inline = []) (gs : List Grid) :
    gs.foldl (fun s (g : Grid) => storeArgs s g.key 4) s = s := by
  induction gs with
  | nil => rfl
  | cons g gs ih => rw [List.foldl_cons, storeArgs_stored h, ih]

/-- A batch joins those of its die, its indices leave the grid, and the die is the one served last (R216). -/
def handedOut (s : State) (die : ℕ) (g : Grid) : State :=
  let l := batchFor s die g
  { modGrid (modDie s die fun d => { d with batches := d.batches ++ [⟨g.key, l⟩] }) g.key fun g =>
      if g.back.isEmpty then { g with next := g.next + l.length } else { g with back := g.back.drop l.length }
    with served := die }

theorem batches_handedOut (s : State) (die : ℕ) (g : Grid) :
    (dieAt (handedOut s die g) die).batches = (dieAt s die).batches ++ [⟨g.key, batchFor s die g⟩] := by
  have hdie := dieAt_modDie s die die fun d => { d with batches := d.batches ++ [⟨g.key, batchFor s die g⟩] }
  rw [if_pos rfl] at hdie
  exact congrArg Die.batches hdie

theorem exec_batchHandout {die : ℕ} {s : State} {g : Grid} (hstored : ∀ x ∈ s.grids, x.inline = []) (helect : s.electing = false)
    (hgrid : chosenGrid s = some g) (hdie : (((List.range 4).map fun i => (s.served + 1 + i) % 4).find? (requests s g)) = some die) :
    exec (.batchHandout die) s = .next (handedOut s die g) := by
  refine congrArg Host.Outcome.next ?_
  simp only [foldl_storeArgs_stored hstored, helect, hgrid, hdie, Bool.false_eq_true, if_false, ne_eq, not_true_eq_false]
  rfl

theorem exec_groupPlace {die key i : ℕ} {s : State} {rest : List ℕ} {g : Grid} {c : ℕ} {more}
    (hbatch : (dieAt s die).batches = ⟨key, i :: rest⟩ :: more) (hgrid : gridAt s key = some g) (hplace : placeFor s die g = some c) :
    exec (.groupPlace die) s = .next (if !(banksOf g.banks).all (bankQuiet s c) then s else
      placeGroup (modDie s die fun d => { d with batches := if rest.isEmpty then more else ⟨key, rest⟩ :: more }) c g i) := by
  refine congrArg Host.Outcome.next ?_
  simp only [hbatch, hgrid, hplace]

/-! ### The end of a grid and the election (R205, R214, R215) -/

theorem exec_gridComplete {gid : ℕ} {s : State} {g : Grid} (hgrid : (s.grids.find? fun g => g.gid.toNat == gid) = some g)
    (harg : g.argFail = false) (hmore : g.noMore = false) (hended : g.ended = gridTotal g.size) (hsettled : gridSettled s g = true) :
    exec (.gridComplete gid) s = .next (removeGrid (report s 0x41 0 g.gid (word (gridTotal g.size))) g.key true) := by
  refine congrArg Host.Outcome.next ?_
  simp only [hgrid, harg, hmore, hended, hsettled, Bool.false_and, Bool.false_eq_true, if_false, and_self, if_true]

theorem reports_report (s : State) (type code : ℕ) (gid : BitVec 16) (detail : Word) :
    (report s type code gid detail).reports =
      s.reports ++ [(word (type * 2 ^ 56 + code * 2 ^ 48 + gid.toNat * 2 ^ 32 + s.seq.toNat), detail)] := by
  unfold report tellHost
  dsimp only
  split <;> rfl

/-- A grid that has left the table is not found there by its key. -/
theorem key_of_mem_removeGrid {s : State} {key : ℕ} {complete : Bool} {x : Grid} (hx : x ∈ (removeGrid s key complete).grids) :
    x.key ≠ key := by
  obtain ⟨y, hy, rfl⟩ := List.mem_map.mp hx
  have hkey : y.key ≠ key := by simpa using (List.mem_filter.mp hy).2
  split <;> exact hkey

theorem exec_pilotElection {s : State} {d : ℕ} (helect : s.electing = true)
    (hdie : ((List.range 4).find? fun d => !(dieAt s d).fenced) = some d) :
    exec .pilotElection s = .next { s with pilot := d, electing := false } := by
  refine congrArg Host.Outcome.next ?_
  simp only [helect, hdie, Bool.not_true, Bool.false_eq_true, if_false]

/-- Settles O53: each act of the dispatcher by what its queue, its grid or its die stands at. -/
theorem dispatcherActs : Obligations.DispatcherActs := by
  refine ⟨fun s => ?pop, fun s => exec_frontEndPop_waits,
    fun die s g hstored helect hgrid hdie =>
      givesSome_of_exec (exec_batchHandout hstored helect hgrid hdie) ⟨batches_handedOut s die g, rfl⟩,
    fun die s key i rest more g c hbatch hgrid hplace => ⟨fun hquiet => ?place, fun hquiet => ?later⟩,
    fun gid s g hgrid harg hmore hended hsettled =>
      givesSome_of_exec (exec_gridComplete hgrid harg hmore hended hsettled) ⟨fun x => key_of_mem_removeGrid, ?report⟩,
    fun s d => exec_pilotElection⟩
  case pop =>
    intro core bank b x s1 helect hgrids hpers hesz hbusy hcount hidle
    have hexec := exec_frontEndPop_now (frontMayPop_of helect hgrids hpers hesz hbusy hcount) hidle
    refine ⟨fun hcode => hexec.trans (congrArg Host.Outcome.next (if_neg (not_not.mpr hcode))),
      fun hcode => hexec.trans (congrArg Host.Outcome.next (if_pos hcode))⟩
  case place => rw [Gives, exec_groupPlace hbatch hgrid hplace, hquiet]; rfl
  case later => rw [Gives, exec_groupPlace hbatch hgrid hplace, hquiet]; rfl
  case report => exact reports_report ..

end Sys2Proof.Machine
end

section
/-! # The turn of a thread

What the turn of a READY thread comes to, and which thread has its turn (R183, R206, R225, R287). -/

namespace Sys2Proof.Machine
open Sys2Proof.Claims

/-! ### Who has its turn (R206, R225) -/

theorem canTurn_of_hasTurn {s : State} {t : ThreadRef} (h : hasTurn s t = true) : canTurn s t = true := by
  rw [hasTurn, Bool.and_eq_true] at h
  obtain ⟨-, hturn⟩ := h
  split at hturn
  · rw [Bool.and_eq_true, beq_iff_eq, beq_iff_eq] at hturn
    obtain ⟨hth, hselected⟩ := hturn
    have hslot := List.find?_some hselected
    rwa [← hth] at hslot
  · exact hturn

theorem canTurn_unexpired {s : State} {t : ThreadRef} (h : expired s t = false) : canTurn s t = canIssue (threadAt s t) := by
  simp [canTurn, h]

/-- A thread that is not in a skip window and has no fault to take turns only while its quantum has not run out (R224, R289). -/
theorem unexpired_of_canTurn {s : State} {t : ThreadRef} (h : canTurn s t = true) (hskp : (threadAt s t).ss.skp = 0)
    (hprog : ¬fetchFailed (threadAt s t)) : canIssue (threadAt s t) = true ∧ expired s t = false := by
  rw [canTurn, Bool.and_eq_true] at h
  obtain ⟨hissue, hturn⟩ := h
  refine ⟨hissue, ?_⟩
  split at hturn
  · next f hf => exact absurd ⟨f, hf⟩ hprog
  · simpa [hskp] using hturn

/-! ### The thread at its turn (R186, R287) -/

/-- A thread at its turn: with PP 0 a descriptor or a REPC that it holds is dropped. -/
def turned (th : Thread) : Thread := if th.ss.pp = false ∧ (th.desc ≠ ⟨0, 0⟩ ∨ th.ss.repc ≠ 0) then dropStale th else th

theorem turned_of_pp {th : Thread} (h : th.ss.pp = true) : turned th = th := if_neg (by simp [h])

theorem ss_turned (th : Thread) : (turned th).ss.pp = th.ss.pp ∧ (turned th).ss.skp = th.ss.skp ∧ (turned th).ss.priv = th.ss.priv := by
  unfold turned
  split <;> exact ⟨rfl, rfl, rfl⟩

theorem pc_turned (th : Thread) : (turned th).pc = th.pc := by
  unfold turned
  split <;> rfl

theorem prog_turned (th : Thread) : (turned th).prog = th.prog := by
  unfold turned
  split <;> rfl

/-- The state in which a thread has its turn, before anything is dropped. -/
def atTurn (s : State) (t : ThreadRef) (dt : ℕ) (rest : List Move) : State :=
  { s with agenda := rest, now := s.now + dt, stepNo := s.stepNo + 1, cur := t }

theorem turnOf_eq (s : State) (t : ThreadRef) (dt : ℕ) (rest : List Move) : turnOf s t dt rest =
    if (threadAt s t).ss.pp || ((threadAt s t).desc == ⟨0, 0⟩ && (threadAt s t).ss.repc == 0) then atTurn s t dt rest
    else modMe (atTurn s t dt rest) dropStale := by
  have hstale : (threadAt s t).ss.pp = false ∧ ((threadAt s t).desc ≠ ⟨0, 0⟩ ∨ (threadAt s t).ss.repc ≠ 0) ↔
      ¬((threadAt s t).ss.pp || ((threadAt s t).desc == ⟨0, 0⟩ && (threadAt s t).ss.repc == 0)) = true := by
    simp only [Bool.or_eq_true, Bool.and_eq_true, beq_iff_eq, not_or, not_and_or, Bool.not_eq_true]
  refine (if_congr hstale rfl rfl).trans ?_
  rw [ite_not]
  rfl

theorem me_turnOf (s : State) (t : ThreadRef) (dt : ℕ) (rest : List Move) : me (turnOf s t dt rest) = turned (threadAt s t) := by
  unfold turnOf turned
  dsimp only
  split
  · exact threadAt_modThread_same ..
  · rfl

theorem expired_turnOf (s : State) (t : ThreadRef) (dt : ℕ) (rest : List Move) :
    expired (turnOf s t dt rest) (turnOf s t dt rest).cur = expired s t := by
  unfold turnOf
  dsimp only
  split
  · simp only [expired, modThread_cur, coreAt_modThread_qexp]
    rfl
  · rfl

/-- The unit that a thread decodes at its turn is what it executes (R206, R287). -/
theorem nextAct_atTurn {s s' : State} {t : ThreadRef} {dt : ℕ} {rest : List Move} {w : IWord} {i : Instr}
    (hissue : canIssue (threadAt s t) = true) (hunexpired : expired s t = false) (hskp : (threadAt s t).ss.skp = 0)
    (hprog : ¬fetchFailed (threadAt s t)) (hpriv : (threadAt s t).ss.priv ≠ 3)
    (hdesc : (threadAt s t).ss.pp = true → descValid (threadAt s t) = true)
    (hfetch : fetchWord (turnOf s t dt rest) (((threadAt s t).pc.toNat + 4 * (if (threadAt s t).ss.pp then
      b01 ((threadAt s t).desc.fmt != 0) + b01 ((threadAt s t).desc.rep != 0) else 0)) % 2 ^ 64) = .word w s')
    (hdecode : decode w = .ok i) : nextAct (atTurn s t dt rest) = .exec i s' := by
  obtain ⟨hpp, hskp', hpriv'⟩ := ss_turned (threadAt s t)
  have hvalid : ((threadAt s t).ss.pp && !descValid (turned (threadAt s t))) = false := by
    rcases hp : (threadAt s t).ss.pp
    · rfl
    · rw [turned_of_pp hp, hdesc hp]
      rfl
  have hskip : (if (threadAt s t).ss.pp then b01 ((turned (threadAt s t)).desc.fmt != 0) + b01 ((turned (threadAt s t)).desc.rep != 0)
      else 0) = if (threadAt s t).ss.pp then b01 ((threadAt s t).desc.fmt != 0) + b01 ((threadAt s t).desc.rep != 0) else 0 := by
    split
    · next hp => rw [turned_of_pp hp]
    · rfl
  have hme : me (atTurn s t dt rest) = threadAt s t := rfl
  unfold nextAct
  rw [hme, hissue, ← turnOf_eq s t dt rest]
  simp only [Bool.not_true, Bool.false_eq_true, if_false, me_turnOf, prog_turned]
  split
  · next f hf => exact absurd ⟨f, hf⟩ hprog
  · simp only [hskp', hskp, expired_turnOf, hunexpired, hpriv', hpriv, hpp, hvalid, hskip, pc_turned, hfetch, hdecode, bne_self_eq_false,
      Bool.false_eq_true, if_false]

theorem stepRunsTheUnit : StepRunsTheUnit := by
  intro s s' t dt rest w i th prefixes hagenda hprst hturn hskp hprog hpriv hdesc hfetch hdecode
  obtain ⟨hissue, hunexpired⟩ := unexpired_of_canTurn (canTurn_of_hasTurn hturn) hskp hprog
  have hact := nextAct_atTurn hissue hunexpired hskp hprog hpriv hdesc hfetch hdecode
  have hissues : step s = issueStep t { s with agenda := rest, now := s.now + dt, stepNo := s.stepNo + 1 } := by
    unfold step
    rw [hagenda]
    exact if_pos ⟨hprst, hturn⟩
  rw [hissues]
  unfold issueStep
  change (match nextAct (atTurn s t dt rest) with | .exec i s' => exec i s' | .state s' => .next s') = _
  rw [hact]

/-! ### The rotation of the turns (R206, R225) -/

/-- The slot that has its place in a core's round after the slot that issued last. -/
def slotAfter (s : State) (core j : ℕ) : ℕ := ((coreAt s core).rr + 1 + j) % 7

theorem slotAfter_lt (s : State) (core j : ℕ) : slotAfter s core j < 7 := Nat.mod_lt _ (by decide)

theorem slotAfter_inj {s : State} {core j k : ℕ} (hj : j < 7) (hk : k < 7) (h : slotAfter s core j = slotAfter s core k) : j = k := by
  unfold slotAfter at h
  omega

theorem selectedDeck_eq_some_iff {s : State} {core k : ℕ} (hk : k < 7) : selectedDeck s core = some (slotAfter s core k) ↔
    canTurn s ⟨core, slotAfter s core k, 0⟩ = true ∧ ∀ j < k, canTurn s ⟨core, slotAfter s core j, 0⟩ = false := by
  have hround : selectedDeck s core =
      ((List.range 7).find? fun j => canTurn s ⟨core, slotAfter s core j, 0⟩).map (slotAfter s core) := List.find?_map
  rw [hround, Option.map_eq_some_iff]
  constructor
  · rintro ⟨j, hfind, hslot⟩
    obtain ⟨hj, hmem, hbefore⟩ := List.find?_range_eq_some.mp hfind
    obtain rfl := slotAfter_inj (List.mem_range.mp hmem) hk hslot
    exact ⟨hj, fun i hi => by simpa using hbefore i hi⟩
  · rintro ⟨hturn, hbefore⟩
    exact ⟨k, List.find?_range_eq_some.mpr ⟨hturn, List.mem_range.mpr hk, fun i hi => by simp [hbefore i hi]⟩, rfl⟩

theorem hasTurn_deck_iff {s : State} {core k : ℕ} (hk : k < 7) (hawake : (coreAt s core).idle = false)
    (hq : ∀ n < 7, expired s ⟨core, n, 0⟩ = false) : hasTurn s ⟨core, slotAfter s core k, 0⟩ = true ↔
      canIssue (threadAt s ⟨core, slotAfter s core k, 0⟩) = true ∧
        ∀ j < k, canIssue (threadAt s ⟨core, slotAfter s core j, 0⟩) = false := by
  have hdeck : isDeck ⟨core, slotAfter s core k, 0⟩ = true := decide_eq_true (slotAfter_lt s core k)
  have hturn : ∀ j, canTurn s ⟨core, slotAfter s core j, 0⟩ = canIssue (threadAt s ⟨core, slotAfter s core j, 0⟩) := fun j =>
    canTurn_unexpired (hq _ (slotAfter_lt s core j))
  simp only [hasTurn, hawake, hdeck, Bool.not_false, Bool.true_and, if_true, beq_self_eq_true, beq_iff_eq,
    selectedDeck_eq_some_iff hk, hturn]

theorem hasTurn_quay_iff {s : State} {core th : ℕ} (hawake : (coreAt s core).idle = false) (hq : expired s ⟨core, 7, th⟩ = false) :
    hasTurn s ⟨core, 7, th⟩ = true ↔ canIssue (threadAt s ⟨core, 7, th⟩) = true := by
  have hdeck : isDeck ⟨core, 7, th⟩ = false := rfl
  simp only [hasTurn, hawake, hdeck, Bool.not_false, Bool.true_and, Bool.false_eq_true, if_false, canTurn_unexpired hq]

theorem rr_countIssue (s : State) (t : ThreadRef) (c : ℕ) : (coreAt (countIssue s t) c).rr = (coreAt s c).rr :=
  coreAt_modCore_keeps Core.rr (fun k => by dsimp only; split_ifs <;> rfl) s _ c

theorem rr_noteIssue {s : State} {t : ThreadRef} (hdeck : t.slot < 7) : (coreAt (noteIssue s t) t.core).rr = t.slot := by
  have hslot : isDeck t = true := decide_eq_true hdeck
  rw [noteIssue, if_pos hslot, coreAt_modCore, if_pos rfl]

/-- A unit that completes makes its slot the one that issued last. -/
theorem rr_done (i : Instr) {s s' : State} (hcur : s'.cur = s.cur) (hdeck : s.cur.slot < 7) :
    (coreAt (done i s s') s.cur.core).rr = s.cur.slot := by
  unfold done complete
  rw [hcur]
  dsimp only
  split
  · rw [coreAt_modMe_rr, coreAt_modMe_rr, rr_countIssue, rr_noteIssue hdeck]
  · rw [coreAt_modMe_rr, rr_countIssue, rr_noteIssue hdeck]

theorem step_without_turn {s : State} {t : ThreadRef} {dt : ℕ} {rest : List Move} (hagenda : s.agenda = ⟨.issue t, dt⟩ :: rest)
    (hturn : hasTurn s t = false) : step s = .next { s with agenda := rest, now := s.now + dt, stepNo := s.stepNo + 1 } := by
  unfold step
  rw [hagenda]
  exact if_neg fun h => Bool.false_ne_true (hturn.symm.trans h.2)

/-! ### A core whose clock is gated (R490) -/

/-- A package whose core 0 has its clock gated while a thread of its quay slot is READY. -/
def gatedQuay : State :=
  modCore State.reset 0 fun k => { k with idle := true, threads := [(7, { Thread.reset with run := .ready })] }

theorem not_turnsRotate : ¬ TurnsRotate := by
  rintro ⟨-, -, hquay, -⟩
  have hunexpired : expired gatedQuay ⟨0, 7, 0⟩ = false := by decide
  have hready : canIssue (threadAt gatedQuay ⟨0, 7, 0⟩) = true := by decide
  have hgated : hasTurn gatedQuay ⟨0, 7, 0⟩ = false := by decide
  exact Bool.false_ne_true (hgated.symm.trans ((hquay gatedQuay 0 0 hunexpired).mpr hready))

/-- Refutes O4: the statement speaks of every state, and gives a READY quay thread its turn also on a core whose clock is gated, where no
thread has one (R490 gates a core whose slots are FREE). A step of a thread that has its turn runs the unit that it decodes
(`stepRunsTheUnit`), a unit that completes makes its slot the one that issued last (`rr_done`), a thread without a turn does nothing
(`step_without_turn`), and on a core whose clock runs the turns rotate as stated (`hasTurn_deck_iff`, `hasTurn_quay_iff`). -/
theorem not_stepRunsTheDecodedInstruction : ¬ Obligations.StepRunsTheDecodedInstruction := fun ⟨_, hrotate⟩ => not_turnsRotate hrotate

end Sys2Proof.Machine
end

section
/-! # Berths and slots

What an expired quantum, the take of a berth, a turn of its loads and the filling of a slot come to (R219-R221, R224). -/

namespace Sys2Proof.Machine
open Sys2Proof.Claims

/-! ### Events of a core -/

section
variable {β : Type} {p : Core → β} (hp : ∀ k evq ni, p { k with evq := evq, ni := ni } = p k)
include hp

/-- A message reaches the message lists of one core alone. -/
theorem deliver_keeps (s : State) (dst : ℕ) (m : Msg) (c : ℕ) : p (coreAt (deliver s dst m) c) = p (coreAt s c) := by
  refine coreAt_modCore_keeps p (fun k => ?_) s _ c
  split
  · exact hp k _ k.ni
  · exact hp k k.evq _

theorem toSupervisor_keeps (s : State) (die : ℕ) (ns : Bool) (w0 w1 : Word) (c : ℕ) :
    p (coreAt (toSupervisor s die ns w0 w1) c) = p (coreAt s c) := by
  unfold toSupervisor
  dsimp only
  generalize (if ns = true then (dieAt s die).nrid else (dieAt s die).srid) = tag
  split
  · rfl
  · exact deliver_keeps hp ..

theorem sendEvent_keeps (s : State) (dst type slot : ℕ) (rid : BitVec 32) (detail : Word) (c : ℕ) :
    p (coreAt (sendEvent s dst type slot rid detail) c) = p (coreAt s c) := by
  unfold sendEvent
  dsimp only
  split
  · exact deliver_keeps hp ..
  · exact toSupervisor_keeps hp ..

end

/-! ### An expired quantum (R224) -/

theorem ofTid_core (core n : ℕ) : (ofTid core n).core = core := by
  unfold ofTid
  split <;> rfl

/-- The thread of a deck slot, or of a slot that it shares with nobody, at the expiry of its quantum. -/
theorem threadAt_expireSlot_alone (s : State) {t : ThreadRef} (hdeck : t.slot ≠ 7) :
    threadAt (expireSlot s t) t = expireThread t (threadAt s t) := by
  have hone : slotThreads t = [t] := if_neg hdeck
  rw [expireSlot, hone, List.foldl_cons, List.foldl_nil, threadAt, coreAt, keepSuspended_cores]
  exact threadAt_modThread_same s t _

theorem expireThread_ready {t : ThreadRef} {th : Thread} (hdeck : t.slot ≠ 7) (hrun : th.run = .ready) :
    expireThread t th = { th with susp := true } := by
  simp only [expireThread, hrun, hdeck, if_false]

theorem qexp_expireSlot (s : State) (t : ThreadRef) (c : ℕ) : (coreAt (expireSlot s t) c).qexp = (coreAt s c).qexp := by
  refine foldl_keeps (fun u => (coreAt u c).qexp) _ (fun u x => ?_) _ _
  simp only [coreAt, keepSuspended_cores]
  exact coreAt_modThread_qexp ..

/-- A core whose note of a slot's expired quantum has gone. -/
def unexpired (slot : ℕ) (k : Core) : Core := { k with qexp := k.qexp.filter fun e => e.1 != slot }

theorem threadAt_unexpired (s : State) (core slot : ℕ) (t : ThreadRef) : threadAt (modCore s core (unexpired slot)) t = threadAt s t :=
  threadAt_modCore s core (unexpired slot) (fun _ => rfl) t

theorem exec_quantumExpiry {core slot n k : ℕ} {s : State} (hfind : ((coreAt s core).qexp.find? fun e => e.1 == slot) = some (k, n))
    (hskip : (threadAt s (ofTid core n)).ss.skp = 0) (hrun : (threadAt s (ofTid core n)).run = .ready) :
    exec (.quantumExpiry core slot) s = .next (sendEvent (expireSlot (modCore s core (unexpired slot)) (ofTid core n)) core 0x50 slot
      (threadAt s (ofTid core n)).rid (threadAt s (ofTid core n)).pc) := by
  refine congrArg Host.Outcome.next ?_
  simp only [hfind, hskip, hrun, bne_self_eq_false, Bool.false_and, Bool.false_eq_true, if_false]
  exact if_neg (by decide)

/-! ### Berths (R219, R220) -/

@[simp] theorem berthAt_setBerth_same (s : State) (core n : ℕ) (b : Option Berth) : berthAt (setBerth s core n b) core n = b := by
  simp [berthAt, setBerth]

theorem admitArrivals_none {s : State} {core : ℕ} (h : (coreAt s core).arrivals = []) : admitArrivals s core = s := by
  rw [admitArrivals, h, List.foldl_nil]

theorem exec_berthTake_first {core : ℕ} {s : State} {h : Handle} (hidle : (coreAt s core).idle = false)
    (harr : (coreAt s core).arrivals = []) (hhead : headOf (coreAt s core).rq = some h) (hfree : berthAt s core 0 = none) :
    exec (.berthTake core) s = .next (takeBerth s core 0 h) := by
  refine congrArg Host.Outcome.next ?_
  simp only [hidle, admitArrivals_none harr, hhead, hfree, Option.isNone_none, Bool.false_eq_true, if_false, if_true]

theorem berthAt_takeBerth (s : State) (core n : ℕ) (h : Handle) :
    berthAt (takeBerth s core n h) core n = some ⟨h, s.nextId, h.kind != 0, [], 0, none⟩ := berthAt_setBerth_same ..

theorem rq_takeBerth (s : State) (core n : ℕ) (h : Handle) :
    (coreAt (takeBerth s core n h) core).rq = (coreAt s core).rq.erase h := by
  simp only [takeBerth, setBerth, fresh, coreAt_modCore, if_true]
  rfl

theorem exec_berthPrefetchDone_loads {core n : ℕ} {s : State} {b : Berth} (hberth : berthAt s core n = some b) (hfault : b.fault = none)
    (hloaded : b.loaded = false) : exec (.berthPrefetchDone core n) s = .next (recordTurn s core n b) := by
  refine congrArg Host.Outcome.next ?_
  simp only [hberth, hfault, hloaded, Option.isSome_none, Bool.not_false, Bool.false_eq_true, if_false, if_true]

theorem recordTurn_value {core n : ℕ} {s s1 : State} {d : Line} (b : Berth) (hload : takeLoad s (loadRef core n) = .value d false s1) :
    recordTurn s core n b =
      setBerth s1 core n (some { b with lines := b.lines ++ [d], loaded := recordWhole (b.lines ++ [d]) }) := by
  simp only [recordTurn, hload, Bool.false_eq_true, if_false]

theorem recordTurn_idle {core n : ℕ} {s : State} (b : Berth) (hload : takeLoad s (loadRef core n) = .idle) :
    recordTurn s core n b =
      startRead s (loadRef core n) (recordLineAddr b b.lines.length) 64 6 (coreAt s core).ctxid b.handle.gid b.handle.rqp := by
  simp only [recordTurn, hload]

/-! ### A FREE slot takes a rider (R221) -/

theorem exec_slotTakesRider {core slot n : ℕ} {s : State} {b : Berth} (hslot : slot < 7) (hchosen : chosenBerth s core slot = some (n, b))
    (hhead : ∀ h, headOf (coreAt s core).rq = some h → h.pri ≤ b.handle.pri) (hevac : ∀ e ∈ s.evacs, e.1 ≠ core) :
    exec (.slotTakesRider core slot) s = .next (takeSlot s core slot n b) := by
  have hstays : s.evacs.any (fun e => e.1 == core) = false := List.any_eq_false.mpr fun e he => by simpa using hevac e he
  refine congrArg Host.Outcome.next ?_
  simp only [hchosen, hstays]
  split
  · next h hh => simp [Nat.not_lt.mpr (hhead h hh), Nat.not_le.mpr (show slot < 8 by omega)]
  · simp [Nat.not_le.mpr (show slot < 8 by omega)]

/-- A rider at hand, of a deck slot, is READY in it. -/
theorem takeSlot_context {core slot n : ℕ} {s : State} {b : Berth} {th : Thread} (hfault : b.fault = none)
    (hctx : b.handle.ctx = some th) (hpair : b.handle.pair = none) :
    takeSlot s core slot n b =
      setThread (modCore (setBerth s core n none) core (unexpired slot)) ⟨core, slot, 0⟩ { th with run := .ready } := by
  simp only [takeSlot, hctx, enterContext, hfault, hpair]
  rfl

/-- Settles O52: each act of a slot or a berth by what its queue, its berth or its load stands at. -/
theorem berthsFillSlots : Obligations.BerthsFillSlots := by
  refine ⟨fun core slot n k s hfind hskip hrun hdeck => givesSome_of_exec (exec_quantumExpiry hfind hskip hrun) ?expires,
    fun core s h hidle harr hhead hfree =>
      givesSome_of_exec (exec_berthTake_first hidle harr hhead hfree) ⟨berthAt_takeBerth s core 0 h, rq_takeBerth s core 0 h⟩,
    fun core n s b d s1 hberth hfault hloaded hload => givesSome_of_exec (exec_berthPrefetchDone_loads hberth hfault hloaded) ?lands,
    fun core n s b hberth hfault hloaded hload =>
      (exec_berthPrefetchDone_loads hberth hfault hloaded).trans (congrArg Host.Outcome.next (recordTurn_idle b hload)),
    fun core slot n s b th hslot hchosen hfault hctx hpair hhead hevac =>
      givesSome_of_exec (exec_slotTakesRider hslot hchosen hhead hevac) ?enters⟩
  case expires =>
    have hthread := threadAt_expireSlot_alone (modCore s core (unexpired slot)) hdeck
    rw [threadAt_unexpired, expireThread_ready hdeck hrun] at hthread
    rw [threadAt_sendEvent, hthread, sendEvent_keeps (p := Core.qexp) (fun _ _ _ => rfl), qexp_expireSlot, coreAt_modCore, if_pos rfl]
    exact ⟨rfl, rfl, rfl, fun e he => by simpa using (List.mem_filter.mp he).2⟩
  case lands => rw [recordTurn_value b hload, berthAt_setBerth_same]
  case enters =>
    rw [takeSlot_context hfault hctx hpair]
    exact ⟨threadAt_setThread_same .., by simp [berthAt, unexpired, setBerth]⟩

end Sys2Proof.Machine
end

section
/-! # Fences, kills and evacuations

What is left of a die that is fenced, when a kill is reported, and what an evacuation does to a core and its target (R218, R326, R440-R445,
R465). -/

namespace Sys2Proof.Machine
open Sys2Proof.Claims

/-! ### Tables -/

section
variable {α : Type} (d : α)

theorem aget_filter_key (p : ℕ → Bool) (l : Assoc α) (k : ℕ) :
    aget d (l.filter fun e => p e.1) k = if p k = true then aget d l k else d := by
  induction l with
  | nil => simp [aget]
  | cons e l ih =>
    by_cases hp : p e.1 = true
    · rw [List.filter_cons, if_pos hp, aget, aget, ih]
      split
      · next hk => rw [hk, if_pos hp]
      · rfl
    · rw [List.filter_cons, if_neg hp, ih, aget]
      split
      · next hk => rw [if_neg fun he : k = e.1 => hp (he ▸ hk)]
      · rfl

/-- A change of every entry that keeps the default changes what each key reads. -/
theorem aget_map_values {f : α → α} (hf : f d = d) (l : Assoc α) (k : ℕ) :
    aget d (l.map fun e => (e.1, f e.2)) k = f (aget d l k) := by
  induction l with
  | nil => exact hf.symm
  | cons e l ih =>
    simp only [List.map_cons, aget, ih]
    split <;> rfl

end

/-! ### A die that is fenced (R218, R443) -/

theorem coreAt_stopDie (s : State) {die core : ℕ} (h : dieOf core = die) : coreAt (stopDie s die) core = Core.reset := by
  refine (aget_filter_key Core.reset (fun c => dieOf c != die) _ core).trans (if_neg ?_)
  simpa using h

theorem fenced_stopDie (s : State) (die : ℕ) : (dieAt (stopDie s die) die).fenced = true := by
  rw [stopDie, dieAt, aget_aset_same]

theorem fenced_countError (s : State) (die i n d : ℕ) : (dieAt (countError s die i n) d).fenced = (dieAt s d).fenced := by
  rw [countError, dieAt_modDie]
  split
  · next h => rw [h]
  · rfl

theorem fenceDie_again {s : State} {die : ℕ} (h : (dieAt s die).fenced = true) : fenceDie s die = s := if_pos (.inl h)

/-- Fencing a die ends with its stop. -/
theorem fenceDie_stops {s : State} {die : ℕ} (hdie : die < 4) (h : (dieAt s die).fenced = false) :
    ∃ u, fenceDie s die = countError (stopDie u die) die 7 1 :=
  ⟨_, if_neg (by simp [h, hdie])⟩

theorem fenceDie_fences {s : State} {die : ℕ} (hdie : die < 4) (h : (dieAt s die).fenced = false) :
    (dieAt (fenceDie s die) die).fenced = true ∧ ∀ x : ThreadRef, dieOf x.core = die → (threadAt (fenceDie s die) x).run = .free := by
  obtain ⟨u, hu⟩ := fenceDie_stops hdie h
  rw [hu]
  refine ⟨(fenced_countError ..).trans (fenced_stopDie u die), fun x hx => ?_⟩
  have hcore : coreAt (countError (stopDie u die) die 7 1) x.core = Core.reset := coreAt_stopDie u hx
  rw [threadAt, hcore]
  rfl

theorem exec_dieFence {who : Agent} {die : ℕ} (s : State) (h : mayFence who die = true) :
    exec (.dieFence who die) s = .next (fenceDie s die) := congrArg Host.Outcome.next (if_pos h)

theorem exec_dispatcherTimeout {die : ℕ} {s : State} (h : die ≠ s.pilot) :
    exec (.dispatcherTimeout die) s = .next (fenceDie s die) := congrArg Host.Outcome.next (if_neg h)

/-- A fenced die is not fenced again, whatever asks for it. -/
theorem gives_same_of_fenced {s : State} {die : ℕ} (who : Agent) (h : (dieAt s die).fenced = true) :
    Gives (.dieFence who die) s s ∧ Gives (.dispatcherTimeout die) s s ∧ Gives (.parityError die) s s := by
  have hagain := fenceDie_again h
  refine ⟨congrArg Host.Outcome.next ?_, congrArg Host.Outcome.next ?_, congrArg Host.Outcome.next hagain⟩
  · split
    · exact hagain
    · rfl
  · split
    · rfl
    · exact hagain

/-! ### Kills (R326, R445, R465) -/

theorem exec_hkill {who : Agent} {v : Word} (s : State) (h : who.ns = true → bit v.toNat 16 = true) :
    exec (.hkill who v) s = .next (killContext s (bit v.toNat 16) (v.extractLsb' 0 16) none 0) := by
  refine congrArg Host.Outcome.next (if_neg ?_)
  rw [Bool.and_eq_true, Bool.not_eq_true']
  exact fun ⟨hns, hbit⟩ => Bool.false_ne_true (hbit.symm.trans (h hns))

section
variable {s : State} {k : Kill} {rest : List Kill} (hkills : s.kills = k :: rest) (hsettled : killSettled s k = true)
include hkills hsettled

/-- The first kill of the list is reported to its issuer once its writes are over, or to the host. -/
theorem exec_ctxkillComplete_issuer {t : ThreadRef} (hissuer : k.issuer = some t) : exec (.ctxkillComplete 0) s =
    .next (deliver { s with kills := rest } t.core
      (Msg.plain (word (0x60 * 2 ^ 56 + b01 k.ns * 2 ^ 16 + k.asid.toNat)) (word k.ended) k.tag true)) := by
  refine congrArg Host.Outcome.next ?_
  simp only [hkills, List.getElem?_cons_zero, List.take_zero, List.all_nil, hsettled, hissuer, Bool.not_true, Bool.or_self,
    Bool.false_eq_true, if_false, List.eraseIdx_cons_zero]

theorem exec_ctxkillComplete_host (hissuer : k.issuer = none) : exec (.ctxkillComplete 0) s =
    .next (tellHost { s with kills := rest } (word (0x60 * 2 ^ 56 + b01 k.ns * 2 ^ 16 + k.asid.toNat)) (word k.ended)) := by
  refine congrArg Host.Outcome.next ?_
  simp only [hkills, List.getElem?_cons_zero, List.take_zero, List.all_nil, hsettled, hissuer, Bool.not_true, Bool.or_self,
    Bool.false_eq_true, if_false, List.eraseIdx_cons_zero]

end

/-! ### An evacuation begins (R440, R441) -/

/-- A core whose evacuation to a target has been asked for. -/
def evacAsked (s : State) (core tgt : ℕ) : State := modCore s core fun k => { k with evTarget := BitVec.ofNat 10 tgt }

/-- Every thread of a core is told to suspend. -/
def allSuspended (s : State) (core : ℕ) : State := (List.range 9).foldl (fun s n => modThread s (ofTid core n) suspendThread) s

/-- The threads of a core that were SUSPENDED, or told to be, before its evacuation. -/
def suspendedBefore (k : Core) : List ℕ := (k.threads.filter fun e => e.2.susp || e.2.suspReq).map (·.1)

/-- An evacuation joins the list of those under way. -/
def evacListed (s : State) (e : ℕ × ℕ × List ℕ) : State := { s with evacs := s.evacs ++ [e] }

@[simp] theorem coreAt_evacListed (s : State) (e : ℕ × ℕ × List ℕ) (c : ℕ) : coreAt (evacListed s e) c = coreAt s c := rfl

/-- A core whose evacuation has begun. -/
def evacBegun (s : State) (core tgt : ℕ) : State :=
  evacListed (modCore (allSuspended (evacAsked s core tgt) core) core fun k => { k with evSt := 1, evWhy := 0 })
    (core, tgt, suspendedBefore (coreAt s core))

section
variable {who : Agent} {core : ℕ} {v : Word} {s : State} (hst : (coreAt s core).evSt ≠ 1) (hgo : v.getLsbD 10 = true)
include hst hgo

theorem exec_evacGo_begins (hwhy : evacWhy (evacAsked s core (v.toNat % 1024)) who core (v.toNat % 1024) = 0) :
    exec (.evacGo who core v) s = .next (evacBegun s core (v.toNat % 1024)) := by
  refine congrArg Host.Outcome.next ?_
  rw [evacWrite]
  refine (if_neg hst).trans ((if_neg ?_).trans (if_neg (not_not.mpr hwhy)))
  rw [hgo]
  exact Bool.false_ne_true

theorem exec_evacGo_refused {why : ℕ} (hwhy : evacWhy (evacAsked s core (v.toNat % 1024)) who core (v.toNat % 1024) = why)
    (hne : why ≠ 0) : exec (.evacGo who core v) s =
      .next (modCore (evacAsked s core (v.toNat % 1024)) core fun k => { k with evSt := 3, evWhy := BitVec.ofNat 3 why }) := by
  subst hwhy
  refine congrArg Host.Outcome.next ?_
  rw [evacWrite]
  refine (if_neg hst).trans ((if_neg ?_).trans (if_pos hne))
  rw [hgo]
  exact Bool.false_ne_true

end

theorem tid_ofTid (core n : ℕ) : tid (ofTid core n) = n := by
  unfold ofTid
  split
  · next h => exact if_neg (by simp only; omega)
  · exact (if_pos rfl).trans (by simp only; omega)

theorem threads_modThread (s : State) (core n : ℕ) (f : Thread → Thread) :
    (coreAt (modThread s (ofTid core n) f) core).threads =
      aset Thread.reset (coreAt s core).threads n (f (aget Thread.reset (coreAt s core).threads n)) := by
  rw [modThread_eq_modCore, ofTid_core, coreAt_modCore, if_pos rfl, threadChanged, tid_ofTid]

theorem threadAt_ofTid (s : State) (core n : ℕ) : threadAt s (ofTid core n) = aget Thread.reset (coreAt s core).threads n := by
  rw [threadAt, ofTid_core, tid_ofTid]

theorem threadAt_allSuspended (s : State) (core : ℕ) {n : ℕ} (hn : n < 9) :
    threadAt (allSuspended s core) (ofTid core n) = suspendThread (threadAt s (ofTid core n)) := by
  have hfold := List.foldl_hom (fun u => (coreAt u core).threads) (l := List.range 9) (init := s)
    (g₁ := fun u n => modThread u (ofTid core n) suspendThread)
    (g₂ := fun ts n => aset Thread.reset ts n (suspendThread (aget Thread.reset ts n)))
    fun u n => (threads_modThread u core n suspendThread).symm
  rw [threadAt_ofTid, threadAt_ofTid, allSuspended, ← hfold, aget_foldl_aset _ _ _ List.nodup_range, if_pos (List.mem_range.mpr hn)]

theorem evTarget_allSuspended (s : State) (core c : ℕ) : (coreAt (allSuspended s core) c).evTarget = (coreAt s c).evTarget :=
  foldl_keeps (fun u => (coreAt u c).evTarget) _ (fun _ _ => coreAt_modThread_evTarget ..) _ _

theorem evacs_allSuspended (s : State) (core : ℕ) : (allSuspended s core).evacs = s.evacs :=
  foldl_keeps State.evacs (fun u n => modThread u (ofTid core n) suspendThread) (fun _ _ => rfl) _ s

theorem evTarget_evacAsked (s : State) (core tgt : ℕ) (h : tgt < 1024) : (coreAt (evacAsked s core tgt) core).evTarget.toNat = tgt := by
  rw [evacAsked, coreAt_modCore, if_pos rfl]
  exact Nat.mod_eq_of_lt h

theorem coreAt_evacBegun (s : State) (core tgt : ℕ) : coreAt (evacBegun s core tgt) core =
    { coreAt (allSuspended (evacAsked s core tgt) core) core with evSt := 1, evWhy := 0 } := by
  rw [evacBegun, coreAt_evacListed, coreAt_modCore, if_pos rfl]

theorem evTarget_evacBegun (s : State) (core : ℕ) {tgt : ℕ} (h : tgt < 1024) :
    (coreAt (evacBegun s core tgt) core).evTarget.toNat = tgt := by
  rw [coreAt_evacBegun, evTarget_allSuspended, evTarget_evacAsked s core tgt h]

theorem evacs_evacBegun (s : State) (core tgt : ℕ) :
    (evacBegun s core tgt).evacs = s.evacs ++ [(core, tgt, suspendedBefore (coreAt s core))] := by
  rw [evacBegun, evacListed, modCore_evacs, evacs_allSuspended, evacAsked, modCore_evacs]

theorem threadAt_evacBegun (s : State) (core tgt : ℕ) {n : ℕ} (hn : n < 9) :
    threadAt (evacBegun s core tgt) (ofTid core n) = suspendThread (threadAt s (ofTid core n)) := by
  have hasked : threadAt (evacAsked s core tgt) (ofTid core n) = threadAt s (ofTid core n) := threadAt_modCore _ _ _ (by simp) _
  rw [threadAt_ofTid, coreAt_evacBegun, ← hasked, ← threadAt_allSuspended _ _ hn, threadAt_ofTid]

/-! ### What moves (R441, R442) -/

theorem writeHome_cores (s : State) (line : ℕ) (m : BitVec 64) (d : Line) : (writeHome s line m d).cores = s.cores := by
  unfold writeHome
  split
  · split <;> rfl
  · rfl

theorem poisonHome_cores (s : State) (line : ℕ) : (poisonHome s line).cores = s.cores := by
  unfold poisonHome
  split <;> rfl

section
variable {β : Type} {p : Core → β} (hp : ∀ k l1, p { k with l1 := l1 } = p k)
include hp

theorem evictL1_keeps (s : State) (core pa c : ℕ) : p (coreAt (evictL1 s core pa) c) = p (coreAt s c) :=
  (coreAt_modCore_keeps p (fun k => hp k _) _ _ c).trans (congrArg p (coreAt_backL1 s core pa c))

/-- Owned words that leave a line change no more of a core than its L1. -/
theorem releaseWords_keeps (s : State) (die pa : ℕ) (words : BitVec 16) (back : Bool) (c : ℕ) :
    p (coreAt (releaseWords s die pa words back) c) = p (coreAt s c) := by
  unfold releaseWords
  extract_lets g l w line s0 s1 own l' s2 s3 gone
  have hg : coreAt g c = coreAt s c := foldl_keeps (coreAt · c) _ (fun s core => coreAt_backL1 s core pa c) _ _
  have h1 : s1.cores = g.cores := by
    simp only [s1, s0]
    split
    · split
      · rw [poisonHome_cores]; exact writeHome_cores ..
      · exact writeHome_cores ..
    · rfl
  have h2 : coreAt s2 c = coreAt s c := (congrArg (aget Core.reset · c) h1).trans hg
  have h3 : p (coreAt s3 c) = p (coreAt s2 c) := foldl_keeps (fun u => p (coreAt u c)) _ (fun s core => evictL1_keeps hp s core pa c) _ _
  split
  · exact congrArg p hg
  · exact h3.trans (congrArg p h2)

theorem releaseCore_keeps (s : State) (core c : ℕ) : p (coreAt (releaseCore s core) c) = p (coreAt s c) :=
  foldl_keeps (fun u => p (coreAt u c)) _ (fun _ _ => releaseWords_keeps hp ..) _ _

end

theorem coreAt_renameCore (s : State) (src tgt c : ℕ) : coreAt (renameCore s src tgt) c = movedCore src tgt (coreAt s c) :=
  aget_map_values Core.reset rfl s.cores c

/-- The context and the message queue of a core are at its target after a move: neither names a thread or a bank. -/
theorem coreAt_moveCore_target (s : State) {src tgt : ℕ} (h : tgt ≠ src) (before : List ℕ) :
    (coreAt (moveCore s src tgt before) tgt).ctxid = (coreAt s src).ctxid ∧
    (coreAt (moveCore s src tgt before) tgt).msgs = (coreAt s src).msgs := by
  have hmoved : ∀ {β : Type} {p : Core → β}, (∀ k l1, p { k with l1 := l1 } = p k) → (∀ k, p (movedCore src tgt k) = p k) →
      p (coreAt (moveStorage (renameCore (releaseCore s src) src tgt) src tgt) src) = p (coreAt s src) := fun {β p} hl1 hren =>
    (congrArg p (coreAt_renameCore ..)).trans ((hren _).trans (releaseCore_keeps hl1 s src src))
  unfold moveCore
  dsimp only
  rw [coreAt_setCore, if_neg h, coreAt_modCore, if_pos rfl]
  exact ⟨hmoved (p := Core.ctxid) (fun _ _ => rfl) fun _ => rfl, hmoved (p := Core.msgs) (fun _ _ => rfl) fun _ => rfl⟩

/-- A core that has moved keeps a forwarding entry, and no thread. -/
theorem coreAt_moveCore_source (s : State) (src : ℕ) {tgt : ℕ} (h : tgt < 1024) (before : List ℕ) :
    (coreAt (moveCore s src tgt before) src).fwdV = true ∧ (coreAt (moveCore s src tgt before) src).fwdTarget.toNat = tgt ∧
    (coreAt (moveCore s src tgt before) src).evSt = 2 ∧ (coreAt (moveCore s src tgt before) src).threads = [] := by
  unfold moveCore
  dsimp only
  rw [coreAt_setCore, if_pos rfl]
  exact ⟨rfl, Nat.mod_eq_of_lt h, rfl, rfl⟩

/-- The evacuation of a core is over, and no longer listed. -/
def evacEnded (s : State) (core : ℕ) : State := { s with evacs := s.evacs.filter fun e => e.1 != core }

theorem exec_evacuationComplete {core tgt : ℕ} {before : List ℕ} {s : State}
    (hfind : (s.evacs.find? fun e => e.1 == core) = some (core, tgt, before)) (hready : evacReady s core = true) :
    exec (.evacuationComplete core) s = .next (toSupervisor (moveCore (evacEnded s core) core tgt before) (dieOf core)
      (ctxNs (coreAt s core).ctxid) (word (0x13 * 2 ^ 56 + tgt * 2 ^ 10 + core)) 0) := by
  refine congrArg Host.Outcome.next ?_
  simp only [hfind, hready, Bool.not_true, Bool.false_eq_true, if_false]
  rfl

theorem exec_fwdClear (core : ℕ) (s : State) : exec (.fwdClear core) s = .next (modCore s core fun k => { k with fwdV := false }) := rfl

/-- Settles O54: fencing ends with the stop of the die, a kill is reported as the first of its list, and an evacuation suspends, moves and
forwards. -/
theorem fencesKillsAndEvacuations : Obligations.FencesKillsAndEvacuations := by
  refine ⟨fun who die s hmay hdie hopen => givesSome_of_exec (exec_dieFence s hmay) (fenceDie_fences hdie hopen),
    fun die s hpilot hdie hopen => givesSome_of_exec (exec_dispatcherTimeout hpilot) (fenceDie_fences hdie hopen),
    fun die s hdie hopen => givesSome_of_exec rfl (fenceDie_fences hdie hopen), fun who die s => gives_same_of_fenced who,
    fun who v s => exec_hkill s, fun s k rest hkills hsettled => ⟨fun t => exec_ctxkillComplete_issuer hkills hsettled,
      exec_ctxkillComplete_host hkills hsettled⟩,
    fun who core v s hst hgo => ⟨fun hwhy => givesSome_of_exec (exec_evacGo_begins hst hgo hwhy) ?begins,
      fun hwhy => givesSome_of_exec (exec_evacGo_refused hst hgo rfl hwhy) ?refused⟩,
    fun core s tgt before hfind hready htgt hne => givesSome_of_exec (exec_evacuationComplete hfind hready) ?moves,
    fun core s => givesSome_of_exec (exec_fwdClear core s) ?cleared⟩
  case begins =>
    refine ⟨by rw [coreAt_evacBegun], evTarget_evacBegun s core (Nat.mod_lt _ (by decide)), ?_,
      fun n => threadAt_evacBegun s core _⟩
    rw [evacs_evacBegun, List.map_append]
    rfl
  case refused =>
    rw [coreAt_modCore, if_pos rfl]
    exact ⟨rfl, rfl, rfl⟩
  case moves =>
    obtain ⟨hfwd, hto, hst, hthreads⟩ := coreAt_moveCore_source (evacEnded s core) core htgt before
    obtain ⟨hctx, hmsgs⟩ := coreAt_moveCore_target (evacEnded s core) hne before
    rw [toSupervisor_keeps (p := Core.fwdV) (fun _ _ _ => rfl), toSupervisor_keeps (p := Core.fwdTarget) (fun _ _ _ => rfl),
      toSupervisor_keeps (p := Core.evSt) (fun _ _ _ => rfl), toSupervisor_keeps (p := Core.ctxid) (fun _ _ _ => rfl),
      toSupervisor_keeps (p := Core.msgs) (fun _ _ _ => rfl)]
    refine ⟨hfwd, hto, hst, fun n => ?_, hctx, hmsgs⟩
    rw [toSupervisor_threads, threadAt, hthreads]
    rfl
  case cleared => rw [coreAt_modCore, if_pos rfl]

end Sys2Proof.Machine
end

section
/-! # Tiles, their owners and their transfers

What MZERO, MLD, MST and CBLD come to when they issue, and the suspension for a tile of another rider (R222, R406, R407, R421-R424,
R441). -/

namespace Sys2Proof.Machine
open Sys2Proof.Claims

/-! ### Rights and addresses (R407, R422, R424) -/

theorem kernelForm_refused {s : State} {k : BitVec 1} (hk : k = 1) (h : kernelSlotUp s = false) (r : Res) :
    kernelForm s k r = .fault .priv 0 0 none := if_pos ⟨hk, by rw [isKS_eq_kernelSlotUp, h]; rfl⟩

theorem kernelForm_of_mayUse {s : State} {k : BitVec 1} {tile : Option ℕ} {book : Bool} (h : mayUse s k tile book) (r : Res) :
    kernelForm s k r = r := by
  refine if_neg fun ⟨hk, hno⟩ => ?_
  rw [mayUse, if_pos hk] at h
  rw [isKS_eq_kernelSlotUp, h] at hno
  exact Bool.false_ne_true hno

theorem freeOrMine_iff (o rid : BitVec 32) : (o == 0 || o == rid) = true ↔ o = 0 ∨ o = rid := by simp

theorem othersOwn_of_ownsAll {s : State} {tile : Option ℕ} {book : Bool} (h : ownsAll s tile book) : othersOwn s tile book = 0 := by
  obtain ⟨htile, hbook⟩ := h
  have htable : (book && !((myCore s).cbtOwner == 0 || (myCore s).cbtOwner == (me s).rid)) = false := by
    cases book with
    | false => rfl
    | true => rw [(freeOrMine_iff ..).mpr (hbook rfl)]; rfl
  unfold othersOwn
  cases tile with
  | none => simp only [htable, Bool.false_eq_true, if_false]
  | some n => simp only [htable, (freeOrMine_iff ..).mpr (htile n rfl), Bool.false_eq_true, if_false, if_true]

section
variable {s : State} {k : BitVec 1} {tile : Option ℕ} {book : Bool} (hmay : mayUse s k tile book) (go : State → Res)
include hmay

/-- A form that the rider may use goes on in the state where it owns what it uses. -/
theorem ownedForm_of_mayUse :
    kernelForm s k (if k = 1 then go s else useOwned s tile book go) = go (working s k tile book) := by
  rw [kernelForm_of_mayUse hmay]
  unfold mayUse at hmay
  unfold working
  split
  · rfl
  · next hk =>
    rw [if_neg hk] at hmay
    exact if_pos (othersOwn_of_ownsAll hmay)

/-- So does a transfer of an aligned address that lies in DRAM or wholly in a bank of the core (R422). -/
theorem transferForm_of_mayUse {va n : ℕ} (hplace : transferable s va n) :
    kernelForm s k (transferCheck s va n (if k = 1 then go s else useOwned s tile book go)) = go (working s k tile book) := by
  obtain ⟨halign, hregion⟩ := hplace
  have hcheck : ∀ r, transferCheck s va n r = r := fun r => (if_neg (not_not.mpr halign)).trans
    (if_neg fun ⟨hva, hdev, hbank, hout⟩ => hregion ⟨⟨hva, hdev, hbank⟩, Option.isNone_iff_eq_none.mp hout⟩)
  rw [hcheck, ownedForm_of_mayUse hmay]

end

/-! ### The state in which a transfer works -/

section
variable (s : State) (k : BitVec 1) (tile : Option ℕ) (book : Bool)

/-- What a change of an owner does not touch, the kernel form and the owner's form find alike. -/
theorem working_keeps {β : Type} {p : State → β} (htile : ∀ c n f u, p (modTile u c n f) = p u)
    (hbook : ∀ c o u, p (modCore u c fun k => { k with cbtOwner := o }) = p u) : p (working s k tile book) = p s := by
  unfold working
  split
  · rfl
  · unfold takeOwner
    cases tile <;> cases book <;> simp only [htile, hbook, Bool.false_eq_true, if_false, if_true]

theorem working_cur : (working s k tile book).cur = s.cur := working_keeps s k tile book (fun _ _ _ _ => rfl) fun _ _ _ => rfl

theorem working_nextId : (working s k tile book).nextId = s.nextId := working_keeps s k tile book (fun _ _ _ _ => rfl) fun _ _ _ => rfl

theorem me_working : me (working s k tile book) = me s :=
  working_keeps s k tile book (fun _ _ _ _ => me_modCore _ _ _ rfl) fun _ _ _ => me_modCore _ _ _ rfl

end

/-- The tile that a rider takes, but for its owner. -/
theorem tileAt_working (s : State) (k : BitVec 1) (n : ℕ) :
    ∃ o, tileAt (working s k (some n) false) s.cur.core n = { tileAt s s.cur.core n with owner := o } := by
  unfold working
  split
  · exact ⟨_, rfl⟩
  · exact ⟨(me s).rid, tileAt_modTile_same s s.cur.core n fun x => { x with owner := (me s).rid }⟩

theorem tileData_working (s : State) (k : BitVec 1) (n : ℕ) :
    (tileAt (working s k (some n) false) (working s k (some n) false).cur.core n).data = (tileAt s s.cur.core n).data := by
  obtain ⟨o, ho⟩ := tileAt_working s k n
  rw [working_cur, ho]

theorem tileIdle_working (s : State) (k : BitVec 1) (n : ℕ) :
    tileIdle (working s k (some n) false) n = ((tileAt s s.cur.core n).pend == 0) := by
  obtain ⟨o, ho⟩ := tileAt_working s k n
  rw [tileIdle, working_cur, ho]

/-- A transfer's tile has work in flight in the state where the transfer works exactly where it had before (R421). -/
theorem not_busy_working {s : State} {k : BitVec 1} {n : ℕ} (h : (tileAt s s.cur.core n).pend = 0) :
    ¬(!tileIdle (working s k (some n) false) n) = true := by
  rw [tileIdle_working, h]
  decide

theorem busy_working {s : State} {k : BitVec 1} {n : ℕ} (h : (tileAt s s.cur.core n).pend ≠ 0) :
    (!tileIdle (working s k (some n) false) n) = true := by
  simpa [tileIdle_working] using h

theorem bookIdle_working (s : State) (k : BitVec 1) : bookIdle (myCore (working s k none true)) = bookIdle (myCore s) := by
  unfold working
  split
  · rfl
  · have hcore : myCore (takeOwner s none true) = { myCore s with cbtOwner := (me s).rid } :=
      (coreAt_modCore s s.cur.core s.cur.core fun c => { c with cbtOwner := (me s).rid }).trans (if_pos rfl)
    rw [hcore]
    rfl

/-! ### The instructions -/

theorem tileTransfersIssue : TileTransfersIssue := by
  refine ⟨fun m d k s h => ⟨fun hk hup => exec_fault h rfl (kernelForm_refused hk hup _),
      fun hmay hpend => exec_done h rfl ((ownedForm_of_mayUse hmay _).trans ((if_neg (not_busy_working hpend)).trans ?zero)),
      fun hmay hpend => exec_waiting h rfl ((ownedForm_of_mayUse hmay _).trans (if_pos (busy_working hpend)))⟩,
    fun m d a b k s h => ⟨fun hk hup => exec_fault h rfl (kernelForm_refused hk hup _),
      fun hmay hplace hpend => exec_done h rfl
        ((transferForm_of_mayUse hmay _ hplace).trans ((if_neg (not_busy_working hpend)).trans ?load)),
      fun hmay hplace hpend => exec_waiting h rfl ((transferForm_of_mayUse hmay _ hplace).trans (if_pos (busy_working hpend)))⟩,
    fun m d a k s h => ⟨fun hk hup => exec_fault h rfl (kernelForm_refused hk hup _),
      fun hmay hplace hpend => exec_done h rfl
        ((transferForm_of_mayUse hmay _ hplace).trans ((if_neg (not_busy_working hpend)).trans ?store)),
      fun hmay hplace hpend => exec_waiting h rfl ((transferForm_of_mayUse hmay _ hplace).trans (if_pos (busy_working hpend)))⟩,
    fun m a b k s h => ⟨fun hk hup => exec_fault h rfl (kernelForm_refused hk hup _),
      fun hmay hplace hbook => exec_done h rfl ((transferForm_of_mayUse hmay _ hplace).trans ((if_neg ?bookIdle).trans ?table)),
      fun hmay hplace hbook => exec_waiting h rfl ((transferForm_of_mayUse hmay _ hplace).trans (if_pos ?bookBusy))⟩⟩
  case zero => rw [working_cur]
  case load =>
    rw [← working_cur s k (some (dstNum s .d d.toNat)) false, ← working_nextId s k (some (dstNum s .d d.toNat)) false]
    rfl
  case store =>
    rw [me_working, tileData_working, ← working_nextId s k (some (dstNum s .d d.toNat)) false]
    rfl
  case table =>
    rw [← working_cur s k none true, ← working_nextId s k none true]
    rfl
  case bookIdle => simp [bookIdle_working, hbook]
  case bookBusy => simp [bookIdle_working, hbook]

/-! ### A tile of another rider (R222, R424, R441) -/

/-- A unit that names the tile of another rider is not performed, and its slot is SUSPENDED; while the core is evacuated, that is kept
for after the move. -/
theorem exec_mzero_foreign {m : Mark} {d : Reg} {s : State} {n : ℕ} (h : Issues (.mzero m d 0) s) (hn : n = dstNum s .d d.toNat)
    (hsome : (tileAt s s.cur.core n).owner ≠ 0) (hother : (tileAt s s.cur.core n).owner ≠ (me s).rid) :
    exec (.mzero m d 0) s = .next (sendEvent (keepSuspended (modMe s fun th => { th with susp := true }) s.cur) s.cur.core 0x52
      s.cur.slot (me s).rid (word (2 ^ n))) := by
  subst hn
  have hothers : othersOwn s (some (dstNum s .d d.toNat)) false = 2 ^ dstNum s .d d.toNat := by
    have hmine : ¬((tileAt s s.cur.core (dstNum s .d d.toNat)).owner == 0 ||
        (tileAt s s.cur.core (dstNum s .d d.toNat)).owner == (me s).rid) = true := fun hmine =>
      ((freeOrMine_iff ..).mp hmine).elim hsome hother
    exact (Nat.add_zero _).trans (if_neg hmine)
  refine exec_gone h rfl ?_
  have hpos : othersOwn s (some (dstNum s .d d.toNat)) false ≠ 0 := by rw [hothers]; exact (Nat.two_pow_pos _).ne'
  have hcur : (keepSuspended (modMe s fun th => { th with susp := true }) s.cur).cur = s.cur := by
    unfold keepSuspended
    split <;> rfl
  refine (if_neg fun hk => absurd hk.1 (by decide)).trans ((if_neg hpos).trans ?_)
  rw [hothers, hcur]

theorem keepSuspended_unevacuated {s : State} {t : ThreadRef} (h : ∀ e ∈ s.evacs, e.1 ≠ t.core) : keepSuspended s t = s := by
  unfold keepSuspended
  split
  · rfl
  · have hkept : (s.evacs.map fun e => if e.1 == t.core then (e.1, e.2.1, sins e.2.2 (tid t)) else e) = s.evacs :=
      (List.map_congr_left fun e he => if_neg (by simpa using h e he)).trans (List.map_id' _)
    rw [hkept]

/-- What `ForeignTileSuspends` says, of every core that is not being evacuated. -/
theorem foreignTileSuspends_of_unevacuated (m : Mark) (d : Reg) (s : State) (n : ℕ) (h : Issues (.mzero m d 0) s)
    (hevac : ∀ e ∈ s.evacs, e.1 ≠ s.cur.core) (hn : n = dstNum s .d d.toNat)
    (hsome : (tileAt s s.cur.core n).owner ≠ 0) (hother : (tileAt s s.cur.core n).owner ≠ (me s).rid) :
    exec (.mzero m d 0) s = .next (sendEvent (modMe s fun th => { th with susp := true }) s.cur.core 0x52 s.cur.slot (me s).rid
      (word (2 ^ n))) := by
  rw [exec_mzero_foreign h hn hsome hother, keepSuspended_unevacuated (by simpa [modMe, modThread] using hevac)]

/-- A core under evacuation whose rider, READY again, is about to clear a tile that another rider owns. -/
def evacuatedBorrower : State :=
  { State.reset with
    cur := ⟨1, 0, 0⟩
    cores := [(1, { Core.reset with
      evSt := 1, threads := [(0, { Thread.reset with run := .ready })], tiles := [(3, { Tile.reset with owner := 77 })] })]
    evacs := [(1, 8, [])] }

theorem evacuatedBorrower_issues : Issues (.mzero false 3 0) evacuatedBorrower :=
  ⟨by decide, by decide, by decide, .inl rfl, by decide, by decide, by decide, by decide⟩

theorem evacs_sendEvent (s : State) (c type slot : ℕ) (rid : BitVec 32) (d : Word) :
    (sendEvent s c type slot rid d).evacs = s.evacs := by
  unfold sendEvent toSupervisor
  dsimp only
  split
  · rfl
  · generalize (if ctxNs (coreAt s c).ctxid = true then (dieAt s (dieOf c)).nrid else (dieAt s (dieOf c)).srid) = tag
    split <;> rfl

/-- The move of that core keeps the slot SUSPENDED (R441, step 5), where the statement has the record of the evacuation unchanged. -/
theorem not_foreignTileSuspends : ¬ ForeignTileSuspends := by
  intro h
  have hstated := h false 3 evacuatedBorrower 3 evacuatedBorrower_issues (by decide) (by decide) (by decide)
  rw [exec_mzero_foreign (n := 3) evacuatedBorrower_issues (by decide) (by decide) (by decide)] at hstated
  have hevacs := congrArg State.evacs (Host.Outcome.next.inj hstated)
  rw [evacs_sendEvent, evacs_sendEvent] at hevacs
  exact absurd hevacs (by decide)

/-- Refutes O39: the statement speaks of every state, and where the issuer's core is under evacuation the suspension for a tile of another
rider also joins the evacuation's record, so that the slot stays SUSPENDED after the move (R441). The transfers issue as stated
(`tileTransfersIssue`), and so does the suspension on a core that is not evacuated (`foreignTileSuspends_of_unevacuated`). -/
theorem not_tileInstructionsIssue : ¬ Obligations.TileInstructionsIssue := fun ⟨_, hsuspends⟩ => not_foreignTileSuspends hsuspends

end Sys2Proof.Machine
end

section
/-! # Scalar floating-point units

What FADD to FCVT come to as they issue: one rule for the instructions of two operands, and the truth and the flag of a compare by its
condition (R310-R313). -/

namespace Sys2Proof.Machine
open Sys2Proof.Claims

/-- Such an instruction writes what its operation gives on the codes of its operands, and ORs the flags (R240, R310). -/
theorem floatTwo_of_exec {c : Mark → Reg → Reg → Reg → BitVec 1 → Instr}
    {op : FloatFmt → Rounding → ℕ → ℕ → ℕ × BitVec 5}
    (hexec : ∀ m d a b p s, exec (c m d a b p) s = fpTwo (c m d a b p) d a b p op s) : FloatTwo c op :=
  fun m d a b p s h => exec_done h (hexec m d a b p s) rfl

theorem Fp.isNan_of_isSig {x : Fp} (h : x.isSig = true) : x.isNan = true := by
  cases x with
  | nan _ => rfl
  | inf _ | fin _ _ _ => exact absurd h Bool.false_ne_true

/-- Where any NaN raises NV, a signalling one adds nothing. -/
theorem isSig_or_unordered (f : FloatFmt) (a b : ℕ) :
    ((f.read a).isSig || (f.read b).isSig || ((f.read a).isNan || (f.read b).isNan)) = fpUnordered f a b := by
  rw [fpUnordered, Bool.or_eq_right_iff_imp, Bool.or_eq_true, Bool.or_eq_true]
  exact Or.imp Fp.isNan_of_isSig Fp.isNan_of_isSig

/-- A comparison answers its condition, with NV for a signalling NaN, and for any NaN under lt and le (R312). -/
theorem fpCompare_eq (f : FloatFmt) (c a b : ℕ) : fpCompare f c a b = (floatHolds f c a b, floatFlags f c a b) := by
  match c with
  | 0 | 1 => simp [fpCompare, floatHolds, floatFlags, flagIf, flagNV]
  | 2 | 3 => simp [fpCompare, floatHolds, floatFlags, flagIf, flagNV, isSig_or_unordered]
  | n + 4 => simp [fpCompare, floatHolds, floatFlags, flagIf, flagNV, fpUnordered]

/-- Settles O12: each instruction issues with the result and the flags that its operation has on the codes of its operands. -/
theorem scalarFloatResults : Obligations.ScalarFloatResults := by
  refine ⟨floatTwo_of_exec fun _ _ _ _ _ _ => rfl, floatTwo_of_exec fun _ _ _ _ _ _ => rfl,
    floatTwo_of_exec fun _ _ _ _ _ _ => rfl, floatTwo_of_exec fun _ _ _ _ _ _ => rfl,
    floatTwo_of_exec fun _ _ _ _ _ _ => rfl, floatTwo_of_exec fun _ _ _ _ _ _ => rfl,
    fun m d a b p s h => exec_done h rfl rfl, fun m d a p s h => exec_done h rfl rfl,
    fun m d a b x p s h => exec_done h rfl ?compare, fun m d a x p s h => exec_done h rfl rfl⟩
  case compare =>
    dsimp only
    rw [fpCompare_eq]
    rfl

end Sys2Proof.Machine
end

section
/-! # Special values of floating-point arithmetic

NaN operands, the invalid cases, division by zero and the zeros with a sign (R228, R311). -/

namespace Sys2Proof.Machine
open Sys2Proof.Claims

/-! ### NaN operands (R228) -/

/-- What an operation that reads a NaN gives: a NaN, and NV for a signalling operand. -/
def nanResult (x y : Fp) : Exact := (.nan false, flagIf (x.isSig || y.isSig) flagNV)

/-- An exact operation answers a NaN operand on either side as R228 says. -/
def DeliversNan (op : Fp → Fp → Exact) : Prop := ∀ x y, x.isNan ∨ y.isNan → op x y = nanResult x y

theorem Fp.exists_of_isNan {x : Fp} (h : x.isNan = true) : ∃ sig, x = .nan sig := by
  cases x with
  | nan sig => exact ⟨sig, rfl⟩
  | inf _ | fin _ _ _ => exact absurd h Bool.false_ne_true

theorem deliversNan_of_nan {op : Fp → Fp → Exact} (hleft : ∀ sig y, op (.nan sig) y = nanResult (.nan sig) y)
    (hright : ∀ x sig, op x (.nan sig) = nanResult x (.nan sig)) : DeliversNan op := by
  rintro x y (hx | hy)
  · obtain ⟨sig, rfl⟩ := Fp.exists_of_isNan hx
    exact hleft sig y
  · obtain ⟨sig, rfl⟩ := Fp.exists_of_isNan hy
    exact hright x sig

theorem deliversNan_addX (r : Rounding) : DeliversNan (addX r) :=
  deliversNan_of_nan (fun _ _ => rfl) fun x _ => by cases x <;> rfl
theorem deliversNan_mulX : DeliversNan mulX := deliversNan_of_nan (fun _ _ => rfl) fun x _ => by cases x <;> rfl
theorem deliversNan_divX : DeliversNan divX := deliversNan_of_nan (fun _ _ => rfl) fun x _ => by cases x <;> rfl

theorem Fp.isNan_negate (x : Fp) : x.negate.isNan = x.isNan := by cases x <;> rfl
theorem Fp.isSig_negate (x : Fp) : x.negate.isSig = x.isSig := by cases x <;> rfl

/-- A difference is a sum with the second operand negated, and so is a NaN that it reads. -/
theorem deliversNan_subX (r : Rounding) : DeliversNan fun x y => addX r x y.negate := fun x y h =>
  (deliversNan_addX r x y.negate (by rwa [Fp.isNan_negate])).trans (by rw [nanResult, nanResult, Fp.isSig_negate])

theorem finish_nan (f : FloatFmt) (r : Rounding) (sig : Bool) (fl : BitVec 5) : finish f r (.nan sig, fl) = (f.nan, fl) := by
  simp [finish, pack]

/-- Such an operation delivers the canonical NaN of the format. -/
theorem finish_of_deliversNan {op : Fp → Fp → Exact} (hop : DeliversNan op) (f : FloatFmt) (r : Rounding) {x y : Fp}
    (h : x.isNan ∨ y.isNan) : finish f r (op x y) = (f.nan, if x.isSig || y.isSig then 16 else 0) := by
  rw [hop x y h, nanResult, finish_nan]
  rfl

theorem fpMinMax_of_isNan (f : FloatFmt) (big : Bool) {a b : ℕ} (h : (f.read a).isNan ∨ (f.read b).isNan) :
    fpMinMax f big a b = (f.nan, if (f.read a).isSig || (f.read b).isSig then 16 else 0) :=
  if_pos (by simpa using h)

theorem fpSqrt_of_isNan (f : FloatFmt) (r : Rounding) {a : ℕ} (h : (f.read a).isNan) :
    fpSqrt f r a = (f.nan, if (f.read a).isSig then 16 else 0) := by
  obtain ⟨sig, hsig⟩ := Fp.exists_of_isNan h
  rw [fpSqrt, hsig]
  exact finish_nan ..

/-! ### Infinities and zeros (R227, R311) -/

section
variable {f : FloatFmt} (hf : f = fmt32 ∨ f = fmt64)
include hf

theorem read_infinities : f.noInf = false ∧ f.read f.inf = .inf false ∧ f.read (f.sign true + f.inf) = .inf true := by
  rcases hf with rfl | rfl <;> decide +kernel

theorem read_zeros : ∃ e, f.read 0 = .fin false 0 e ∧ f.read (f.sign true) = .fin true 0 e := by
  rcases hf with rfl | rfl <;> exact ⟨_, rfl, by decide +kernel⟩

end

theorem finish_inf {f : FloatFmt} (hf : f.noInf = false) (r : Rounding) (neg : Bool) (fl : BitVec 5) :
    finish f r (.inf neg, fl) = (f.sign neg + f.inf, fl) := by simp [finish, pack, hf]

theorem finish_zero (f : FloatFmt) (r : Rounding) (neg : Bool) (e : ℤ) (fl : BitVec 5) :
    finish f r (.fin neg 0 e, fl) = (f.sign neg, fl) := by simp [finish, pack, packFinite]

theorem divX_by_zero (neg : Bool) {m : ℕ} (hm : m ≠ 0) (e e' : ℤ) :
    divX (.fin neg m e) (.fin false 0 e') = (.inf neg, flagDZ) := by simp [divX, hm]

theorem sqrtX_negative {m : ℕ} (hm : m ≠ 0) (e : ℤ) : sqrtX (.fin true m e) = (.nan false, flagNV) := by simp [sqrtX, hm]

/-- A zero sum of opposite signs has the sign of its rounding mode. -/
theorem addX_opposite_zeros (r : Rounding) (e : ℤ) : addX r (.fin false 0 e) (.fin true 0 e) = (.fin (r == .rdn) 0 e, 0) := by
  simp [addX, scaled]

theorem sign_of_rounding (f : FloatFmt) (r : Rounding) : f.sign (r == .rdn) = if r = .rdn then f.sign true else 0 := by
  simp [FloatFmt.sign]

/-- Settles O13: a NaN operand ends each operation at the canonical NaN, and each other case is read off its operands. -/
theorem floatSpecialValues : Obligations.FloatSpecialValues := by
  intro f r x y hf
  obtain ⟨hnoInf, hinf, hneginf⟩ := read_infinities hf
  obtain ⟨e, hzero, hnegzero⟩ := read_zeros hf
  refine ⟨fun h => ⟨finish_of_deliversNan (deliversNan_addX r) f r h, finish_of_deliversNan (deliversNan_subX r) f r h,
      finish_of_deliversNan deliversNan_mulX f r h, finish_of_deliversNan deliversNan_divX f r h,
      fpMinMax_of_isNan f false h, fpMinMax_of_isNan f true h⟩,
    fpSqrt_of_isNan f r, ?addInf, ?subInf, ?mulInf, ?divZeros, ?divInfs, fun neg m e' hx hm => ?byZero,
    fun m e' hx hm => ?sqrtNegative, ?sqrtZero, ?addZeros⟩
  case addInf => rw [fpAdd, hinf, hneginf]; exact finish_nan ..
  case subInf => rw [fpSub, hinf]; exact finish_nan ..
  case mulInf => rw [fpMul, hzero, hinf]; exact finish_nan ..
  case divZeros => rw [fpDiv, hzero]; exact finish_nan ..
  case divInfs => rw [fpDiv, hinf]; exact finish_nan ..
  case byZero => rw [fpDiv, hx, hzero, divX_by_zero neg hm, finish_inf hnoInf]; rfl
  case sqrtNegative => rw [fpSqrt, hx, sqrtX_negative hm]; exact finish_nan ..
  case sqrtZero => rw [fpSqrt, hnegzero]; exact finish_zero ..
  case addZeros => rw [fpAdd, hzero, hnegzero, addX_opposite_zeros, finish_zero, sign_of_rounding]

end Sys2Proof.Machine
end

section
/-! # Codes of a format and their rounding

A code that is no NaN reads as an infinity or as the dyadic value of its fields (R226, R227), and such a value is its own rounding in
every mode: its last place is the last place of the format there (R236). -/

namespace Sys2Proof.Machine
open Sys2Proof.Claims

/-! ### Numbers of bits -/

theorem bitLen_le_iff (m k : ℕ) : bitLen m ≤ k ↔ m < 2 ^ k := by
  unfold bitLen
  split_ifs with hm
  · simp [hm]
  · rw [← Nat.log2_lt hm, Nat.succ_le_iff]

theorem bitLen_of_le_of_lt {m k : ℕ} (hlow : 2 ^ k ≤ m) (hhigh : m < 2 ^ (k + 1)) : bitLen m = k + 1 := by
  have hmost := (bitLen_le_iff m (k + 1)).mpr hhigh
  have hleast := mt (bitLen_le_iff m k).mp (Nat.not_lt.mpr hlow)
  omega

/-! ### What a code reads as (R226, R227) -/

/-- The finite value of a biased exponent e and a fraction m: subnormal for e = 0, else with the implicit bit. -/
def FloatFmt.value (f : FloatFmt) (neg : Bool) (e m : ℕ) : Fp :=
  if e = 0 then .fin neg m (1 - f.bias - f.fb) else .fin neg (m + 2 ^ f.fb) (e - f.bias - f.fb)

/-- The magnitude of a code. -/
def FloatFmt.magnitude (f : FloatFmt) (e m : ℕ) : ℕ := e * 2 ^ f.fb + m

/-- A code is its sign and its fields. -/
theorem code_eq_fields {f : FloatFmt} {v : ℕ} (hv : v < 2 ^ f.bits) :
    v = f.sign (bit v (f.eb + f.fb)) + f.magnitude (v / 2 ^ f.fb % 2 ^ f.eb) (v % 2 ^ f.fb) := by
  have htop : v / 2 ^ (f.eb + f.fb) < 2 := Nat.div_lt_of_lt_mul (by rwa [← pow_succ, add_comm (f.eb + f.fb), ← add_assoc])
  have hsign : f.sign (bit v (f.eb + f.fb)) = 2 ^ (f.eb + f.fb) * (v / 2 ^ (f.eb + f.fb)) := by
    rcases Nat.lt_succ_iff_lt_or_eq.mp htop with h | h
    · simp [FloatFmt.sign, bit, Nat.lt_one_iff.mp h]
    · simp [FloatFmt.sign, bit, h]
  have hfields : f.magnitude (v / 2 ^ f.fb % 2 ^ f.eb) (v % 2 ^ f.fb) = v % 2 ^ (f.eb + f.fb) := by
    rw [add_comm f.eb, pow_add, Nat.mod_mul, FloatFmt.magnitude, mul_comm, add_comm]
  rw [hsign, hfields, Nat.div_add_mod]

/-- Without infinities, all codes but the NaN with all fields ones have the value of their fields (R227). -/
theorem read_without_infinities {f : FloatFmt} (hf : f.noInf = true) (v : ℕ) :
    f.read v = if v / 2 ^ f.fb % 2 ^ f.eb = f.emax ∧ v % 2 ^ f.fb = 2 ^ f.fb - 1 then .nan false
      else f.value (bit v (f.eb + f.fb)) (v / 2 ^ f.fb % 2 ^ f.eb) (v % 2 ^ f.fb) := if_pos hf

/-- With infinities, the all-ones exponent is theirs and the NaNs' (R227). -/
theorem read_with_infinities {f : FloatFmt} (hf : f.noInf = false) (v : ℕ) :
    f.read v = if v / 2 ^ f.fb % 2 ^ f.eb = f.emax then
        if v % 2 ^ f.fb = 0 then .inf (bit v (f.eb + f.fb)) else .nan (!f.fp8 && !bit (v % 2 ^ f.fb) (f.fb - 1))
      else f.value (bit v (f.eb + f.fb)) (v / 2 ^ f.fb % 2 ^ f.eb) (v % 2 ^ f.fb) := if_neg (by simp [hf])

theorem magnitude_le_top_of_lt {f : FloatFmt} {e m : ℕ} (he : e < f.emax) (hm : m < 2 ^ f.fb) : f.magnitude e m ≤ f.top := by
  have hlt : f.magnitude e m < f.emax * 2 ^ f.fb :=
    calc e * 2 ^ f.fb + m < (e + 1) * 2 ^ f.fb := by rw [Nat.succ_mul]; omega
      _ ≤ f.emax * 2 ^ f.fb := Nat.mul_le_mul_right _ he
  unfold FloatFmt.top
  split_ifs <;> omega

/-- Without infinities, the all-ones exponent holds the largest values too. -/
theorem magnitude_le_top_of_noInf {f : FloatFmt} (hf : f.noInf = true) {e m : ℕ} (he : e ≤ f.emax) (hm : m < 2 ^ f.fb)
    (hnan : ¬(e = f.emax ∧ m = 2 ^ f.fb - 1)) : f.magnitude e m ≤ f.top := by
  rcases he.lt_or_eq with hlt | rfl
  · exact magnitude_le_top_of_lt hlt hm
  · rw [FloatFmt.top, if_pos hf, FloatFmt.magnitude]
    omega

/-- A code that is no NaN reads as an infinity, where the format has them, or as the finite value of its fields, not past the largest. -/
theorem read_of_not_nan {f : FloatFmt} {v : ℕ} (h : (f.read v).isNan = false) :
    let neg := bit v (f.eb + f.fb)
    let e := v / 2 ^ f.fb % 2 ^ f.eb
    let m := v % 2 ^ f.fb
    (f.noInf = false ∧ f.magnitude e m = f.inf ∧ f.read v = .inf neg) ∨
      (f.magnitude e m ≤ f.top ∧ f.read v = f.value neg e m) := by
  have he : v / 2 ^ f.fb % 2 ^ f.eb ≤ f.emax := Nat.le_sub_one_of_lt (Nat.mod_lt _ (Nat.two_pow_pos _))
  have hm : v % 2 ^ f.fb < 2 ^ f.fb := Nat.mod_lt _ (Nat.two_pow_pos _)
  cases hf : f.noInf with
  | true =>
    rw [read_without_infinities hf] at h ⊢
    split_ifs at h ⊢ with hnan
    · exact Bool.noConfusion h
    · exact .inr ⟨magnitude_le_top_of_noInf hf he hm hnan, rfl⟩
  | false =>
    rw [read_with_infinities hf] at h ⊢
    split_ifs at h ⊢ with hmax hzero
    · exact .inl ⟨rfl, by rw [hmax, hzero]; rfl, rfl⟩
    · exact Bool.noConfusion h
    · exact .inr ⟨magnitude_le_top_of_lt (he.lt_of_ne hmax) hm, rfl⟩

/-! ### Its own rounding (R236) -/

/-- A value whose last place is the last place of the format there is packed as it stands. -/
theorem packFinite_exact {f : FloatFmt} (r : Rounding) (neg : Bool) {m : ℕ} {e : ℤ} (hm : m ≠ 0)
    (hplace : max (e + bitLen m - 1 - f.fb) (1 - f.bias - f.fb) = e)
    (htop : (e - (1 - f.bias - f.fb)).toNat * 2 ^ f.fb + m ≤ f.top) :
    packFinite f r neg m e = (f.sign neg + ((e - (1 - f.bias - f.fb)).toNat * 2 ^ f.fb + m), 0) := by
  simp [packFinite, hm, hplace, roundTo, Nat.not_lt.mpr htop, flagIf]

theorem pack_value_subnormal {f : FloatFmt} (r : Rounding) (neg : Bool) {m : ℕ} (hm : m < 2 ^ f.fb) (htop : m ≤ f.top) :
    pack f r (f.value neg 0 m) = (f.sign neg + m, 0) := by
  rw [FloatFmt.value, if_pos rfl, pack]
  rcases eq_or_ne m 0 with rfl | hpos
  · exact if_pos rfl
  · have hlen := (bitLen_le_iff m f.fb).mpr hm
    rw [packFinite_exact r neg hpos (by omega) (by simpa using htop)]
    simp

theorem pack_value_normal {f : FloatFmt} (r : Rounding) (neg : Bool) {e m : ℕ} (hm : m < 2 ^ f.fb)
    (htop : f.magnitude (e + 1) m ≤ f.top) : pack f r (f.value neg (e + 1) m) = (f.sign neg + f.magnitude (e + 1) m, 0) := by
  have hlen : bitLen (m + 2 ^ f.fb) = f.fb + 1 := bitLen_of_le_of_lt (by omega) (by rw [pow_succ]; omega)
  have hplaces : ((e + 1 : ℕ) - f.bias - f.fb - (1 - f.bias - f.fb) : ℤ).toNat = e := by omega
  have hcode : f.magnitude (e + 1) m = e * 2 ^ f.fb + (m + 2 ^ f.fb) := by rw [FloatFmt.magnitude, Nat.succ_mul]; omega
  rw [FloatFmt.value, if_neg e.succ_ne_zero, pack,
    packFinite_exact r neg (by have := Nat.two_pow_pos f.fb; omega) (by omega) (by rwa [hplaces, ← hcode]), hplaces, hcode]

/-- Every finite value of the format is packed as its fields, in every mode. -/
theorem pack_value {f : FloatFmt} (r : Rounding) (neg : Bool) {e m : ℕ} (hm : m < 2 ^ f.fb) (htop : f.magnitude e m ≤ f.top) :
    pack f r (f.value neg e m) = (f.sign neg + f.magnitude e m, 0) := by
  cases e with
  | zero =>
    have hmag : f.magnitude 0 m = m := by simp [FloatFmt.magnitude]
    rw [hmag] at htop ⊢
    exact pack_value_subnormal r neg hm htop
  | succ e => exact pack_value_normal r neg hm htop

/-- Settles O14: a code is an infinity of its format, or the finite value of its fields, which is its own rounding. -/
theorem representableValuesRoundExactly : Obligations.RepresentableValuesRoundExactly := by
  intro f _ r v hv hnan
  rcases read_of_not_nan hnan with ⟨hnoInf, hmag, hread⟩ | ⟨htop, hread⟩
  · rw [hread, pack, if_neg (by simp [hnoInf]), ← hmag, ← code_eq_fields hv]
  · rw [hread, pack_value r _ (Nat.mod_lt _ (Nat.two_pow_pos _)) htop, ← code_eq_fields hv]

end Sys2Proof.Machine
end

section
/-! # The orders in which lanes combine

The balanced tree, the log-step scan and the recurrence on lanes that are all enabled (R246, R247, R401). -/

namespace Sys2Proof.Machine
open Sys2Proof.Claims

/-- The lanes x 0 to x (n − 1), all enabled. -/
def enabledLanes (n : ℕ) (x : ℕ → ℕ) : List (Option ℕ) := (List.range n).map fun k => some (x k)

/-- An operation on lanes that raises no flag. -/
def unflagged (op : ℕ → ℕ → ℕ) (u v : ℕ) : LaneResult := (op u v, 0)

theorem enabledLanes_succ (n : ℕ) (x : ℕ → ℕ) : enabledLanes (n + 1) x = some (x 0) :: enabledLanes n fun k => x (k + 1) := by
  simp [enabledLanes, List.range_succ_eq_map]

/-! ### The balanced tree (R401) -/

/-- A level of the tree combines each two neighbours. -/
theorem treeLevel_enabledLanes (op : ℕ → ℕ → ℕ) (n : ℕ) (x : ℕ → ℕ) :
    treeLevel (unflagged op) (enabledLanes (2 * n) x) = (enabledLanes n fun k => op (x (2 * k)) (x (2 * k + 1)), 0) := by
  induction n generalizing x with
  | zero => rfl
  | succ n ih =>
    rw [Nat.mul_succ, enabledLanes_succ, enabledLanes_succ, treeLevel, ih, enabledLanes_succ]
    exact Prod.ext rfl (BitVec.zero_or ..)

theorem tree_enabledLanes (op : ℕ → ℕ → ℕ) (levels n : ℕ) (x : ℕ → ℕ) :
    tree (unflagged op) (levels + 1) (enabledLanes (2 * n) x) =
      tree (unflagged op) levels (enabledLanes n fun k => op (x (2 * k)) (x (2 * k + 1))) := by
  rw [tree, treeLevel_enabledLanes]
  exact Prod.ext rfl (BitVec.zero_or ..)

/-! ### The log-step scan (R246) -/

/-- What a step at a distance leaves in lane k: lanes below the distance keep their values. -/
def scanned (op : ℕ → ℕ → ℕ) (d : ℕ) (x : ℕ → ℕ) (k : ℕ) : ℕ := if d ≤ k then op (x (k - d)) (x k) else x k

theorem scanStep_enabledLanes (op : ℕ → ℕ → ℕ) (mask d n : ℕ) (x : ℕ → ℕ) :
    (scanStep (unflagged op) mask d (enabledLanes n x)).1 = enabledLanes n (scanned op d x) := by
  refine List.ext_getElem (by simp [scanStep, enabledLanes]) fun k hk _ => ?_
  have hkn : k < n := by simpa [scanStep, enabledLanes] using hk
  rcases Nat.lt_or_ge k d with hd | hd
  · simp [scanStep, enabledLanes, scanned, hd, Nat.not_le.mpr hd]
  · simp [scanStep, enabledLanes, scanned, hd, Nat.not_lt.mpr hd, combine, unflagged, (Nat.sub_le k d).trans_lt hkn]

/-- The scan is its four steps, at the distances 1, 2, 4 and 8. -/
theorem logScan_enabledLanes (op : ℕ → ℕ → ℕ) (mask n : ℕ) (x : ℕ → ℕ) :
    (logScan (unflagged op) mask (enabledLanes n x)).1 =
      enabledLanes n (scanned op 8 (scanned op 4 (scanned op 2 (scanned op 1 x)))) := by
  simp only [logScan, List.foldl, scanStep_enabledLanes]

/-! ### The recurrence (R247) -/

/-- The state that lane k takes: the carry in, or what the lane before it leaves. -/
def carried (r : Rounding) (h : ℕ) (a b : ℕ → ℕ) : ℕ → ℕ
  | 0 => h
  | k + 1 => (fpFma fmt32 r (a k) (carried r h a b k) (b k)).1

theorem carried_succ (r : Rounding) (h : ℕ) (a b : ℕ → ℕ) (k : ℕ) :
    carried r h a b (k + 1) = carried r (fpFma fmt32 r (a 0) h (b 0)).1 (fun j => a (j + 1)) (fun j => b (j + 1)) k := by
  induction k with
  | zero => rfl
  | succ k ih => exact congrArg (fun y => (fpFma fmt32 r (a (k + 1)) y (b (k + 1))).1) ih

/-- The recurrence gives, in each of any number of enabled lanes, the state that it leaves to the next. -/
theorem recurrence_enabledLanes (r : Rounding) (h n : ℕ) (a b : ℕ → ℕ) :
    (recurrence r h ((List.range n).map fun k => (true, a k, b k))).map (·.1) =
      (List.range n).map fun k => carried r h a b (k + 1) := by
  induction n generalizing h a b with
  | zero => rfl
  | succ n ih =>
    simp only [List.range_succ_eq_map, List.map_cons, List.map_map, recurrence, if_true]
    exact congrArg₂ List.cons rfl ((ih ..).trans (List.map_congr_left fun k _ => (carried_succ r h a b (k + 1)).symm))

/-- Settles O37: the tree and the scan halve and step as their levels and distances say, and each lane's state enters the next. -/
theorem vectorAssociationOrders : Obligations.VectorAssociationOrders := by
  intro op x r h a b
  refine ⟨?tree, logScan_enabledLanes op _ 16 x, recurrence_enabledLanes r h 2 a b⟩
  case tree =>
    refine (tree_enabledLanes op 3 8 x).trans ?_
    rw [tree_enabledLanes op 2 4, tree_enabledLanes op 1 2, tree_enabledLanes op 0 1]
    rfl

end Sys2Proof.Machine
end

section
/-! # The encoder and the decoder

Each instruction word has a row of the opcode table: its fields from bit 0 up (R269-R279). The word that the encoder gives is the one that
holds the row (`encode_eq_some_iff`), and the decoder answers with an instruction exactly on the words that hold its row
(`decode_eq_ok_iff`). So each undoes the other. The proofs about all rows unfold `layout` by `delta`: the equations of a match on 286
constructors are slow to make. -/

namespace Sys2Proof.Machine
open Sys2Proof.Claims

/-! ### Fields of a word -/

/-- A field of a word: its width and its bits. -/
abbrev RowField := (n : ℕ) × BitVec n

/-- The width of a row of fields. -/
def rowWidth : List RowField → ℕ
  | [] => 0
  | ⟨n, _⟩ :: fs => n + rowWidth fs

/-- The number whose binary digits are the fields of a row, the first one lowest. -/
def assemble : List RowField → ℕ
  | [] => 0
  | ⟨n, x⟩ :: fs => x.toNat + 2 ^ n * assemble fs

/-- A word holds the fields of a row, one after the other from bit lo up. -/
def Holds (w : IWord) : ℕ → List RowField → Prop
  | _, [] => True
  | lo, ⟨n, x⟩ :: fs => fld w lo n = x ∧ Holds w (lo + n) fs

theorem assemble_lt (fs : List RowField) : assemble fs < 2 ^ rowWidth fs := by
  induction fs with
  | nil => exact Nat.one_pos
  | cons f fs ih =>
    obtain ⟨n, x⟩ := f
    calc x.toNat + 2 ^ n * assemble fs
      _ < 2 ^ n * (assemble fs + 1) := by rw [Nat.mul_succ]; have := x.isLt; omega
      _ ≤ 2 ^ n * 2 ^ rowWidth fs := Nat.mul_le_mul_left _ ih
      _ = 2 ^ rowWidth (⟨n, x⟩ :: fs) := (pow_add ..).symm

theorem bits_eq_toNat_fld (w : IWord) (lo n : ℕ) : bits w lo n = (fld w lo n).toNat := (BitVec.toNat_ofNat ..).symm

theorem fld_eq_iff {w : IWord} {lo n : ℕ} {x : BitVec n} : fld w lo n = x ↔ w.toNat / 2 ^ lo % 2 ^ n = x.toNat := by
  rw [← BitVec.toNat_inj, ← bits_eq_toNat_fld, bits]

/-- The bits of a word from lo up are the digits of a row exactly when the word holds its fields there. -/
theorem holds_iff (w : IWord) (fs : List RowField) (lo : ℕ) :
    Holds w lo fs ↔ w.toNat / 2 ^ lo % 2 ^ rowWidth fs = assemble fs := by
  induction fs generalizing lo with
  | nil => simp [Holds, rowWidth, assemble, Nat.mod_one]
  | cons f fs ih =>
    obtain ⟨n, x⟩ := f
    have hdiv : w.toNat / 2 ^ (lo + n) = w.toNat / 2 ^ lo / 2 ^ n := by rw [pow_add, Nat.div_div_eq_div_mul]
    rw [Holds, ih, fld_eq_iff, hdiv, rowWidth, pow_add, Nat.mod_mul, assemble]
    constructor
    · rintro ⟨hlow, hhigh⟩
      rw [hlow, hhigh]
    · intro h
      have hlow := congrArg (· % 2 ^ n) h
      simp only [Nat.add_mul_mod_self_left, Nat.mod_mod, Nat.mod_eq_of_lt x.isLt] at hlow
      rw [hlow] at h
      exact ⟨hlow, Nat.eq_of_mul_eq_mul_left (Nat.two_pow_pos n) (Nat.add_left_cancel h)⟩

/-- A word of 32 bits that holds the fields of a row is the number of the row. -/
theorem holds_zero_iff {fs : List RowField} (hfs : rowWidth fs = 32) (w : IWord) : Holds w 0 fs ↔ w.toNat = assemble fs := by
  rw [holds_iff, hfs, pow_zero, Nat.div_one, Nat.mod_eq_of_lt w.isLt]

theorem fld_mark (w : IWord) : fld w 31 1 = .ofBool (mark w) := by
  rw [fld_eq_iff, mark, BitVec.toNat_ofBool]
  rcases Nat.mod_two_eq_zero_or_one (w.toNat / 2147483648) with h | h <;> simp [h]

theorem mark_eq_iff {w : IWord} {m : Mark} : mark w = m ↔ fld w 31 1 = .ofBool m := by
  rw [fld_mark]
  cases mark w <;> cases m <;> decide

/-! ### The rows of the opcode table -/

/-- The row of a major opcode: the fields of bits 24:0 from bit 0 up, the opcode, and the switch marker (R269). -/
def row (m : Mark) (op : BitVec 6) (fs : List RowField) : List RowField := fs ++ [⟨6, op⟩, ⟨1, .ofBool m⟩]

/-- The row of an instruction word, its unused bits zero (R269-R279). -/
def layout : Instr → List RowField
  | .nop => row false 0 [⟨25, 0⟩]
  | .brk m c => row m 0 [⟨10, 1⟩, ⟨10, c⟩, ⟨5, 0⟩]
  | .trap m c => row m 0 [⟨10, 2⟩, ⟨8, c⟩, ⟨7, 0⟩]
  | .eret m => row m 0 [⟨10, 3⟩, ⟨15, 0⟩]
  | .rdsys m d n => row m 0 [⟨10, 4⟩, ⟨10, n⟩, ⟨5, d⟩]
  | .wrsys m d n => row m 0 [⟨10, 5⟩, ⟨10, n⟩, ⟨5, d⟩]
  | .susp m a => row m 0 [⟨10, 6⟩, ⟨5, 0⟩, ⟨5, a⟩, ⟨5, 0⟩]
  | .resm m a => row m 0 [⟨10, 7⟩, ⟨5, 0⟩, ⟨5, a⟩, ⟨5, 0⟩]
  | .rdslot m d a => row m 0 [⟨10, 8⟩, ⟨5, 0⟩, ⟨5, a⟩, ⟨5, d⟩]
  | .wrslot m d a => row m 0 [⟨10, 9⟩, ⟨5, 0⟩, ⟨5, a⟩, ⟨5, d⟩]
  | .ctxkill m a => row m 0 [⟨10, 10⟩, ⟨5, 0⟩, ⟨5, a⟩, ⟨5, 0⟩]
  | .fmt a b d e c => row false 1 [⟨2, c⟩, ⟨3, 0⟩, ⟨5, e⟩, ⟨5, d⟩, ⟨5, b⟩, ⟨5, a⟩]
  | .rep c d a b => row false 2 [⟨2, 0⟩, ⟨5, b⟩, ⟨5, a⟩, ⟨5, d⟩, ⟨8, c⟩]
  | .lui m d i => row m 3 [⟨20, i⟩, ⟨5, d⟩]
  | .add m d a b => row m 4 [⟨10, 0⟩, ⟨5, b⟩, ⟨5, a⟩, ⟨5, d⟩]
  | .sub m d a b => row m 4 [⟨10, 1⟩, ⟨5, b⟩, ⟨5, a⟩, ⟨5, d⟩]
  | .and m d a b => row m 4 [⟨10, 2⟩, ⟨5, b⟩, ⟨5, a⟩, ⟨5, d⟩]
  | .or m d a b => row m 4 [⟨10, 3⟩, ⟨5, b⟩, ⟨5, a⟩, ⟨5, d⟩]
  | .xor m d a b => row m 4 [⟨10, 4⟩, ⟨5, b⟩, ⟨5, a⟩, ⟨5, d⟩]
  | .andn m d a b => row m 4 [⟨10, 5⟩, ⟨5, b⟩, ⟨5, a⟩, ⟨5, d⟩]
  | .shl m d a b => row m 4 [⟨10, 6⟩, ⟨5, b⟩, ⟨5, a⟩, ⟨5, d⟩]
  | .shr m d a b => row m 4 [⟨10, 7⟩, ⟨5, b⟩, ⟨5, a⟩, ⟨5, d⟩]
  | .sra m d a b => row m 4 [⟨10, 8⟩, ⟨5, b⟩, ⟨5, a⟩, ⟨5, d⟩]
  | .min m d a b => row m 4 [⟨10, 9⟩, ⟨5, b⟩, ⟨5, a⟩, ⟨5, d⟩]
  | .max m d a b => row m 4 [⟨10, 10⟩, ⟨5, b⟩, ⟨5, a⟩, ⟨5, d⟩]
  | .minu m d a b => row m 4 [⟨10, 11⟩, ⟨5, b⟩, ⟨5, a⟩, ⟨5, d⟩]
  | .maxu m d a b => row m 4 [⟨10, 12⟩, ⟨5, b⟩, ⟨5, a⟩, ⟨5, d⟩]
  | .clz m d a => row m 4 [⟨10, 13⟩, ⟨5, 0⟩, ⟨5, a⟩, ⟨5, d⟩]
  | .ctz m d a => row m 4 [⟨10, 14⟩, ⟨5, 0⟩, ⟨5, a⟩, ⟨5, d⟩]
  | .popc m d a => row m 4 [⟨10, 15⟩, ⟨5, 0⟩, ⟨5, a⟩, ⟨5, d⟩]
  | .sext m d a b => row m 4 [⟨10, 16⟩, ⟨5, b⟩, ⟨5, a⟩, ⟨5, d⟩]
  | .addi m d a i => row m 5 [⟨15, i⟩, ⟨5, a⟩, ⟨5, d⟩]
  | .andi m d a i => row m 6 [⟨15, i⟩, ⟨5, a⟩, ⟨5, d⟩]
  | .ori m d a i => row m 7 [⟨15, i⟩, ⟨5, a⟩, ⟨5, d⟩]
  | .xori m d a i => row m 8 [⟨15, i⟩, ⟨5, a⟩, ⟨5, d⟩]
  | .shli m d a n => row m 9 [⟨6, n⟩, ⟨2, 0⟩, ⟨7, 0⟩, ⟨5, a⟩, ⟨5, d⟩]
  | .shri m d a n => row m 9 [⟨6, n⟩, ⟨2, 1⟩, ⟨7, 0⟩, ⟨5, a⟩, ⟨5, d⟩]
  | .srai m d a n => row m 9 [⟨6, n⟩, ⟨2, 2⟩, ⟨7, 0⟩, ⟨5, a⟩, ⟨5, d⟩]
  | .mul m d a b => row m 10 [⟨10, 0⟩, ⟨5, b⟩, ⟨5, a⟩, ⟨5, d⟩]
  | .mulh m d a b => row m 10 [⟨10, 1⟩, ⟨5, b⟩, ⟨5, a⟩, ⟨5, d⟩]
  | .mulhu m d a b => row m 10 [⟨10, 2⟩, ⟨5, b⟩, ⟨5, a⟩, ⟨5, d⟩]
  | .div m d a b => row m 10 [⟨10, 3⟩, ⟨5, b⟩, ⟨5, a⟩, ⟨5, d⟩]
  | .divu m d a b => row m 10 [⟨10, 4⟩, ⟨5, b⟩, ⟨5, a⟩, ⟨5, d⟩]
  | .rem m d a b => row m 10 [⟨10, 5⟩, ⟨5, b⟩, ⟨5, a⟩, ⟨5, d⟩]
  | .remu m d a b => row m 10 [⟨10, 6⟩, ⟨5, b⟩, ⟨5, a⟩, ⟨5, d⟩]
  | .fadd m d a b p => row m 11 [⟨4, 0⟩, ⟨1, p⟩, ⟨5, 0⟩, ⟨5, b⟩, ⟨5, a⟩, ⟨5, d⟩]
  | .fsub m d a b p => row m 11 [⟨4, 1⟩, ⟨1, p⟩, ⟨5, 0⟩, ⟨5, b⟩, ⟨5, a⟩, ⟨5, d⟩]
  | .fmul m d a b p => row m 11 [⟨4, 2⟩, ⟨1, p⟩, ⟨5, 0⟩, ⟨5, b⟩, ⟨5, a⟩, ⟨5, d⟩]
  | .fma m d a b p => row m 11 [⟨4, 3⟩, ⟨1, p⟩, ⟨5, 0⟩, ⟨5, b⟩, ⟨5, a⟩, ⟨5, d⟩]
  | .fdiv m d a b p => row m 11 [⟨4, 4⟩, ⟨1, p⟩, ⟨5, 0⟩, ⟨5, b⟩, ⟨5, a⟩, ⟨5, d⟩]
  | .fsqrt m d a p => row m 11 [⟨4, 5⟩, ⟨1, p⟩, ⟨10, 0⟩, ⟨5, a⟩, ⟨5, d⟩]
  | .fmin m d a b p => row m 11 [⟨4, 6⟩, ⟨1, p⟩, ⟨5, 0⟩, ⟨5, b⟩, ⟨5, a⟩, ⟨5, d⟩]
  | .fmax m d a b p => row m 11 [⟨4, 7⟩, ⟨1, p⟩, ⟨5, 0⟩, ⟨5, b⟩, ⟨5, a⟩, ⟨5, d⟩]
  | .fcmp m d a b x p => row m 11 [⟨4, 8⟩, ⟨1, p⟩, ⟨5, x⟩, ⟨5, b⟩, ⟨5, a⟩, ⟨5, d⟩]
  | .fcvt m d a x p => row m 11 [⟨4, 9⟩, ⟨1, p⟩, ⟨5, x⟩, ⟨5, 0⟩, ⟨5, a⟩, ⟨5, d⟩]
  | .cmp m c k p a b => row m 12 [⟨5, 0⟩, ⟨5, b⟩, ⟨5, a⟩, ⟨4, p⟩, ⟨2, k⟩, ⟨4, c⟩]
  | .cmpi m c k p a i => row m 13 [⟨10, i⟩, ⟨5, a⟩, ⟨4, p⟩, ⟨2, k⟩, ⟨4, c⟩]
  | .bt m q d => row m 14 [⟨20, d⟩, ⟨1, 1⟩, ⟨4, q⟩]
  | .bf m q d => row m 14 [⟨20, d⟩, ⟨1, 0⟩, ⟨4, q⟩]
  | .j m d => row m 15 [⟨25, d⟩]
  | .jal m d i => row m 16 [⟨20, i⟩, ⟨5, d⟩]
  | .jr m a => row m 17 [⟨10, 0⟩, ⟨5, 0⟩, ⟨5, a⟩, ⟨5, 0⟩]
  | .jalr m d a => row m 17 [⟨10, 1⟩, ⟨5, 0⟩, ⟨5, a⟩, ⟨5, d⟩]
  | .ld m d a p z o => row m 18 [⟨10, o⟩, ⟨2, z⟩, ⟨3, p⟩, ⟨5, a⟩, ⟨5, d⟩]
  | .st m d a p z o => row m 19 [⟨10, o⟩, ⟨2, z⟩, ⟨3, p⟩, ⟨5, a⟩, ⟨5, d⟩]
  | .ldv m d a p o => row m 20 [⟨10, o⟩, ⟨2, 0⟩, ⟨3, p⟩, ⟨5, a⟩, ⟨5, d⟩]
  | .stv m d a p o => row m 21 [⟨10, o⟩, ⟨2, 0⟩, ⟨3, p⟩, ⟨5, a⟩, ⟨5, d⟩]
  | .aadd m d a p z o => row m 22 [⟨2, 0⟩, ⟨4, o⟩, ⟨4, 0⟩, ⟨1, z⟩, ⟨1, 1⟩, ⟨3, p⟩, ⟨5, a⟩, ⟨5, d⟩]
  | .aand m d a p z o => row m 22 [⟨2, 0⟩, ⟨4, o⟩, ⟨4, 1⟩, ⟨1, z⟩, ⟨1, 1⟩, ⟨3, p⟩, ⟨5, a⟩, ⟨5, d⟩]
  | .aor m d a p z o => row m 22 [⟨2, 0⟩, ⟨4, o⟩, ⟨4, 2⟩, ⟨1, z⟩, ⟨1, 1⟩, ⟨3, p⟩, ⟨5, a⟩, ⟨5, d⟩]
  | .axor m d a p z o => row m 22 [⟨2, 0⟩, ⟨4, o⟩, ⟨4, 3⟩, ⟨1, z⟩, ⟨1, 1⟩, ⟨3, p⟩, ⟨5, a⟩, ⟨5, d⟩]
  | .amin m d a p z o => row m 22 [⟨2, 0⟩, ⟨4, o⟩, ⟨4, 4⟩, ⟨1, z⟩, ⟨1, 1⟩, ⟨3, p⟩, ⟨5, a⟩, ⟨5, d⟩]
  | .amax m d a p z o => row m 22 [⟨2, 0⟩, ⟨4, o⟩, ⟨4, 5⟩, ⟨1, z⟩, ⟨1, 1⟩, ⟨3, p⟩, ⟨5, a⟩, ⟨5, d⟩]
  | .aswp m d a p z o => row m 22 [⟨2, 0⟩, ⟨4, o⟩, ⟨4, 6⟩, ⟨1, z⟩, ⟨1, 1⟩, ⟨3, p⟩, ⟨5, a⟩, ⟨5, d⟩]
  | .acas m d a p z o => row m 22 [⟨2, 0⟩, ⟨4, o⟩, ⟨4, 7⟩, ⟨1, z⟩, ⟨1, 1⟩, ⟨3, p⟩, ⟨5, a⟩, ⟨5, d⟩]
  | .afadd m d a p z o => row m 22 [⟨2, 0⟩, ⟨4, o⟩, ⟨4, 8⟩, ⟨1, z⟩, ⟨1, 1⟩, ⟨3, p⟩, ⟨5, a⟩, ⟨5, d⟩]
  | .clean m a b => row m 23 [⟨10, 0⟩, ⟨5, b⟩, ⟨5, a⟩, ⟨5, 0⟩]
  | .inval m a b => row m 23 [⟨10, 1⟩, ⟨5, b⟩, ⟨5, a⟩, ⟨5, 0⟩]
  | .flush m a b => row m 23 [⟨10, 2⟩, ⟨5, b⟩, ⟨5, a⟩, ⟨5, 0⟩]
  | .pref m d a b => row m 23 [⟨10, 3⟩, ⟨5, b⟩, ⟨5, a⟩, ⟨5, d⟩]
  | .fenceAcq m sc => row m 24 [⟨2, 0⟩, ⟨3, sc⟩, ⟨20, 0⟩]
  | .fenceRel m sc => row m 24 [⟨2, 1⟩, ⟨3, sc⟩, ⟨20, 0⟩]
  | .fenceFull m sc => row m 24 [⟨2, 2⟩, ⟨3, sc⟩, ⟨20, 0⟩]
  | .bar m d a b sc => row m 25 [⟨3, 0⟩, ⟨3, sc⟩, ⟨4, 0⟩, ⟨5, b⟩, ⟨5, a⟩, ⟨5, d⟩]
  | .bara m d a b sc => row m 25 [⟨3, 1⟩, ⟨3, sc⟩, ⟨4, 0⟩, ⟨5, b⟩, ⟨5, a⟩, ⟨5, d⟩]
  | .barw m d a sc => row m 25 [⟨3, 2⟩, ⟨3, sc⟩, ⟨9, 0⟩, ⟨5, a⟩, ⟨5, d⟩]
  | .barx m d a b sc => row m 25 [⟨3, 3⟩, ⟨3, sc⟩, ⟨4, 0⟩, ⟨5, b⟩, ⟨5, a⟩, ⟨5, d⟩]
  | .barq m d a sc => row m 25 [⟨3, 4⟩, ⟨3, sc⟩, ⟨9, 0⟩, ⟨5, a⟩, ⟨5, d⟩]
  | .send m d a b md => row m 26 [⟨4, 0⟩, ⟨1, md⟩, ⟨5, 0⟩, ⟨5, b⟩, ⟨5, a⟩, ⟨5, d⟩]
  | .recv m d => row m 26 [⟨4, 1⟩, ⟨16, 0⟩, ⟨5, d⟩]
  | .waitm m => row m 26 [⟨4, 2⟩, ⟨21, 0⟩]
  | .mbput m d a b md => row m 26 [⟨4, 3⟩, ⟨1, md⟩, ⟨5, 0⟩, ⟨5, b⟩, ⟨5, a⟩, ⟨5, d⟩]
  | .mbget m d a b md => row m 26 [⟨4, 4⟩, ⟨1, md⟩, ⟨5, 0⟩, ⟨5, b⟩, ⟨5, a⟩, ⟨5, d⟩]
  | .chainSet m a => row m 26 [⟨4, 5⟩, ⟨11, 0⟩, ⟨5, a⟩, ⟨5, 0⟩]
  | .chainRel m a => row m 26 [⟨4, 5⟩, ⟨11, 1⟩, ⟨5, a⟩, ⟨5, 0⟩]
  | .chainAcq m d => row m 26 [⟨4, 5⟩, ⟨16, 2⟩, ⟨5, d⟩]
  | .spawn m d a b => row m 27 [⟨10, 0⟩, ⟨5, b⟩, ⟨5, a⟩, ⟨5, d⟩]
  | .yield m => row m 27 [⟨10, 1⟩, ⟨15, 0⟩]
  | .exit m => row m 27 [⟨10, 2⟩, ⟨15, 0⟩]
  | .trig m => row m 27 [⟨10, 3⟩, ⟨15, 0⟩]
  | .gwait m => row m 27 [⟨10, 4⟩, ⟨15, 0⟩]
  | .migrate m a => row m 27 [⟨10, 5⟩, ⟨5, 0⟩, ⟨5, a⟩, ⟨5, 0⟩]
  | .rqput m d a b => row m 27 [⟨10, 6⟩, ⟨5, b⟩, ⟨5, a⟩, ⟨5, d⟩]
  | .bpush m d a z v => row m 28 [⟨4, 0⟩, ⟨1, v⟩, ⟨2, z⟩, ⟨8, 0⟩, ⟨5, a⟩, ⟨5, d⟩]
  | .bpushn m d a n z v => row m 28 [⟨4, 1⟩, ⟨1, v⟩, ⟨2, z⟩, ⟨2, n⟩, ⟨6, 0⟩, ⟨5, a⟩, ⟨5, d⟩]
  | .bpop m d a z v => row m 28 [⟨4, 2⟩, ⟨1, v⟩, ⟨2, z⟩, ⟨8, 0⟩, ⟨5, a⟩, ⟨5, d⟩]
  | .bpeek m d a z v => row m 28 [⟨4, 3⟩, ⟨1, v⟩, ⟨2, z⟩, ⟨8, 0⟩, ⟨5, a⟩, ⟨5, d⟩]
  | .bmput m d a b => row m 28 [⟨4, 4⟩, ⟨6, 0⟩, ⟨5, b⟩, ⟨5, a⟩, ⟨5, d⟩]
  | .bmget m d a b => row m 28 [⟨4, 5⟩, ⟨6, 0⟩, ⟨5, b⟩, ⟨5, a⟩, ⟨5, d⟩]
  | .bmdel m d a b => row m 28 [⟨4, 6⟩, ⟨6, 0⟩, ⟨5, b⟩, ⟨5, a⟩, ⟨5, d⟩]
  | .bhput m d a => row m 28 [⟨4, 7⟩, ⟨11, 0⟩, ⟨5, a⟩, ⟨5, d⟩]
  | .bhpop m d a => row m 28 [⟨4, 8⟩, ⟨11, 0⟩, ⟨5, a⟩, ⟨5, d⟩]
  | .bhtop m d a => row m 28 [⟨4, 9⟩, ⟨11, 0⟩, ⟨5, a⟩, ⟨5, d⟩]
  | .bgadd m d a b o => row m 28 [⟨4, 10⟩, ⟨1, o⟩, ⟨5, 0⟩, ⟨5, b⟩, ⟨5, a⟩, ⟨5, d⟩]
  | .bgrd m d a b => row m 28 [⟨4, 11⟩, ⟨6, 0⟩, ⟨5, b⟩, ⟨5, a⟩, ⟨5, d⟩]
  | .bgclr m a b l => row m 28 [⟨4, 12⟩, ⟨1, l⟩, ⟨5, 0⟩, ⟨5, b⟩, ⟨5, a⟩, ⟨5, 0⟩]
  | .bpset m d a b => row m 28 [⟨4, 13⟩, ⟨6, 0⟩, ⟨5, b⟩, ⟨5, a⟩, ⟨5, d⟩]
  | .blink m a b c => row m 28 [⟨4, 14⟩, ⟨4, c⟩, ⟨2, 0⟩, ⟨5, b⟩, ⟨5, a⟩, ⟨5, 0⟩]
  | .bstat m d a => row m 28 [⟨4, 15⟩, ⟨11, 0⟩, ⟨5, a⟩, ⟨5, d⟩]
  | .bvadd m a b c t => row m 29 [⟨3, 0⟩, ⟨1, t⟩, ⟨1, 0⟩, ⟨5, c⟩, ⟨5, b⟩, ⟨5, a⟩, ⟨5, 0⟩]
  | .bvmul m d a b t => row m 29 [⟨3, 1⟩, ⟨1, t⟩, ⟨6, 0⟩, ⟨5, b⟩, ⟨5, a⟩, ⟨5, d⟩]
  | .bvfma m d a b c t => row m 29 [⟨3, 2⟩, ⟨1, t⟩, ⟨1, 0⟩, ⟨5, c⟩, ⟨5, b⟩, ⟨5, a⟩, ⟨5, d⟩]
  | .bvfill m a b c => row m 29 [⟨3, 3⟩, ⟨2, 0⟩, ⟨5, c⟩, ⟨5, b⟩, ⟨5, a⟩, ⟨5, 0⟩]
  | .bvcvt m a b r => row m 29 [⟨3, 4⟩, ⟨1, 0⟩, ⟨1, r⟩, ⟨5, 0⟩, ⟨5, b⟩, ⟨5, a⟩, ⟨5, 0⟩]
  | .bvsum m d a b t => row m 29 [⟨3, 5⟩, ⟨1, t⟩, ⟨6, 0⟩, ⟨5, b⟩, ⟨5, a⟩, ⟨5, d⟩]
  | .bvrmax m d a b t => row m 29 [⟨3, 6⟩, ⟨1, t⟩, ⟨6, 0⟩, ⟨5, b⟩, ⟨5, a⟩, ⟨5, d⟩]
  | .bsmx m a b => row m 29 [⟨3, 7⟩, ⟨7, 0⟩, ⟨5, b⟩, ⟨5, a⟩, ⟨5, 0⟩]
  | .rowcpy m d a b => row m 30 [⟨3, 0⟩, ⟨7, 0⟩, ⟨5, b⟩, ⟨5, a⟩, ⟨5, d⟩]
  | .rowset m d b => row m 30 [⟨3, 1⟩, ⟨7, 0⟩, ⟨5, b⟩, ⟨5, 0⟩, ⟨5, d⟩]
  | .rowand m d a b => row m 30 [⟨3, 2⟩, ⟨7, 0⟩, ⟨5, b⟩, ⟨5, a⟩, ⟨5, d⟩]
  | .rowor m d a b => row m 30 [⟨3, 3⟩, ⟨7, 0⟩, ⟨5, b⟩, ⟨5, a⟩, ⟨5, d⟩]
  | .rowxor m d a b => row m 30 [⟨3, 4⟩, ⟨7, 0⟩, ⟨5, b⟩, ⟨5, a⟩, ⟨5, d⟩]
  | .rownot m d a b => row m 30 [⟨3, 5⟩, ⟨7, 0⟩, ⟨5, b⟩, ⟨5, a⟩, ⟨5, d⟩]
  | .rowmaj m d a b => row m 30 [⟨3, 6⟩, ⟨7, 0⟩, ⟨5, b⟩, ⟨5, a⟩, ⟨5, d⟩]
  | .cpy m d a b => row m 31 [⟨3, 0⟩, ⟨7, 0⟩, ⟨5, b⟩, ⟨5, a⟩, ⟨5, d⟩]
  | .walk m d a b => row m 31 [⟨3, 1⟩, ⟨7, 0⟩, ⟨5, b⟩, ⟨5, a⟩, ⟨5, d⟩]
  | .mxv m d a b => row m 31 [⟨3, 2⟩, ⟨7, 0⟩, ⟨5, b⟩, ⟨5, a⟩, ⟨5, d⟩]
  | .qld m a i => row m 31 [⟨3, 3⟩, ⟨1, i⟩, ⟨11, 0⟩, ⟨5, a⟩, ⟨5, 0⟩]
  | .qst m a i => row m 31 [⟨3, 4⟩, ⟨1, i⟩, ⟨11, 0⟩, ⟨5, a⟩, ⟨5, 0⟩]
  | .vadd m d a b t => row m 32 [⟨4, 0⟩, ⟨1, t⟩, ⟨5, 0⟩, ⟨5, b⟩, ⟨5, a⟩, ⟨5, d⟩]
  | .vsub m d a b t => row m 32 [⟨4, 1⟩, ⟨1, t⟩, ⟨5, 0⟩, ⟨5, b⟩, ⟨5, a⟩, ⟨5, d⟩]
  | .vmul m d a b t => row m 32 [⟨4, 2⟩, ⟨1, t⟩, ⟨5, 0⟩, ⟨5, b⟩, ⟨5, a⟩, ⟨5, d⟩]
  | .vfma m d a b c t => row m 32 [⟨4, 3⟩, ⟨1, t⟩, ⟨5, c⟩, ⟨5, b⟩, ⟨5, a⟩, ⟨5, d⟩]
  | .vmin m d a b t => row m 32 [⟨4, 4⟩, ⟨1, t⟩, ⟨5, 0⟩, ⟨5, b⟩, ⟨5, a⟩, ⟨5, d⟩]
  | .vmax m d a b t => row m 32 [⟨4, 5⟩, ⟨1, t⟩, ⟨5, 0⟩, ⟨5, b⟩, ⟨5, a⟩, ⟨5, d⟩]
  | .vdiv m d a b t => row m 32 [⟨4, 6⟩, ⟨1, t⟩, ⟨5, 0⟩, ⟨5, b⟩, ⟨5, a⟩, ⟨5, d⟩]
  | .vabs m d a t => row m 32 [⟨4, 7⟩, ⟨1, t⟩, ⟨10, 0⟩, ⟨5, a⟩, ⟨5, d⟩]
  | .vneg m d a t => row m 32 [⟨4, 8⟩, ⟨1, t⟩, ⟨10, 0⟩, ⟨5, a⟩, ⟨5, d⟩]
  | .vsqrt m d a => row m 33 [⟨5, 0⟩, ⟨10, 0⟩, ⟨5, a⟩, ⟨5, d⟩]
  | .vrcp m d a => row m 33 [⟨5, 1⟩, ⟨10, 0⟩, ⟨5, a⟩, ⟨5, d⟩]
  | .vrsq m d a => row m 33 [⟨5, 2⟩, ⟨10, 0⟩, ⟨5, a⟩, ⟨5, d⟩]
  | .vexp2 m d a => row m 33 [⟨5, 3⟩, ⟨10, 0⟩, ⟨5, a⟩, ⟨5, d⟩]
  | .vlog2 m d a => row m 33 [⟨5, 4⟩, ⟨10, 0⟩, ⟨5, a⟩, ⟨5, d⟩]
  | .vcvt m d a p => row m 33 [⟨5, 5⟩, ⟨2, p⟩, ⟨8, 0⟩, ⟨5, a⟩, ⟨5, d⟩]
  | .vand m d a b => row m 34 [⟨5, 0⟩, ⟨5, 0⟩, ⟨5, b⟩, ⟨5, a⟩, ⟨5, d⟩]
  | .vor m d a b => row m 34 [⟨5, 1⟩, ⟨5, 0⟩, ⟨5, b⟩, ⟨5, a⟩, ⟨5, d⟩]
  | .vxor m d a b => row m 34 [⟨5, 2⟩, ⟨5, 0⟩, ⟨5, b⟩, ⟨5, a⟩, ⟨5, d⟩]
  | .vshl m d a b => row m 34 [⟨5, 3⟩, ⟨5, 0⟩, ⟨5, b⟩, ⟨5, a⟩, ⟨5, d⟩]
  | .vshr m d a b => row m 34 [⟨5, 4⟩, ⟨5, 0⟩, ⟨5, b⟩, ⟨5, a⟩, ⟨5, d⟩]
  | .vsra m d a b => row m 34 [⟨5, 5⟩, ⟨5, 0⟩, ⟨5, b⟩, ⟨5, a⟩, ⟨5, d⟩]
  | .vcmp m a b c => row m 35 [⟨5, 0⟩, ⟨5, c⟩, ⟨5, b⟩, ⟨5, a⟩, ⟨5, 0⟩]
  | .vsel m d a b => row m 35 [⟨5, 1⟩, ⟨5, 0⟩, ⟨5, b⟩, ⟨5, a⟩, ⟨5, d⟩]
  | .vbcast m d a => row m 35 [⟨5, 2⟩, ⟨10, 0⟩, ⟨5, a⟩, ⟨5, d⟩]
  | .vins m d a n => row m 35 [⟨5, 3⟩, ⟨4, n⟩, ⟨6, 0⟩, ⟨5, a⟩, ⟨5, d⟩]
  | .vext m d a n => row m 35 [⟨5, 4⟩, ⟨4, n⟩, ⟨6, 0⟩, ⟨5, a⟩, ⟨5, d⟩]
  | .vperm m d a b => row m 35 [⟨5, 5⟩, ⟨5, 0⟩, ⟨5, b⟩, ⟨5, a⟩, ⟨5, d⟩]
  | .vslide m d a b n => row m 35 [⟨5, 6⟩, ⟨4, n⟩, ⟨1, 0⟩, ⟨5, b⟩, ⟨5, a⟩, ⟨5, d⟩]
  | .vredadd m d a t => row m 36 [⟨5, 0⟩, ⟨1, t⟩, ⟨9, 0⟩, ⟨5, a⟩, ⟨5, d⟩]
  | .vredmax m d a t => row m 36 [⟨5, 1⟩, ⟨1, t⟩, ⟨9, 0⟩, ⟨5, a⟩, ⟨5, d⟩]
  | .vredmin m d a t => row m 36 [⟨5, 2⟩, ⟨1, t⟩, ⟨9, 0⟩, ⟨5, a⟩, ⟨5, d⟩]
  | .vscan m d a t => row m 36 [⟨5, 3⟩, ⟨1, t⟩, ⟨9, 0⟩, ⟨5, a⟩, ⟨5, d⟩]
  | .vscanm m d a t => row m 36 [⟨5, 4⟩, ⟨1, t⟩, ⟨9, 0⟩, ⟨5, a⟩, ⟨5, d⟩]
  | .vscanl m d a b c => row m 36 [⟨5, 5⟩, ⟨5, c⟩, ⟨5, b⟩, ⟨5, a⟩, ⟨5, d⟩]
  | .mma m d a b => row m 37 [⟨5, 0⟩, ⟨5, 0⟩, ⟨5, b⟩, ⟨5, a⟩, ⟨5, d⟩]
  | .mzero m d k => row m 37 [⟨5, 1⟩, ⟨1, k⟩, ⟨14, 0⟩, ⟨5, d⟩]
  | .mld m d a b k => row m 37 [⟨5, 2⟩, ⟨1, k⟩, ⟨4, 0⟩, ⟨5, b⟩, ⟨5, a⟩, ⟨5, d⟩]
  | .mst m d a k => row m 37 [⟨5, 3⟩, ⟨1, k⟩, ⟨9, 0⟩, ⟨5, a⟩, ⟨5, d⟩]
  | .mcommit m => row m 37 [⟨5, 4⟩, ⟨20, 0⟩]
  | .mwaitb m d n => row m 37 [⟨5, 5⟩, ⟨4, n⟩, ⟨11, 0⟩, ⟨5, d⟩]
  | .mstat m d b c => row m 37 [⟨5, 6⟩, ⟨1, c⟩, ⟨4, 0⟩, ⟨5, b⟩, ⟨5, 0⟩, ⟨5, d⟩]
  | .cbld m a b k => row m 37 [⟨5, 7⟩, ⟨1, k⟩, ⟨4, 0⟩, ⟨5, b⟩, ⟨5, a⟩, ⟨5, 0⟩]
  | _ => []

theorem rowWidth_layout {i : Instr} (hi : i.isWord = true) : rowWidth (layout i) = 32 := by
  cases i <;> cases hi <;> rfl

/-! ### The encoder assembles the row -/

theorem encodeNat_scalar {i : Instr} (hi : (major i).ble 17 = true) : encodeNat i = some (assemble (layout i)) := by
  cases i <;> cases hi
  all_goals
    refine congrArg some ?_
    delta layout
    simp only [row, assemble, List.cons_append, List.nil_append, BitVec.toNat_ofBool, BitVec.reduceToNat, Bool.toNat_false]
    omega

theorem encodeNat_nonscalar {i : Instr} (hi : i.isWord = true) (hmajor : (major i).ble 17 = false) :
    encodeNat i = some (assemble (layout i)) := by
  cases i <;> cases hi <;> cases hmajor
  all_goals
    refine congrArg some ?_
    delta layout
    simp only [row, assemble, List.cons_append, List.nil_append, BitVec.toNat_ofBool, BitVec.reduceToNat]
    omega

theorem encodeNat_eq_assemble {i : Instr} (hi : i.isWord = true) : encodeNat i = some (assemble (layout i)) := by
  cases hmajor : (major i).ble 17
  · exact encodeNat_nonscalar hi hmajor
  · exact encodeNat_scalar hmajor

/-- The encoder gives exactly the word that holds the instruction's row. -/
theorem encode_eq_some_iff {i : Instr} (hi : i.isWord = true) (w : IWord) : encode i = some w ↔ Holds w 0 (layout i) := by
  have hlt : assemble (layout i) < 2 ^ 32 := rowWidth_layout hi ▸ assemble_lt (layout i)
  rw [holds_zero_iff (rowWidth_layout hi), encode, encodeNat_eq_assemble hi, Option.map_some, Option.some.injEq, ← BitVec.toNat_inj,
    BitVec.toNat_ofNat, Nat.mod_eq_of_lt hlt, eq_comm]

/-! ### The decoder reads the row

The rows are taken in four parts, by the major opcode: all at once they are too many for one declaration. -/

/-- An instruction of a major opcode between two bounds. -/
def majorIn (lo hi : ℕ) (i : Instr) : Bool := lo.ble (major i) && (major i).ble hi

theorem majorIn_of_isWord {i : Instr} (hi : i.isWord = true) :
    (majorIn 0 17 i || majorIn 18 27 i || majorIn 28 31 i || majorIn 32 37 i) = true := by
  cases i <;> cases hi <;> rfl

theorem fld_narrow (w : IWord) (lo : ℕ) {n k : ℕ} (h : n ≤ k) : fld w lo n = (fld w lo k).setWidth n := by
  rw [fld, fld, BitVec.setWidth_ofNat_of_le h]

theorem decode_scalar {w : IWord} {i : Instr} (hi : majorIn 0 17 i = true) (h : Holds w 0 (layout i)) : decode w = .ok i := by
  cases i <;> cases hi
  case nop =>
    obtain rfl := BitVec.eq_of_toNat_eq (y := 0) ((holds_zero_iff rfl w).mp h)
    rfl
  all_goals
    delta layout at h
    simp only [row, Holds, List.cons_append, List.nil_append, Nat.reduceAdd] at h
    simp [decode, decodeSystem, decodeInteger, decodeShiftImm, decodeMulDiv, decodeScalarFloat, decodeBranch, decodeJumpReg,
      bits_eq_toNat_fld, mark_eq_iff, h]

theorem decode_memory {w : IWord} {i : Instr} (hi : majorIn 18 27 i = true) (h : Holds w 0 (layout i)) : decode w = .ok i := by
  cases i <;> cases hi
  all_goals
    delta layout at h
    simp only [row, Holds, List.cons_append, List.nil_append, Nat.reduceAdd] at h
  case chainSet | chainRel =>
    simp [decode, decodeMessage, bits_eq_toNat_fld, mark_eq_iff, fld_narrow w 4 (show 2 ≤ 11 by decide), h]
  case chainAcq =>
    simp [decode, decodeMessage, bits_eq_toNat_fld, mark_eq_iff, fld_narrow w 4 (show 2 ≤ 16 by decide), h]
  all_goals
    simp [decode, decodeAtomic, decodeCache, decodeFence, decodeBarrier, decodeMessage, decodeRider, bits_eq_toNat_fld,
      mark_eq_iff, h]

theorem decode_bank {w : IWord} {i : Instr} (hi : majorIn 28 31 i = true) (h : Holds w 0 (layout i)) : decode w = .ok i := by
  cases i <;> cases hi
  all_goals
    delta layout at h
    simp only [row, Holds, List.cons_append, List.nil_append, Nat.reduceAdd] at h
    simp [decode, decodeBankStructure, decodeBankAlu, decodeRow, decodeQuay, bits_eq_toNat_fld, mark_eq_iff, h]

theorem decode_vector {w : IWord} {i : Instr} (hi : majorIn 32 37 i = true) (h : Holds w 0 (layout i)) : decode w = .ok i := by
  cases i <;> cases hi
  all_goals
    delta layout at h
    simp only [row, Holds, List.cons_append, List.nil_append, Nat.reduceAdd] at h
    simp [decode, decodeVectorArith, decodeVectorSpecial, decodeVectorLogic, decodeLane, decodeScan, decodeMatrix,
      bits_eq_toNat_fld, mark_eq_iff, h]

theorem decode_of_holds {w : IWord} {i : Instr} (hi : i.isWord = true) (h : Holds w 0 (layout i)) : decode w = .ok i := by
  have hmajor := majorIn_of_isWord hi
  simp only [Bool.or_eq_true] at hmajor
  obtain ((hm | hm) | hm) | hm := hmajor
  · exact decode_scalar hm h
  · exact decode_memory hm h
  · exact decode_bank hm h
  · exact decode_vector hm h

/-- What a part of the decoder reads from a word is an instruction word whose row the word holds. -/
def ReadsRow (w : IWord) (r : Except DecodeError Instr) : Prop := ∀ i, r = .ok i → i.isWord = true ∧ Holds w 0 (layout i)

theorem fld_of_toNat_eq_zero {w : IWord} (h : w.toNat = 0) (lo n : ℕ) : fld w lo n = 0 := by simp [fld, h]

theorem readsRow_scalar (w : IWord) :
    (bits w 25 6 = 0 → ReadsRow w (decodeSystem w)) ∧ (bits w 25 6 = 4 → ReadsRow w (decodeInteger w)) ∧
    (bits w 25 6 = 9 → ReadsRow w (decodeShiftImm w)) ∧ (bits w 25 6 = 10 → ReadsRow w (decodeMulDiv w)) ∧
    (bits w 25 6 = 11 → ReadsRow w (decodeScalarFloat w)) ∧ (bits w 25 6 = 14 → ReadsRow w (decodeBranch w)) ∧
    (bits w 25 6 = 17 → ReadsRow w (decodeJumpReg w)) := by
  unfold decodeSystem decodeInteger decodeShiftImm decodeMulDiv decodeScalarFloat decodeBranch decodeJumpReg
  refine ⟨?_, ?_, ?_, ?_, ?_, ?_, ?_⟩
  all_goals
    intro hop i h
    repeat' split at h
  all_goals cases h
  all_goals
    refine ⟨rfl, ?_⟩
    delta layout
    simp_all [row, Holds, fld_mark, fld_of_toNat_eq_zero, bits_eq_toNat_fld, BitVec.toNat_eq]

theorem readsRow_memory (w : IWord) :
    (bits w 25 6 = 22 → ReadsRow w (decodeAtomic w)) ∧ (bits w 25 6 = 23 → ReadsRow w (decodeCache w)) ∧
    (bits w 25 6 = 24 → ReadsRow w (decodeFence w)) ∧ (bits w 25 6 = 25 → ReadsRow w (decodeBarrier w)) ∧
    (bits w 25 6 = 26 → ReadsRow w (decodeMessage w)) ∧ (bits w 25 6 = 27 → ReadsRow w (decodeRider w)) := by
  unfold decodeAtomic decodeCache decodeFence decodeBarrier decodeMessage decodeRider
  refine ⟨?_, ?_, ?_, ?_, ?_, ?_⟩
  all_goals
    intro hop i h
    repeat' split at h
  all_goals cases h
  all_goals
    refine ⟨rfl, ?_⟩
    delta layout
    simp_all [row, Holds, fld_mark, bits_eq_toNat_fld, BitVec.toNat_eq]

theorem readsRow_bank (w : IWord) :
    (bits w 25 6 = 28 → ReadsRow w (decodeBankStructure w)) ∧ (bits w 25 6 = 29 → ReadsRow w (decodeBankAlu w)) ∧
    (bits w 25 6 = 30 → ReadsRow w (decodeRow w)) ∧ (bits w 25 6 = 31 → ReadsRow w (decodeQuay w)) := by
  unfold decodeBankStructure decodeBankAlu decodeRow decodeQuay
  refine ⟨?_, ?_, ?_, ?_⟩
  all_goals
    intro hop i h
    repeat' split at h
  all_goals cases h
  all_goals
    refine ⟨rfl, ?_⟩
    delta layout
    simp_all [row, Holds, fld_mark, bits_eq_toNat_fld, BitVec.toNat_eq]

theorem readsRow_vector (w : IWord) :
    (bits w 25 6 = 32 → ReadsRow w (decodeVectorArith w)) ∧ (bits w 25 6 = 33 → ReadsRow w (decodeVectorSpecial w)) ∧
    (bits w 25 6 = 34 → ReadsRow w (decodeVectorLogic w)) ∧ (bits w 25 6 = 35 → ReadsRow w (decodeLane w)) ∧
    (bits w 25 6 = 36 → ReadsRow w (decodeScan w)) ∧ (bits w 25 6 = 37 → ReadsRow w (decodeMatrix w)) := by
  unfold decodeVectorArith decodeVectorSpecial decodeVectorLogic decodeLane decodeScan decodeMatrix
  refine ⟨?_, ?_, ?_, ?_, ?_, ?_⟩
  all_goals
    intro hop i h
    repeat' split at h
  all_goals cases h
  all_goals
    refine ⟨rfl, ?_⟩
    delta layout
    simp_all [row, Holds, fld_mark, bits_eq_toNat_fld, BitVec.toNat_eq]

theorem readsRow_decode (w : IWord) : ReadsRow w (decode w) := by
  obtain ⟨hsystem, hinteger, hshift, hmul, hfloat, hbranch, hjump⟩ := readsRow_scalar w
  obtain ⟨hatomic, hcache, hfence, hbarrier, hmessage, hrider⟩ := readsRow_memory w
  obtain ⟨hstructure, halu, hrow, hquay⟩ := readsRow_bank w
  obtain ⟨harith, hspecial, hlogic, hlane, hscan, hmatrix⟩ := readsRow_vector w
  intro i h
  unfold decode at h
  split at h
  case h_1 hop => exact hsystem hop i h
  case h_5 hop => exact hinteger hop i h
  case h_10 hop => exact hshift hop i h
  case h_11 hop => exact hmul hop i h
  case h_12 hop => exact hfloat hop i h
  case h_15 hop => exact hbranch hop i h
  case h_18 hop => exact hjump hop i h
  case h_23 hop => exact hatomic hop i h
  case h_24 hop => exact hcache hop i h
  case h_25 hop => exact hfence hop i h
  case h_26 hop => exact hbarrier hop i h
  case h_27 hop => exact hmessage hop i h
  case h_28 hop => exact hrider hop i h
  case h_29 hop => exact hstructure hop i h
  case h_30 hop => exact halu hop i h
  case h_31 hop => exact hrow hop i h
  case h_32 hop => exact hquay hop i h
  case h_33 hop => exact harith hop i h
  case h_34 hop => exact hspecial hop i h
  case h_35 hop => exact hlogic hop i h
  case h_36 hop => exact hlane hop i h
  case h_37 hop => exact hscan hop i h
  case h_38 hop => exact hmatrix hop i h
  all_goals
    repeat' split at h
    all_goals cases h
  all_goals
    refine ⟨rfl, ?_⟩
    delta layout
    simp_all [row, Holds, fld_mark, bits_eq_toNat_fld, BitVec.toNat_eq]

/-- The decoder answers with an instruction exactly on the words that hold its row. -/
theorem decode_eq_ok_iff (w : IWord) (i : Instr) : decode w = .ok i ↔ i.isWord = true ∧ Holds w 0 (layout i) :=
  ⟨readsRow_decode w i, fun ⟨hi, h⟩ => decode_of_holds hi h⟩

/-- Settles O1: the word that the encoder gives holds the instruction's row, and the decoder reads it there. -/
theorem decodeOfEncodeIsTheInstruction : Obligations.DecodeOfEncodeIsTheInstruction := by
  intro i hi
  have hencode : encode i = some (BitVec.ofNat 32 (assemble (layout i))) := by
    rw [encode, encodeNat_eq_assemble hi, Option.map_some]
  exact ⟨_, hencode, (decode_eq_ok_iff _ i).mpr ⟨hi, (encode_eq_some_iff hi _).mp hencode⟩⟩

/-- Settles O2: a word that decodes holds the row of what it decodes to, and the encoder gives that word alone. -/
theorem encodeOfDecodeIsTheWord : Obligations.EncodeOfDecodeIsTheWord := by
  intro w i h
  obtain ⟨hi, hrow⟩ := (decode_eq_ok_iff w i).mp h
  exact (encode_eq_some_iff hi w).mpr hrow

end Sys2Proof.Machine
end

section
/-! # The end of a unit

What `complete` changes: of the package the cores and the accesses in flight, of a core its threads, its inbound queue, its load queue, its
quantum counters and its round-robin pointer, and of the threads the current one (R114, R175, R194, R197, R224, R225, R283, R287, R296). -/

namespace Sys2Proof.Machine
open Sys2Proof.Claims

/-! ### The parts of a completion -/

theorem threadAt_modMe_other {s : State} {f : Thread → Thread} {x : ThreadRef} (h : x.core ≠ s.cur.core ∨ tid x ≠ tid s.cur) :
    threadAt (modMe s f) x = threadAt s x := threadAt_modThread_other _ _ h

theorem popChain_cur (s : State) (n : ℕ) : (popChain s n).cur = s.cur := by
  unfold popChain
  split_ifs <;> rfl

theorem me_popChain (s : State) (n : ℕ) : me (popChain s n) = { me s with popped := [] } := by
  unfold popChain
  split_ifs with hpopped hn
  · exact me_modMe ..
  · have hnone : (me s).popped = [] := by simpa using hpopped
    rw [← hnone]
  · have hnone : (me s).popped = [] := by simpa using hpopped
    rw [me_modCore _ _ _ rfl, ← hnone]

theorem threadAt_popChain {s : State} {n : ℕ} {x : ThreadRef} (h : x.core ≠ s.cur.core ∨ tid x ≠ tid s.cur) :
    threadAt (popChain s n) x = threadAt s x := by
  unfold popChain
  split_ifs
  · exact threadAt_modMe_other h
  · rfl
  · exact threadAt_modCore _ _ _ (by intro; rfl) _

theorem popLoads_cur (s : State) (n : ℕ) : (popLoads s n).cur = s.cur := by
  unfold popLoads
  split <;> rfl

theorem threadAt_popLoads {s : State} {n : ℕ} {x : ThreadRef} (h : x.core ≠ s.cur.core ∨ tid x ≠ tid s.cur) :
    threadAt (popLoads s n) x = threadAt s x := by
  unfold popLoads
  split
  · rfl
  · exact (threadAt_modThread_other _ _ h).trans (threadAt_modCore _ _ _ (by intro; rfl) _)

theorem holdStores_cur (before s : State) (ids : List ℕ) : (holdStores before s ids).cur = s.cur := by
  unfold holdStores
  split <;> rfl

theorem threadAt_holdStores (before s : State) (ids : List ℕ) (x : ThreadRef) :
    threadAt (holdStores before s ids) x = threadAt s x := by
  unfold holdStores
  split <;> rfl

theorem me_holdStores (before s : State) (ids : List ℕ) : me (holdStores before s ids) = me s := by
  unfold holdStores
  split <;> rfl

/-- The count of an issue and the round-robin pointer are no part of a thread. -/
theorem threadAt_counted (s : State) (t x : ThreadRef) : threadAt (countIssue (noteIssue s t) t) x = threadAt s x := by
  have hcount : ∀ u : State, threadAt (countIssue u t) x = threadAt u x := fun u =>
    threadAt_modCore _ _ _ (fun k => by dsimp only; split_ifs <;> rfl) _
  rw [hcount, noteIssue]
  split
  · exact threadAt_modCore _ _ _ (by intro; rfl) _
  · rfl

theorem counted_cur (s : State) (t : ThreadRef) : (countIssue (noteIssue s t) t).cur = s.cur := by
  unfold countIssue noteIssue
  split <;> rfl

/-! ### What a completion changes -/

theorem suspendAsked_eq (th : Thread) : suspendAsked th = { th with susp := th.susp || th.suspReq, suspReq := false } := by
  unfold suspendAsked
  split
  · next h => rw [h, Bool.or_true]
  · next h => rw [Bool.not_eq_true] at h; rw [h, Bool.or_false, ← h]

section
variable (i : Instr) (s s' : State) (next : Thread → Thread)

/-- A thread as its unit is complete: nothing popped, no place claimed, and anchored by the unit's operands (R194, R197). -/
def atEnd (th : Thread) : Thread :=
  { th with popped := [], claim := false, ss := { th.ss with anch := th.ss.anch || anchors i } }

/-- Apart from the accesses that wait for results, a completion changes the cores alone. -/
theorem complete_keeps_held {β : Type} (p : State → β) (hp : ∀ u cores, p { u with cores := cores } = p u) :
    p (complete i s s' next) = p (holdStores s s' (awaited (me s) i)) := by
  have hcore : ∀ (u : State) c f, p (modCore u c f) = p u := fun u _ _ => hp u _
  have hthread : ∀ (u : State) f, p (modMe u f) = p u := fun u f => hp u (modMe u f).cores
  have hchain : ∀ (u : State) n, p (popChain u n) = p u := fun u n => by
    unfold popChain
    split_ifs
    · exact hthread u _
    · rfl
    · exact hcore u _ _
  have hloads : ∀ (u : State) n, p (popLoads u n) = p u := fun u n => by
    unfold popLoads
    split
    · rfl
    · exact (hthread _ _).trans (hcore u _ _)
  have hcount : ∀ (u : State) t, p (countIssue (noteIssue u t) t) = p u := fun u t => by
    refine (hcore _ _ _).trans ?_
    unfold noteIssue
    split
    · exact hcore u _ _
    · rfl
  unfold complete
  dsimp only
  split <;> simp only [hthread, hcount, hloads, hchain]

theorem complete_inflight : (complete i s s' next).inflight = (holdStores s s' (awaited (me s) i)).inflight :=
  complete_keeps_held i s s' next State.inflight fun _ _ => rfl

/-- Of the whole package a completion changes the cores and the accesses in flight. -/
theorem complete_keeps {β : Type} (p : State → β) (hp : ∀ u cores inflight, p { u with cores := cores, inflight := inflight } = p u) :
    p (complete i s s' next) = p s' := by
  rw [complete_keeps_held i s s' next p fun u cores => hp u cores u.inflight]
  unfold holdStores
  split
  · rfl
  · exact hp s' s'.cores _

theorem complete_cur : (complete i s s' next).cur = s'.cur := complete_keeps i s s' next State.cur fun _ _ _ => rfl

/-- Of a core it changes the threads, the two queues that units pop, the quantum counters and the round-robin pointer. -/
theorem complete_core_keeps {β : Type} (p : Core → β)
    (hp : ∀ k threads chain ldq qntm qexp rr,
      p { k with threads := threads, chain := chain, ldq := ldq, qntm := qntm, qexp := qexp, rr := rr } = p k) (c : ℕ) :
    p (coreAt (complete i s s' next) c) = p (coreAt s' c) := by
  have hchain : ∀ (u : State) n, p (coreAt (popChain u n) c) = p (coreAt u c) := fun u n => by
    unfold popChain
    split_ifs
    · exact coreAt_modCore_keeps p (fun k => hp k _ _ _ _ _ _) _ _ _
    · rfl
    · exact coreAt_modCore_keeps p (fun k => hp k _ _ _ _ _ _) _ _ _
  have hthread : ∀ (u : State) f, p (coreAt (modMe u f) c) = p (coreAt u c) := fun u f =>
    coreAt_modCore_keeps p (fun k => hp k _ _ _ _ _ _) _ _ _
  have hloads : ∀ (u : State) n, p (coreAt (popLoads u n) c) = p (coreAt u c) := fun u n => by
    unfold popLoads
    split
    · rfl
    · exact (hthread ..).trans (coreAt_modCore_keeps p (fun k => hp k _ _ _ _ _ _) _ _ _)
  have hcount : ∀ (u : State) t, p (coreAt (countIssue u t) c) = p (coreAt u c) := fun u t =>
    coreAt_modCore_keeps p (fun k => by dsimp only; split_ifs <;> exact hp k _ _ _ _ _ _) _ _ _
  have hnote : ∀ (u : State) t, p (coreAt (noteIssue u t) c) = p (coreAt u c) := fun u t => by
    unfold noteIssue
    split
    · exact coreAt_modCore_keeps p (fun k => hp k _ _ _ _ _ _) _ _ _
    · rfl
  have hhold : ∀ ids, coreAt (holdStores s s' ids) c = coreAt s' c := fun ids => by
    unfold holdStores
    split <;> rfl
  unfold complete
  dsimp only
  split <;> simp only [hthread, hcount, hnote, hloads, hchain, hhold]

variable {s s'} (hcur : s'.cur = s.cur)
include hcur

/-- Of the threads it changes the current one. -/
theorem complete_other {x : ThreadRef} (h : x.core ≠ s.cur.core ∨ tid x ≠ tid s.cur) :
    threadAt (complete i s s' next) x = threadAt s' x := by
  have hissued : ∀ n m, (countIssue (noteIssue (popLoads (popChain (holdStores s s' (awaited (me s) i)) n) m) s.cur) s.cur).cur =
      s.cur := fun n m => by rw [counted_cur, popLoads_cur, popChain_cur, holdStores_cur, hcur]
  have hsame : ∀ n m, threadAt (countIssue (noteIssue (popLoads (popChain (holdStores s s' (awaited (me s) i)) n) m) s.cur) s.cur) x =
      threadAt s' x := fun n m => by
    rw [threadAt_counted, threadAt_popLoads (by rwa [popChain_cur, holdStores_cur, hcur]),
      threadAt_popChain (by rwa [holdStores_cur, hcur]), threadAt_holdStores]
  unfold complete
  dsimp only
  rw [hcur]
  split
  · rw [threadAt_modMe_other (by rwa [modMe_cur, hissued]), threadAt_modMe_other (by rwa [hissued]), hsame]
  · rw [threadAt_modMe_other (by rwa [hissued]), hsame]

/-- The current thread goes on as `next` says; apart from that its suspension may take effect, and precise mode may park it. -/
theorem me_complete (hpops : vlqPops s.cur (me s) i = 0) :
    ∃ run back susp, me (complete i s s' next) =
      { next (atEnd i (me s')) with run := run, back := back, susp := susp, suspReq := false } := by
  have hpre : me (countIssue (noteIssue (popChain (holdStores s s' (awaited (me s) i)) (chainPops (me s) i)) s.cur) s.cur) =
      { me s' with popped := [] } := by
    rw [← me_holdStores s s' (awaited (me s) i), ← me_popChain, me, counted_cur, threadAt_counted]
    rfl
  unfold complete
  dsimp only
  rw [hcur, hpops]
  simp only [popLoads, if_true]
  split
  · exact ⟨_, _, _, by rw [me_modMe, me_modMe, hpre, suspendAsked_eq]; rfl⟩
  · exact ⟨_, _, _, by rw [me_modMe, hpre, suspendAsked_eq]; rfl⟩

end

/-! ### The next iteration or the next unit (R283, R287) -/

theorem advance_of_more {th : Thread} (hrep : th.desc.rep ≠ 0) (hmore : th.ss.repc.toNat + 1 < repCount th.desc.rep) :
    advance th = { th with ss := { th.ss with repc := th.ss.repc + 1 } } := by
  have hrepc : BitVec.ofNat 8 (th.ss.repc.toNat + 1) = th.ss.repc + 1 := BitVec.eq_of_toNat_eq (by simp)
  unfold advance
  dsimp only
  rw [if_pos (Bool.and_eq_true_iff.mpr ⟨bne_iff_ne.mpr hrep, decide_eq_true hmore⟩), hrepc]

theorem advance_of_last {th : Thread} (hlast : th.desc.rep = 0 ∨ repCount th.desc.rep ≤ th.ss.repc.toNat + 1) :
    advance th = goTo th (nextUnit th) := by
  unfold advance
  dsimp only
  rw [if_neg ?_]
  · rfl
  · rw [Bool.and_eq_true, bne_iff_ne, decide_eq_true_eq, not_and_or, not_not, not_lt]
    exact hlast

theorem pc_advance (th : Thread) : (advance th).pc =
    if th.desc.rep != 0 && decide (th.ss.repc.toNat + 1 < repCount th.desc.rep) then th.pc else word (nextUnit th) := by
  unfold advance
  dsimp only
  split <;> rfl

/-- Of the status it changes PP and REPC. -/
theorem ss_advance (th : Thread) : ∃ pp repc, (advance th).ss = { th.ss with pp := pp, repc := repc } := by
  unfold advance
  dsimp only
  split <;> exact ⟨_, _, rfl⟩

theorem b01_bne_zero (w : IWord) : b01 (w != 0) = if w = 0 then 0 else 1 := by
  by_cases h : w = 0
  · rw [if_pos h, h]
    rfl
  · rw [if_neg h, bne_iff_ne.mpr h]
    rfl

/-- The next unit begins behind the words of this one. -/
theorem word_nextUnit (th : Thread) :
    word (nextUnit th) = th.pc + 4 + (if th.desc.fmt = 0 then 0 else 4) + (if th.desc.rep = 0 then 0 else 4) := by
  unfold word nextUnit unitWords
  rw [b01_bne_zero, b01_bne_zero]
  split_ifs <;> bv_omega

theorem advanceGoesToTheNextUnit : AdvanceGoesToTheNextUnit := by
  intro th
  refine ⟨fun hrep hmore => ?_, fun hlast => ?_, advance_g th, advance_v th, advance_pw th, ?_⟩
  · rw [advance_of_more hrep hmore]
    exact ⟨rfl, rfl, rfl⟩
  · rw [advance_of_last hlast]
    exact ⟨word_nextUnit th, rfl, rfl, rfl⟩
  · unfold advance
    dsimp only
    split <;> exact ⟨rfl, rfl⟩

/-! ### The rest of the machine -/

/-- An access that the unit did not begin, and a load, waits for nothing; the others of the unit wait for what its registers await. -/
theorem holdStores_inflight {s s' : State} {ids : List ℕ} (hids : ids ≠ []) : (holdStores s s' ids).inflight = s'.inflight.map fun a =>
    if a.kind ≠ .load ∧ ∀ x ∈ s.inflight, x.id ≠ a.id then { a with after := ids } else a := by
  have hcond : ∀ a : Access, ((!(s.inflight.any fun x => x.id == a.id) && a.kind != .load) = true) =
      (a.kind ≠ .load ∧ ∀ x ∈ s.inflight, x.id ≠ a.id) := fun a => by
    simp [and_comm]
  unfold holdStores
  rw [if_neg (by simpa using hids)]
  simp only [hcond]

theorem rdG_of_g_eq {th th' : Thread} (h : th.g = th'.g) (r : ℕ) : rdG th r = rdG th' r := by rw [rdG, rdG, h]

theorem rdV_of_v_eq {th th' : Thread} (h : th.v = th'.v) (r : ℕ) : rdV th r = rdV th' r := by rw [rdV, rdV, h]

/-- What a complete unit leaves of the current thread: the registers, the predicates, and the status but for its progress. -/
theorem me_done {i : Instr} {s s' : State} (hcur : s'.cur = s.cur) (hpops : vlqPops s.cur (me s) i = 0) :
    (me (done i s s')).g = (me s').g ∧ (me (done i s s')).v = (me s').v ∧ (me (done i s s')).pw = (me s').pw ∧
    ∃ pp repc anch, (me (done i s s')).ss = { (me s').ss with pp := pp, repc := repc, anch := anch } := by
  obtain ⟨run, back, susp, hme⟩ := me_complete i advance hcur hpops
  obtain ⟨pp, repc, hss⟩ := ss_advance (atEnd i (me s'))
  rw [done, hme]
  exact ⟨advance_g _, advance_v _, advance_pw _, pp, repc, _, hss⟩

theorem completionChangesOnlyProgress : CompletionChangesOnlyProgress := by
  intro i s s' hcur hpops t
  obtain ⟨run, back, susp, hme⟩ := me_complete i advance hcur hpops
  obtain ⟨hg, hv, hpw, pp, repc, anch, hss⟩ := me_done (i := i) hcur hpops
  have hkeeps : ∀ {β : Type} (p : State → β),
      (∀ u cores inflight, p { u with cores := cores, inflight := inflight } = p u) → p t = p s' := fun p hp =>
    complete_keeps i s s' advance p hp
  have hpc : (advance (atEnd i (me s'))).pc = (advance (me s')).pc := by
    rw [pc_advance, pc_advance]
    rfl
  refine ⟨hkeeps State.dram fun _ _ _ => rfl, hkeeps State.sram fun _ _ _ => rfl, hkeeps State.llc fun _ _ _ => rfl,
    hkeeps State.homes fun _ _ _ => rfl, (hkeeps State.cur fun _ _ _ => rfl).trans hcur, fun hnone => ?_, fun hsome => ?_,
    rdG_of_g_eq hg, rdV_of_v_eq hv, hpw, (congrArg Status.flags hss :), (congrArg Status.bst hss :), (congrArg Status.priv hss :), ?_, ?_,
    fun x hx => complete_other i advance hcur hx⟩
  · rw [complete_inflight, hnone]
    rfl
  · rw [complete_inflight, holdStores_inflight hsome]
  · exact (congrArg Thread.outs hme).trans (advance_outs _)
  · exact (congrArg Thread.pc hme).trans hpc

/-- Settles O9: the current thread goes on as `advance` says, and what is left of the package stays as the unit's effect left it. -/
theorem completionOfAUnit : Obligations.CompletionOfAUnit := ⟨advanceGoesToTheNextUnit, completionChangesOnlyProgress⟩

end Sys2Proof.Machine
end

section
/-! # Steps that run no instruction

A step that performs an event, the turn of a thread whose next word is no instruction or whose kept fault is due, and why no step stops the
package (R280, R297, R426, R427). -/

namespace Sys2Proof.Machine
open Sys2Proof.Claims

/-! ### A turn that issues no unit -/

theorem step_of_nextAct_state {s u : State} {t : ThreadRef} {dt : ℕ} {rest : List Move} (hagenda : s.agenda = ⟨.issue t, dt⟩ :: rest)
    (hprst : s.prst = 2) (hturn : hasTurn s t = true) (hact : nextAct (atTurn s t dt rest) = .state u) : step s = .next u := by
  have hissues : step s = issueStep t { s with agenda := rest, now := s.now + dt, stepNo := s.stepNo + 1 } := by
    unfold step
    rw [hagenda]
    exact if_pos ⟨hprst, hturn⟩
  have hact' : nextAct { s with agenda := rest, now := s.now + dt, stepNo := s.stepNo + 1, cur := t } = .state u := hact
  rw [hissues, issueStep, hact']

theorem nextAct_undefined {s s' : State} {t : ThreadRef} {dt : ℕ} {rest : List Move} {w : IWord} {e : DecodeError}
    (hissue : canIssue (threadAt s t) = true) (hunexpired : expired s t = false) (hskp : (threadAt s t).ss.skp = 0)
    (hprog : ¬fetchFailed (threadAt s t)) (hpp : (threadAt s t).ss.pp = false) (hpriv : (threadAt s t).ss.priv ≠ 3)
    (hfetch : fetchWord (turnOf s t dt rest) ((threadAt s t).pc.toNat % 2 ^ 64) = .word w s') (hdecode : decode w = .error e) :
    nextAct (atTurn s t dt rest) = .state (preciseFault s' .ill 0 0 none) := by
  obtain ⟨hpp', hskp', hpriv'⟩ := ss_turned (threadAt s t)
  have hme : me (atTurn s t dt rest) = threadAt s t := rfl
  unfold nextAct
  rw [hme, hissue, ← turnOf_eq s t dt rest]
  simp only [Bool.not_true, Bool.false_eq_true, if_false, me_turnOf, prog_turned]
  split
  · next f hf => exact absurd ⟨f, hf⟩ hprog
  · simp only [hskp', hskp, expired_turnOf, hunexpired, hpriv', hpriv, hpp', hpp, pc_turned, mul_zero, add_zero, hfetch, hdecode,
      bne_self_eq_false, Bool.false_and, Bool.false_eq_true, if_false]

theorem undefinedWordFaultsIll : UndefinedWordFaultsIll := by
  intro s s' t dt rest w e th hagenda hprst hturn hskp hprog hpp hpriv hfetch hdecode
  obtain ⟨hissue, hunexpired⟩ := unexpired_of_canTurn (canTurn_of_hasTurn hturn) hskp hprog
  exact step_of_nextAct_state hagenda hprst hturn (nextAct_undefined hissue hunexpired hskp hprog hpp hpriv hfetch hdecode)

theorem turnOf_cur (s : State) (t : ThreadRef) (dt : ℕ) (rest : List Move) : (turnOf s t dt rest).cur = t := by
  unfold turnOf
  dsimp only
  split <;> rfl

theorem keptFaultIsTaken : KeptFaultIsTaken := by
  intro s t dt rest f hagenda hprst hturn hprog
  have hissue : canIssue (threadAt s t) = true := by
    have h := canTurn_of_hasTurn hturn
    rw [canTurn, Bool.and_eq_true] at h
    exact h.1
  refine step_of_nextAct_state hagenda hprst hturn ?_
  have hme : me (atTurn s t dt rest) = threadAt s t := rfl
  unfold nextAct
  rw [hme, hissue, ← turnOf_eq s t dt rest]
  simp only [Bool.not_true, Bool.false_eq_true, if_false, me_turnOf, prog_turned, hprog, modMe, turnOf_cur]

/-! ### Events, and every other step -/

theorem stepPerformsTheEvent : StepPerformsTheEvent := by
  intro s i dt rest hagenda hevent hprst
  have hallowed : eventAllowed { s with agenda := rest, now := s.now + dt, stepNo := s.stepNo + 1 } i = true := by
    simp [eventAllowed, hevent, hprst]
  unfold step
  rw [hagenda]
  exact if_pos hallowed

/-- An answer with a next state, as the meaning of every instruction and event gives (R426, R427). -/
def GoesOn (a : Answer) : Prop := ∃ t, a = .next t

theorem goesOn_exec (i : Instr) (s : State) : GoesOn (exec i s) := by
  cases i <;> exact ⟨_, rfl⟩

theorem goesOn_issueStep (t : ThreadRef) (s : State) : GoesOn (issueStep t s) := by
  unfold issueStep
  split
  · exact goesOn_exec _ _
  · exact ⟨_, rfl⟩

theorem goesOn_move (w : Who) (s : State) : GoesOn (move w s) := by
  cases w with
  | issue t =>
    rw [move]
    split
    · exact goesOn_issueStep t s
    · exact ⟨_, rfl⟩
  | event i =>
    rw [move]
    split
    · exact goesOn_exec i s
    · exact ⟨_, rfl⟩

theorem noStepStopsThePackage : NoStepStopsThePackage := by
  intro s
  change GoesOn (step s)
  unfold step
  split
  · exact goesOn_move _ _
  · dsimp only
    split
    · exact goesOn_move _ _
    · exact ⟨_, rfl⟩

/-- Settles O5: the turn of a thread comes to what its next word or its kept fault says, and every meaning answers with a state. -/
theorem stepsThatRunNoInstruction : Obligations.StepsThatRunNoInstruction :=
  ⟨stepPerformsTheEvent, undefinedWordFaultsIll, keptFaultIsTaken, noStepStopsThePackage⟩

end Sys2Proof.Machine
end

section
/-! # A precise fault

What `preciseFault` leaves of its thread, of its core's inbound queue and of the rest of the package (R197, R297, R427, R429). -/

namespace Sys2Proof.Machine
open Sys2Proof.Claims

theorem takeFault_cur (s : State) (t : ThreadRef) (f : FaultInfo) : (takeFault s t f).cur = s.cur := by
  unfold takeFault sendFault toSupervisor deliver
  dsimp only
  split <;> split <;> rfl

/-- A packet to a supervisor enters a message list of a core, or waits on a die. -/
theorem chain_takeFault (s : State) (t : ThreadRef) (f : FaultInfo) (c : ℕ) :
    (coreAt (takeFault s t f) c).chain = (coreAt s c).chain := by
  unfold takeFault sendFault
  rw [toSupervisor_keeps (p := Core.chain) fun _ _ _ => rfl, chain_modThread]

theorem preciseFault_cur (s : State) (c : FaultClass) (n d : ℕ) (a : Option ℕ) : (preciseFault s c n d a).cur = s.cur := by
  by_cases h : (me s).outs = []
  · rw [preciseFault_now h, takeFault_cur, giveBack_cur]
  · rw [preciseFault_later h, modMe_cur, giveBack_cur]

/-- With nothing outstanding the thread is frozen as it stands, and the fault in its record (R297, R427). -/
theorem me_preciseFault_now {s : State} (h : (me s).outs = []) (c : FaultClass) (n d : ℕ) (a : Option ℕ) :
    me (preciseFault s c n d a) = { me s with
      froz := true, fault := ⟨some c, n, true, 0, d, false, false, a.getD (me s).pc.toNat⟩, popped := [], claim := false } := by
  rw [preciseFault_now h, me, takeFault_cur, giveBack_cur, takeFault_thread, giveBack_thread]
  rfl

/-- With results outstanding it waits at a marker, and the fault is kept (R292, R297). -/
theorem me_preciseFault_later {s : State} (h : (me s).outs ≠ []) (c : FaultClass) (n d : ℕ) (a : Option ℕ) :
    me (preciseFault s c n d a) = { me s with
      run := .parked .marker, prog := .faulted ⟨some c, n, true, 0, d, false, false, a.getD (me s).pc.toNat⟩,
      popped := [], claim := false } := by
  rw [preciseFault_later h, me_modMe, me_giveBack]

theorem chain_preciseFault (s : State) (c : FaultClass) (n d : ℕ) (a : Option ℕ) :
    (myCore (preciseFault s c n d a)).chain = (me s).popped ++ (myCore s).chain := by
  rw [myCore, preciseFault_cur]
  by_cases h : (me s).outs = []
  · rw [preciseFault_now h, chain_takeFault, giveBack_chain]
    rfl
  · rw [preciseFault_later h, coreAt_modMe_chain, giveBack_chain]
    rfl

theorem threadAt_preciseFault_other {s : State} {x : ThreadRef} (hx : x.core ≠ s.cur.core ∨ tid x ≠ tid s.cur) (c : FaultClass)
    (n d : ℕ) (a : Option ℕ) : threadAt (preciseFault s c n d a) x = threadAt s x := by
  by_cases h : (me s).outs = []
  · rw [preciseFault_now h, takeFault_other _ _ hx, giveBack_other _ hx]
  · rw [preciseFault_later h, threadAt_modMe_other (by rwa [giveBack_cur]), giveBack_other _ hx]

/-- Settles O18: the thread freezes now, or waits for its results with the fault kept; both give the popped entries back and
leave the rest. -/
theorem preciseFaultFreezesTheThread : Obligations.PreciseFaultFreezesTheThread := by
  intro s c cause detail addr t f
  obtain ⟨hdram, hsram⟩ := sameMem_preciseFault s c cause detail addr
  exact ⟨fun h => me_preciseFault_now h c cause detail addr, fun h => me_preciseFault_later h c cause detail addr,
    chain_preciseFault s c cause detail addr, hdram, hsram, fun x hx => threadAt_preciseFault_other hx c cause detail addr⟩

end Sys2Proof.Machine
end

section
/-! # The frame of the integer instructions

Each of them writes one g register at its issue (R291, R300-R304), so what it changes is what that write and the completion change. -/

namespace Sys2Proof.Machine
open Sys2Proof.Claims

/-! ### A unit without v operands -/

theorem vlqPops_eq_zero {i : Instr} (h : (operands i).all (fun o => o.file != .v) = true) (t : ThreadRef) (th : Thread) :
    vlqPops t th i = 0 := by
  unfold vlqPops
  split
  · rw [List.length_eq_zero_iff, List.filter_eq_nil_iff]
    intro o ho hpops
    simp only [Bool.and_eq_true, beq_iff_eq] at hpops
    obtain ⟨⟨-, hv⟩, -⟩ := hpops
    exact bne_iff_ne.mp (List.all_eq_true.mp h o ho) hv
  · rfl

/-! ### The write of a g register -/

section
variable (s : State) (r : ℕ) (v : Word)

/-- Of the package the write changes the cores. -/
theorem writeG_keeps {β : Type} (p : State → β) (hp : ∀ u cores, p { u with cores := cores } = p u) : p (writeG s r v) = p s := by
  unfold writeG
  dsimp only
  split
  · exact (hp _ _).trans (hp s (modMe s fun th => discardOlder (wrG th r v) .g r).cores)
  · exact hp s (modMe s fun th => discardOlder (wrG th r v) .g r).cores

/-- Of a core it changes the threads, and the queue of the one downstream (R197). -/
theorem writeG_core_keeps {β : Type} (p : Core → β) (hp : ∀ k threads chain, p { k with threads := threads, chain := chain } = p k)
    (c : ℕ) : p (coreAt (writeG s r v) c) = p (coreAt s c) := by
  have hthread : p (coreAt (modMe s fun th => discardOlder (wrG th r v) .g r) c) = p (coreAt s c) :=
    coreAt_modCore_keeps p (fun k => hp k _ _) _ _ _
  unfold writeG
  dsimp only
  split
  · exact (coreAt_modCore_keeps p (fun k => hp k _ _) _ _ _).trans hthread
  · exact hthread

theorem threadAt_writeG_other {x : ThreadRef} (h : x.core ≠ s.cur.core ∨ tid x ≠ tid s.cur) :
    threadAt (writeG s r v) x = threadAt s x := by
  unfold writeG
  dsimp only
  split
  · rw [threadAt_modCore _ _ _ (by intro; rfl), threadAt_modMe_other h]
  · exact threadAt_modMe_other h

end

/-! ### The instructions -/

theorem operands_registersOnly {i : Instr} (h : registersOnly i = true) : (operands i).all (fun o => o.file != .v) = true := by
  cases i <;> cases h <;> rfl

/-- Such an instruction writes its destination and is complete. -/
theorem exec_registersOnly {i : Instr} {s t : State} (h : registersOnly i = true) (hi : Issues i s) (ht : exec i s = .next t) :
    ∃ v, t = done i s (writeG s (writtenG s i) v) := by
  cases i <;> cases h
  all_goals exact ⟨_, Host.Outcome.next.inj (ht.symm.trans (exec_done hi rfl rfl))⟩

/-- The accesses in flight as a unit begins are none that it began. -/
theorem complete_inflight_same {i : Instr} {s s' : State} (hinflight : s'.inflight = s.inflight) (next : Thread → Thread) :
    (complete i s s' next).inflight = s.inflight := by
  rw [complete_inflight]
  by_cases hids : awaited (me s) i = []
  · rw [hids]
    exact hinflight
  · rw [holdStores_inflight hids, hinflight]
    exact (List.map_congr_left (g := id) fun a ha => if_neg fun h => h.2 a ha rfl).trans (List.map_id _)

theorem me_done_writeG {i : Instr} {s : State} (hpops : vlqPops s.cur (me s) i = 0) (r : ℕ) (v : Word) :
    (∀ r', r' ≠ r → rdG (me (done i s (writeG s r v))) r' = rdG (me s) r') ∧ (me (done i s (writeG s r v))).v = (me s).v ∧
    (me (done i s (writeG s r v))).pw = (me s).pw ∧
    ∃ pp repc anch, (me (done i s (writeG s r v))).ss = { (me s).ss with pp := pp, repc := repc, anch := anch } := by
  obtain ⟨-, -, hcur⟩ := writeG_mem s r v
  obtain ⟨hg, hv, hpw, hss⟩ := me_done (i := i) hcur hpops
  rw [me_writeG] at hg hv hpw hss
  refine ⟨fun r' hr => ?_, hv.trans (wrG_v _ _ _), hpw.trans (wrG_pw _ _ _), ?_⟩
  · rw [rdG_of_g_eq hg, rdG_discardOlder, rdG_wrG, if_neg fun h => hr h.1]
  · rwa [discardOlder_ss, wrG_ss] at hss

/-- Settles O60: such an instruction is a write of its destination and the completion of its unit. -/
theorem integerInstructionsFrame : Obligations.IntegerInstructionsFrame := by
  intro i s t honly hi ht
  obtain ⟨v, rfl⟩ := exec_registersOnly honly hi ht
  obtain ⟨hdram, hsram, hcur⟩ := writeG_mem s (writtenG s i) v
  have hpops := vlqPops_eq_zero (operands_registersOnly honly) s.cur (me s)
  obtain ⟨hg, hv, hpw, pp, repc, anch, hss⟩ := me_done_writeG hpops (writtenG s i) v
  have hkeeps : ∀ {β : Type} (p : State → β), (∀ u cores inflight, p { u with cores := cores, inflight := inflight } = p u) →
      p (done i s (writeG s (writtenG s i) v)) = p s := fun p hp =>
    (complete_keeps i s _ advance p hp).trans (writeG_keeps s _ v p fun u cores => hp u cores u.inflight)
  have hcore : ∀ {β : Type} (p : Core → β), (∀ k threads chain ldq qntm qexp rr,
      p { k with threads := threads, chain := chain, ldq := ldq, qntm := qntm, qexp := qexp, rr := rr } = p k) →
      p (myCore (done i s (writeG s (writtenG s i) v))) = p (myCore s) := fun p hp => by
    rw [myCore, hkeeps State.cur fun _ _ _ => rfl]
    exact (complete_core_keeps i s _ advance p hp _).trans
      (writeG_core_keeps s _ v p (fun k threads chain => hp k threads chain k.ldq k.qntm k.qexp k.rr) _)
  refine ⟨hg, fun r => congrArg (fun v => aget 0 v r) hv, hpw, ?_, ?_, ?_, ?_, ?_, hkeeps State.cur fun _ _ _ => rfl, fun x hx => ?_,
    fun a => ?_, fun a => ?_, hcore Core.tiles fun _ _ _ _ _ _ _ => rfl, hcore Core.tvec fun _ _ _ _ _ _ _ => rfl,
    hcore Core.seed fun _ _ _ _ _ _ _ => rfl, hcore Core.lease fun _ _ _ _ _ _ _ => rfl,
    hcore Core.ctxid fun _ _ _ _ _ _ _ => rfl, complete_inflight_same (writeG_keeps s _ v State.inflight fun _ _ => rfl) _,
    hkeeps State.homes fun _ _ _ => rfl, hkeeps State.dies fun _ _ _ => rfl⟩
  any_goals rw [hss]
  · exact (complete_other i advance hcur hx).trans (threadAt_writeG_other s _ v hx)
  · rw [hkeeps State.dram fun _ _ _ => rfl]
  · rw [hkeeps State.sram fun _ _ _ => rfl]

end Sys2Proof.Machine
end

section
/-! # Branches, jumps, NOP, BRK and the prefixes

A unit that is never repeated ends with its pc at the next unit or at its target, in one form for both (R306-R308); NOP and BRK;
and the words that enter the descriptor (R281-R283, R287, R314, R315). -/

namespace Sys2Proof.Machine
open Sys2Proof.Claims

/-! ### Units that stand alone -/

/-- An instruction that takes neither FMT nor REP is legal only without prefixes (R281, R286). -/
theorem desc_of_legal {t : ThreadRef} {th : Thread} {d : Descriptor} {i : Instr} (h : unitLegal t th d i = true)
    (hfmt : fmtAccepted t d i = !(d.fmt != 0)) (hrep : repeatable i = false) : d = ⟨0, 0⟩ := by
  unfold unitLegal at h
  simp only [hfmt, hrep, Bool.and_eq_true, Bool.or_eq_true, Bool.false_and, Bool.not_eq_true', bne_eq_false_iff_eq, beq_iff_eq,
    Bool.false_eq_true, or_false] at h
  obtain ⟨⟨⟨-, hfmt⟩, hrep⟩, -⟩ := h
  obtain ⟨fmt, rep⟩ := d
  rw [show fmt = 0 from hfmt, show rep = 0 from hrep]

/-- Its thread goes on behind it. -/
theorem advance_alone {th : Thread} (h : th.desc = ⟨0, 0⟩) : advance th = goTo th (th.pc + 4).toNat := by
  have hnext : word (nextUnit th) = word (th.pc + 4).toNat := by
    rw [word_nextUnit, h, word, BitVec.ofNat_toNat, BitVec.setWidth_eq]
    simp
  rw [advance_of_last (Or.inl (by rw [h])), goTo, goTo, hnext]

theorem branchTarget_eq {n : ℕ} (pc : Word) (d : BitVec n) : branchTarget pc d = (pc + BitVec.ofInt 64 (4 * d.toInt)).toNat := by
  unfold branchTarget sext64
  rw [BitVec.ofInt_mul]
  rfl

/-! ### Where a unit goes -/

/-- A unit whose thread goes on at a pc, after what it wrote. -/
theorem jumpsTo_of_completes {i : Instr} {s s' : State} {next : Thread → Thread} {target : Word}
    (hexec : exec i s = .next (complete i s s' next)) (hnext : next (atEnd i (me s')) = goTo (atEnd i (me s')) target.toNat)
    (hcur : s'.cur = s.cur) (hmem : SameMem s' s) (hpops : vlqPops s.cur (me s) i = 0) : JumpsTo i s s' target := by
  obtain ⟨run, back, susp, hme⟩ := me_complete i next hcur hpops
  obtain ⟨hdram, hsram⟩ := (sameMem_complete i s s' next).trans hmem
  rw [hnext] at hme
  refine ⟨_, hexec, ?_, ?_, ?_, ?_, fun r => ?_, ?_, ?_, ?_, hdram, hsram⟩ <;> rw [hme]
  · exact (BitVec.ofNat_toNat 64 target).trans (BitVec.setWidth_eq target)
  all_goals rfl

section
variable {i : Instr} {s : State} {body : State → Res} (h : Issues i s) (hexec : exec i s = .next (unit i body s))
  (hops : (operands i).all (fun o => o.file != .v) = true)
include h hexec hops

theorem jumpsTo_of_jump {s' : State} {target : Word} (hbody : body s = .jump s' target.toNat) (hcur : s'.cur = s.cur)
    (hmem : SameMem s' s) : JumpsTo i s s' target :=
  jumpsTo_of_completes (next := fun th => goTo th target.toNat) (exec_settles h hexec hbody) rfl hcur hmem (vlqPops_eq_zero hops _ _)

/-- A unit without prefixes that does nothing goes to the next word. -/
theorem jumpsTo_of_done (hdesc : (me s).desc = ⟨0, 0⟩) (hbody : body s = .done s) : JumpsTo i s s ((me s).pc + 4) :=
  jumpsTo_of_completes (exec_settles h hexec hbody) (advance_alone hdesc) rfl ⟨rfl, rfl⟩ (vlqPops_eq_zero hops _ _)

/-- A jump to a register: its target is a multiple of 4, or the unit faults ALIGN (R308). -/
theorem jumps_or_misaligned {target : Word} {k : State → State} (hbody : body s = jumpTo s target k) (hcur : (k s).cur = s.cur)
    (hmem : SameMem (k s) s) :
    (target.toNat % 4 = 0 → JumpsTo i s (k s) target) ∧
    (target.toNat % 4 ≠ 0 → exec i s = .next (preciseFault s .align 0 0 (some target.toNat))) :=
  ⟨fun halign => jumpsTo_of_jump h hexec hops (hbody.trans (if_neg (not_not.mpr halign))) hcur hmem,
    fun halign => exec_fault h hexec (hbody.trans (if_pos halign))⟩

end

theorem branchAndJumpResults : BranchAndJumpResults := by
  refine ⟨fun m q d s h => ?_, fun m q d s h => ?_, fun m d s h => ?_, fun m d k s h => ?_, fun m a s h => ?_, fun m d a s h => ?_⟩
  · have hdesc := desc_of_legal h.legal rfl rfl
    cases hq : rdQ (me s) q.toNat
    · rw [show (me s).pw.getLsbD (16 + q.toNat) = false from hq]
      exact jumpsTo_of_done h rfl rfl hdesc (if_neg (Bool.eq_false_iff.mp hq))
    · rw [show (me s).pw.getLsbD (16 + q.toNat) = true from hq]
      exact jumpsTo_of_jump h rfl rfl ((if_pos hq).trans (congrArg _ (branchTarget_eq ..))) rfl ⟨rfl, rfl⟩
  · have hdesc := desc_of_legal h.legal rfl rfl
    cases hq : rdQ (me s) q.toNat
    · rw [show (me s).pw.getLsbD (16 + q.toNat) = false from hq]
      exact jumpsTo_of_jump h rfl rfl ((if_neg (Bool.eq_false_iff.mp hq)).trans (congrArg _ (branchTarget_eq ..))) rfl ⟨rfl, rfl⟩
    · rw [show (me s).pw.getLsbD (16 + q.toNat) = true from hq]
      exact jumpsTo_of_done h rfl rfl hdesc (if_pos hq)
  · exact jumpsTo_of_jump h rfl rfl (congrArg _ (branchTarget_eq ..)) rfl ⟨rfl, rfl⟩
  · exact jumpsTo_of_jump h rfl rfl (congrArg _ (branchTarget_eq ..)) (putG_cur ..) (sameMem_putG ..)
  · exact jumps_or_misaligned h rfl rfl rfl rfl ⟨rfl, rfl⟩
  · exact jumps_or_misaligned (k := fun s => putG s d ((me s).pc + 4)) h rfl rfl rfl (putG_cur ..) (sameMem_putG ..)

theorem nopAndBreak : NopAndBreak :=
  ⟨fun _ h => exec_done h rfl rfl, fun _ _ _ h hnone => ⟨_, exec_fault h rfl rfl, by
    rw [me_preciseFault_now hnone]
    exact ⟨rfl, rfl, rfl, rfl, rfl⟩⟩⟩

/-! ### Prefixes -/

/-- The descriptor with a word of FMT or REP more (R281). -/
def withPrefix (isRep : Bool) (w : IWord) (d : Descriptor) : Descriptor := if isRep then { d with rep := w } else { d with fmt := w }

/-- A word of FMT or REP, before a legal unit that no marker holds back, enters the descriptor and counts as an issue. -/
theorem issuePrefix_of_ok {isRep : Bool} {w : IWord} {s s' : State} {mk : Bool} (hready : canIssue (me s) = true)
    (hquantum : expired s s.cur = false) (hroom : unaccepted (me s) < 32)
    (hfirst : (if isRep then (me s).desc.rep == 0 else (me s).desc.fmt == 0 && (me s).desc.rep == 0) = true)
    (hunit : checkUnit s 2 (withPrefix isRep w (me s).desc)
      (((me s).pc.toNat + 4 * (b01 ((withPrefix isRep w (me s).desc).fmt != 0) + b01 ((withPrefix isRep w (me s).desc).rep != 0))) % 2 ^ 64)
      = .ok mk s')
    (hmarker : mk = false ∨ (me s).ss.pp = true ∨ (me s).outs = []) :
    issuePrefix isRep w s = modMe (countIssue (noteIssue s' s'.cur) s'.cur) fun th =>
      { th with desc := withPrefix isRep w (me s).desc, ss := { th.ss with pp := true } } := by
  have hissues : (!canIssue (me s) || expired s s.cur) = false := by rw [hready, hquantum]; rfl
  have hmarked : (mk && !(me s).ss.pp && !(me s).outs.isEmpty) = false := by
    rcases hmarker with h | h | h <;> simp [h]
  unfold withPrefix at hunit ⊢
  unfold issuePrefix
  dsimp only
  rw [hissues, hfirst, hunit]
  simp [hmarked, hroom]

/-- What is left of the rider and of memory then. -/
theorem prefixed_keeps (isRep : Bool) (w : IWord) (d : Descriptor) (s : State) :
    let t := modMe (countIssue (noteIssue s s.cur) s.cur) fun th =>
      { th with desc := withPrefix isRep w d, ss := { th.ss with pp := true } }
    (me t).desc = withPrefix isRep w d ∧ (me t).ss = { (me s).ss with pp := true } ∧ (me t).pc = (me s).pc ∧ (me t).g = (me s).g ∧
      (me t).v = (me s).v ∧ (me t).pw = (me s).pw ∧ t.dram = s.dram ∧ t.sram = s.sram := by
  have hme : me (countIssue (noteIssue s s.cur) s.cur) = me s := by
    rw [me, counted_cur, threadAt_counted]
    rfl
  obtain ⟨hdram, hsram⟩ := (sameMem_countIssue (noteIssue s s.cur) s.cur).trans (sameMem_noteIssue s s.cur)
  intro t
  rw [me_modMe, hme]
  exact ⟨rfl, rfl, rfl, rfl, rfl, rfl, hdram, hsram⟩

theorem prefixesEnterTheDescriptor : PrefixesEnterTheDescriptor := by
  constructor
  · intro a b d e c w s s' mk i d1 hready hquantum hroom hwf hword hnone hunit hmarker
    have hexec : exec i s = .next (issuePrefix false w s) := by
      show Host.Outcome.next (if canIssue (me s) && !expired s s.cur && !i.wf then _ else issuePrefix false (wordOf i) s) = _
      rw [wordOf, hword, hwf]
      simp
    rw [issuePrefix_of_ok hready hquantum hroom (by simp [hnone]) ?_ hmarker] at hexec
    · exact ⟨_, hexec, prefixed_keeps ..⟩
    · rw [b01_bne_zero, b01_bne_zero]
      refine Eq.trans ?_ hunit
      simp [withPrefix, hnone, d1]
  · intro c d a b w s s' mk i d1 hready hquantum hroom hword hnone hunit hmarker
    have hexec : exec i s = .next (issuePrefix true w s) := by
      show Host.Outcome.next (issuePrefix true (wordOf i) s) = _
      rw [wordOf, hword]
      rfl
    rw [issuePrefix_of_ok hready hquantum hroom (by simp [hnone]) ?_ hmarker] at hexec
    · exact ⟨_, hexec, prefixed_keeps ..⟩
    · rw [b01_bne_zero, b01_bne_zero]
      exact hunit

/-- Settles O22: a unit that transfers control ends at its target or faults ALIGN, and FMT or REP of a checked unit enters the
descriptor. -/
theorem controlTransferResults : Obligations.ControlTransferResults :=
  ⟨branchAndJumpResults, nopAndBreak, prefixesEnterTheDescriptor⟩

end Sys2Proof.Machine
end

section
/-! # Scalar loads and stores

LD and ST fault at a misaligned address, or begin the access of their size (R291, R332-R335). -/

namespace Sys2Proof.Machine
open Sys2Proof.Claims

/-- The address of format M is its base and its displacement in units of the size (R274). -/
theorem effective_eq_address (s : State) (i : Instr) (a : Reg) (o : BitVec 10) (size : ℕ) :
    effective s i a o size = address s i a o size := by
  unfold effective address
  rw [BitVec.ofInt_mul, BitVec.ofInt_natCast]
  rfl

/-- A unit whose body faults at a misaligned address and begins its access at another. -/
theorem aligned_access {i : Instr} {s : State} {body : State → Res} (h : Issues i s) (hexec : exec i s = .next (unit i body s))
    {ea size : ℕ} {a : Access} {o : Out}
    (hbody : body s = if ea % size ≠ 0 then .fault .align 0 0 (some ea) else beginAccess (named_ s) a o false) :
    (ea % size ≠ 0 → exec i s = .next (preciseFault s .align 0 0 (some ea))) ∧
    (ea % size = 0 → AccessForms i s (named_ s) a o false) :=
  ⟨fun hmis => exec_fault h hexec (hbody.trans (if_pos hmis)),
    fun hal => accessForms_of_body h hexec rfl (hbody.trans (if_neg (not_not.mpr hal)))⟩

/-- Settles O23: the body of LD, and that of ST, is the access at `address`, under the test of its alignment. -/
theorem scalarAccessesIssue : Obligations.ScalarAccessesIssue := by
  refine ⟨fun m d a p z o s h => ?_, fun m d a p z o s h => ?_⟩
  · refine aligned_access h rfl ?_
    rw [← effective_eq_address]
    rfl
  · refine aligned_access h rfl ?_
    rw [← effective_eq_address]
    rfl

end Sys2Proof.Machine
end

section
/-! # Marker steps

A marker commits the landed results of its thread in program order, and freezes the thread at one that failed (R292, R295, R296, R323). -/

namespace Sys2Proof.Machine
open Sys2Proof.Claims

/-! ### A result commits -/

/-- The flags and the status of a result join its thread. -/
def commitStatus (th : Thread) (o : Out) : Thread :=
  match o.bst with
  | some b => commitBst (orFlags th o.flags) b
  | none => orFlags th o.flags

/-- Its value enters its register, unless a younger instruction wrote it. -/
def commitValue (th : Thread) (o : Out) : Thread :=
  if o.discard then th
  else
    match o.file with
    | .g => wrG th o.reg (o.value.extractLsb' 0 64)
    | .v => wrV th o.reg (selLanes o.lanes.toNat o.value (rdV th o.reg))
    | .none => th

theorem commitResult_eq (th : Thread) (o : Out) : commitResult th o = commitValue (commitStatus th o) o := rfl

theorem wrQ_eq (th : Thread) (i : ℕ) (b : Bool) : wrQ th i b = { th with pw := (wrQ th i b).pw } := rfl

/-- What is outstanding does not change what commits. -/
theorem commitStatus_outs (th : Thread) (o : Out) (l : List Out) :
    commitStatus { th with outs := l } o = { commitStatus th o with outs := l } := by
  unfold commitStatus
  cases o.bst <;> rfl

theorem commitValue_outs (th : Thread) (o : Out) (l : List Out) :
    commitValue { th with outs := l } o = { commitValue th o with outs := l } := by
  by_cases hdiscard : o.discard = true
  · rw [commitValue, commitValue, if_pos hdiscard, if_pos hdiscard]
  · rw [commitValue, commitValue, if_neg hdiscard, if_neg hdiscard]
    cases o.file
    case g =>
      dsimp only [wrG]
      split <;> rfl
    case v =>
      dsimp only [wrV, rdV]
    case none => rfl

theorem commitResult_outs (th : Thread) (o : Out) (l : List Out) :
    commitResult { th with outs := l } o = { commitResult th o with outs := l } := by
  rw [commitResult_eq, commitStatus_outs, commitValue_outs, commitResult_eq]

/-- Of its thread a result changes the registers and the status alone. -/
theorem commitResult_keeps {β : Type} (p : Thread → β)
    (hp : ∀ th ss pw g v, p { th with ss := ss, pw := pw, g := g, v := v } = p th) (th : Thread) (o : Out) :
    p (commitResult th o) = p th := by
  have hstatus : p (commitStatus th o) = p th := by
    unfold commitStatus
    cases o.bst
    case none => exact hp th _ th.pw th.g th.v
    case some b =>
      dsimp only
      rw [commitBst, wrQ_eq]
      exact hp th _ _ th.g th.v
  rw [commitResult_eq, ← hstatus, commitValue]
  generalize commitStatus th o = u
  by_cases hdiscard : o.discard = true
  · rw [if_pos hdiscard]
  · rw [if_neg hdiscard]
    cases o.file
    case g =>
      dsimp only [wrG]
      split
      · rfl
      · exact hp u u.ss u.pw _ u.v
    case v => exact hp u u.ss u.pw u.g _
    case none => rfl

theorem foldl_commitResult_outs (os : List Out) (th : Thread) (l : List Out) :
    os.foldl commitResult { th with outs := l } = { os.foldl commitResult th with outs := l } := by
  induction os generalizing th with
  | nil => rfl
  | cons o os ih => rw [List.foldl_cons, commitResult_outs, ih, List.foldl_cons]

/-! ### The results of a thread commit -/

/-- A result that has landed, did not fail and is no push to the core downstream. -/
def Commits (o : Out) : Prop := o.done = true ∧ o.fail = none ∧ pushesOut o = false

section
variable {t : ThreadRef} {s : State}

theorem commitOuts_nil (h : (threadAt s t).outs = []) (n : ℕ) : commitOuts t (n + 1) s =
    modThread s t fun th => { th with run := if th.run = .parked .marker then .ready else th.run, back := none } := by
  rw [commitOuts, h]

theorem commitOuts_commits {o : Out} {rest : List Out} (h : (threadAt s t).outs = o :: rest) (ho : Commits o) (n : ℕ) :
    commitOuts t (n + 1) s = commitOuts t n (modThread s t fun th => { commitResult th o with outs := rest }) := by
  obtain ⟨hdone, hfail, hpush⟩ := ho
  rw [commitOuts, h]
  simp only [hdone, hfail, hpush, Bool.not_true, Bool.false_and, Bool.false_eq_true, if_false]

section
variable {o : Out} {rest : List Out} {f : Fail} (h : (threadAt s t).outs = o :: rest) (hdone : o.done = true) (hfail : o.fail = some f)
include h hdone hfail

theorem commitOuts_failed_late (hlate : (threadAt s t).back = none ∨ o.late = true) (n : ℕ) :
    commitOuts t (n + 1) s = freezeLate s t o f := by
  rw [commitOuts, h]
  simp only [hdone, hfail, Bool.not_true, Bool.false_eq_true, if_false]
  split
  · next hback hnot => simp [hback, hnot] at hlate
  · rfl

theorem commitOuts_failed_precise {b : Back} (hback : (threadAt s t).back = some b) (hlate : o.late = false) (n : ℕ) :
    commitOuts t (n + 1) s = freezePrecise s t o f b := by
  rw [commitOuts, h]
  simp only [hdone, hfail, hback, hlate, Bool.not_true, Bool.false_eq_true, if_false]

end

end

/-- The results before the first that does not commit. -/
theorem commitOuts_append {t : ThreadRef} {os rest : List Out} (hos : ∀ x ∈ os, Commits x) (n : ℕ) {s : State}
    (h : (threadAt s t).outs = os ++ rest) : ∃ s', commitOuts t (os.length + n) s = commitOuts t n s' ∧
      threadAt s' t = { os.foldl commitResult (threadAt s t) with outs := rest } := by
  induction os generalizing s with
  | nil => exact ⟨s, by rw [List.length_nil, Nat.zero_add], by rw [← show (threadAt s t).outs = rest from h]; rfl⟩
  | cons o os ih =>
    have houts : (threadAt s t).outs = o :: (os ++ rest) := h
    have hthread : threadAt (modThread s t fun th => { commitResult th o with outs := os ++ rest }) t =
        { commitResult (threadAt s t) o with outs := os ++ rest } := threadAt_modThread_same ..
    obtain ⟨s', hcommits, hs'⟩ := ih (fun x hx => hos x (List.mem_cons_of_mem o hx)) (congrArg Thread.outs hthread)
    refine ⟨s', ?_, ?_⟩
    · rw [List.length_cons, Nat.add_right_comm, commitOuts_commits houts (hos o List.mem_cons_self), hcommits]
    · rw [hs', hthread, foldl_commitResult_outs, List.foldl_cons]

/-! ### The event -/

theorem exec_markerCommit (t : ThreadRef) (s : State) : exec (.markerCommit t) s =
    .next (if atCommit (threadAt s t) then commitOuts t ((threadAt s t).outs.length + 1) s else s) := rfl

/-- At a marker a thread commits once all of its results have landed. -/
theorem atCommit_of_landed {th : Thread} (hrun : th.run = .parked .marker) (hfroz : th.froz = false)
    (hdone : ∀ o ∈ th.outs, o.done = true) : atCommit th = true := by
  unfold atCommit
  rw [hrun, hfroz, List.all_eq_true.mpr hdone]
  simp

theorem atCommit_of_missing {th : Thread} (hsusp : th.susp = false) (hmissing : ∃ o ∈ th.outs, o.done = false) :
    atCommit th = false := by
  have hall : (th.outs.all fun o => o.done) = false := by
    rw [List.all_eq_false]
    obtain ⟨o, ho, hdone⟩ := hmissing
    exact ⟨o, ho, Bool.eq_false_iff.mp hdone⟩
  unfold atCommit
  simp [hsusp, hall]

/-- A late fault replaces no fault of a thread that kept none. -/
theorem threadAt_freezeLate {s : State} {t : ThreadRef} (hprog : ∀ x, (threadAt s t).prog ≠ .faulted x) (o : Out) (f : Fail) :
    threadAt (freezeLate s t o f) t = { threadAt s t with froz := true, fault := lateFault o f false } := by
  unfold freezeLate
  rw [takeFault_thread, threadAt_modThread_same]
  split
  · next x hx => exact absurd hx (hprog x)
  · rfl

/-- Settles O43: the results before the first that failed commit one by one; then the thread is ready, or frozen late or precisely. -/
theorem markerCommitsResults : Obligations.MarkerCommitsResults := by
  refine ⟨fun t s hrun hfroz hall => ?_, fun t s os o rest f hrun hfroz houts hdone hos hfail hlate hprog => ?_,
    fun t s o rest f b hrun hfroz houts hdone hfail hlate hback => ?_, fun t s _ hsusp hmissing => ?_⟩
  · have hcommit := atCommit_of_landed hrun hfroz fun o ho => (hall o ho).1
    obtain ⟨s', hcommits, hs'⟩ := commitOuts_append (t := t) hall 1 (List.append_nil _).symm
    have hrun' : (threadAt s' t).run = .parked .marker := by
      rw [hs', ← hrun]
      exact foldl_keeps Thread.run _ (commitResult_keeps _ fun _ _ _ _ _ => rfl) ..
    refine givesSome_of_exec ((exec_markerCommit t s).trans (congrArg _ (if_pos hcommit))) ?_
    rw [hcommits, commitOuts_nil (congrArg Thread.outs hs'), threadAt_modThread_same, if_pos hrun', hs']
  · have hcommit := atCommit_of_landed hrun hfroz (houts ▸ hdone)
    have hlength : (threadAt s t).outs.length + 1 = os.length + (rest.length + 2) := by
      rw [houts, List.length_append, List.length_cons]
      omega
    obtain ⟨s', hcommits, hs'⟩ := commitOuts_append
      (fun x hx => ⟨hdone x (List.mem_append_left _ hx), hos x hx⟩) (rest.length + 2) houts
    have hback : (threadAt s' t).back = (threadAt s t).back := by
      rw [hs']
      exact foldl_keeps Thread.back _ (commitResult_keeps _ fun _ _ _ _ _ => rfl) ..
    have hprog' : (threadAt s' t).prog = (threadAt s t).prog := by
      rw [hs']
      exact foldl_keeps Thread.prog _ (commitResult_keeps _ fun _ _ _ _ _ => rfl) ..
    refine givesSome_of_exec ((exec_markerCommit t s).trans (congrArg _ (if_pos hcommit))) ?_
    rw [hlength, hcommits, commitOuts_failed_late (congrArg Thread.outs hs') (hdone o (by simp)) hfail (hback.symm ▸ hlate),
      threadAt_freezeLate (hprog'.symm ▸ hprog), hs']
  · have hcommit := atCommit_of_landed hrun hfroz (houts ▸ hdone)
    refine (exec_markerCommit t s).trans (congrArg _ ((if_pos hcommit).trans ?_))
    exact commitOuts_failed_precise houts (hdone o List.mem_cons_self) hfail hback hlate _
  · exact (exec_markerCommit t s).trans (congrArg _ (if_neg (Bool.eq_false_iff.mp (atCommit_of_missing hsusp hmissing))))

end Sys2Proof.Machine
end

section
/-! # Integer instructions

The words of the worked program (R302), and the results of the integer instructions: those that count bits are searches and counts over
the bits, and those that divide are the divisions of bit vectors (R299-R304). -/

namespace Sys2Proof.Machine
open Sys2Proof.Claims

/-- Settles O3: the decoder, run on each word, gives the instruction beside it. -/
theorem workedProgramWordsDecode : Obligations.WorkedProgramWordsDecode :=
  ⟨rfl, rfl, rfl, rfl, rfl, rfl, rfl, rfl, rfl, rfl⟩

/-! ### Bits counted -/

theorem bit_zero (v : ℕ) : bit v 0 = decide (v % 2 = 1) := by simp [bit, beq_eq_decide]

theorem bit_half (v k : ℕ) : bit (v / 2) k = bit v (k + 1) := by
  unfold bit
  rw [Nat.div_div_eq_div_mul, ← pow_succ']

theorem leadZeros_eq_findIdx (v n : ℕ) : leadZeros v n = (List.range n).findIdx fun k => bit v (n - 1 - k) := by
  induction n with
  | zero => rfl
  | succ n ih =>
    have hnext : ((List.range n).map Nat.succ).findIdx (fun k => bit v (n - k)) = leadZeros v n := by
      rw [ih, List.findIdx_map]
      refine congrArg (fun p => (List.range n).findIdx p) (funext fun k => ?_)
      rw [Function.comp_apply, Nat.sub_sub, Nat.add_comm 1 k]
    rw [List.range_succ_eq_map, List.findIdx_cons, Nat.add_sub_cancel, hnext, Nat.sub_zero, leadZeros]
    cases bit v n <;> simp [Nat.add_comm]

theorem trailZeros_eq_findIdx (n v : ℕ) : trailZeros n v = (List.range n).findIdx (bit v) := by
  induction n generalizing v with
  | zero => rfl
  | succ n ih =>
    have hnext : ((List.range n).map Nat.succ).findIdx (bit v) = trailZeros n (v / 2) := by
      rw [ih, List.findIdx_map]
      exact congrArg (fun p => (List.range n).findIdx p) (funext fun k => (bit_half v k).symm)
    rw [List.range_succ_eq_map, List.findIdx_cons, hnext, bit_zero, trailZeros]
    by_cases h : v % 2 = 1 <;> simp [h, Nat.add_comm]

theorem oneBits_eq_countP (n v : ℕ) : oneBits n v = (List.range n).countP (bit v) := by
  induction n generalizing v with
  | zero => rfl
  | succ n ih =>
    have hnext : ((List.range n).map Nat.succ).countP (bit v) = oneBits n (v / 2) := by
      rw [ih, List.countP_map]
      exact congrArg (fun p => (List.range n).countP p) (funext fun k => (bit_half v k).symm)
    rw [List.range_succ_eq_map, List.countP_cons, hnext, bit_zero, oneBits, Nat.add_comm]
    congr 1
    rcases Nat.mod_two_eq_zero_or_one v with h | h <;> simp [h]

/-! ### The instructions of the register and the immediate forms (R299-R303) -/

theorem binary_of_form3 {c : Mark → Reg → Reg → Reg → Instr} {f f' : Word → Word → Word} (hf : ∀ x y, f x y = f' x y)
    (hexec : ∀ m d a b s, exec (c m d a b) s = .next (unit (c m d a b) (form3 f (c m d a b) d a b) s) := by intros; rfl) :
    Binary c f' := fun m d a b _ h =>
  exec_done h (hexec m d a b _) (congrArg (fun v => Res.done (putG _ d v)) (hf _ _))

theorem unary_of_form2 {c : Mark → Reg → Reg → Instr} {f f' : Word → Word} (hf : ∀ x, f x = f' x)
    (hexec : ∀ m d a s, exec (c m d a) s = .next (unit (c m d a) (form2 f (c m d a) d a) s) := by intros; rfl) :
    Unary c f' := fun m d a _ h =>
  exec_done h (hexec m d a _) (congrArg (fun v => Res.done (putG _ d v)) (hf _))

theorem immediate_of_form2 {n : ℕ} {c : Mark → Reg → Reg → BitVec n → Instr} {f : Word → BitVec n → Word}
    (hexec : ∀ m d a k s, exec (c m d a k) s = .next (unit (c m d a k) (form2 (fun x => f x k) (c m d a k) d a) s) :=
      by intros; rfl) :
    Immediate c f := fun m d a k _ h => exec_done h (hexec m d a k _) rfl

/-- Where equal keys name equal values, a strict and a weak test of the keys choose alike. -/
theorem ite_lt_eq_ite_le {α β : Type} [LinearOrder β] {m n : β} {a b : α} (h : m = n → a = b) :
    (if m < n then a else b) = if m ≤ n then a else b := by
  rcases eq_or_ne m n with heq | hne
  · rw [h heq, ite_self, ite_self]
  · simp only [lt_iff_le_and_ne, hne, ne_eq, not_false_eq_true, and_true]

theorem intMin_eq (x y : Word) : intMin x y = if x.toInt ≤ y.toInt then x else y := by
  rw [← ite_lt_eq_ite_le BitVec.eq_of_toInt_eq, intMin, BitVec.slt_eq_decide]
  simp only [decide_eq_true_eq]

theorem intMax_eq (x y : Word) : intMax x y = if x.toInt ≤ y.toInt then y else x := by
  rw [← ite_lt_eq_ite_le fun h => (BitVec.eq_of_toInt_eq h).symm, intMax, BitVec.slt_eq_decide]
  simp only [decide_eq_true_eq]

theorem intMinu_eq (x y : Word) : intMinu x y = if x.toNat ≤ y.toNat then x else y := by
  rw [← ite_lt_eq_ite_le BitVec.eq_of_toNat_eq, intMinu, BitVec.ult_eq_decide]
  simp only [decide_eq_true_eq]

theorem intMaxu_eq (x y : Word) : intMaxu x y = if x.toNat ≤ y.toNat then y else x := by
  rw [← ite_lt_eq_ite_le fun h => (BitVec.eq_of_toNat_eq h).symm, intMaxu, BitVec.ult_eq_decide]
  simp only [decide_eq_true_eq]

theorem sextSize_eq (b : Reg) (x : Word) : sextSize b x = BitVec.ofInt 64 (x.extractLsb' 0 (sextBits b)).toInt := by
  have hlow : ∀ n ≤ 64, (x.setWidth n).signExtend 64 = BitVec.ofInt 64 (x.extractLsb' 0 n).toInt := fun n hn =>
    congrArg (BitVec.signExtend 64) (BitVec.setWidth_eq_extractLsb' hn)
  unfold sextSize sextBits
  by_cases h0 : b = 0
  · rw [if_pos h0, if_pos h0]
    exact hlow 8 (by decide)
  rw [if_neg h0, if_neg h0]
  by_cases h1 : b = 1
  · rw [if_pos h1, if_pos h1]
    exact hlow 16 (by decide)
  · rw [if_neg h1, if_neg h1]
    exact hlow 32 (by decide)

theorem upperImmediate_eq (k : BitVec 20) : sext64 k <<< 12 = BitVec.ofInt 64 (k.toInt * 4096) := by
  rw [BitVec.shiftLeft_eq_mul_twoPow, BitVec.ofInt_mul]
  rfl

theorem integerRegisterResults : IntegerRegisterResults := by
  refine ⟨binary_of_form3 fun _ _ => rfl, binary_of_form3 fun _ _ => rfl, binary_of_form3 fun _ _ => rfl,
    binary_of_form3 fun _ _ => rfl, binary_of_form3 fun _ _ => rfl, binary_of_form3 fun _ _ => rfl,
    binary_of_form3 fun _ _ => rfl, binary_of_form3 fun _ _ => rfl, binary_of_form3 fun _ _ => rfl,
    binary_of_form3 intMin_eq, binary_of_form3 intMax_eq, binary_of_form3 intMinu_eq, binary_of_form3 intMaxu_eq,
    unary_of_form2 fun x => ?clz, unary_of_form2 fun x => ?ctz, unary_of_form2 fun x => ?popc,
    fun m d a b s h => exec_done h rfl (congrArg (fun v => Res.done (putG s d v)) (sextSize_eq b _))⟩
  case clz =>
    rw [leadZeros_eq_findIdx]
    simp only [bit_toNat]
  case ctz =>
    rw [trailZeros_eq_findIdx]
    simp only [← bit_toNat]
  case popc =>
    rw [oneBits_eq_countP]
    simp only [← bit_toNat]

theorem integerImmediateResults : IntegerImmediateResults :=
  ⟨immediate_of_form2, immediate_of_form2, immediate_of_form2, immediate_of_form2, immediate_of_form2, immediate_of_form2,
    immediate_of_form2,
    fun _ d k s h => exec_done h rfl (congrArg (fun v => Res.done (putG s d v)) (upperImmediate_eq k))⟩

/-- Settles O10: each instruction writes what its form's function gives, and that function is the rule's. -/
theorem integerResults : Obligations.IntegerResults := ⟨integerRegisterResults, integerImmediateResults⟩

/-! ### Products and quotients (R304) -/

theorem extractLsb'_ofInt_high (z : ℤ) : (BitVec.ofInt 128 z).extractLsb' 64 64 = BitVec.ofInt 64 (z / 2 ^ 64) := by
  apply BitVec.eq_of_toNat_eq
  rw [BitVec.extractLsb'_toNat, BitVec.toNat_ofInt, BitVec.toNat_ofInt, Nat.shiftRight_eq_div_pow]
  omega

theorem mulHigh_eq (x y : Word) : mulHigh x y = ((x.signExtend 128) * (y.signExtend 128)).extractLsb' 64 64 := by
  rw [BitVec.signExtend, BitVec.signExtend, ← BitVec.ofInt_mul, extractLsb'_ofInt_high]
  rfl

theorem mulHighU_eq (x y : Word) : mulHighU x y = ((x.setWidth 128) * (y.setWidth 128)).extractLsb' 64 64 := by
  apply BitVec.eq_of_toNat_eq
  have hlt : x.toNat * y.toNat < 2 ^ 128 := (Nat.mul_lt_mul'' x.isLt y.isLt).trans_eq (pow_add 2 64 64).symm
  rw [BitVec.extractLsb'_toNat, BitVec.toNat_mul, BitVec.toNat_setWidth_of_le (by decide), BitVec.toNat_setWidth_of_le (by decide),
    Nat.mod_eq_of_lt hlt, Nat.shiftRight_eq_div_pow]
  exact BitVec.toNat_ofNat ..

theorem ofInt_tdiv (x y : Word) : BitVec.ofInt 64 (x.toInt.tdiv y.toInt) = x.sdiv y := by
  apply BitVec.eq_of_toInt_eq
  rw [BitVec.toInt_sdiv, BitVec.toInt_ofInt]

theorem word_div (x y : Word) : word (x.toNat / y.toNat) = x / y := by
  apply BitVec.eq_of_toNat_eq
  rw [BitVec.toNat_udiv, word, BitVec.toNat_ofNat, Nat.mod_eq_of_lt ((Nat.div_le_self ..).trans_lt x.isLt)]

theorem sub_mul_udiv (x y : Word) : x - y * (x / y) = x % y := by
  rw [sub_eq_iff_eq_add]
  apply BitVec.eq_of_toNat_eq
  rw [BitVec.toNat_add, BitVec.toNat_mul, BitVec.toNat_umod, BitVec.toNat_udiv, Nat.add_mod_mod, Nat.mod_add_div,
    Nat.mod_eq_of_lt x.isLt]

/-- Settles O11: the products are the halves of the exact one, and the quotients those of the bit-vector divisions, but by zero. -/
theorem multiplyDivideResults : Obligations.MultiplyDivideResults := by
  refine ⟨binary_of_form3 fun _ _ => rfl, binary_of_form3 mulHigh_eq, binary_of_form3 mulHighU_eq,
    binary_of_form3 fun x y => ?div, binary_of_form3 fun x y => ?divu, binary_of_form3 fun x y => ?rem,
    binary_of_form3 fun x y => ?remu⟩
  case div => rw [divS, ofInt_tdiv]
  case divu => rw [divU, word_div]
  case rem =>
    rw [remS, divS, ofInt_tdiv]
    split_ifs <;> rfl
  case remu =>
    rw [remU, divU, word_div, ← sub_mul_udiv]
    split_ifs <;> rfl

end Sys2Proof.Machine
end

section
/-! # Compares and traps

A compare writes its predicate and annuls the units that it skips (R288, R305); TRAP and ERET jump with what `takeTrap` and `leaveTrap`
leave (R316, R317). -/

namespace Sys2Proof.Machine
open Sys2Proof.Claims

/-! ### Fields in place -/

/-- A field in its place, over low bits kept with it: the word under a mask. -/
theorem word_field_add_mod {hi lo k : ℕ} (hk : k ≤ lo) (v : Word) :
    word (2 ^ lo * field v.toNat hi lo + v.toNat % 2 ^ k) = v &&& BitVec.ofNat 64 (2 ^ lo * (2 ^ (hi + 1 - lo) - 1) + (2 ^ k - 1)) := by
  have hpow : 2 ^ k ≤ 2 ^ lo := Nat.pow_le_pow_right two_pos hk
  have hlow : v.toNat % 2 ^ k < 2 ^ lo := (Nat.mod_lt _ (Nat.two_pow_pos k)).trans_le hpow
  have hmask : 2 ^ k - 1 < 2 ^ lo := (Nat.sub_lt (Nat.two_pow_pos k) one_pos).trans_le hpow
  apply BitVec.eq_of_getLsbD_eq
  intro i hi64
  rw [BitVec.getLsbD_and, word, BitVec.getLsbD_ofNat, BitVec.getLsbD_ofNat, field, Nat.testBit_two_pow_mul_add _ hlow,
    Nat.testBit_two_pow_mul_add _ hmask, Nat.testBit_mod_two_pow, Nat.testBit_mod_two_pow, Nat.testBit_div_two_pow,
    Nat.testBit_two_pow_sub_one, Nat.testBit_two_pow_sub_one, BitVec.getLsbD]
  by_cases hlt : i < lo
  · simp [hlt, hi64, Bool.and_comm]
  · rw [Nat.sub_add_cancel (Nat.le_of_not_lt hlt)]
    simp [hlt, hi64, Bool.and_comm]

theorem word_field (hi lo : ℕ) (v : Word) :
    word (2 ^ lo * field v.toNat hi lo) = v &&& BitVec.ofNat 64 (2 ^ lo * (2 ^ (hi + 1 - lo) - 1)) := by
  simpa [Nat.mod_one] using word_field_add_mod (hi := hi) (Nat.zero_le lo) v

/-! ### Compares (R305) -/

theorem condition_eq_condHolds (x y : Word) : ∀ c : ℕ, condition c x y = condHolds c x y
  | 0 => beq_eq_decide x y
  | 1 => by rw [condition, condHolds, bne, beq_eq_decide, ← decide_not]
  | 2 => BitVec.slt_eq_decide
  | 3 => by rw [condition, condHolds, BitVec.slt_eq_decide, ← decide_not]; simp only [not_lt, ge_iff_le]
  | 4 => BitVec.ult_eq_decide
  | _ + 5 => by simp [condition, condHolds, BitVec.ult_eq_decide, ← decide_not]

/-- The next unit of one without prefixes. -/
theorem nextUnit_alone {th : Thread} (h : th.desc = ⟨0, 0⟩) : nextUnit th = (th.pc.toNat + 4) % 2 ^ 64 := by
  rw [nextUnit, h]
  rfl

/-- A change of the current thread is what it makes of it. -/
theorem modMe_congr {s : State} {f g : Thread → Thread} (h : f (me s) = g (me s)) : modMe s f = modMe s g :=
  congrArg (setThread s s.cur) h

/-- A compare that skips takes neither FMT nor REP (R286), so its skip window begins at the next word. -/
theorem compares_of_body {i : Instr} {s : State} {body : State → Res} {t : Bool} {p : BitVec 4} {k : BitVec 2}
    (h : Issues i s) (hexec : exec i s = .next (unit i body s)) (hfmt : fmtAccepted s.cur (me s).desc i = !((me s).desc.fmt != 0))
    (hrep : repeatable i = (k == 0)) (hbody : body s = compareBody t p k s) : Compares i s t p k := by
  refine ⟨fun hdone => exec_done h hexec (hbody.trans (if_pos (by simpa using hdone))), ?_⟩
  rintro rfl hk
  have hdesc := desc_of_legal h.legal hfmt (hrep.trans (by simpa using hk))
  have hnext : nextUnit (me (putQ s p.toNat false)) = ((me s).pc.toNat + 4) % 2 ^ 64 := by
    rw [putQ, me_writeQ]
    exact nextUnit_alone hdesc
  have hskips : compareBody false p k s =
      let x := annul (modMe (putQ s p.toNat false) fun th => goTo th (nextUnit th)) k.toNat (nextUnit (me (putQ s p.toNat false)))
      .jump x (me x).pc.toNat := if_neg (by simpa using hk)
  have hgoes : modMe (putQ s p.toNat false) (fun th => goTo th (nextUnit th)) =
      modMe (putQ s p.toNat false) fun th => goTo th (((me s).pc.toNat + 4) % 2 ^ 64) := modMe_congr (congrArg (goTo _) hnext)
  rw [hgoes, hnext] at hskips
  exact exec_settles h hexec (hbody.trans hskips)

/-- Settles O15: a compare is its condition's truth, written, and what is annulled when it is false. -/
theorem compareResults : Obligations.CompareResults :=
  ⟨fun _ c _ _ _ _ _ h => compares_of_body h rfl rfl rfl (congrArg (compareBody · _ _ _) (condition_eq_condHolds _ _ c.toNat)),
    fun _ c _ _ _ _ _ h => compares_of_body h rfl rfl rfl (congrArg (compareBody · _ _ _) (condition_eq_condHolds _ _ c.toNat))⟩

/-! ### TRAP and ERET (R316, R317) -/

/-- A unit that jumps: its thread goes on at the pc with the registers that the body left, and the status but for its progress. -/
theorem exec_jump {i : Instr} {s s' : State} {body : State → Res} {pc : ℕ} (h : Issues i s) (hexec : exec i s = .next (unit i body s))
    (hops : (operands i).all (fun o => o.file != .v) = true) (hbody : body s = .jump s' pc) (hcur : s'.cur = s.cur) :
    ∃ t, exec i s = .next t ∧ SameMem t s' ∧ (me t).pc = word pc ∧ (me t).g = (me s').g ∧ (me t).v = (me s').v ∧
      (me t).pw = (me s').pw ∧ (me t).rid = (me s').rid ∧
      ∃ anch, (me t).ss = { (me s').ss with pp := false, repc := 0, anch := anch } := by
  obtain ⟨run, back, susp, hme⟩ := me_complete i (fun th => goTo th pc) hcur (vlqPops_eq_zero hops _ _)
  refine ⟨complete i s s' fun th => goTo th pc, exec_settles h hexec hbody, sameMem_complete .., ?_⟩
  rw [hme]
  exact ⟨rfl, rfl, rfl, rfl, rfl, _, rfl⟩

theorem takeTrap_cur (s : State) (n code : ℕ) : (takeTrap s n code).1.cur = s.cur := by
  obtain ⟨-, -, hcur⟩ := writeG_mem s 24 (word (n + (me s).ss.priv.toNat))
  rw [takeTrap, modMe_cur, hcur]

theorem me_takeTrap (s : State) (n code : ℕ) :
    me (takeTrap s n code).1 = { discardOlder (wrG (me s) 24 (word (n + (me s).ss.priv.toNat))) .g 24 with
      ss := { (me s).ss with priv := if (me s).ss.priv = 0 then 1 else (me s).ss.priv } } := by
  unfold takeTrap
  rw [me_modMe, me_writeG, discardOlder_ss, wrG_ss]

/-- The entry of a trap's code in the handler table (R316). -/
theorem word_takeTrap (s : State) (n : ℕ) (code : BitVec 8) :
    word (takeTrap s n code.toNat).2 = ((myCore s).tvec &&& 0x00FFFFFFFFFFF000) + 16 * code.setWidth 64 := by
  have htvec : (myCore (takeTrap s n code.toNat).1).tvec = (myCore s).tvec := by
    rw [myCore, takeTrap_cur, takeTrap, coreAt_modMe_tvec,
      writeG_core_keeps s 24 (word (n + (me s).ss.priv.toNat)) Core.tvec (fun _ _ _ => rfl)]
    rfl
  have hcode : word (code.toNat * 16) = 16 * code.setWidth 64 := by
    apply BitVec.eq_of_toNat_eq
    simp [word, Nat.mul_comm]
  refine (BitVec.ofNat_add _ _).trans (congrArg₂ (· + ·) ?_ hcode)
  exact (congrArg (fun v : Word => word (field v.toNat 55 12 * 2 ^ 12)) htvec).trans
    ((congrArg word (Nat.mul_comm ..)).trans (word_field 55 12 _))

theorem word_nextUnit_alone {th : Thread} (h : th.desc = ⟨0, 0⟩) (n : ℕ) : word (nextUnit th + n) = th.pc + 4 + word n := by
  rw [nextUnit_alone h]
  unfold word
  bv_omega

/-- Settles O16: without a handler or with the reserved privilege TRAP faults; else it jumps with what `takeTrap` leaves. -/
theorem trapEntersTheHandler : Obligations.TrapEntersTheHandler := by
  intro m c s h i p
  refine ⟨fun hoff => exec_fault h rfl (if_pos ?off), fun hon hp => exec_fault h rfl ?reserved, fun hon hp => ?enters⟩
  case off => rw [hoff]; rfl
  case reserved => exact (if_neg (by rw [hon]; decide)).trans (if_pos hp)
  case enters =>
    have hdesc := desc_of_legal h.legal rfl rfl
    obtain ⟨t, hexec, hmem, hpc, hg, hv, hpw, hrid, anch, hss⟩ := exec_jump (s' := (takeTrap s (nextUnit (me s)) c.toNat).1)
      (pc := (takeTrap s (nextUnit (me s)) c.toNat).2) h rfl rfl ((if_neg (by rw [hon]; decide)).trans (if_neg hp)) (takeTrap_cur ..)
    obtain ⟨hdram, hsram⟩ := hmem.trans (sameMem_takeTrap ..)
    rw [me_takeTrap] at hg hv hpw hrid hss
    have hread : ∀ r, rdG (me t) r = rdG (wrG (me s) 24 (word (nextUnit (me s) + p.toNat))) r := rdG_of_g_eq hg
    refine ⟨t, hexec, ?_, by rw [hss], hpc.trans (word_takeTrap ..), fun r hr => ?_, hv.trans (wrG_v ..), hpw.trans (wrG_pw ..),
      hrid.trans (wrG_rid ..), by rw [hss], by rw [hss], hdram, hsram⟩
    · rw [hread, rdG_wrG, if_pos ⟨rfl, by decide⟩, word_nextUnit_alone hdesc, word, BitVec.ofNat_toNat]
    · rw [hread, rdG_wrG, if_neg fun h => hr h.1]

theorem leaveTrap_cur (s : State) : (leaveTrap s).1.cur = s.cur := rfl

theorem me_leaveTrap (s : State) :
    me (leaveTrap s).1 = { me s with ss := { (me s).ss with priv := (rdG (me s) 24).extractLsb' 0 2 } } := me_modMe ..

/-- The pc that g24 holds, above the privilege (R317). -/
theorem word_leaveTrap (s : State) : word (leaveTrap s).2 = rdG (me s) 24 &&& ~~~3 := by
  have hfield : (leaveTrap s).2 = 2 ^ 2 * field (rdG (me s) 24).toNat 63 2 := by
    show (rdG (me s) 24).toNat / 4 * 4 = _
    unfold field
    omega
  rw [hfield, word_field]
  rfl

/-- Settles O17: ERET faults by the privilege it has and the one that g24 holds, or jumps with what `leaveTrap` leaves. -/
theorem eretReturnsFromTheHandler : Obligations.EretReturnsFromTheHandler := by
  intro m s h i p w q
  have hq : q.toNat = (rdG (me s) 24).toNat % 4 := BitVec.extractLsb'_toNat ..
  have hq3 : (rdG (me s) 24).toNat % 4 = 3 ↔ q = 3 := by rw [← hq, BitVec.toNat_eq]; rfl
  refine ⟨fun huser => exec_fault h rfl (if_pos huser), fun hp hres => exec_fault h rfl ?reserved,
    fun hp hres hlt => exec_fault h rfl ?above, fun hp hres hle => ?returns⟩
  case reserved => exact (if_neg hp).trans (if_pos (hq3.mpr hres))
  case above => exact (if_neg hp).trans ((if_neg (mt hq3.mp hres)).trans (if_pos (hq ▸ hlt)))
  case returns =>
    obtain ⟨t, hexec, ⟨hdram, hsram⟩, hpc, hg, hv, hpw, -, anch, hss⟩ := exec_jump (s' := (leaveTrap s).1)
      (pc := (leaveTrap s).2) h rfl rfl
      ((if_neg hp).trans ((if_neg (mt hq3.mp hres)).trans (if_neg (hq ▸ Nat.not_lt.mpr hle)))) (leaveTrap_cur s)
    rw [me_leaveTrap] at hg hv hpw hss
    exact ⟨t, hexec, by rw [hss], hpc.trans (word_leaveTrap s), rdG_of_g_eq hg, hv, hpw, by rw [hss], hdram, hsram⟩

end Sys2Proof.Machine
end

section
/-! # Reads and writes of system registers

The rights of the map of R318, the values that RDSYS delivers, and the writes of WRSYS that are the write of a field (R318, R319). -/

namespace Sys2Proof.Machine
open Sys2Proof.Claims

/-! ### Rights (R318) -/

theorem priv_bne_zero_eq_kernelUp (s : State) : ((me s).ss.priv != 0) = kernelUp s := by
  rw [Bool.eq_iff_iff, bne_iff_ne, kernelUp, decide_eq_true_eq, ne_eq, BitVec.toNat_eq]
  exact Nat.one_le_iff_ne_zero.symm

theorem holdsRight_mayRead (s : State) (n : ℕ) : holdsRight s (mayRead n) = readable s n := by
  unfold mayRead readable
  by_cases huser : n ≤ 4
  · rw [if_pos huser, if_pos (Or.inl huser)]
    rfl
  by_cases hxinv : n = 0x16
  · rw [if_neg huser, if_pos hxinv, if_pos (Or.inr hxinv)]
    rfl
  rw [if_neg huser, if_neg hxinv, if_neg (not_or.mpr ⟨huser, hxinv⟩)]
  split_ifs
  · exact isKS_eq_kernelSlotUp s
  · exact priv_bne_zero_eq_kernelUp s

theorem holdsRight_mayWrite (s : State) (n : ℕ) : holdsRight s (mayWrite n) = writable s n := by
  have hsupervisor : ((me s).ss.priv == 2) = decide ((me s).ss.priv = 2) := beq_eq_decide ..
  by_cases hlow : n ≤ 4
  · interval_cases n
    · rfl
    · rfl
    · rfl
    · exact hsupervisor
    · rfl
  · have hne : n ≠ 0 ∧ n ≠ 1 ∧ n ≠ 2 ∧ n ≠ 3 ∧ n ≠ 4 := by omega
    simp only [mayWrite, writable, hlow, hne, false_or, or_self, if_false]
    split_ifs
    · exact hsupervisor
    · exact isKS_eq_kernelSlotUp s
    · exact priv_bne_zero_eq_kernelUp s

/-! ### What RDSYS delivers -/

/-- From BPCFG on a block holds the words of the banks and the saved-rider table (R18). -/
theorem coreRegRead_high (s : State) (c : ℕ) {off : ℕ} (h : 0x100 ≤ off) : coreRegRead s c off =
    if off < 0x180 then bpcfgWord s c ((off - 0x100) / 8)
    else if 0x200 ≤ off ∧ off < 0x300 then word (aget 0 (coreAt s c).srt ((off - 0x200) / 8)).toNat else 0 := by
  have hne : off ≠ 0x00 ∧ off ≠ 0x08 ∧ off ≠ 0x10 ∧ off ≠ 0x18 ∧ off ≠ 0x20 ∧ off ≠ 0x28 ∧ off ≠ 0x40 ∧ off ≠ 0x48 := by omega
  simp only [coreRegRead, hne, h, true_and, if_false]

/-- From BPCFG on the value of a register is a word of its block. -/
theorem registers_high (s : State) {n : ℕ} (h : 0x20 ≤ n) : sysRead s n = coreRegRead s s.cur.core (blockOffset n) ∧
    registerValue s n = if n < 0x40 then bpcfgWord s s.cur.core (n - 0x20)
      else BitVec.ofNat 64 (aget 0 (myCore s).srt (n - 0x40)).toNat := by
  have hne : n ≠ 0 ∧ n ≠ 1 ∧ n ≠ 2 ∧ n ≠ 3 ∧ n ≠ 4 ∧ n ≠ 8 ∧ n ≠ 0x10 ∧ n ≠ 0x11 ∧ n ≠ 0x12 ∧ n ≠ 0x13 ∧ n ≠ 0x14 ∧ n ≠ 0x15 ∧
    n ≠ 0x16 := by omega
  simp only [sysRead, registerValue, hne, if_false, and_self]

theorem blockOffset_high {n : ℕ} (h : 0x20 ≤ n) :
    blockOffset n = if n < 0x40 then 0x100 + 8 * (n - 0x20) else 0x200 + 8 * (n - 0x40) := by
  have hne : n ≠ 8 ∧ n ≠ 0x10 ∧ n ≠ 0x11 ∧ n ≠ 0x12 ∧ n ≠ 0x13 ∧ n ≠ 0x14 := by omega
  simp only [blockOffset, hne, if_false]

theorem sysRead_bank (s : State) {n : ℕ} (h : 0x20 ≤ n) (h' : n ≤ 0x2F) : sysRead s n = registerValue s n := by
  obtain ⟨hread, hvalue⟩ := registers_high s h
  have hbank : (0x100 + 8 * (n - 0x20) - 0x100) / 8 = n - 0x20 := by omega
  rw [hread, hvalue, blockOffset_high h, if_pos (by omega), if_pos (by omega), coreRegRead_high _ _ (Nat.le_add_right ..),
    if_pos (by omega), hbank]

theorem sysRead_saved (s : State) {n : ℕ} (h : 0x40 ≤ n) (h' : n ≤ 0x5F) : sysRead s n = registerValue s n := by
  obtain ⟨hread, hvalue⟩ := registers_high s (le_trans (by decide) h)
  have hentry : (0x200 + 8 * (n - 0x40) - 0x200) / 8 = n - 0x40 := by omega
  rw [hread, hvalue, blockOffset_high (by omega), if_neg (by omega), if_neg (by omega), coreRegRead_high _ _ (by omega),
    if_neg (by omega), if_pos (by omega), hentry]
  rfl

theorem cidWord_eq (t : ThreadRef) :
    cidWord t = BitVec.ofNat 64 (t.core + 2 ^ 10 * t.slot + if isArith t then 2 ^ 13 else 0) := by
  unfold cidWord word b01
  congr 1
  split_ifs <;> omega

theorem carveWord_eq (k : Core) : carveWord k =
    BitVec.ofNat 64 (k.carveK + (if k.carveBusy.isSome then 2 ^ 14 else 0) + if k.carveRef then 2 ^ 15 else 0) := by
  unfold carveWord word b01
  congr 1
  split_ifs <;> omega

theorem cbtWord_eq (k : Core) : cbtWord k = BitVec.ofNat 64 (k.cbtOwner.toNat + if k.cbtV then 2 ^ 32 else 0) := by
  unfold cbtWord word b01
  congr 1
  split_ifs <;> omega

/-- RDSYS delivers what R318 says of every register that its map names. -/
theorem sysRead_eq_registerValue (s : State) {n : ℕ} (h : named n) : sysRead s n = registerValue s n := by
  rcases h with h | rfl | ⟨h, h'⟩ | ⟨h, h'⟩ | ⟨h, h'⟩
  · interval_cases n <;> simp [sysRead, registerValue, cidWord_eq, word, Nat.add_comm, Nat.mul_comm]
  · simp [sysRead, registerValue, coreRegRead, blockOffset, myCore]
  · by_cases hcarve : n = 0x11
    · exact hcarve ▸ carveWord_eq (myCore s)
    by_cases hcbt : n = 0x14
    · exact hcbt ▸ cbtWord_eq (myCore s)
    interval_cases n <;> simp [sysRead, registerValue, coreRegRead, blockOffset, word, myCore] at hcarve hcbt ⊢
  · exact sysRead_bank s h h'
  · exact sysRead_saved s h h'

/-! ### Writes of fields (R18, R319) -/

theorem tvecOf_eq (v : Word) : tvecOf v = v &&& 0x00FFFFFFFFFFF001 := by
  rw [tvecOf, Nat.mul_comm]
  exact word_field_add_mod (hi := 55) (lo := 12) (k := 1) (by decide) v

/-- A register that has a field, or is read-only, is written as its field, or ignored. -/
theorem writeSystemRegister_of_written {s t : State} {k : ℕ} {v : Word} (hro : mayWrite k ≠ 4)
    (h : writtenRegister s k v = some t) : writeSystemRegister s k v = .done t := by
  unfold writtenRegister at h
  split_ifs at h with h0 h1 h3 h8 hlease hseed hcbt
  all_goals cases h; subst_vars
  · rfl
  · rcases h1 with rfl | rfl | rfl <;> exact absurd rfl hro
  · rfl
  · rw [← tvecOf_eq]
    rfl
  · rfl
  · rfl
  · rfl

/-- A register that ignores its write is one of three, and is written as it is. -/
theorem written_of_readOnly {s : State} {k : ℕ} (v : Word) (h : mayWrite k = 4) : writtenRegister s k v = some s := by
  have hk : k = 1 ∨ k = 2 ∨ k = 4 := by
    unfold mayWrite at h
    split_ifs at h <;> omega
  rw [writtenRegister, if_neg (by omega), if_pos hk]

/-- Settles O19: the rights are those of R318; with them RDSYS delivers the register's value, and WRSYS writes its field. -/
theorem systemRegisterAccess : Obligations.SystemRegisterAccess := by
  refine ⟨fun m d n s h hnamed => ⟨fun hright => exec_done h rfl ?reads, fun hright => exec_fault h rfl (if_pos ?noRead)⟩,
    fun m d n s h _ => ⟨fun hright => exec_fault h rfl (if_pos ?noWrite), fun t hright ht => ?writes⟩⟩
  case reads =>
    rw [← holdsRight_mayRead] at hright
    rw [← sysRead_eq_registerValue s hnamed]
    exact if_neg (by rw [hright]; decide)
  case noRead => rw [holdsRight_mayRead, hright]; rfl
  case noWrite => rw [holdsRight_mayWrite, hright]; rfl
  case writes =>
    by_cases hro : mayWrite n.toNat = 4
    · obtain rfl := Option.some.inj ((written_of_readOnly _ hro).symm.trans ht)
      exact exec_done h rfl ((if_neg (by rw [holdsRight_mayWrite, hright]; decide)).trans (if_pos hro))
    · rw [exec_wrsys h hright hro, writeSystemRegister_of_written hro ht]
      rfl

end Sys2Proof.Machine
end

section
/-! # Slot control

The slot that an operand names, what waits for it to settle, the kill of a context, and the suspension of a deck slot (R321-R326). -/

namespace Sys2Proof.Machine
open Sys2Proof.Claims

/-! ### The slot that an operand names (R321) -/

/-- An operand names a slot where its bits are legal and, with a selector, the selector exists (R324). -/
theorem slotNamed_eq (s : State) (v : Word) (sel : Bool) :
    slotNamed s v.toNat sel = if (sel && !selOk (field v.toNat 15 8)) = true then none else namedSlot s v.toNat sel := by
  unfold slotNamed namedSlot
  dsimp only
  generalize ht : (⟨s.cur.core, v.toNat % 8, v.toNat / 8 % 2⟩ : ThreadRef) = t
  by_cases hbad : (v.toNat % 8 ≠ 7 ∧ v.toNat / 8 % 2 = 1) ∨ t = s.cur
  · rw [if_pos hbad, if_pos (Or.inr hbad), ite_self]
  rw [if_neg hbad]
  cases sel with
  | false =>
    have hrest : field v.toNat 63 4 = v.toNat / 16 := by
      unfold field
      omega
    by_cases h : v.toNat / 16 = 0 <;> simp [hrest, h, hbad]
  | true =>
    have hrest : field v.toNat 7 4 + field v.toNat 63 16 ≠ 0 ↔ ¬(v.toNat / 16 % 16 = 0 ∧ v.toNat / 65536 = 0) := by
      unfold field
      omega
    have hsel : selOk (field v.toNat 15 8) = true ↔
        (v.toNat / 256 % 256 ≤ 35 ∨ v.toNat / 256 % 256 = 40 ∨ v.toNat / 256 % 256 = 41) := by
      simp only [selOk, Bool.or_eq_true, decide_eq_true_eq, beq_iff_eq, or_assoc]
      rfl
    simp only [hrest, ← hsel, hbad, or_false, ← and_assoc, if_true]
    cases selOk (field v.toNat 15 8)
    · simp only [Bool.false_eq_true, and_false, if_false, Bool.not_false, Bool.and_true, if_true]
    · simp only [and_true, Bool.not_true, Bool.and_false, Bool.false_eq_true, if_false, ite_not]

section
variable {s : State} {v : Word} {sel : Bool} {k : ThreadRef → Res}

theorem slotControl_denied (h : kernelSlotUp s = false) : slotControl s v.toNat sel k = .fault .priv 0 0 none :=
  if_pos (by rw [isKS_eq_kernelSlotUp, h]; rfl)

/-- Who has the right acts on the slot that the operand names, or faults ILL (R321). -/
theorem slotControl_allowed (h : kernelSlotUp s = true) :
    slotControl s v.toNat sel k = (slotNamed s v.toNat sel).elim (.fault .ill 0 0 none) k := by
  unfold slotControl
  rw [slotNamed_eq, isKS_eq_kernelSlotUp, h]
  cases namedSlot s v.toNat sel <;> cases (sel && !selOk (field v.toNat 15 8)) <;> rfl

theorem slotControl_named {t : ThreadRef} (h : kernelSlotUp s = true) (hnamed : slotNamed s v.toNat sel = some t) :
    slotControl s v.toNat sel k = k t := by
  rw [slotControl_allowed h, hnamed]
  rfl

end

/-! ### RDSLOT and WRSLOT (R323, R324) -/

theorem settledSlot_iff (s : State) (t : ThreadRef) : settledSlot s t = true ↔ settled s t := by
  simp only [settledSlot, settledThread, settled, List.all_eq_true, Bool.and_eq_true, Bool.or_eq_true, beq_iff_eq,
    List.isEmpty_iff, or_assoc]

theorem whenSettled_settled {s : State} {t : ThreadRef} (h : settled (stopSlot s t) t) (k : State → Res) :
    whenSettled s t k = k (stopSlot s t) := if_pos ((settledSlot_iff ..).mpr h)

theorem whenSettled_unsettled {s : State} {t : ThreadRef} (h : ¬settled (stopSlot s t) t) (k : State → Res) :
    whenSettled s t k = .park (.settle t.slot t.th) (stopSlot s t) := if_neg (mt (settledSlot_iff ..).mp h)

theorem descWord_eq (th : Thread) : descWord th = th.desc.rep ++ th.desc.fmt := by
  apply BitVec.eq_of_toNat_eq
  rw [descWord, word, BitVec.toNat_append, BitVec.toNat_ofNat, ← Nat.shiftLeft_add_eq_or_of_lt th.desc.fmt.isLt, Nat.shiftLeft_eq]
  omega

theorem recordWord_zero (th : Thread) : recordWord th 0 = th.pc &&& 0x00FFFFFFFFFFFFFC :=
  (congrArg word (Nat.mul_comm ..)).trans (word_field 55 2 th.pc)

theorem slotRead_eq_slotValue (s : State) (t : ThreadRef) {sel : ℕ} (h : selOk sel = true) : slotRead s t sel = slotValue s t sel := by
  have hsel : sel ≤ 35 ∨ sel = 40 ∨ sel = 41 := by
    simpa only [selOk, Bool.or_eq_true, decide_eq_true_eq, beq_iff_eq, or_assoc] using h
  unfold slotRead slotValue
  dsimp only
  by_cases hfree : (threadAt s t).run = .free
  · rw [if_pos hfree, if_pos hfree]
  rw [if_neg hfree, if_neg hfree]
  rcases hsel with hrecord | rfl | rfl
  · rw [if_neg (by omega), if_neg (by omega)]
    by_cases hpc : sel = 0
    · rw [hpc, recordWord_zero, if_pos rfl]
    have hids : (threadAt s t).gid.toNat * 2 ^ 32 + (threadAt s t).rid.toNat =
        (threadAt s t).rid.toNat + 2 ^ 32 * (threadAt s t).gid.toNat := by omega
    unfold recordWord
    rw [if_neg hpc, if_neg hpc, descWord_eq, hids]
    split_ifs
    · rfl
    · rfl
    · rfl
    · rfl
    · rfl
    all_goals omega
  · rfl
  · rfl

/-! ### The instructions -/

section
variable {i : Instr} {s : State} {v : Word} {body : State → Res} (h : Issues i s) (hexec : exec i s = .next (unit i body s))
include h hexec

/-- A unit of slot control that acts at once on the slot that its operand names. -/
theorem exec_slotControl {act : ThreadRef → State} (hbody : body s = slotControl s v.toNat false fun t => .done (act t)) :
    (kernelSlotUp s = false → exec i s = .next (preciseFault s .priv 0 0 none)) ∧
    (kernelSlotUp s = true → slotNamed s v.toNat false = none → exec i s = .next (preciseFault s .ill 0 0 none)) ∧
    (∀ t, kernelSlotUp s = true → slotNamed s v.toNat false = some t → exec i s = .next (done i s (act t))) :=
  ⟨fun hright => exec_fault h hexec (hbody.trans (slotControl_denied hright)),
    fun hright hnone => exec_fault h hexec (hbody.trans ((slotControl_allowed hright).trans (by rw [hnone]; rfl))),
    fun _ hright hnamed => exec_done h hexec (hbody.trans (slotControl_named hright hnamed))⟩

/-- A unit of slot control that stops the slot first, and acts once it is settled (R323). -/
theorem exec_settledSlot {act : ThreadRef → State → State}
    (hbody : body s = slotControl s v.toNat true fun t => whenSettled s t fun s => .done (act t s)) :
    (kernelSlotUp s = false → exec i s = .next (preciseFault s .priv 0 0 none)) ∧
    (∀ t, kernelSlotUp s = true → slotNamed s v.toNat true = some t →
      (settled (stopSlot s t) t → exec i s = .next (done i s (act t (stopSlot s t)))) ∧
      (¬settled (stopSlot s t) t → exec i s = .next (waiting i s (stopSlot s t) (.settle t.slot t.th)))) :=
  ⟨fun hright => exec_fault h hexec (hbody.trans (slotControl_denied hright)), fun _ hright hnamed =>
    ⟨fun hset => exec_done h hexec (hbody.trans ((slotControl_named hright hnamed).trans (whenSettled_settled hset _))),
      fun hset => exec_waiting h hexec (hbody.trans ((slotControl_named hright hnamed).trans (whenSettled_unsettled hset _)))⟩⟩

end

/-- A selector that an operand names exists. -/
theorem selOk_of_named {s : State} {v : Word} {t : ThreadRef} (h : slotNamed s v.toNat true = some t) :
    selOk (v.toNat / 256 % 256) = true := by
  rw [slotNamed_eq] at h
  by_contra hsel
  have hsel' : selOk (field v.toNat 15 8) = false := Bool.eq_false_iff.mpr hsel
  rw [hsel'] at h
  cases h

/-- The 17 low bits of a word are its bit 16 and the 16 below. -/
theorem extractLsb'_17_eq_iff (w v : Word) : w.extractLsb' 0 17 = v.extractLsb' 0 17 ↔
    w.getLsbD 16 = v.getLsbD 16 ∧ w.extractLsb' 0 16 = v.extractLsb' 0 16 := by
  constructor
  · intro h
    have hbits : ∀ i < 17, w.getLsbD i = v.getLsbD i := fun i hi => by simpa [hi] using congrArg (BitVec.getLsbD · i) h
    refine ⟨hbits 16 (by decide), BitVec.eq_of_getLsbD_eq fun i hi => ?_⟩
    simpa [hi] using hbits i (hi.trans (by decide))
  · rintro ⟨hbit, hlow⟩
    refine BitVec.eq_of_getLsbD_eq fun i hi => ?_
    rcases Nat.lt_succ_iff_lt_or_eq.mp hi with hlt | rfl
    · simpa [hlt, hi] using congrArg (BitVec.getLsbD · i) hlow
    · simpa using hbit

theorem ofNat_low (v : Word) : BitVec.ofNat 16 v.toNat = v.extractLsb' 0 16 := by
  apply BitVec.eq_of_toNat_eq
  simp

/-- CTXKILL names a context by its world and its ASID (R22, R326). -/
theorem isContext_iff (w v : Word) :
    isContext (bit v.toNat 16) (BitVec.ofNat 16 v.toNat) w = true ↔ w.extractLsb' 0 17 = v.extractLsb' 0 17 := by
  rw [extractLsb'_17_eq_iff, isContext, Bool.and_eq_true, beq_iff_eq, beq_iff_eq, bit_toNat, ofNat_low]
  rfl

/-- A secure agent kills any context, a non-secure one a non-secure one (R326). -/
theorem foreignWorld_iff (s : State) (v : Word) :
    (agentNs s s.cur.core && !bit v.toNat 16) = true ↔ ¬(nonSecure s → v.getLsbD 16 = true) := by
  rw [Bool.and_eq_true, agentNs_iff, bit_toNat, Bool.not_eq_true', Classical.not_imp, Bool.not_eq_true]

theorem slotControlResults : SlotControlResults := by
  refine ⟨fun m a s h => exec_slotControl h rfl rfl, fun m a s h => ?resm, fun m d a s h => ?rdslot,
    fun m d a s h => exec_settledSlot (act := fun t s' => slotWrite s' t _ _) h rfl rfl, fun m a s h => ?ctxkill⟩
  case resm =>
    obtain ⟨hdenied, -, hnamed⟩ := exec_slotControl h rfl rfl
    exact ⟨hdenied, hnamed⟩
  case rdslot =>
    obtain ⟨hdenied, hacts⟩ := exec_settledSlot
      (act := fun t s' => putG s' d (slotRead s' t (field (srcG s (.rdslot m d a) .a a.toNat).toNat 15 8))) h rfl rfl
    refine ⟨hdenied, fun t hright hnamed => ?_⟩
    obtain ⟨hsettled, hwaits⟩ := hacts t hright hnamed
    refine ⟨fun hset => ?_, hwaits⟩
    rw [← slotRead_eq_slotValue _ _ (selOk_of_named hnamed)]
    exact hsettled hset
  case ctxkill =>
    intro i v own
    refine ⟨fun hpriv => exec_fault h rfl (if_pos hpriv), fun hpriv hwide => exec_fault h rfl ?wide,
      fun hpriv hlt hns hbit => exec_fault h rfl ?world, fun hpriv hlt hns hown => exec_fault h rfl ?own,
      fun hpriv hlt hns hother => exec_done h rfl ?kill⟩
    case wide => exact (if_neg (not_not.mpr hpriv)).trans (if_pos hwide)
    case world =>
      refine (if_neg (not_not.mpr hpriv)).trans ((if_neg (Nat.not_le.mpr hlt)).trans (if_pos ((foreignWorld_iff s v).mpr ?_)))
      exact Classical.not_imp.mpr ⟨hns, Bool.eq_false_iff.mp hbit⟩
    case own =>
      exact (if_neg (not_not.mpr hpriv)).trans ((if_neg (Nat.not_le.mpr hlt)).trans
        ((if_neg (mt (foreignWorld_iff s v).mp (not_not.mpr hns))).trans (if_pos ((isContext_iff own v).mpr hown))))
    case kill =>
      rw [← bit_toNat, ← ofNat_low]
      exact (if_neg (not_not.mpr hpriv)).trans ((if_neg (Nat.not_le.mpr hlt)).trans
        ((if_neg (mt (foreignWorld_iff s v).mp (not_not.mpr hns))).trans (if_neg (mt (isContext_iff own v).mp hother))))

/-! ### Suspension -/

theorem slotThreads_deck {t : ThreadRef} (h : t.slot < 7) : slotThreads t = [t] := if_neg (by omega)

theorem threadAt_keepSuspended (s : State) (t x : ThreadRef) : threadAt (keepSuspended s t) x = threadAt s x := by
  rw [threadAt, coreAt, keepSuspended_cores]
  rfl

section
variable {s : State} {t : ThreadRef} (h : t.slot < 7)
include h

theorem threadAt_suspendSlot : threadAt (suspendSlot s t) t = suspendThread (threadAt s t) := by
  rw [suspendSlot, slotThreads_deck h, List.foldl_cons, List.foldl_nil, threadAt_keepSuspended, threadAt_modThread_same]

theorem threadAt_resumeSlot : threadAt (resumeSlot s t) t = resumeThread (threadAt s t) := by
  rw [resumeSlot, slotThreads_deck h, List.foldl_cons, List.foldl_nil, threadAt_modThread_same]

theorem threadAt_stopSlot :
    threadAt (stopSlot s t) t = if (threadAt s t).froz = true then threadAt s t else suspendThread (threadAt s t) := by
  rw [stopSlot, slotThreads_deck h, List.foldl_cons, List.foldl_nil]
  split
  · rfl
  · rw [threadAt_keepSuspended, threadAt_modThread_same]

end

theorem suspendThread_suspended {th : Thread} (h : th.susp = true) : suspendThread th = { th with susp := true } := by
  rw [suspendThread, if_pos h, ← h]

section
variable {th : Thread}

theorem suspendThread_free (hrun : th.run = .free) : suspendThread th = th := by
  simp [suspendThread, hrun]

theorem suspendThread_between (hrun : th.run = .ready) (hskp : th.ss.skp = 0) (hunit : th.ss.pp = false ∨ th.ss.repc ≠ 0) :
    suspendThread th = { th with susp := true } := by
  by_cases hsusp : th.susp = true
  · exact suspendThread_suspended hsusp
  · rcases hunit with hpp | hrepc
    · simp [suspendThread, hsusp, hrun, hskp, hpp]
    · simpa [suspendThread, hsusp, hrun, hskp] using fun _ hzero => absurd hzero hrepc

theorem suspendThread_inside (hrun : th.run = .ready) (hfroz : th.froz = false) (hsusp : th.susp = false)
    (hunit : th.ss.skp ≠ 0 ∨ (th.ss.pp = true ∧ th.ss.repc = 0)) : suspendThread th = { th with suspReq := true } := by
  rcases hunit with hskp | ⟨hpp, hrepc⟩
  · simpa [suspendThread, hsusp, hrun, hfroz] using fun hzero => absurd hzero hskp
  · simp [suspendThread, hsusp, hrun, hfroz, hpp, hrepc]

theorem suspendThread_departing {d : Depart} (hrun : th.run = .departing d) (hsusp : th.susp = false) :
    suspendThread th = { th with run := .ready, susp := true } := by
  simp [suspendThread, hsusp, hrun]

theorem suspendThread_parked {w : Park} (hrun : th.run = .parked w) (hskp : th.ss.skp = 0) :
    suspendThread th = { th with susp := true } := by
  by_cases hsusp : th.susp = true
  · exact suspendThread_suspended hsusp
  · simp [suspendThread, hsusp, hrun, hskp]

end

theorem suspensionOfADeckSlot : SuspensionOfADeckSlot := by
  intro s t hdeck th u r
  have hu : u = suspendThread th := threadAt_suspendSlot hdeck
  have hr : r = resumeThread th := threadAt_resumeSlot hdeck
  have hstop := threadAt_stopSlot (s := s) hdeck
  rw [hu, hr, hstop]
  refine ⟨suspendThread_free, suspendThread_between, suspendThread_inside, fun _ => suspendThread_departing,
    fun _ => suspendThread_parked,
    fun hsusp hfroz => if_pos (by rw [hsusp, hfroz]; rfl), fun hfroz => if_neg (by simp [hfroz]),
    fun hsusp => if_neg (by simp [hsusp]), fun hfroz => if_pos hfroz, fun hfroz => if_neg (Bool.eq_false_iff.mp hfroz)⟩

/-- Settles O21: each instruction acts on the slot that its operand names or faults, and the threads of a slot take a suspension by where
they stand. -/
theorem slotControl_and_suspension : Obligations.SlotControl := ⟨slotControlResults, suspensionOfADeckSlot⟩

end Sys2Proof.Machine
end

section
/-! # Vector accesses and cache ranges

LDV and STV fault at a misaligned address or begin their access; a cache range instruction runs over its lines (R336-R339, R343, R344). -/

namespace Sys2Proof.Machine
open Sys2Proof.Claims

/-- A unit whose body faults at a misaligned address and begins a vector access at another, in the state that its issue left. -/
theorem aligned_vector_access {i : Instr} {s s0 : State} {body : State → Res} (h : Issues i s)
    (hexec : exec i s = .next (unit i body s)) {ea size : ℕ} {a : Access} {o : Out} (hcur : s0.cur = s.cur)
    (hbody : body s = if ea % size ≠ 0 then .fault .align 0 0 (some ea) else beginAccess (named_ s0) a o true) :
    (ea % size ≠ 0 → exec i s = .next (preciseFault s .align 0 0 (some ea))) ∧
    (ea % size = 0 → AccessForms i s (named_ s0) a o true) :=
  ⟨fun hmis => exec_fault h hexec (hbody.trans (if_pos hmis)),
    fun hal => accessForms_of_body h hexec hcur (hbody.trans (if_neg (not_not.mpr hal)))⟩

/-- A vector access of the whole register in its native form (R336). -/
def takesWhole (th : Thread) : Bool := th.desc.fmt == 0 && laneMask th == 0xFFFF

@[simp] theorem takesWhole_orFlags (th : Thread) (f : BitVec 5) : takesWhole (orFlags th f) = takesWhole th := rfl

/-- The write of an STV, by its address, the bytes, the byte mask and the flags of its narrowing, and whether it takes the whole line. -/
def stvBegins (s : State) (ea fd : ℕ) (p : BitVec 3) (b : ℕ × ℕ × BitVec 5) (whole : Bool) : Res :=
  let s1 := named_ (modMe s fun th => orFlags th b.2.2)
  beginAccess s1
    { accessOf s1 s.nextId .store with
        va := ea, n := 16 * memBytes fd, pol := p.toNat, fmt := fd, data := BitVec.ofNat 512 b.1,
        mask := BitVec.ofNat 64 b.2.1, sackd := true, whole := whole }
    (outPlain s.nextId .store ea) true

/-- Settles O24: each body is the access at `address` under the test of its alignment; an STV narrows and raises its flags before it. -/
theorem vectorAccessesIssue : Obligations.VectorAccessesIssue := by
  refine ⟨fun m d a p o s h => ?_, fun m d a p o s h => ?_⟩
  · refine aligned_vector_access h rfl rfl ?_
    rw [← effective_eq_address]
    rfl
  · refine aligned_vector_access h rfl (modMe_cur ..) ?_
    rw [← effective_eq_address]
    dsimp only
    generalize memOfLanes (fmtOf (me s).desc).fd (laneMask (me s)) (roundingOf (me s).ss.rnd) (srcV s (.stv m d a p o) .d d.toNat) = b
    have hwhole : takesWhole (me (modMe s fun th => orFlags th b.2.2)) = takesWhole (me s) := by
      rw [me_modMe, takesWhole_orFlags]
    exact congrArg (fun w => if _ ≠ 0 then Res.fault .align 0 0 (some _) else stvBegins s _ _ p b w) hwhole

/-- A unit over a range faults above 2^32 bytes, does nothing for no byte, and else does its body. -/
theorem range_of_unit {i : Instr} {s s' : State} {body : State → Res} (h : Issues i s) (hexec : exec i s = .next (unit i body s))
    {len : ℕ} (hbody : body s = if 2 ^ 32 < len then .fault .ill 0 0 none else if len = 0 then .done s else .done s') :
    (2 ^ 32 < len → exec i s = .next (preciseFault s .ill 0 0 none)) ∧
    (len = 0 → exec i s = .next (done i s s)) ∧
    (len ≤ 2 ^ 32 → len ≠ 0 → exec i s = .next (done i s s')) := by
  refine ⟨fun hlong => exec_fault h hexec (hbody.trans (if_pos hlong)), fun hnone => exec_done h hexec (hbody.trans ?_),
    fun hfits hsome => exec_done h hexec (hbody.trans ?_)⟩
  · rw [if_neg (by omega), if_pos hnone]
  · rw [if_neg (by omega), if_neg hsome]

/-- Settles O27: the four range instructions share their tests of the length. -/
theorem cacheRangesIssue : Obligations.CacheRangesIssue :=
  ⟨fun _ _ _ _ h => range_of_unit h rfl rfl, fun _ _ _ _ h => range_of_unit h rfl rfl, fun _ _ _ _ h => range_of_unit h rfl rfl,
    fun _ _ _ _ _ h => range_of_unit h rfl rfl⟩

end Sys2Proof.Machine
end

section
/-! # Bank instructions at issue

A structure or bank ALU instruction is a `.bk` access that carries the command of its entry (R362-R372). -/

namespace Sys2Proof.Machine
open Sys2Proof.Claims

/-- The access of a bank instruction, by its command and where its result lands (R362, R367, R372). -/
def bankBegins (i : Instr) (s : State) (a : Reg) (c : BankCmd) (kind : OutKind) (file : RegFile) (reg : ℕ) (writes : Bool) : Res :=
  let ea := (srcG s i .a a.toNat).toNat
  beginAccess (named_ s) { accessOf (named_ s) s.nextId .bank with va := ea, n := 1, pol := 5, cmd := some c, sackd := writes }
    (outFor (named_ s) s.nextId kind file reg ea) false

/-- An access with the policy `.bk` is launched where its thread is. -/
theorem bankIssues_of_body {i : Instr} {s : State} {body : State → Res} {a : Reg} {c : BankCmd} {kind : OutKind} {file : RegFile}
    {reg : ℕ} {writes : Bool} (h : Issues i s) (hexec : exec i s = .next (unit i body s))
    (hbody : body s = bankBegins i s a c kind file reg writes) : BankIssues i s a c kind file reg writes := by
  obtain ⟨-, hhere, -⟩ := accessForms_of_body (s1 := named_ s) (vector := false) h hexec rfl hbody
  exact hhere (Or.inr rfl) (Nat.succ_ne_self 4)

/-- A pop names the register of its destination in either file. -/
theorem dst_elemRegs (s : State) (v : BitVec 1) (n : ℕ) :
    (if elemRegs v == .none then 0 else dstNum s .d n) = dstNum s .d n := by
  unfold elemRegs
  split <;> rfl

theorem pushElem_eq_element (s : State) (i : Instr) (d : Reg) (z : BitVec 2) (v : BitVec 1) (k : ℕ) :
    pushElem s i d z.toNat v k = element s i d z v k := by
  unfold pushElem element elemBytes
  rw [← mul_assoc, BitVec.ofNat_toNat]
  rfl


/-! ### Structure instructions (R363-R366) -/

theorem structureInstructionsIssue : StructureInstructionsIssue := by
  refine ⟨fun m d a z v s h => bankIssues_of_body h rfl ?push, fun m d a n z v s h => bankIssues_of_body h rfl ?pushn,
    fun m d a z v s h => bankIssues_of_body h rfl ?pop, fun m d a z v s h => bankIssues_of_body h rfl ?peek,
    fun _ _ _ _ _ h => bankIssues_of_body h rfl rfl, fun _ _ _ _ _ h => bankIssues_of_body h rfl rfl,
    fun _ _ _ _ _ h => bankIssues_of_body h rfl rfl, fun _ _ _ _ h => bankIssues_of_body h rfl rfl,
    fun _ _ _ _ h => bankIssues_of_body h rfl rfl, fun _ _ _ _ h => bankIssues_of_body h rfl rfl,
    fun _ _ _ _ _ _ h => bankIssues_of_body h rfl rfl, fun _ _ _ _ _ h => bankIssues_of_body h rfl rfl,
    fun _ _ _ _ _ h => bankIssues_of_body h rfl rfl, fun _ _ _ _ _ h => bankIssues_of_body h rfl rfl,
    fun _ _ _ _ _ h => bankIssues_of_body h rfl rfl, fun _ _ _ _ h => bankIssues_of_body h rfl rfl⟩
  case push =>
    rw [← pushElem_eq_element]
    rfl
  case pushn =>
    rw [← funext (pushElem_eq_element s (.bpushn m d a n z v) d z v)]
    rfl
  case pop =>
    exact congrArg (fun r => bankBegins (.bpop m d a z v) s a (.pop (v == 1) z.toNat) .struct (elemRegs v) r true) (dst_elemRegs ..)
  case peek =>
    exact congrArg (fun r => bankBegins (.bpeek m d a z v) s a (.peek (v == 1) z.toNat) .struct (elemRegs v) r false) (dst_elemRegs ..)

/-! ### Bank ALU commands (R370, R371) -/

/-- A word has a bit outside a set of positions exactly when masking changes it. -/
theorem outside_mask_iff (count used : Word) : (count.toNat &&& used.toNat != count.toNat) = (count &&& ~~~used != 0) := by
  rw [Bool.eq_iff_iff, bne_iff_ne, bne_iff_ne, ← BitVec.toNat_and, ne_eq, BitVec.toNat_inj, not_iff_not,
    BitVec.eq_of_getLsbD_eq_iff, BitVec.eq_of_getLsbD_eq_iff]
  refine forall₂_congr fun k hk => ?_
  rw [BitVec.getLsbD_and, BitVec.getLsbD_and, BitVec.getLsbD_not, show BitVec.getLsbD 0 k = false from BitVec.getLsbD_zero]
  cases count.getLsbD k <;> cases used.getLsbD k <;> simp [hk]

theorem aluOf_eq_aluCommand (s : State) (fn : ℕ) (int sr : Bool) (count : Word) (vec : Line) (sc : Word) :
    aluOf s fn int sr count vec sc = aluCommand s fn int sr count vec sc := by
  unfold aluOf aluCommand
  have hused : 0x7FF + (if fn = 4 then 2 ^ 40 + 31 * 2 ^ 32 else 0) + (if fn = 7 then 65535 * 2 ^ 16 else 0) =
      ((0x7FF : Word) ||| (if fn = 4 then 0x11F00000000 else 0) ||| (if fn = 7 then 0xFFFF0000 else 0)).toNat := by
    by_cases h4 : fn = 4
    · subst h4; rfl
    · by_cases h7 : fn = 7
      · subst h7; rfl
      · simp [h4, h7]
  simp only [hused, outside_mask_iff, bit_toNat, field, BitVec.extractLsb'_toNat, Nat.shiftRight_eq_div_pow, pow_zero, Nat.div_one]

/-- A bank ALU command is that of its count word; the result, if it has one, lands in a v register. -/
theorem bankIssues_of_alu {i : Instr} {s : State} {body : State → Res} {a : Reg} {fn : ℕ} {int sr : Bool} {count : Word} {vec : Line}
    {sc : Word} {file : RegFile} {reg : ℕ} (h : Issues i s) (hexec : exec i s = .next (unit i body s))
    (hbody : body s = bankBegins i s a (.alu (aluOf s fn int sr count vec sc)) .bankAlu file reg true) :
    BankIssues i s a (.alu (aluCommand s fn int sr count vec sc)) .bankAlu file reg true := by
  rw [aluOf_eq_aluCommand] at hbody
  exact bankIssues_of_body h hexec hbody

theorem bankAluInstructionsIssue : BankAluInstructionsIssue :=
  ⟨fun _ _ _ _ _ _ h => bankIssues_of_alu h rfl rfl, fun _ _ _ _ _ _ h => bankIssues_of_alu h rfl rfl,
    fun _ _ _ _ _ _ _ h => bankIssues_of_alu h rfl rfl, fun _ _ _ _ _ h => bankIssues_of_alu h rfl rfl,
    fun _ _ _ _ _ h => bankIssues_of_alu h rfl rfl, fun _ _ _ _ _ _ h => bankIssues_of_alu h rfl rfl,
    fun _ _ _ _ _ _ h => bankIssues_of_alu h rfl rfl, fun _ _ _ _ h => bankIssues_of_alu h rfl rfl⟩

/-- Settles O32: each body is the access that carries the command of its entry. -/
theorem bankInstructionsIssue : Obligations.BankInstructionsIssue := ⟨structureInstructionsIssue, bankAluInstructionsIssue⟩

end Sys2Proof.Machine
end

section
/-! # Lane arithmetic

The INT32 operations of lanes are those of 32-bit words, and a vector unit's result is its operation on each lane (R385-R392). -/

namespace Sys2Proof.Machine
open Sys2Proof.Claims

/-! ### INT32 lanes as words -/

theorem signed_eq_toInt (w n : ℕ) : signed w n = (BitVec.ofNat w n).toInt := by
  rw [← signed_toNat, BitVec.toNat_ofNat]
  simp [signed]

theorem intDiv32_eq (x y : ℕ) :
    intDiv32 x y = (if BitVec.ofNat 32 y = 0 then BitVec.allOnes 32 else (BitVec.ofNat 32 x).sdiv (BitVec.ofNat 32 y)).toNat := by
  have hzero : BitVec.ofNat 32 y = 0 ↔ y % 2 ^ 32 = 0 := by
    rw [← BitVec.toNat_inj, BitVec.toNat_ofNat]
    rfl
  have hdiv : ofInt 32 (Int.tdiv (signed 32 x) (signed 32 y)) = (BitVec.ofNat 32 x).sdiv (BitVec.ofNat 32 y) := by
    apply BitVec.eq_of_toInt_eq
    rw [BitVec.toInt_sdiv, ofInt, BitVec.toInt_ofInt, signed_eq_toInt, signed_eq_toInt]
  unfold intDiv32
  by_cases h : y % 2 ^ 32 = 0
  · rw [if_pos h, if_pos (hzero.mpr h), BitVec.toNat_allOnes]
  · rw [if_neg h, if_neg (mt hzero.mp h), hdiv]

theorem neg_lane_eq (x : ℕ) : (2 ^ 32 - x % 2 ^ 32) % 2 ^ 32 = (-(BitVec.ofNat 32 x)).toNat := by
  rw [BitVec.toNat_neg, BitVec.toNat_ofNat]

/-! ### The operations, by type -/

theorem lanesAdd_int (r : Rounding) : lanesAdd true r = int2 fun x y => x + y :=
  funext₂ fun x y => by simp [lanesAdd, int2]

theorem lanesSub_int (r : Rounding) : lanesSub true r = int2 fun x y => x - y :=
  funext₂ fun x y => by
    have hsub : (x + 2 ^ 32 - y % 2 ^ 32) % 2 ^ 32 = (BitVec.ofNat 32 x - BitVec.ofNat 32 y).toNat := by
      rw [BitVec.toNat_sub, BitVec.toNat_ofNat, BitVec.toNat_ofNat]
      omega
    exact Prod.ext hsub rfl

theorem lanesMul_int (r : Rounding) : lanesMul true r = int2 fun x y => x * y :=
  funext₂ fun x y => by simp [lanesMul, int2]

theorem lanesMin_int (r : Rounding) :
    lanesMin true r = fun x y => (if (BitVec.ofNat 32 y).toInt < (BitVec.ofNat 32 x).toInt then y else x, 0) :=
  funext₂ fun x y => by simp only [lanesMin, if_true, signed_eq_toInt]

theorem lanesMax_int (r : Rounding) :
    lanesMax true r = fun x y => (if (BitVec.ofNat 32 x).toInt < (BitVec.ofNat 32 y).toInt then y else x, 0) :=
  funext₂ fun x y => by simp only [lanesMax, if_true, signed_eq_toInt]

theorem lanesDiv_int (r : Rounding) :
    lanesDiv true r = int2 fun x y => if y = 0 then BitVec.allOnes 32 else x.sdiv y :=
  funext₂ fun x y => Prod.ext (intDiv32_eq x y) rfl

theorem lanesFma_int (r : Rounding) :
    lanesFma true r = fun x y z => ((BitVec.ofNat 32 x * BitVec.ofNat 32 y + BitVec.ofNat 32 z).toNat, 0) := by
  funext x y z
  simp [lanesFma]

theorem lanesAbs_int :
    lanesAbs true = fun x => (if (BitVec.ofNat 32 x).toInt < 0 then (-(BitVec.ofNat 32 x)).toNat else x, 0) :=
  funext fun x => by simp only [lanesAbs, if_true, signed_eq_toInt, neg_lane_eq]

theorem lanesNeg_int : lanesNeg true = fun x => ((-(BitVec.ofNat 32 x)).toNat, 0) :=
  funext fun x => Prod.ext (neg_lane_eq x) rfl

/-- A NaN of a sign operation is the canonical one (R228). -/
theorem signOp_eq_signed (f : ℕ → ℕ) : signOp f = signed_ f := by
  funext x
  unfold signOp signed_
  split <;> rfl

theorem lanesFma_float (r : Rounding) : lanesFma false r = fpFma fmt32 r := rfl

theorem lanesAbs_float : lanesAbs false = signed_ fun x => x % 2 ^ 31 := signOp_eq_signed _

theorem lanesNeg_float : lanesNeg false = signed_ fun x => x ^^^ 2 ^ 31 := signOp_eq_signed _

/-! ### The instructions -/

/-- What a type chooses, by its bit. -/
theorem typed_eq {α : Type} {p : Bool → α} {x y : α} (hint : p true = x) (hfloat : p false = y) (t : BitVec 1) :
    p (t == 1) = if t = 1 then x else y := by
  by_cases ht : t = 1
  · rw [if_pos ht, beq_iff_eq.mpr ht, hint]
  · rw [if_neg ht, beq_eq_false_iff_ne.mpr ht, hfloat]

theorem lanesTwo_of_exec {c : Mark → Reg → Reg → Reg → BitVec 1 → Instr} (op : Bool → Rounding → ℕ → ℕ → LaneResult)
    {g : ℕ → ℕ → LaneResult} {f : Rounding → ℕ → ℕ → LaneResult}
    (hexec : ∀ m d a b t s, exec (c m d a b t) s = vecTwo (c m d a b t) d a b (t == 1) (op (t == 1)) s)
    (hint : ∀ r, op true r = g) (hfloat : ∀ r, op false r = f r) : LanesTwo c g f := by
  intro m d a b t s h
  dsimp only
  rw [← typed_eq (p := fun int => op int (roundingOf (me s).ss.rnd)) (hint _) (hfloat _)]
  exact exec_done h (hexec ..) rfl

theorem lanesSpecial_of_exec {c : Mark → Reg → Reg → Instr} {f : Fp → Exact}
    (hexec : ∀ m d a s, exec (c m d a) s = vecOne (c m d a) d a false (special f) s) : LanesSpecial c f :=
  fun _ _ _ _ h => exec_done h (hexec ..) rfl

/-- Settles O34: each operation is chosen by its type, and the unit applies it to every lane. -/
theorem vectorArithmeticResults : Obligations.VectorArithmeticResults := by
  refine ⟨lanesTwo_of_exec lanesAdd (fun _ _ _ _ _ _ => rfl) lanesAdd_int fun _ => rfl,
    lanesTwo_of_exec lanesSub (fun _ _ _ _ _ _ => rfl) lanesSub_int fun _ => rfl,
    lanesTwo_of_exec lanesMul (fun _ _ _ _ _ _ => rfl) lanesMul_int fun _ => rfl,
    lanesTwo_of_exec lanesMin (fun _ _ _ _ _ _ => rfl) lanesMin_int fun _ => rfl,
    lanesTwo_of_exec lanesMax (fun _ _ _ _ _ _ => rfl) lanesMax_int fun _ => rfl,
    lanesTwo_of_exec lanesDiv (fun _ _ _ _ _ _ => rfl) lanesDiv_int fun _ => rfl,
    fun m d a b c t s h => ?fma, fun m d a t s h => ?abs, fun m d a t s h => ?neg,
    lanesSpecial_of_exec fun _ _ _ _ => rfl, lanesSpecial_of_exec fun _ _ _ _ => rfl, lanesSpecial_of_exec fun _ _ _ _ => rfl,
    lanesSpecial_of_exec fun _ _ _ _ => rfl, lanesSpecial_of_exec fun _ _ _ _ => rfl⟩
  case fma =>
    dsimp only
    rw [← typed_eq (p := fun int => lanesFma int (roundingOf (me s).ss.rnd)) (lanesFma_int _) (lanesFma_float _)]
    exact exec_done h rfl rfl
  case abs =>
    dsimp only
    rw [← typed_eq (p := lanesAbs) lanesAbs_int lanesAbs_float]
    exact exec_done h rfl rfl
  case neg =>
    dsimp only
    rw [← typed_eq (p := lanesNeg) lanesNeg_int lanesNeg_float]
    exact exec_done h rfl rfl

end Sys2Proof.Machine
end

section
/-! # The lane mask and the movement of lanes

What the bits of the lane mask are, what VCMP makes of them, and what the units that move lanes deliver (R385, R395-R398). -/


namespace Sys2Proof.Machine
open Sys2Proof.Claims

/-! ### The lane mask (R186, R385) -/

theorem bit_eq_testBit (n k : ℕ) : bit n k = n.testBit k := by
  simp [bit, Nat.testBit_eq_decide_div_mod_eq, beq_eq_decide]

theorem bit_laneMask (th : Thread) {k : ℕ} (hk : k < 16) : bit (laneMask th) k = th.pw.getLsbD k := by
  rw [bit_eq_testBit, laneMask, Nat.testBit_mod_two_pow th.pw.toNat 16 k]
  simp [hk, BitVec.getLsbD]

/-- The bits of a sum of the powers whose places in a list satisfy a predicate. -/
theorem testBit_places {α : Type} (P : α × ℕ → Bool) (l : List α) :
    let n := l.zipIdx.foldl (fun n e => n + if P e then 2 ^ e.2 else 0) 0
    n < 2 ^ l.length ∧ ∀ k, n.testBit k = (l[k]?.any fun x => P (x, k)) := by
  induction l using List.reverseRecOn with
  | nil => simp
  | append_singleton l a ih =>
    obtain ⟨hlt, hbits⟩ := ih
    rw [List.zipIdx_append, List.foldl_append]
    generalize l.zipIdx.foldl (fun n e => n + if P e then 2 ^ e.2 else 0) 0 = n at hlt hbits
    simp only [List.zipIdx_singleton, List.foldl_cons, List.foldl_nil, Nat.zero_add, List.length_append, List.length_singleton]
    have hnext : n + (if P (a, l.length) then 2 ^ l.length else 0) < 2 ^ (l.length + 1) := by
      rw [pow_succ]
      split <;> omega
    refine ⟨hnext, fun k => ?_⟩
    rcases lt_trichotomy k l.length with hk | rfl | hk
    · rw [List.getElem?_append_left hk, ← hbits]
      split
      · rw [Nat.add_comm, Nat.testBit_two_pow_add_gt hk]
      · rfl
    · rw [List.getElem?_append_right le_rfl, Nat.sub_self, List.getElem?_cons_zero, Option.any_some]
      have hclear : n.testBit l.length = false := Nat.testBit_lt_two_pow hlt
      split
      · next h => rw [Nat.add_comm, Nat.testBit_two_pow_add_eq, hclear, h, Bool.not_false]
      · next h => rw [Nat.add_zero, hclear, Bool.eq_false_iff.mpr h]
    · rw [List.getElem?_eq_none (by simp; omega)]
      exact Nat.testBit_lt_two_pow (hnext.trans_le (Nat.pow_le_pow_right two_pos hk))

theorem pw_setMask (th : Thread) (n : ℕ) {k : ℕ} (hk : k < 32) :
    (setMask th n).pw.getLsbD k = if k < 16 then n.testBit k else th.pw.getLsbD k := by
  have hsplit : th.pw.toNat / 65536 * 65536 + n % 65536 = 2 ^ 16 * (th.pw.toNat / 2 ^ 16) + n % 2 ^ 16 := by omega
  rw [setMask, BitVec.getLsbD_ofNat, hsplit, Nat.testBit_two_pow_mul_add _ (Nat.mod_lt _ (Nat.two_pow_pos 16))]
  by_cases h : k < 16
  · rw [if_pos h, if_pos h, Nat.testBit_mod_two_pow]
    simp [h, hk]
  · rw [if_neg h, if_neg h, Nat.testBit_div_two_pow, Nat.sub_add_cancel (Nat.le_of_not_lt h)]
    simp [hk, BitVec.getLsbD]

/-! ### Lane operands (R388) -/

theorem length_elems (w n v : ℕ) : (elems w n v).length = n := by
  induction n generalizing v with
  | zero => rfl
  | succ n ih => rw [elems, List.length_cons, ih]

theorem length_laneSrc (int : Bool) (code : ℕ) (v : Line) : (laneSrc int code v).length = 16 := by
  unfold laneSrc
  split <;> rw [List.length_map, length_elems]

/-! ### What a complete unit leaves of its thread -/

/-- A part of a thread that its progress, its pops and its status leave alone. -/
def AsideOfProgress {β : Type} (p : Thread → β) : Prop :=
  ∀ (th : Thread) run back susp suspReq popped claim ss pc desc,
    p { th with run := run, back := back, susp := susp, suspReq := suspReq, popped := popped, claim := claim, ss := ss, pc := pc,
                desc := desc } = p th

section
variable {β : Type} {p : Thread → β} (hp : AsideOfProgress p)
include hp

theorem me_popLoads_keeps (s : State) (n : ℕ) : p (me (popLoads s n)) = p (me s) := by
  unfold popLoads
  split
  · rfl
  · rw [me_modMe, me_modCore _ _ _ rfl]
    exact foldl_keeps p _ (fun th _ => hp th _ _ _ _ _ _ _ _ _) _ _

theorem advance_keeps (th : Thread) : p (advance th) = p th := by
  unfold advance
  dsimp only
  split <;> exact hp th _ _ _ _ _ _ _ _ _

/-- Whatever the unit pops, its completion leaves the registers and predicates of its thread as its effect left them. -/
theorem me_done_keeps (i : Instr) (s s' : State) : p (me (done i s s')) = p (me s') := by
  have hissued : ∀ n m, p (me (countIssue (noteIssue (popLoads (popChain (holdStores s s' (awaited (me s) i)) n) m) s'.cur) s'.cur)) =
      p (me s') := fun n m => by
    rw [me, counted_cur, threadAt_counted]
    refine (me_popLoads_keeps hp ..).trans ?_
    rw [me_popChain, me_holdStores]
    exact hp (me s') _ _ _ _ _ _ _ _ _
  have hends : ∀ th : Thread, p (suspendAsked <| advance { th with claim := false, ss := { th.ss with anch := th.ss.anch || anchors i } })
      = p th := fun th => by
    rw [suspendAsked_eq]
    exact (hp _ _ _ _ _ _ _ _ _ _).trans ((advance_keeps hp _).trans (hp th _ _ _ _ _ _ _ _ _))
  unfold done complete
  dsimp only
  split
  · rw [me_modMe, me_modMe]
    exact (hp _ _ _ _ _ _ _ _ _ _).trans ((hends _).trans (hissued ..))
  · rw [me_modMe]
    exact (hends _).trans (hissued ..)

end

/-! ### Compares of lanes (R397) -/

theorem toInt_extended (x : Lane) : (x.signExtend 64).toInt = x.toInt := BitVec.toInt_signExtend_of_le (by decide)

/-- The sign extension keeps the unsigned order too: it moves the negative words to the top. -/
theorem toNat_extended (x : Lane) : (x.signExtend 64).toNat = x.toNat + if 2 ^ 31 ≤ x.toNat then 2 ^ 64 - 2 ^ 32 else 0 := by
  have hx := x.isLt
  rw [BitVec.toNat_signExtend, BitVec.msb_eq_decide]
  simp only [decide_eq_true_eq, BitVec.toNat_setWidth]
  split <;> omega

theorem condition_signExtend (x y : Lane) (c : ℕ) : condition c x y = condition c (x.signExtend 64) (y.signExtend 64) := by
  have heq : (x == y) = (x.signExtend 64 == y.signExtend 64) := by
    rw [beq_eq_decide, beq_eq_decide, decide_eq_decide, ← BitVec.toInt_inj, ← BitVec.toInt_inj (x := x.signExtend 64),
      toInt_extended, toInt_extended]
  have hslt : x.slt y = (x.signExtend 64).slt (y.signExtend 64) := by
    rw [BitVec.slt_eq_decide, BitVec.slt_eq_decide, toInt_extended, toInt_extended]
  have hult : x.ult y = (x.signExtend 64).ult (y.signExtend 64) := by
    have hx := x.isLt
    have hy := y.isLt
    rw [BitVec.ult_eq_decide, BitVec.ult_eq_decide, decide_eq_decide, toNat_extended, toNat_extended]
    split <;> split <;> omega
  match c with
  | 0 => exact heq
  | 1 => exact congrArg not heq
  | 2 => exact hslt
  | 3 => exact congrArg not hslt
  | 4 => exact hult
  | _ + 5 => exact congrArg not hult

theorem laneCompare_eq (c x y : ℕ) : (laneCompare c x y).1 =
    if decide (16 ≤ c) then condHolds (c - 16) ((BitVec.ofNat 32 x).signExtend 64) ((BitVec.ofNat 32 y).signExtend 64)
    else floatHolds fmt32 c x y := by
  unfold laneCompare
  by_cases hc : c < 16
  · rw [if_pos hc, fpCompare_eq]
    simp [Nat.not_le.mpr hc]
  · rw [if_neg hc, ← condition_eq_condHolds, ← condition_signExtend]
    simp [Nat.le_of_not_lt hc]

/-- The lane results of a compare: 1 where the condition holds. -/
def compared (c : ℕ) (xs ys : List LaneResult) : List LaneResult :=
  (xs.zip ys).map fun e => (b01 (laneCompare c e.1.1 e.2.1).1, e.1.2 ||| e.2.2 ||| (laneCompare c e.1.1 e.2.1).2)

theorem compared_getElem? (c : ℕ) {xs ys : List LaneResult} {k : ℕ} (hx : k < xs.length) (hy : k < ys.length) :
    ((compared c xs ys)[k]?.any fun x => x.1 == 1) = (laneCompare c (xs.getD k (0, 0)).1 (ys.getD k (0, 0)).1).1 := by
  have hone : ∀ b : Bool, (b01 b == 1) = b := by decide
  simp [compared, hx, hy, hone]

/-- The lane mask that a compare leaves (R397). -/
def narrowed (mask c : ℕ) (xs ys : List LaneResult) : ℕ :=
  (compared c xs ys).zipIdx.foldl (fun n e => n + (if bit mask e.2 && e.1.1 == 1 then 2 ^ e.2 else 0)) 0

theorem testBit_narrowed (mask c : ℕ) {xs ys : List LaneResult} {k : ℕ} (hx : k < xs.length) (hy : k < ys.length) :
    (narrowed mask c xs ys).testBit k = (bit mask k && (laneCompare c (xs.getD k (0, 0)).1 (ys.getD k (0, 0)).1).1) := by
  rw [narrowed, (testBit_places (fun e => bit mask e.2 && e.1.1 == 1) (compared c xs ys)).2, ← compared_getElem? c hx hy]
  cases (compared c xs ys)[k]? <;> simp

/-- VCMP narrows the mask of its thread; what it pops and its flags are no part of the registers. -/
theorem compareNarrows {i : Instr} {s : State} {c : ℕ} {xs ys : List LaneResult} (hx : xs.length = 16) (hy : ys.length = 16) {fl : BitVec 5} :
    let t := done i s (modMe s fun th => orFlags (setMask th (narrowed (laneMask (me s)) c xs ys)) fl)
    (∀ k < 16, (me t).pw.getLsbD k = ((me s).pw.getLsbD k && (laneCompare c (xs.getD k (0, 0)).1 (ys.getD k (0, 0)).1).1)) ∧
    (∀ k < 32, 16 ≤ k → (me t).pw.getLsbD k = (me s).pw.getLsbD k) ∧
    (me t).g = (me s).g ∧ (me t).v = (me s).v ∧ SameMem t s := by
  intro t
  have hkeeps : ∀ {β : Type} (p : Thread → β), AsideOfProgress p →
      p (me t) = p (orFlags (setMask (me s) (narrowed (laneMask (me s)) c xs ys)) fl) := fun p hp => by
    rw [me_done_keeps hp, me_modMe]
  have hpw : (me t).pw = (setMask (me s) (narrowed (laneMask (me s)) c xs ys)).pw := hkeeps Thread.pw fun _ _ _ _ _ _ _ _ _ _ => rfl
  refine ⟨fun k hk => ?_, fun k hk hhigh => ?_, hkeeps Thread.g fun _ _ _ _ _ _ _ _ _ _ => rfl,
    hkeeps Thread.v fun _ _ _ _ _ _ _ _ _ _ => rfl, sameMem_complete ..⟩
  · rw [hpw, pw_setMask _ _ (by omega), if_pos hk, testBit_narrowed _ _ (hx ▸ hk) (hy ▸ hk), bit_laneMask _ hk]
  · rw [hpw, pw_setMask _ _ hk, if_neg (Nat.not_lt.mpr hhigh)]

theorem word_lane (x : Lane) : word x.toNat = x.setWidth 64 := BitVec.ofNat_toNat ..

/-- Settles O35: VCMP narrows the mask bit by bit; the others move or combine lanes as their bodies say. -/
theorem vectorLogicAndMovement : Obligations.VectorLogicAndMovement := by
  refine ⟨fun _ _ _ _ _ h => exec_done h rfl rfl, fun _ _ _ _ _ h => exec_done h rfl rfl, fun _ _ _ _ _ h => exec_done h rfl rfl,
    fun _ _ _ _ _ h => exec_done h rfl rfl, fun _ _ _ _ _ h => exec_done h rfl rfl, fun _ _ _ _ _ h => exec_done h rfl rfl,
    fun m a b c s h => ?cmp, fun m d a b s h => ?sel, fun m d a s h => ?bcast, fun m d a n s h => exec_done h rfl rfl, fun m d a n s h => ?ext,
    fun _ _ _ _ _ h => exec_done h rfl rfl, fun _ _ _ _ _ _ h => exec_done h rfl rfl⟩
  case cmp =>
    simp only [← laneCompare_eq]
    exact ⟨_, exec_done h rfl rfl, compareNarrows (length_laneSrc ..) (length_laneSrc ..)⟩
  case sel =>
    refine exec_done h rfl (congrArg (fun rs => Res.done (putLanes s d false 0xFFFF rs)) (List.map_congr_left fun k hk => ?_))
    rw [bit_laneMask _ (List.mem_range.mp hk)]
  case bcast =>
    refine exec_done h rfl ?_
    rw [BitVec.extractLsb'_toNat, Nat.shiftRight_zero]
  case ext =>
    refine exec_done h rfl ?_
    rw [← word_lane]

end Sys2Proof.Machine
end

section
/-! # Lane results in their destination

A v register takes the enabled lanes of a result and keeps the others; the store queue takes an entry with zero bits in the excluded ones
(R385, R404). -/

namespace Sys2Proof.Machine
open Sys2Proof.Claims

/-! ### Lanes of a line (R384) -/

theorem packElems_lt (w : ℕ) (l : List ℕ) : packElems w l < 2 ^ (w * l.length) := by
  induction l with
  | nil => simp [packElems]
  | cons x r ih =>
    have hx : x % 2 ^ w < 2 ^ w := Nat.mod_lt _ (Nat.two_pow_pos w)
    rw [packElems, List.length_cons, Nat.mul_succ, pow_add, mul_comm (2 ^ (w * r.length))]
    calc x % 2 ^ w + 2 ^ w * packElems w r < 2 ^ w + 2 ^ w * packElems w r := by omega
      _ = 2 ^ w * (packElems w r + 1) := by ring
      _ ≤ 2 ^ w * 2 ^ (w * r.length) := Nat.mul_le_mul_left _ ih

theorem packElems_digit (w : ℕ) (l : List ℕ) (k : ℕ) : packElems w l / 2 ^ (w * k) % 2 ^ w = l.getD k 0 % 2 ^ w := by
  induction l generalizing k with
  | nil => simp [packElems]
  | cons x r ih =>
    have hx : x % 2 ^ w < 2 ^ w := Nat.mod_lt _ (Nat.two_pow_pos w)
    cases k with
    | zero => simp [packElems]
    | succ k =>
      rw [packElems, List.getD_cons_succ, ← ih, Nat.mul_succ, Nat.add_comm (w * k), pow_add, ← Nat.div_div_eq_div_mul,
        Nat.add_mul_div_left _ _ (Nat.two_pow_pos w), Nat.div_eq_of_lt hx, Nat.zero_add]

/-- The lanes of a line that was made of 16 elements. -/
theorem lane_packed {l : List ℕ} (hl : l.length = 16) (k : ℕ) :
    lane (BitVec.ofNat 512 (packElems 32 l)) k = BitVec.ofNat 32 (l.getD k 0) := by
  have hlt : packElems 32 l < 2 ^ (32 * 16) := hl ▸ packElems_lt 32 l
  have hline : (BitVec.ofNat 512 (packElems 32 l)).toNat = packElems 32 l := (BitVec.toNat_ofNat ..).trans (Nat.mod_eq_of_lt hlt)
  rw [lane, hline]
  apply BitVec.eq_of_toNat_eq
  rw [BitVec.toNat_ofNat, BitVec.toNat_ofNat, packElems_digit]

theorem lane_selLanes (mask : ℕ) (a b : Line) {k : ℕ} (hk : k < 16) :
    lane (selLanes mask a b) k = if bit mask k then lane a k else lane b k := by
  rw [selLanes, ofLanes, lane_packed (by simp)]
  simp [hk]

/-! ### Destinations -/

/-- The flags of a result join those of its thread before it reaches its destination. -/
theorem toStq_modMe {s : State} {f : Thread → Thread} (d : Reg) (h : dstNum (modMe s f) .d d.toNat = dstNum s .d d.toNat) :
    toStq (modMe s f) d = toStq s d := by
  rw [toStq, h]
  rfl

theorem dstNum_orFlags (s : State) (fl : BitVec 5) (f : OperandField) (n : ℕ) :
    dstNum (modMe s fun th => orFlags th fl) f n = dstNum s f n := by
  rw [dstNum, me_modMe]
  rfl

theorem putLanes_register {s : State} {d : Reg} (h : toStq s d = false) (int : Bool) {mask : ℕ} (hmask : mask ≠ 0) (rs : List LaneResult) :
    me (putLanes s d int mask rs) = discardOlder (wrV (orFlags (me s) (flagsOf mask rs)) (dstNum s .d d.toNat)
      (selLanes mask (BitVec.ofNat 512 (packElems 32 (rs.map (·.1)))) (rdV (me s) (dstNum s .d d.toNat)))) .v (dstNum s .d d.toNat) := by
  unfold putLanes
  dsimp only
  rw [toStq_modMe d (dstNum_orFlags ..), h, if_neg (by simp), if_neg hmask, me_writeV, me_modMe, dstNum_orFlags]
  rfl

theorem putLanes_none {s : State} {d : Reg} (h : toStq s d = false) (int : Bool) (rs : List LaneResult) :
    putLanes s d int 0 rs = modMe s fun th => orFlags th (flagsOf 0 rs) := by
  unfold putLanes
  dsimp only
  rw [toStq_modMe d (dstNum_orFlags ..), h, if_neg (by simp), if_pos rfl]

theorem putLanes_queue {s : State} {d : Reg} (h : toStq s d = true) (hfd : (fmtOf (me s).desc).fd = 0) (int : Bool) (mask : ℕ)
    (rs : List LaneResult) : putLanes s d int mask rs = pushStore (modMe s fun th => orFlags th (flagsOf mask rs)) 32
      (rs.zipIdx.map fun e => if bit mask e.2 then (e.1.1, 0) else (0, 0)) := by
  have hdesc : (me (modMe s fun th => orFlags th (flagsOf mask rs))).desc = (me s).desc := by rw [me_modMe, orFlags_desc]
  unfold putLanes
  dsimp only
  rw [toStq_modMe d (dstNum_orFlags ..), if_pos h, hdesc, hfd]
  refine congrArg (pushStore _ 32) (List.map_congr_left fun e _ => ?_)
  cases bit mask e.2 <;> rfl

theorem me_pushStore (s : State) (w : ℕ) (l : List LaneResult) :
    me (pushStore s w l) = orFlags (me s) (l.foldl (fun f x => f ||| x.2) 0) := by
  rw [pushStore, me_modMe, me_modCore _ _ _ rfl]

/-- Of its thread a lane result changes the v registers, the flags and which older results are discarded. -/
theorem me_putLanes_keeps {β : Type} (p : Thread → β) (hp : ∀ th v ss outs, p { th with v := v, ss := ss, outs := outs } = p th)
    (s : State) (d : Reg) (int : Bool) (mask : ℕ) (rs : List LaneResult) : p (me (putLanes s d int mask rs)) = p (me s) := by
  unfold putLanes
  dsimp only
  split
  · rw [me_pushStore, me_modMe]
    exact hp (me s) _ _ _
  · split
    · rw [me_modMe]
      exact hp (me s) _ _ _
    · rw [me_writeV, me_modMe]
      exact hp (me s) _ _ _

theorem stq_pushStore (s : State) (w : ℕ) (l : List LaneResult) :
    (coreAt (pushStore s w l) s.cur.core).stq = (coreAt s s.cur.core).stq ++ [⟨2 * w, BitVec.ofNat 512 (packElems w (l.map (·.1)))⟩] := by
  simp [pushStore]

/-- The results of a mask, lane by lane, with zero bits in the excluded ones. -/
theorem masked_lanes {rs : List LaneResult} (hlen : rs.length = 16) (mask : ℕ) :
    (rs.zipIdx.map fun e => (if bit mask e.2 then (e.1.1, 0) else (0, 0) : LaneResult)).map (·.1) =
      (List.range 16).map fun k => if bit mask k then (rs.getD k (0, 0)).1 else 0 := by
  refine List.ext_getElem (by simp [hlen]) fun k hk _ => ?_
  have hk' : k < rs.length := by simpa using hk
  simp only [List.getElem_map, List.getElem_zipIdx, List.getElem_range, Nat.zero_add, List.getD_eq_getElem _ _ hk']
  split <;> rfl

/-- Settles O38: a register takes the lanes of `selLanes`, and the queue an entry of `masked_lanes`. -/
theorem maskedLanesKeepTheirValues : Obligations.MaskedLanesKeepTheirValues := by
  intro s d int mask rs hlen _
  dsimp only
  have hmem : SameMem (putLanes s d int mask rs) s := sameMem_putLanes ..
  refine ⟨fun hreg => ?reg, fun hstq hfd => ?stq, me_putLanes_keeps Thread.g (fun _ _ _ _ => rfl) .., me_putLanes_keeps Thread.pw (fun _ _ _ _ => rfl) ..,
    hmem.1, hmem.2⟩
  case reg =>
    by_cases hnone : mask = 0
    · subst hnone
      rw [putLanes_none hreg, me_modMe]
      exact ⟨fun k _ => by simp [bit, rdV], fun _ _ => rfl, rfl⟩
    · rw [putLanes_register hreg int hnone]
      refine ⟨fun k hk => ?_, fun r hr => ?_, rfl⟩
      · rw [rdV_discardOlder, rdV_wrV, if_pos rfl, lane_selLanes _ _ _ hk, lane_packed (by rw [List.length_map, hlen])]
        simp [List.getD_eq_getElem?_getD, hlen, hk]
      · rw [rdV_discardOlder, rdV_wrV, if_neg hr]
        rfl
  case stq =>
    rw [putLanes_queue hstq hfd]
    refine ⟨(stq_pushStore ..).trans ?_, fun r => ?_⟩
    · rw [masked_lanes hlen]
      simp
    · rw [me_pushStore, me_modMe]
      rfl

end Sys2Proof.Machine
end

section
/-! # Reductions, scans and conversions

The lanes that take part are those of the lane mask, and a result is delivered with its NaN canonical (R393, R394, R399-R404). -/

namespace Sys2Proof.Machine
open Sys2Proof.Claims

/-! ### Lanes that take part (R400) -/

/-- What depends on a lane's place in the mask reads the bits of pw, in a list of 16 lanes. -/
theorem map_zipIdx_mask {α β : Type} (th : Thread) {l : List α} (hl : l.length ≤ 16) (f : Bool → α × ℕ → β) :
    (l.zipIdx.map fun e => f (bit (laneMask th) e.2) e) = l.zipIdx.map fun e => f (th.pw.getLsbD e.2) e :=
  List.map_congr_left fun e he => by rw [bit_laneMask _ ((List.snd_lt_of_mem_zipIdx he).trans_le hl)]

theorem present_eq_taking (s : State) {l : List LaneResult} (hl : l.length ≤ 16) :
    present (laneMask (me s)) l = (taking s l, flagsOf (laneMask (me s)) l) :=
  Prod.ext (map_zipIdx_mask (me s) hl fun b e => if b then some e.1.1 else none) rfl

theorem delivered_eq_asDelivered (int : Bool) : delivered int = asDelivered int := by
  funext x
  unfold delivered asDelivered
  rw [signOp_eq_signed]

theorem masked_entries (s : State) {xs ys : List LaneResult} (hx : xs.length = 16) (hy : ys.length = 16) :
    ((xs.zip ys).zipIdx.map fun e => (bit (laneMask (me s)) e.2, e.1.1.1, e.1.2.1)) =
      (xs.zip ys).zipIdx.map fun e => ((me s).pw.getLsbD e.2, e.1.1.1, e.1.2.1) :=
  map_zipIdx_mask (me s) (by rw [List.length_zip, hx, hy, min_self]) fun b (e : (LaneResult × LaneResult) × ℕ) => (b, e.1.1.1, e.1.2.1)

/-! ### Reductions and scans (R401, R402) -/

theorem reduces_of_exec {c : Mark → Reg → Reg → BitVec 1 → Instr} (op : Bool → Rounding → ℕ → ℕ → LaneResult) (ident : BitVec 1 → ℕ)
    (hexec : ∀ m d a t s, exec (c m d a t) s = reduceUnit (c m d a t) d a (t == 1) (op (t == 1)) (ident t) s) :
    Reduces c op ident := by
  intro m d a t s h
  refine exec_done h (hexec ..) ?_
  dsimp only
  rw [present_eq_taking s (length_laneSrc ..).le, delivered_eq_asDelivered]
  simp only [beq_iff_eq]
  rfl

theorem scans_of_exec {c : Mark → Reg → Reg → BitVec 1 → Instr} (op : Bool → Rounding → ℕ → ℕ → LaneResult)
    (hexec : ∀ m d a t s, exec (c m d a t) s = scanUnit (c m d a t) d a (t == 1) (op (t == 1)) s) : Scans c op := by
  intro m d a t s h
  refine exec_done h (hexec ..) ?_
  dsimp only
  rw [present_eq_taking s (length_laneSrc ..).le, delivered_eq_asDelivered]
  rfl

/-! ### Conversions (R393, R394, R404) -/

/-- A v register takes nothing where no lane is enabled, and else whole lanes or narrow elements, by the width of the results. -/
theorem done_by_width (wide none : Prop) [Decidable wide] [Decidable none] (s : State) (n : ℕ) (x y : Line) :
    (if wide then if none then Res.done s else .done (writeV s n x) else if none then .done s else .done (writeV s n y)) =
      .done (if none then s else writeV s n (if wide then x else y)) := by
  split_ifs <;> rfl

theorem push_by_width (s : State) (w : ℕ) (l : List LaneResult) :
    (if w = 32 then Res.done (pushStore s 32 l) else .done (pushStore s w l)) = .done (pushStore s w l) := by
  split
  · next hw => rw [hw]
  · rfl

theorem toStq_orFlags (s : State) (fl : BitVec 5) (d : Reg) : toStq (modMe s fun th => orFlags th fl) d = toStq s d :=
  toStq_modMe d (dstNum_orFlags ..)

theorem rdV_me_orFlags (s : State) (fl : BitVec 5) (r : ℕ) : rdV (me (modMe s fun th => orFlags th fl)) r = rdV (me s) r := by
  rw [me_modMe]
  rfl

/-- Settles O36: the units share their lanes, their orders and their deliveries with the statement; a conversion goes to a register or to the queue by
the width of its results. -/
theorem reductionsScansConversions : Obligations.ReductionsScansConversions := by
  refine ⟨reduces_of_exec _ _ fun _ _ _ _ _ => rfl, reduces_of_exec _ _ fun _ _ _ _ _ => rfl, reduces_of_exec _ _ fun _ _ _ _ _ => rfl,
    scans_of_exec _ fun _ _ _ _ _ => rfl, scans_of_exec _ fun _ _ _ _ _ => rfl, fun m d a b c s h => ?scanl, fun m d a p s h => ?cvt⟩
  case scanl =>
    refine exec_done h rfl ?_
    dsimp only
    rw [masked_entries s (length_laneSrc ..) (length_laneSrc ..), BitVec.extractLsb'_toNat, Nat.shiftRight_zero]
    rfl
  case cvt =>
    have hshift : ∀ w, w * (16 * p.toNat) = 16 * w * p.toNat := fun w => by ring
    refine ⟨fun hreg => exec_done h rfl ?_, fun hstq => exec_done h rfl ?_⟩
    · simp only [toStq_orFlags, dstNum_orFlags, rdV_me_orFlags, hreg, Bool.false_eq_true, if_false, hshift]
      exact done_by_width ..
    · simp only [toStq_orFlags, hstq, if_true, hshift]
      exact push_by_width ..

end Sys2Proof.Machine
end

section
/-! # A line of the L2 that a scrub marks

A scrub that marks a line of the L2 evicts the copies above it, and a copy in state O first gives its words back (R44, R446). -/

namespace Sys2Proof.Machine
open Sys2Proof.Claims

/-- A copy of line 0 in an L1 that owns word 0 and has written it. -/
def ownedCopy : L1Line := ⟨.owned, 1, 1, 0, 0, false, none, 0, false⟩

/-- The line of the L2 below it: core 0 owns word 0, and the older bytes stand in it. -/
def lineBelow : L2Line := { L2Line.reset with st := .shared, own := 1, owners := [(0, 0)] }

/-- A package, some scrubs on, whose core 0 owns a word of line 0 of its die and has written it since. -/
def ownedWord (scrubs : ℕ) : State :=
  { State.reset with scrubs := scrubs, cores := [(0, { Core.reset with l1 := [(0, ownedCopy)] })], dies := [(0, { Die.reset with l2 := [(0, lineBelow)] })] }

/-- It after the mark of the scrub, with the copy still above the line. -/
def markedWord : State := setL2 (ownedWord 1) 0 0 { lineBelow with poison := true }

theorem l2At_markedWord : l2At markedWord 0 0 = { lineBelow with poison := true } := (l2At_setL2 ..).trans (if_pos ⟨rfl, rfl⟩)

theorem poisonL2_ownedWord : poisonL2 (ownedWord 1) 0 0 = evictL1 markedWord 0 0 := by
  have hline : l2At (ownedWord 1) 0 0 = lineBelow := rfl
  have hholders : l1Holders markedWord 0 0 (fun _ _ => true) = [0] := rfl
  unfold poisonL2 dropL1s
  rw [hline, if_neg (by decide)]
  exact congrArg (List.foldl (fun s c => evictL1 s c 0) markedWord) hholders

/-- The scrub changes the bytes of the line: the word that core 0 owned comes back to it. -/
theorem data_poisonL2_ownedWord :
    (l2At (poisonL2 (ownedWord 1) 0 0) 0 0).data = overlay (maskOfWords (ownedCopy.own &&& lineBelow.own)) ownedCopy.data lineBelow.data := by
  have hcopy : l1At markedWord 0 0 = some ownedCopy := rfl
  have hback : backL1 markedWord 0 0 = setL2 markedWord 0 0 { l2At markedWord 0 0 with
      data := overlay (maskOfWords (ownedCopy.own &&& (l2At markedWord 0 0).own)) ownedCopy.data (l2At markedWord 0 0).data,
      poison := (l2At markedWord 0 0).poison || ownedCopy.poison } := by
    unfold backL1
    rw [hcopy]
    rfl
  rw [poisonL2_ownedWord]
  refine Eq.trans (b := (l2At (backL1 markedWord 0 0) 0 0).data) rfl ?_
  rw [hback, l2At_setL2, if_pos ⟨rfl, rfl⟩, l2At_markedWord]

/-- The count of an error is no part of a line. -/
theorem l2At_countError (s : State) (die i n d pa : ℕ) : l2At (countError s die i n) d pa = l2At s d pa := by
  unfold l2At countError
  rw [dieAt_modDie]
  split
  · next h => rw [h]
  · rfl

/-- Refutes O57: the statement says that a scrub which marks a line of the L2 keeps its bytes, but the L1 copy above it that owns a word of
the line gives the word back as it goes. -/
theorem not_deviceActs : ¬ Obligations.DeviceActs := by
  rintro ⟨-, -, -, -, -, -, -, hl2, -⟩
  obtain ⟨t, hexec, -, hdata⟩ := hl2 0 0 (ownedWord 0) (show LineState.shared ≠ .inv by decide)
  have ht : t = countError (poisonL2 (ownedWord 1) 0 0) 0 4 1 := (Host.Outcome.next.inj hexec).symm
  have hkept : (l2At (poisonL2 (ownedWord 1) 0 0) 0 0).data = 0 := by
    rw [ht, l2At_countError] at hdata
    exact hdata
  have hbyte := overlay_byte (maskOfWords (ownedCopy.own &&& lineBelow.own)) ownedCopy.data lineBelow.data (i := 0) (by omega)
  rw [← data_poisonL2_ownedWord, hkept, if_pos (show _ = true by decide)] at hbyte
  rw [extractByte_eq, extractByte_eq] at hbyte
  simp [ownedCopy] at hbyte

end Sys2Proof.Machine
end

section
/-! # Matrix steps and their batches

What MMA, MCOMMIT, MWAITB and MSTAT come to when they issue, and the layout of the two status words (R408-R412, R415-R419). -/

namespace Sys2Proof.Machine
open Sys2Proof.Claims

/-! ### The state in which a step joins -/

section
variable (s : State) (n : ℕ) (tile : Option ℕ) (book : Bool)

theorem takeOwner_eq_working : takeOwner s tile book = working s 0 tile book := (if_neg (by decide)).symm

theorem mq_working (k : BitVec 1) : (myCore (working s k tile book)).mq = (myCore s).mq :=
  working_keeps s k tile book (p := fun u => (coreAt u u.cur.core).mq)
    (fun _ _ _ _ => coreAt_modCore_keeps Core.mq (by intro; rfl) _ _ _) fun _ _ _ => coreAt_modCore_keeps Core.mq (by intro; rfl) _ _ _

theorem tileAt_takeOwner :
    tileAt (takeOwner s (some n) book) s.cur.core n = { tileAt s s.cur.core n with owner := (me s).rid } := by
  have htile := tileAt_modTile_same s s.cur.core n fun x => { x with owner := (me s).rid }
  cases book with
  | false => exact htile
  | true =>
    exact (coreAt_modCore_keeps (fun k => aget Tile.reset k.tiles n) (f := fun k => { k with cbtOwner := (me s).rid })
      (fun _ => rfl) _ _ _).trans htile

end

/-! ### The open batch (R415, R418) -/

/-- A live step leaves its thread with an open batch of the uid it was told, that is not empty. -/
theorem countStep_opens (th : Thread) (uid : ℕ) :
    ∃ b ∈ (countStep th true uid).mx.batches, b.uid = openBatch th uid ∧ b.closed = false ∧ b.live ≠ 0 := by
  have hlive : ∀ (bs : List Batch), ∀ b ∈ bs, b.closed = false →
      { b with live := b.live + 1 } ∈ bs.map fun b => if b.closed then b else { b with live := b.live + 1 } := fun bs b hb hopen =>
    List.mem_map.mpr ⟨b, hb, by rw [hopen]; rfl⟩
  unfold countStep openBatch
  dsimp only
  rw [if_pos rfl]
  cases hfind : th.mx.batches.find? fun b => !b.closed with
  | some b =>
    have hb := List.mem_of_find?_eq_some hfind
    have hopen : b.closed = false := by simpa using List.find?_some hfind
    rw [if_pos (List.any_eq_true.mpr ⟨b, hb, by rw [hopen]; rfl⟩)]
    exact ⟨_, hlive _ b hb hopen, rfl, hopen, Nat.succ_ne_zero _⟩
  | none =>
    rw [if_neg fun hany => by
      obtain ⟨b, hb, hopen⟩ := List.any_eq_true.mp hany
      exact List.find?_eq_none.mp hfind b hb hopen]
    exact ⟨_, hlive _ _ (List.mem_append_right _ (List.mem_singleton_self _)) rfl, rfl, rfl, Nat.succ_ne_zero _⟩

/-! ### The step that joins (R412, R418) -/

/-- The state in which a step stands in the queue of its core and counts for its tile. -/
def stepQueued (s : State) (core tile : ℕ) (st : MStep) : State :=
  modTile (modCore (fresh s).2 core fun k => { k with mq := k.mq ++ [st] }) core tile fun x => { x with pend := x.pend + 1 }

/-- The state in which it has joined the open batch of its thread as well. -/
def stepJoined (s : State) (core tile : ℕ) (st : MStep) (o : Out) : State :=
  addOut (modMe (stepQueued s core tile st) fun th => countStep th true s.nextId) s.cur o

theorem coreAt_modThread_keeps {β : Type} {p : Core → β} (hp : ∀ k threads, p { k with threads := threads } = p k) (s : State)
    (t : ThreadRef) (f : Thread → Thread) (c : ℕ) : p (coreAt (modThread s t f) c) = p (coreAt s c) :=
  coreAt_modCore_keeps p (f := fun k => { k with threads := aset Thread.reset k.threads (tid t) (f (threadAt s t)) })
    (fun k => hp k _) s t.core c

theorem mx_addOut (s : State) (t : ThreadRef) (o : Out) : (threadAt (addOut s t o) t).mx = (threadAt s t).mx := by
  rw [threadAt_addOut]

section
variable (s : State) (tile : ℕ) (st : MStep) (o : Out)

theorem coreAt_stepQueued : coreAt (stepQueued s s.cur.core tile st) s.cur.core =
    { myCore s with mq := (myCore s).mq ++ [st],
                    tiles := aset Tile.reset (myCore s).tiles tile
                      { tileAt s s.cur.core tile with pend := (tileAt s s.cur.core tile).pend + 1 } } := by
  unfold stepQueued modTile
  rw [coreAt_modCore, if_pos rfl, coreAt_modCore, if_pos rfl]
  rfl

theorem coreAt_stepJoined {β : Type} {p : Core → β} (hp : ∀ k threads, p { k with threads := threads } = p k) :
    p (coreAt (stepJoined s s.cur.core tile st o) s.cur.core) = p (coreAt (stepQueued s s.cur.core tile st) s.cur.core) := by
  rw [stepJoined, addOut, coreAt_modThread_keeps hp, modMe, coreAt_modThread_keeps hp]

theorem me_stepQueued : me (stepQueued s s.cur.core tile st) = me s :=
  (me_modCore _ _ _ rfl).trans (me_modCore _ _ _ rfl)

theorem mx_stepJoined : (me (stepJoined s s.cur.core tile st o)).mx = (countStep (me s) true s.nextId).mx := by
  rw [← me_stepQueued s tile st]
  exact (mx_addOut ..).trans (congrArg Thread.mx (me_modMe ..))

end

section
variable (i : Instr) (before s : State) (tile : ℕ) (st : MStep) (o : Out)

theorem coreAt_done_stepJoined {β : Type} (p : Core → β) (hp : ∀ k threads chain ldq qntm qexp rr,
      p { k with threads := threads, chain := chain, ldq := ldq, qntm := qntm, qexp := qexp, rr := rr } = p k) :
    p (coreAt (done i before (stepJoined s s.cur.core tile st o)) s.cur.core) =
      p { myCore s with mq := (myCore s).mq ++ [st],
                        tiles := aset Tile.reset (myCore s).tiles tile
                          { tileAt s s.cur.core tile with pend := (tileAt s s.cur.core tile).pend + 1 } } := by
  have hthreads : ∀ k threads, p { k with threads := threads } = p k := fun k threads => hp k threads k.chain k.ldq k.qntm k.qexp k.rr
  rw [done, complete_core_keeps i before _ advance p hp, coreAt_stepJoined s tile st o hthreads, coreAt_stepQueued]

theorem mq_done_stepJoined :
    (coreAt (done i before (stepJoined s s.cur.core tile st o)) s.cur.core).mq = (myCore s).mq ++ [st] :=
  coreAt_done_stepJoined i before s tile st o Core.mq fun _ _ _ _ _ _ _ => rfl

theorem tileAt_done_stepJoined : tileAt (done i before (stepJoined s s.cur.core tile st o)) s.cur.core tile =
    { tileAt s s.cur.core tile with pend := (tileAt s s.cur.core tile).pend + 1 } := by
  rw [tileAt, coreAt_done_stepJoined i before s tile st o Core.tiles fun _ _ _ _ _ _ _ => rfl, aget_aset_same]

theorem mx_done_stepJoined :
    (me (done i before (stepJoined s s.cur.core tile st o))).mx = (countStep (me s) true s.nextId).mx :=
  (me_done_keeps (p := Thread.mx) (fun _ _ _ _ _ _ _ _ _ _ => rfl) ..).trans (mx_stepJoined ..)

theorem mem_done_stepJoined : SameMem (done i before (stepJoined s s.cur.core tile st o)) s := sameMem_complete ..

end

/-! ### MMA -/

theorem useOwned_of_ownsAll {s : State} {tile : Option ℕ} {book : Bool} (h : ownsAll s tile book) (k : State → Res) :
    useOwned s tile book k = k (takeOwner s tile book) := if_pos (othersOwn_of_ownsAll h)

/-- The step of an MMA of formats fa and fb: its operands' addresses, each with its bank and offset, and its pin requests (R412). -/
def mmaStep (s : State) (core tile fa fb scl : ℕ) (a b sc : ℕ × ℕ × ℕ) (want : List (ℕ × ℕ)) : MStep :=
  { id := s.nextId, slot := s.cur.slot, rid := (me s).rid, batch := (me s).mx.seq.toNat, index := (me s).mx.open_.toNat, tile := tile,
    fa := fa, fb := fb, scl := scl, aAddr := bankOff core a.2.1 a.2.2, bAddr := bankOff core b.2.1 b.2.2,
    sAddr := bankOff core sc.2.1 sc.2.2, aVa := a.1, bVa := b.1, sVa := sc.1, rnd := (me s).ss.rnd, want := want, pins := [],
    sent := false, started := false, begun := 0, bid := openBatch (me s) s.nextId, aVal := [], bVal := [], sVal := [] }

/-- What an MMA with the right to its tile comes to in the state where its rider owns it (R412, R418). -/
def mmaRuns (core : ℕ) (st : State → MStep) (s : State) : Res :=
  if batchFailed (me s) then .done (modMe s fun th => countStep th false s.nextId)
  else if 32 ≤ (myCore s).mq.length then .park .matrixQueue s
  else if !pinsFit s core (st s).want then .park (.pin (st s).want) s
  else .done (stepJoined s core (st s).tile (st s)
    { outPlain s.nextId .mmaPin (st s).aVa with tile := (st s).tile, step := (st s).index })

theorem matrixStepsIssue : MatrixStepsIssue := by
  intro m d a b s h i f fa fb core va vb vs nb na nsb tile
  refine ⟨fun ha => exec_fault h rfl (if_pos ha), fun ha hb => exec_fault h rfl ((if_neg (not_not.mpr ha)).trans (if_pos hb)), ?_⟩
  intro ba oa bb ob bs os ha hb hscl hA hB hS hown s1 want
  have hrun : exec i s = .next (settle i s
      (mmaRuns core (mmaStep · core tile fa fb f.scl (va, ba, oa) (vb, bb, ob) (vs, bs, os) want) s1)) := by
    refine exec_settles h rfl ((if_neg (not_not.mpr ha)).trans ((if_neg (not_not.mpr hb)).trans
      ((if_neg (not_and.mpr fun hne => not_not.mpr (hscl.resolve_left hne))).trans ?_)))
    unfold mmaCode
    rw [hA, hB, hS]
    exact useOwned_of_ownsAll hown _
  have hs1 : s1 = working s 0 (some tile) (fb == 15) := takeOwner_eq_working ..
  have hcur : s1.cur = s.cur := hs1 ▸ working_cur ..
  have hid : s1.nextId = s.nextId := hs1 ▸ working_nextId ..
  have hme : me s1 = me s := hs1 ▸ me_working ..
  have hmq : (myCore s1).mq = (myCore s).mq := hs1 ▸ mq_working ..
  have htile : tileAt s1 core tile = { tileAt s core tile with owner := (me s).rid } := tileAt_takeOwner ..
  have hcore : core = s1.cur.core := congrArg ThreadRef.core hcur.symm
  have hmem : s1.dram = s.dram ∧ s1.sram = s.sram :=
    ⟨hs1 ▸ working_keeps s 0 _ _ (fun _ _ _ _ => rfl) fun _ _ _ => rfl, hs1 ▸ working_keeps s 0 _ _ (fun _ _ _ _ => rfl) fun _ _ _ => rfl⟩
  clear_value s1 core tile want fa fb va vb vs
  rw [← hme, ← hmq]
  unfold mmaRuns at hrun
  refine ⟨fun hfail => ?failed, fun hfail hfull => ?full, fun hfail hroom hpins => ?pins, fun hfail hroom hpins => ?joins⟩
  case failed => rw [hrun, if_pos hfail, ← hid]; rfl
  all_goals rw [if_neg (Bool.eq_false_iff.mp hfail)] at hrun
  case full => rw [hrun, if_pos hfull]; rfl
  all_goals rw [if_neg (Nat.not_le.mpr hroom)] at hrun
  case pins =>
    rw [hrun, if_pos (by rw [Bool.not_eq_true']; exact hpins)]
    rfl
  case joins =>
    rw [if_neg (by rw [Bool.not_eq_true', Bool.not_eq_false]; exact hpins)] at hrun
    have hopen := countStep_opens (me s1) s1.nextId
    obtain ⟨hdram, hsram⟩ := hmem
    rw [hcore] at hrun htile ⊢
    refine ⟨_, _, hrun, mq_done_stepJoined .., hid, rfl, rfl, rfl, rfl, rfl, rfl, rfl, congrArg ThreadRef.slot hcur, rfl, rfl, rfl, ?_,
      rfl, ?_, ?_, ?_, (mem_done_stepJoined ..).1.trans hdram, (mem_done_stepJoined ..).2.trans hsram⟩
    · rw [← mx_done_stepJoined] at hopen
      exact hopen
    · exact (congrArg Tile.pend (tileAt_done_stepJoined ..)).trans (congrArg (fun x => x.pend + 1) htile)
    · exact (congrArg Tile.owner (tileAt_done_stepJoined ..)).trans ((congrArg Tile.owner htile).trans (congrArg Thread.rid hme.symm))
    · refine Eq.trans (congrArg Tile.data (tileAt_done_stepJoined ..)) ?_
      exact congrArg (fun x => x.data) htile

/-! ### Batches and their status words (R415-R417, R419) -/

/-- A field of a word whose parts above, in and below it are known. -/
theorem extractLsb'_word {a w n : ℕ} {x : BitVec w} (hw : a + w ≤ 64) (hn : n / 2 ^ a % 2 ^ w = x.toNat) :
    (word n).extractLsb' a w = x := by
  apply BitVec.eq_of_toNat_eq
  rw [BitVec.extractLsb'_toNat, word, BitVec.toNat_ofNat, Nat.shiftRight_eq_div_pow, ← hn, show 64 = a + (64 - a) by omega, pow_add,
    Nat.mod_mul_right_div_self, Nat.mod_mod_of_dvd _ (pow_dvd_pow 2 (by omega))]

theorem live_iff (th : Thread) :
    (th.mx.batches.any fun b => !b.closed && b.live != 0) = true ↔ ∃ b ∈ th.mx.batches, b.closed = false ∧ b.live ≠ 0 := by
  simp [List.any_eq_true]

theorem matrixWord_fields (th : Thread) (h : batchesOut th < 256) : (matrixWord th).extractLsb' 48 16 = th.mx.fstep ∧
    (matrixWord th).extractLsb' 40 8 = th.mx.fbatch ∧ (matrixWord th).extractLsb' 36 4 = th.mx.ftile ∧
    (matrixWord th).extractLsb' 34 2 = th.mx.fstat ∧ (matrixWord th).extractLsb' 24 8 = th.mx.seq ∧
    (matrixWord th).extractLsb' 8 16 = th.mx.open_ ∧ (matrixWord th).extractLsb' 0 8 = BitVec.ofNat 8 (batchesOut th) := by
  have hstep := th.mx.fstep.isLt
  have hbatch := th.mx.fbatch.isLt
  have htile := th.mx.ftile.isLt
  have hstat := th.mx.fstat.isLt
  have hseq := th.mx.seq.isLt
  have hopen := th.mx.open_.isLt
  have hcount := BitVec.toNat_ofNat (batchesOut th) 8
  refine ⟨?_, ?_, ?_, ?_, ?_, ?_, ?_⟩
  all_goals
    refine extractLsb'_word (by decide) ?_
    omega

theorem tileWord_fields (x : Tile) : (tileWord x).extractLsb' 32 32 = x.owner ∧ (tileWord x).extractLsb' 30 2 = x.status ∧
    (tileWord x).extractLsb' 24 6 = BitVec.ofNat 6 x.pend ∧ (tileWord x).extractLsb' 16 8 = x.batch ∧
    (tileWord x).extractLsb' 0 16 = x.step := by
  have howner := x.owner.isLt
  have hstatus := x.status.isLt
  have hbatch := x.batch.isLt
  have hstep := x.step.isLt
  have hpend := BitVec.toNat_ofNat x.pend 6
  refine ⟨?_, ?_, ?_, ?_, ?_⟩
  all_goals
    refine extractLsb'_word (by decide) ?_
    omega

theorem matrixBatchInstructions : MatrixBatchInstructions := by
  refine ⟨fun m s h => ⟨fun hlive hfull => exec_waiting h rfl (if_pos ⟨(live_iff _).mpr hlive, hfull⟩),
      fun hroom => exec_done h rfl (if_neg fun ⟨hlive, hfull⟩ => ?_)⟩,
    fun m d n s h => ⟨fun hout => exec_waiting h rfl (if_pos hout), fun hout => exec_done h rfl (if_neg (Nat.not_lt.mpr hout))⟩,
    fun m d b c s h => exec_done h rfl rfl, matrixWord_fields, tileWord_fields⟩
  exact hroom.elim (fun hno => hno ((live_iff _).mp hlive)) fun hlt => absurd hfull (Nat.not_le.mpr hlt)

/-- Settles O40: an MMA that may use its tile goes on in the state where its rider owns it, and what follows there is `mmaRuns`. -/
theorem matrixInstructionResults : Obligations.MatrixInstructionResults := ⟨matrixStepsIssue, matrixBatchInstructions⟩

end Sys2Proof.Machine
end

section
/-! # Resets and the boot

What POWER_ON, COLD, WARM and BOOT_DONE leave of the memory and of the threads (R487-R489). -/

namespace Sys2Proof.Machine
open Sys2Proof.Claims

/-! ### Ranges of a memory that are set to zero -/

theorem rdByte_zeroRange_eq (m : Memory) (a n x : ℕ) :
    rdByte (zeroRange m a n) x = if x < a || a + n ≤ x then rdByte m x else 0 := aget_filter_key 0 (fun k => k < a || a + n ≤ k) m x

/-- Some ranges of bytes, each given by its start and its length, are set to zero one after another. -/
def zeroRanges (m : Memory) (ranges : List (ℕ × ℕ)) : Memory := ranges.foldl (fun m r => zeroRange m r.1 r.2) m

theorem rdByte_zeroRanges_outside (ranges : List (ℕ × ℕ)) {x : ℕ} (h : ∀ r ∈ ranges, x < r.1 ∨ r.1 + r.2 ≤ x) (m : Memory) :
    rdByte (zeroRanges m ranges) x = rdByte m x := by
  induction ranges generalizing m with
  | nil => rfl
  | cons r ranges ih =>
    refine (ih (fun q hq => h q (List.mem_cons_of_mem _ hq)) _).trans ((rdByte_zeroRange_eq ..).trans (if_pos ?_))
    simpa using h r (List.mem_cons_self ..)

theorem rdByte_zeroRanges_zero (ranges : List (ℕ × ℕ)) {x : ℕ} {m : Memory} (h : rdByte m x = 0) :
    rdByte (zeroRanges m ranges) x = 0 :=
  List.foldlRecOn (motive := fun m : Memory => rdByte m x = 0) _ _ h fun m hm r _ => by
    rw [rdByte_zeroRange_eq, hm, ite_self]

theorem rdByte_zeroRanges_inside {ranges : List (ℕ × ℕ)} {r : ℕ × ℕ} (hr : r ∈ ranges) {x : ℕ}
    (hlo : r.1 ≤ x) (hhi : x < r.1 + r.2)
    (m : Memory) : rdByte (zeroRanges m ranges) x = 0 := by
  induction ranges generalizing m with
  | nil => cases hr
  | cons q ranges ih =>
    rcases List.mem_cons.mp hr with rfl | hlater
    · exact rdByte_zeroRanges_zero ranges (rdByte_zeroRange hlo hhi)
    · exact ih hlater _

/-- The ranges that the region registers of the package mark secure (R457). -/
def secureRanges (s : State) : List (ℕ × ℕ) := (List.range 256).filterMap fun n => secureRange s (n / 16) (n % 16)

theorem mem_secureRanges {s : State} {r : ℕ × ℕ} :
    r ∈ secureRanges s ↔ ∃ n < 256, secureRange s (n / 16) (n % 16) = some r := by
  simp [secureRanges, List.mem_filterMap]

theorem dram_warmReset (s : State) :
    (warmReset s).dram = zeroRanges (s.llc.foldl (fun s e => cleanLlc s e.1) s).dram (secureRanges s) := rfl

/-! ### The boot's threads -/

/-- A step of the boot for one die: its secure supervisor, and the FROZEN slot of its first core (R489). -/
def bootDie (s : State) (d : ℕ) : State :=
  let s := setThread s ⟨256 * d + 1, 0, 0⟩ (supervisorThread d)
  let s := modCore s (256 * d + 1) fun k => { k with serial := 2 }
  setThread s ⟨256 * d, 0, 0⟩ frozenThread

theorem supervisor_bootDie (s : State) (d : ℕ) : threadAt (bootDie s d) ⟨256 * d + 1, 0, 0⟩ = supervisorThread d := by
  unfold bootDie
  rw [threadAt_setThread_other _ _ (.inl (by simp)), threadAt_modCore _ _ _ (by intro; rfl), threadAt_setThread_same]

theorem frozen_bootDie (s : State) (d : ℕ) : threadAt (bootDie s d) ⟨256 * d, 0, 0⟩ = frozenThread := threadAt_setThread_same ..

theorem threadAt_bootDie_other (s : State) {d : ℕ} {t : ThreadRef} (h : t.core ≠ 256 * d + 1 ∧ t.core ≠ 256 * d) :
    threadAt (bootDie s d) t = threadAt s t := by
  unfold bootDie
  rw [threadAt_setThread_other _ _ (.inl h.2), threadAt_modCore _ _ _ (by intro; rfl), threadAt_setThread_other _ _ (.inl h.1)]

/-- The boot's threads stand as the step of their die leaves them. -/
theorem threadAt_bootDies (s : State) {d n : ℕ} (hd : d < n) :
    threadAt ((List.range n).foldl bootDie s) ⟨256 * d + 1, 0, 0⟩ = supervisorThread d ∧
    threadAt ((List.range n).foldl bootDie s) ⟨256 * d, 0, 0⟩ = frozenThread := by
  induction n with
  | zero => omega
  | succ n ih =>
    rw [List.range_succ, List.foldl_append]
    by_cases hlast : d = n
    · subst hlast
      exact ⟨supervisor_bootDie .., frozen_bootDie ..⟩
    · obtain ⟨hsup, hfrozen⟩ := ih (by omega)
      refine ⟨Eq.trans (threadAt_bootDie_other _ ?_) hsup, Eq.trans (threadAt_bootDie_other _ ?_) hfrozen⟩ <;>
        exact ⟨by simp only; omega, by simp only; omega⟩

/-- The boot places the threads last; the memory and the launch queue come before. -/
theorem bootState_eq (s : State) (portsUp : BitVec 16) :
    ∃ s0 ports, bootState s portsUp = { (List.range 4).foldl bootDie s0 with prst := 2, ports := ports, cur := ⟨1, 0, 0⟩ } :=
  ⟨modBank { s with dram := bootMemory s.dram s.flash, dramBad := s.dramBad.filter fun l => !bootWrites s.flash l } 0 15 launchBank,
    (List.range 16).foldl (fun p i => aset PortState.down p i (if portsUp.getLsbD i then .up8 else .down)) [], rfl⟩

theorem threadAt_bootState (s : State) (portsUp : BitVec 16) {d : ℕ} (hd : d < 4) :
    threadAt (bootState s portsUp) ⟨256 * d + 1, 0, 0⟩ = supervisorThread d ∧
    threadAt (bootState s portsUp) ⟨256 * d, 0, 0⟩ = frozenThread := by
  obtain ⟨s0, ports, hboot⟩ := bootState_eq s portsUp
  have hdies := threadAt_bootDies s0 hd
  rw [hboot]
  generalize (List.range 4).foldl bootDie s0 = u at hdies ⊢
  exact hdies

/-- Settles O56: a reset is the reset state but for the memory that it keeps, and the boot then places two threads for each die. -/
theorem resetsAndBoot : Obligations.ResetsAndBoot := by
  refine ⟨fun s => ⟨_, rfl, rfl, fun _ => rfl, fun _ => rfl⟩,
    fun who s h => ⟨coldReset s, congrArg Host.Outcome.next (if_pos h), rfl, rfl, fun _ => rfl, fun _ => rfl⟩,
    fun who s h => ⟨warmReset s, congrArg Host.Outcome.next (if_pos h), rfl, rfl, fun _ => rfl,
      fun a n r hn hr hlo hhi => ?_, fun a hout => ?_⟩,
    fun ports s h => ⟨⟨bootState s ports, congrArg Host.Outcome.next (if_neg (not_not.mpr h)), rfl, fun d hd => ?_⟩, ?_⟩⟩
  · rw [dram_warmReset]
    exact rdByte_zeroRanges_inside (mem_secureRanges.mpr ⟨n, hn, hr⟩) hlo hhi _
  · rw [dram_warmReset]
    refine rdByte_zeroRanges_outside _ (fun r hr => ?_) _
    obtain ⟨n, hn, hr⟩ := mem_secureRanges.mp hr
    exact hout n r hn hr
  · obtain ⟨hsup, hfrozen⟩ := threadAt_bootState s ports hd
    rw [hsup, hfrozen]
    refine ⟨rfl, rfl, ?_, rfl, rfl, rfl, rfl⟩
    exact aget_aset_same ..
  · exact congrArg Host.Outcome.next (if_neg (not_not.mpr h))

end Sys2Proof.Machine
end

section
/-! # Barriers

What the barrier instructions come to, the arithmetic of a barrier object, and the end of a wait (R349-R355). -/

namespace Sys2Proof.Machine
open Sys2Proof.Claims

/-! ### The checks and the arrival word (R349) -/

theorem barrierCheck_usable {s : State} {level : ℕ} {w : Word} (h : usable s level w) (k : ℕ → Res) :
    barrierCheck s level w k = k w.toNat := by
  obtain ⟨hobj, hroam, hmine⟩ := h
  simp only [barrierCheck, barrierObj, if_pos hobj, if_neg hroam, hmine, Bool.not_true, Bool.false_eq_true, if_false]

section
variable {i : Instr} {s : State} {body : State → Res} (h : Issues i s) (hexec : exec i s = .next (unit i body s))
include h hexec

theorem barrierChecks_of_body {level : ℕ} {w : Word} {k : ℕ → Res} (hbody : body s = barrierCheck s level w k) :
    BarrierChecks i s level w := by
  refine ⟨fun hobj => exec_fault h hexec (hbody.trans ?_), fun hobj hlevel hroam => exec_fault h hexec (hbody.trans ?_),
    fun hobj hroam hmine => exec_fault h hexec (hbody.trans ?_)⟩
  · simp only [barrierCheck, barrierObj, if_neg (Nat.not_lt.mpr hobj)]
  · simp only [barrierCheck, barrierObj, if_pos hobj, if_pos (And.intro hlevel hroam)]
  · simp only [barrierCheck, barrierObj, if_pos hobj, if_neg hroam, hmine, Bool.not_false, if_true]

end

/-- An arrival word is read where it is legal, as its count and its NOWAIT bit. -/
theorem arrivalWord_cond (v : Word) : (field v.toNat 31 16 + field v.toNat 63 33 = 0 ∧ v.toNat % 65536 ≠ 0) ↔ arrivalLegal v := by
  have hv := v.isLt
  unfold field arrivalLegal
  omega

theorem arrivalWord_legal {v : Word} (h : arrivalLegal v) : arrivalWord v = some (v.toNat % 2 ^ 16, v.getLsbD 32) := by
  rw [← bit_toNat]
  exact if_pos ((arrivalWord_cond v).mpr h)

theorem arrivalWord_illegal {v : Word} (h : ¬arrivalLegal v) : arrivalWord v = none := if_neg (mt (arrivalWord_cond v).mp h)

theorem arrivalRefused_iff (b : Barrier) (th : Thread) (level : ℕ) (nowait : Bool) :
    arrivalRefused b th level nowait = true ↔ refused b th level nowait := by
  simp [arrivalRefused, refused, registrationAt, or_assoc]

/-! ### A barrier object in its state (R158) -/

theorem barrierAt_setBarrier (s : State) (c level obj : ℕ) (b : Barrier) : barrierAt (setBarrier s c level obj b) c level obj = b := by
  unfold setBarrier barrierAt
  split <;> simp

theorem setBarrier_cur (s : State) (c level obj : ℕ) (b : Barrier) : (setBarrier s c level obj b).cur = s.cur := by
  unfold setBarrier
  split <;> rfl

theorem threadAt_setBarrier (s : State) (c level obj : ℕ) (b : Barrier) (x : ThreadRef) :
    threadAt (setBarrier s c level obj b) x = threadAt s x := by
  unfold setBarrier
  split
  · exact threadAt_modCore _ _ _ (by intro; rfl) x
  all_goals rfl

theorem dropBase_cur (s : State) (die pa : ℕ) : (dropBase s die pa).cur = s.cur := by
  have hbeyond := congrArg State.cur (beyondCopies_dropBase s die pa)
  exact hbeyond

theorem dropRanges_cur (s : State) (c : ℕ) (rs : List (ℕ × ℕ)) : (dropRanges s c rs).cur = s.cur :=
  foldl_keeps State.cur _ (fun u _ => dropBase_cur u _ _) _ _

theorem threadAt_dropRanges (s : State) (c : ℕ) (rs : List (ℕ × ℕ)) (x : ThreadRef) : threadAt (dropRanges s c rs) x = threadAt s x :=
  (foldl_keeps (threadAt · x) _ (fun u e => threadAt_dropBase u _ _ x) _ _).trans (threadAt_modCore _ _ _ (by intro; rfl) x)

/-! ### Leaving a phase (R352) -/

/-- The current thread leaves a completed phase. -/
theorem leaveCompleted_me (s : State) (level obj : ℕ) : leaveCompleted s s.cur level obj =
    dropRanges (modMe (setBarrier s s.cur.core level obj (observe (barrierAt s s.cur.core level obj))) fun th =>
      { th with regs := th.regs.filter fun x => x.level != level }) s.cur.core (barrierAt s s.cur.core level obj).left := by
  rw [leaveCompleted, modMe, setBarrier_cur]

section
variable {i : Instr} {s : State} {body : State → Res} (h : Issues i s) (hexec : exec i s = .next (unit i body s))
include h hexec

theorem leaves_of_body {level obj q : ℕ} (hbody : body s = leavePhase s level obj q) : Leaves i s s level obj q := by
  have hstay : (me s).prog ≠ .leaving → ¬((me s).prog == .leaving) = true := fun hprog hbeq => hprog (beq_iff_eq.mp hbeq)
  refine ⟨fun hprog => fences_of_body h hexec rfl ?leaving, fun hprog hnone => fences_of_body h hexec rfl ?unregistered,
    fun x hprog hsome hphase => fences_of_body h hexec ?cur ?observes, fun x hprog hsome hphase => exec_waiting h hexec ?waits⟩
  case leaving => exact hbody.trans (if_pos (beq_iff_eq.mpr hprog))
  case unregistered =>
    rw [hbody, leavePhase, if_neg (hstay hprog), hnone]
  case observes =>
    rw [hbody, leavePhase, if_neg (hstay hprog), hsome]
    refine (if_neg fun hbeq => hphase (beq_iff_eq.mp hbeq)).trans ?_
    rw [leaveCompleted_me]
  case waits =>
    rw [hbody, leavePhase, if_neg (hstay hprog), hsome]
    exact if_pos (beq_iff_eq.mpr hphase)
  case cur => exact (dropRanges_cur ..).trans (setBarrier_cur ..)

end

theorem leaves_of_settle {i : Instr} {s : State} (h : Issues i s) {level obj q : ℕ}
    (hexec : exec i s = .next (settle i s (leavePhase s level obj q))) : Leaves i s s level obj q :=
  leaves_of_body (body := fun s => leavePhase s level obj q) h
    (hexec.trans (congrArg Host.Outcome.next (unit_of_issues h fun s => leavePhase s level obj q).symm)) rfl

/-! ### The instructions (R351, R352, R354, R355) -/

/-- What an accepted arrival does once its release is done: a BAR goes on with its wait (R351, R352). -/
def afterArrival (level obj count q : ℕ) (nowait wait : Bool) (s : State) : Res :=
  let s := putQ (makeArrival s level obj count nowait) q true
  if !wait then .done s
  else
    let s := modMe s fun th => { th with prog := .arrived }
    .park (if (me s).outs.isEmpty then .barrier level obj q else .marker) s

theorem arrive_accepted {s : State} {level obj count q : ℕ} {nowait : Bool} (wait : Bool)
    (h : ¬refused (barrierAt s s.cur.core level obj) (me s) level nowait) :
    arrive s level obj count q nowait wait = withRelease s level (afterArrival level obj count q nowait wait) :=
  if_neg (mt (arrivalRefused_iff ..).mp h)

/-- The state in which an arrival goes on with its wait. -/
def arrivedAt (level obj count q : ℕ) (nowait : Bool) (s : State) : State :=
  modMe (putQ (makeArrival s level obj count nowait) q true) fun th => { th with prog := .arrived }

theorem afterArrival_marks {level obj count q : ℕ} {nowait : Bool} {s : State}
    (h : (me (arrivedAt level obj count q nowait s)).outs ≠ []) :
    afterArrival level obj count q nowait true s = .park .marker (arrivedAt level obj count q nowait s) :=
  congrArg (fun w => Res.park w (arrivedAt level obj count q nowait s)) (if_neg (mt List.isEmpty_iff.mp h))

theorem afterArrival_parks {level obj count q : ℕ} {nowait : Bool} {s : State}
    (h : (me (arrivedAt level obj count q nowait s)).outs = []) :
    afterArrival level obj count q nowait true s = .park (.barrier level obj q) (arrivedAt level obj count q nowait s) :=
  congrArg (fun w => Res.park w (arrivedAt level obj count q nowait s)) (if_pos (List.isEmpty_iff.mpr h))

theorem arrive_refused {s : State} {level obj count q : ℕ} {nowait : Bool} (wait : Bool)
    (h : refused (barrierAt s s.cur.core level obj) (me s) level nowait) :
    arrive s level obj count q nowait wait = .done (putQ s q false) := if_pos ((arrivalRefused_iff ..).mpr h)

theorem barrierWord_eq (b : Barrier) : barrierWord b = BitVec.ofNat 64
    (b.arrived + 2 ^ 16 * b.npart + 2 ^ 32 * b.pend + (if b.hold then 2 ^ 61 else 0) + (if b.err then 2 ^ 62 else 0) +
      (if b.phase then 2 ^ 63 else 0)) := by
  have hbit : ∀ (x : Bool) k, b01 x * 2 ^ k = if x then 2 ^ k else 0 := fun x k => by cases x <;> simp [b01]
  rw [barrierWord, word, hbit, hbit, hbit]
  congr 1
  ring

theorem barrierInstructions : BarrierInstructions := by
  refine ⟨fun m d a b sc s h => ⟨barrierChecks_of_body h rfl rfl, fun hu hv => exec_fault h rfl ((barrierCheck_usable hu _).trans ?illegal),
      fun hu hv hno => exec_done h rfl ((barrierCheck_usable hu _).trans ?refuses),
      fun hu hv hyes => afterRelease_of_body (k := afterArrival sc.toNat _ _ d.toNat _ false) h rfl
        ((barrierCheck_usable hu _).trans ?arrives) fun t ht hexec => hexec⟩,
    fun m d a sc s h => ⟨barrierChecks_of_body h rfl rfl, fun hu => leaves_of_body h rfl (barrierCheck_usable hu _)⟩,
    fun m d a b sc s h => ⟨barrierChecks_of_body h rfl rfl, fun hu hn => exec_fault h rfl ((barrierCheck_usable hu _).trans (if_pos hn)),
      fun hu hn hlt hno => exec_done h rfl ((barrierCheck_usable hu _).trans ((if_neg ?range).trans (if_pos ?held))),
      fun hu hn hlt hhold hroom => exec_done h rfl ((barrierCheck_usable hu _).trans ((if_neg ?range').trans (if_neg ?free)))⟩,
    fun m d a sc s h => ⟨barrierChecks_of_body h rfl rfl, fun hu => exec_done h rfl ((barrierCheck_usable hu _).trans ?word)⟩⟩
  case illegal => rw [arrivalWord_illegal hv]
  case refuses => rw [arrivalWord_legal hv]; exact arrive_refused false hno
  case arrives => rw [arrivalWord_legal hv]; exact arrive_accepted false hyes
  case range | range' => exact not_or.mpr ⟨hn, Nat.not_le.mpr hlt⟩
  case held => simpa using hno
  case free =>
    rw [hhold, Bool.false_or, decide_eq_true_eq]
    exact Nat.not_le.mpr hroom
  case word => rw [barrierWord_eq]

theorem barArrivesAndWaits : BarArrivesAndWaits := by
  intro m d a b sc s h i w v x
  refine ⟨barrierChecks_of_body h rfl rfl, fun hu hv => exec_fault h rfl ((barrierCheck_usable hu _).trans ?illegal),
    fun hu hv hwait => ?_⟩
  case illegal =>
    by_cases hlegal : arrivalLegal v
    · rw [arrivalWord_legal hlegal, hv.resolve_left (not_not.mpr hlegal)]
    · rw [arrivalWord_illegal hlegal]
  have hword : arrivalWord v = some (v.toNat % 2 ^ 16, false) := hwait ▸ arrivalWord_legal hv
  have hgoesOn : ∀ {r : Res}, (if (me s).prog == .arrived || (me s).prog == .leaving then
        if (me s).outs.isEmpty then leavePhase s sc.toNat w.toNat d.toNat else .park .marker s
      else arrive s sc.toNat w.toNat (v.toNat % 2 ^ 16) d.toNat false true) = r → exec i s = .next (settle i s r) := fun hr =>
    exec_settles h rfl ((barrierCheck_usable hu _).trans (by rw [hword]; exact hr))
  have hfirst : (me s).prog ≠ .arrived ∧ (me s).prog ≠ .leaving →
      ∀ {r}, arrive s sc.toNat w.toNat (v.toNat % 2 ^ 16) d.toNat false true = r → exec i s = .next (settle i s r) := fun hfresh _ hr =>
    hgoesOn ((if_neg (by simpa using hfresh)).trans hr)
  have hsecond : ¬((me s).prog ≠ .arrived ∧ (me s).prog ≠ .leaving) →
      ∀ {r}, (if (me s).outs.isEmpty then leavePhase s sc.toNat w.toNat d.toNat else .park .marker s) = r →
        exec i s = .next (settle i s r) := fun hgone _ hr =>
    hgoesOn ((if_pos (by simpa [imp_iff_not_or] using hgone)).trans hr)
  have hreleased : ¬refused x (me s) sc.toNat false → released (begun s sc.toNat) s.cur sc.toNat = true →
      arrive s sc.toNat w.toNat (v.toNat % 2 ^ 16) d.toNat false true =
        afterArrival sc.toNat w.toNat (v.toNat % 2 ^ 16) d.toNat false true (wbsDone (begun s sc.toNat) sc.toNat) := fun hyes hrel =>
    (arrive_accepted true hyes).trans (withRelease_released _ hrel)
  refine ⟨fun hfresh hno => hfirst hfresh (arrive_refused true hno),
    fun hfresh hyes hrel => hfirst hfresh ((arrive_accepted true hyes).trans (withRelease_unreleased _ hrel)),
    fun hfresh hyes hrel => ⟨fun hnone => hfirst hfresh (r := .park _ _) ((hreleased hyes hrel).trans (afterArrival_parks hnone)),
      fun hsome => hfirst hfresh (r := .park _ _) ((hreleased hyes hrel).trans (afterArrival_marks hsome))⟩,
    fun hgone hnone => leaves_of_settle (i := i) h (hsecond hgone (if_pos (List.isEmpty_iff.mpr hnone))),
    fun hgone hsome => hsecond hgone (if_neg (mt List.isEmpty_iff.mp hsome))⟩

/-! ### The arithmetic of an object (R351, R353, R354) -/

theorem phaseDone_complete {b : Barrier} (hn : b.npart ≠ 0) (harr : b.arrived = b.npart) (hp : b.pend = 0) : phaseDone b =
    { b with phase := !b.phase, npart := 0, arrived := 0, err := false, hold := b.waiters != 0, wrote := [],
             left := if b.waiters = 0 then [] else b.wrote } := if_pos (by simp [hn, harr, hp])

theorem phaseDone_open {b : Barrier} (h : b.npart = 0 ∨ b.arrived ≠ b.npart ∨ b.pend ≠ 0) : phaseDone b = b := if_neg (by
  rintro hdone
  simp only [Bool.and_eq_true, bne_iff_ne, beq_iff_eq] at hdone
  tauto)

theorem subtractBytes_eq (b : Barrier) (n : ℕ) (rs : List (ℕ × ℕ)) : subtractBytes b n rs =
    phaseDone (if n ≤ b.pend then { b with pend := b.pend - n, wrote := b.wrote ++ rs }
      else { b with pend := 0, err := true, wrote := b.wrote ++ rs }) := rfl

theorem observe_fields (b : Barrier) : (observe b).waiters = b.waiters - 1 ∧ (b.waiters ≤ 1 → (observe b).hold = false) ∧
    (1 < b.waiters → (observe b).hold = b.hold) ∧ (observe b).phase = b.phase ∧ (observe b).pend = b.pend ∧
    (b.waiters ≤ 1 → (observe b).left = []) ∧ (1 < b.waiters → (observe b).left = b.left) := by
  have hlast : b.waiters ≤ 1 → b.waiters - 1 = 0 := by omega
  have hmore : 1 < b.waiters → b.waiters - 1 ≠ 0 := by omega
  refine ⟨rfl, fun h => ?_, fun h => ?_, rfl, rfl, fun h => if_pos (hlast h), fun h => if_neg (hmore h)⟩
  · simp [observe, hlast h]
  · simp [observe, hmore h]

/-! ### The end of a wait (R183, R351, R353) -/

theorem leavesParked_of_none {s : State} {x : ThreadRef} {level obj : ℕ} (h : leavesNow s x level obj = none) :
    leavesParked s x level obj = s := by
  unfold leavesParked
  rw [h]

/-- A thread that is not parked at an object, or is stopped there, stays as it is (R183). -/
def Stays (th : Thread) (level obj : ℕ) : Prop := th.susp = true ∨ th.froz = true ∨ ∀ q, th.run ≠ .parked (.barrier level obj q)

theorem leavesNow_of_stays {s : State} {x : ThreadRef} {level obj : ℕ} (h : Stays (threadAt s x) level obj) :
    leavesNow s x level obj = none := by
  unfold leavesNow
  dsimp only
  split
  · next l o d hrun =>
    refine if_neg fun hleaves => ?_
    simp only [Bool.and_eq_true, beq_iff_eq, Bool.not_eq_true'] at hleaves
    obtain ⟨⟨⟨⟨hsusp, hfroz⟩, rfl⟩, rfl⟩, -⟩ := hleaves
    rcases h with h | h | h
    · exact Bool.false_ne_true (hsusp.symm.trans h)
    · exact Bool.false_ne_true (hfroz.symm.trans h)
    · exact h d hrun
  · rfl

/-- A change of an object at which no thread is parked is no more than that. -/
theorem changeBarrier_alone {s : State} {c level obj : ℕ} (b : Barrier)
    (h : ∀ x q, (threadAt s x).run ≠ .parked (.barrier level obj q)) :
    changeBarrier s c level obj b = setBarrier s c level obj b := by
  refine List.foldlRecOn (motive := fun u => u = setBarrier s c level obj b) _ _ rfl fun u hu x _ => ?_
  rw [hu, leavesParked_of_none (leavesNow_of_stays (.inr (.inr fun q => ?_)))]
  rw [threadAt_setBarrier]
  exact h x q

theorem run_modMe (s : State) (f : Thread → Thread) (hf : ∀ th, (f th).run = th.run) (x : ThreadRef) :
    (threadAt (modMe s f) x).run = (threadAt s x).run := by
  by_cases h : x.core = s.cur.core ∧ tid x = tid s.cur
  · have hplace : ∀ u, threadAt u x = threadAt u s.cur := fun u => by rw [threadAt, threadAt, h.1, h.2]
    rw [hplace, hplace]
    exact (congrArg Thread.run (me_modMe ..)).trans (hf _)
  · exact congrArg Thread.run (threadAt_modMe_other (by tauto))

theorem me_setBarrier (s : State) (c level obj : ℕ) (b : Barrier) : me (setBarrier s c level obj b) = me s := by
  rw [me, setBarrier_cur, threadAt_setBarrier, me]

/-- A thread with one registration more. -/
def withRegistration (r : Registration) (th : Thread) : Thread := { th with regs := th.regs ++ [r] }

/-- An arrival registers its rider, but for one with NOWAIT (R350, R351). -/
def registering (s : State) (level obj : ℕ) (nowait : Bool) : State :=
  if nowait then s else modMe s (withRegistration ⟨level, obj, (barrierAt s s.cur.core level obj).phase⟩)

theorem run_registering (s : State) (level obj : ℕ) (nowait : Bool) (x : ThreadRef) :
    (threadAt (registering s level obj nowait) x).run = (threadAt s x).run := by
  cases nowait with
  | true => rfl
  | false => exact run_modMe s (withRegistration _) (fun _ => rfl) x

theorem regs_registering (s : State) (level obj : ℕ) (nowait : Bool) : (me (registering s level obj nowait)).regs =
    if nowait then (me s).regs else (me s).regs ++ [⟨level, obj, (barrierAt s s.cur.core level obj).phase⟩] := by
  cases nowait with
  | true => rfl
  | false => exact congrArg Thread.regs (me_modMe s (withRegistration _))

theorem arrival_alone {s : State} {level obj count : ℕ} {nowait : Bool}
    (h : ∀ x q, (threadAt s x).run ≠ .parked (.barrier level obj q)) :
    let b := barrierAt s s.cur.core level obj
    let t := makeArrival s level obj count nowait
    barrierAt t s.cur.core level obj =
      phaseDone { b with npart := if b.npart = 0 then count else b.npart, arrived := b.arrived + 1,
                         waiters := if nowait then b.waiters else b.waiters + 1 } ∧
    (me t).regs = (if nowait then (me s).regs else (me s).regs ++ [⟨level, obj, b.phase⟩]) := by
  have hmade := changeBarrier_alone (s := registering s level obj nowait) (c := s.cur.core) (level := level) (obj := obj)
    (phaseDone { barrierAt s s.cur.core level obj with
      npart := if (barrierAt s s.cur.core level obj).npart = 0 then count else (barrierAt s s.cur.core level obj).npart,
      arrived := (barrierAt s s.cur.core level obj).arrived + 1,
      waiters := if nowait then (barrierAt s s.cur.core level obj).waiters else (barrierAt s s.cur.core level obj).waiters + 1 })
    fun x q => run_registering s level obj nowait x ▸ h x q
  refine ⟨(congrArg (barrierAt · s.cur.core level obj) hmade).trans (barrierAt_setBarrier ..), ?_⟩
  exact (congrArg (fun u => (me u).regs) hmade).trans ((congrArg Thread.regs (me_setBarrier ..)).trans (regs_registering ..))

theorem barrierObjectArithmetic : BarrierObjectArithmetic := by
  intro b
  refine ⟨fun hn harr hp => ?_, phaseDone_open, fun n rs hlt => ?_, fun n rs hlt hopen => ?_, fun rs hn harr hw => ?_, observe_fields b,
    fun s level obj count nowait hb h => hb ▸ arrival_alone h⟩
  · rw [phaseDone_complete hn harr hp]
    exact ⟨rfl, rfl, rfl, rfl, bne_iff_ne, rfl, fun hw => if_neg hw, fun hw => if_pos hw⟩
  · rw [subtractBytes_eq, if_pos hlt.le, phaseDone_open (.inr (.inr (Nat.sub_ne_zero_of_lt hlt)))]
  · rw [subtractBytes_eq, if_neg (Nat.not_le.mpr hlt), phaseDone_open (b := { b with pend := 0, err := true, wrote := b.wrote ++ rs })
      (hopen.imp_right .inl)]
  · rw [subtractBytes_eq, if_pos le_rfl, phaseDone_complete (b := { b with pend := b.pend - b.pend, wrote := b.wrote ++ rs }) hn harr
      (Nat.sub_self _)]
    exact if_neg hw

end Sys2Proof.Machine
end

section
/-! # The act that completes a phase

Every registered thread that is parked at the object leaves in it (R183, R351, R353). What one thread's leave changes for the others is its
own registration, copies of lines, and the waiters of the object: not what they wait for. -/

namespace Sys2Proof.Machine
open Sys2Proof.Claims

/-! ### What a thread that is parked at an object waits for, beside its own state -/

/-- The accesses and the matrix steps that a fence waits for, and the context of the thread's core. -/
def fenceView (s : State) (c : ℕ) : List Access × ℕ × List MStep × Word :=
  (s.inflight, s.nextId, (coreAt s c).mq, (coreAt s c).ctxid)

/-- That and the phase of the object. -/
def awaitedBy (s : State) (c level obj : ℕ) : (List Access × ℕ × List MStep × Word) × Bool :=
  (fenceView s c, (barrierAt s c level obj).phase)

section
variable (s : State) (c level obj : ℕ)

theorem awaitedBy_modCore {f : Core → Core} (hf : ∀ k, (f k).mq = k.mq ∧ (f k).ctxid = k.ctxid ∧ (f k).bars = k.bars) (c' : ℕ) :
    awaitedBy (modCore s c' f) c level obj = awaitedBy s c level obj := by
  have hcore : ∀ {β : Type} {p : Core → β}, (∀ k, p (f k) = p k) → p (coreAt (modCore s c' f) c) = p (coreAt s c) := fun hp =>
    coreAt_modCore_keeps _ hp s c' c
  have hbar : barrierAt (modCore s c' f) c level obj = barrierAt s c level obj := by
    unfold barrierAt
    split
    · rw [hcore (p := Core.bars) fun k => (hf k).2.2]
    all_goals rfl
  rw [awaitedBy, hbar, fenceView, hcore (p := Core.mq) fun k => (hf k).1, hcore (p := Core.ctxid) fun k => (hf k).2.1]
  rfl

theorem awaitedBy_modThread (x : ThreadRef) (f : Thread → Thread) : awaitedBy (modThread s x f) c level obj = awaitedBy s c level obj :=
  awaitedBy_modCore s c level obj (f := fun k => { k with threads := aset Thread.reset k.threads (tid x) (f (threadAt s x)) })
    (fun _ => ⟨rfl, rfl, rfl⟩) x.core

theorem awaitedBy_setL2 (die pa : ℕ) (l : L2Line) : awaitedBy (setL2 s die pa l) c level obj = awaitedBy s c level obj := by
  have hbar : barrierAt (setL2 s die pa l) c level obj = barrierAt s c level obj := by
    unfold barrierAt setL2
    split
    case h_3 =>
      rw [dieAt_modDie]
      split
      · next h => rw [h]
      · rfl
    all_goals rfl
  rw [awaitedBy, hbar]
  rfl

theorem awaitedBy_backL1 (core pa : ℕ) : awaitedBy (backL1 s core pa) c level obj = awaitedBy s c level obj := by
  unfold backL1
  split
  · split
    · exact awaitedBy_setL2 ..
    · rfl
  · rfl

theorem awaitedBy_evictL1 (core pa : ℕ) : awaitedBy (evictL1 s core pa) c level obj = awaitedBy s c level obj :=
  (awaitedBy_modCore _ c level obj (by intro; exact ⟨rfl, rfl, rfl⟩) core).trans (awaitedBy_backL1 ..)

theorem awaitedBy_dropBase (die pa : ℕ) : awaitedBy (dropBase s die pa) c level obj = awaitedBy s c level obj :=
  (foldl_keeps (awaitedBy · c level obj) _ (fun u core => awaitedBy_evictL1 u c level obj core pa) _ _).trans (awaitedBy_setL2 ..)

theorem awaitedBy_dropRanges (core : ℕ) (rs : List (ℕ × ℕ)) : awaitedBy (dropRanges s core rs) c level obj = awaitedBy s c level obj :=
  (foldl_keeps (awaitedBy · c level obj) _ (fun u _ => awaitedBy_dropBase u c level obj ..) _ _).trans
    (awaitedBy_modCore s c level obj (by intro; exact ⟨rfl, rfl, rfl⟩) core)

theorem awaitedBy_acquireDrops (t : ThreadRef) (scope : ℕ) : awaitedBy (acquireDrops s t scope) c level obj = awaitedBy s c level obj := by
  have hnear : awaitedBy (dropLeasedL1 s t.core) c level obj = awaitedBy s c level obj :=
    awaitedBy_modCore s c level obj (by intro; exact ⟨rfl, rfl, rfl⟩) t.core
  rcases Nat.eq_zero_or_pos scope with rfl | h0
  · rfl
  rcases Nat.lt_or_ge scope 3 with h3 | h3
  · rw [acquireDrops_near h0.ne' h3, hnear]
  · rw [acquireDrops_far h3]
    exact (foldl_keeps (awaitedBy · c level obj) _ (fun u _ => awaitedBy_dropBase u c level obj ..) _ _).trans hnear

theorem awaitedBy_popChain_none : awaitedBy (popChain s 0) c level obj = awaitedBy s c level obj := by
  unfold popChain
  split
  · exact awaitedBy_modThread ..
  · rfl

theorem awaitedBy_countIssue (x : ThreadRef) : awaitedBy (countIssue s x) c level obj = awaitedBy s c level obj :=
  awaitedBy_modCore s c level obj (fun k => by dsimp only; split_ifs <;> exact ⟨rfl, rfl, rfl⟩) x.core

omit s c in
/-- Where one place among those that hold a table of objects sets an object to one of the same phase, every place reads that phase as before. -/
theorem phase_of_placed {κ : Type} (bars : κ → Assoc Barrier) (set : κ → κ) {place place' : ℕ → κ} {b : Barrier} {x : ℕ}
    (hplace : ∀ y, place' y = if y = x then set (place x) else place y)
    (hset : ∀ k, bars (set k) = aset Barrier.reset (bars k) obj b)
    (h : b.phase = (aget Barrier.reset (bars (place x)) obj).phase) (y : ℕ) :
    (aget Barrier.reset (bars (place' y)) obj).phase = (aget Barrier.reset (bars (place y)) obj).phase := by
  rw [hplace]
  split
  · next hxy => rw [hset, aget_aset_same, h, hxy]
  · rfl

/-- A change of an object that keeps its phase is none for those who wait for it. -/
theorem phase_setBarrier {b : Barrier} {core : ℕ} (h : b.phase = (barrierAt s core level obj).phase) :
    (barrierAt (setBarrier s core level obj b) c level obj).phase = (barrierAt s c level obj).phase := by
  match level with
  | 0 =>
    exact phase_of_placed obj Core.bars (fun k => { k with bars := aset Barrier.reset k.bars obj b })
      (fun y => coreAt_modCore s core y _) (fun _ => rfl) h c
  | 1 =>
    exact phase_of_placed obj Quad.bars (fun k => { k with bars := aset Barrier.reset k.bars obj b })
      (fun y => quadAt_modQuad s (quadOf core) y _) (fun _ => rfl) h (quadOf c)
  | 2 =>
    exact phase_of_placed obj Die.bars (fun k => { k with bars := aset Barrier.reset k.bars obj b })
      (fun y => dieAt_modDie s (dieOf core) y _) (fun _ => rfl) h (dieOf c)
  | 3 => exact (congrArg Barrier.phase (aget_aset_same ..)).trans h
  | _ + 4 => exact (congrArg Barrier.phase (aget_aset_same ..)).trans h

theorem fenceView_setBarrier (core : ℕ) (b : Barrier) : fenceView (setBarrier s core level obj b) c = fenceView s c := by
  have hcore : ∀ {β : Type} {p : Core → β}, (∀ k bars, p { k with bars := bars } = p k) →
      p (coreAt (setBarrier s core level obj b) c) = p (coreAt s c) := fun hp => by
    unfold setBarrier
    split
    · exact coreAt_modCore_keeps _ (fun k => hp k _) s core c
    all_goals rfl
  rw [fenceView, hcore (p := Core.mq) fun _ _ => rfl, hcore (p := Core.ctxid) fun _ _ => rfl]
  unfold setBarrier
  split <;> rfl

theorem awaitedBy_setBarrier {b : Barrier} {core : ℕ} (h : b.phase = (barrierAt s core level obj).phase) :
    awaitedBy (setBarrier s core level obj b) c level obj = awaitedBy s c level obj := by
  rw [awaitedBy, fenceView_setBarrier, phase_setBarrier s c level obj h]
  rfl

end

/-! ### One thread leaves (R163, R352) -/

/-- The state in which a thread has left the phase and has its predicate, before its acquire fence. -/
def leftPhase (s : State) (t : ThreadRef) (level obj d : ℕ) : State := putQ { leaveCompleted s t level obj with cur := t } d true

/-- The thread itself in that state. -/
def leftThread (th : Thread) (level d : ℕ) : Thread :=
  wrQ { th with regs := th.regs.filter fun r => r.level != level } (regNum th .d d) true

section
variable (s : State) (t : ThreadRef) (level obj d : ℕ)

theorem awaitedBy_leftPhase (c : ℕ) : awaitedBy (leftPhase s t level obj d) c level obj = awaitedBy s c level obj := by
  refine (awaitedBy_modThread _ c level obj t _).trans ?_
  refine (awaitedBy_dropRanges (modThread (setBarrier s t.core level obj (observe (barrierAt s t.core level obj))) t fun th =>
    { th with regs := th.regs.filter fun x => x.level != level }) c level obj t.core (barrierAt s t.core level obj).left).trans ?_
  exact (awaitedBy_modThread ..).trans (awaitedBy_setBarrier s c level obj rfl)

theorem threadAt_leaveCompleted : threadAt (leaveCompleted s t level obj) t =
    { threadAt s t with regs := (threadAt s t).regs.filter fun r => r.level != level } := by
  rw [leaveCompleted, threadAt_dropRanges, threadAt_modThread_same, threadAt_setBarrier]

theorem threadAt_leftPhase : threadAt (leftPhase s t level obj d) t = leftThread (threadAt s t) level d := by
  have hleft := threadAt_leaveCompleted s t level obj
  unfold leftPhase
  generalize leaveCompleted s t level obj = u at hleft ⊢
  refine (me_modMe { u with cur := t } fun th => wrQ th (regNum (threadAt u t) .d d) true).trans ?_
  change wrQ (threadAt u t) (regNum (threadAt u t) .d d) true = _
  rw [hleft]
  rfl

theorem threadAt_leftPhase_elsewhere {x : ThreadRef} (h : x.core ≠ t.core ∨ tid x ≠ tid t) :
    threadAt (leftPhase s t level obj d) x = threadAt s x := by
  refine (threadAt_modThread_other _ _ h).trans ?_
  change threadAt (leaveCompleted s t level obj) x = _
  rw [leaveCompleted, threadAt_dropRanges, threadAt_modThread_other _ _ h, threadAt_setBarrier]

/-- A thread whose acquire fence waits for its earlier reads. -/
def waitingForReads (th : Thread) : Thread := { th with prog := .leaving, run := .parked .reads }

/-- A thread whose fence has let it go. -/
def readyAgain (th : Thread) : Thread := { th with prog := .none, run := .ready }

/-- The state in which the acquire fence waits. -/
def fencedState (u s : State) : State := { modMe u waitingForReads with cur := s.cur }

/-- The state in which the unit that waited has issued. -/
def issuedState (u : State) (t : ThreadRef) (level : ℕ) : State :=
  countIssue (popChain (modMe (acquireDrops u t level) readyAgain) 0) t

/-- The state in which the thread is at its next unit or iteration. -/
def resumedState (u : State) (t : ThreadRef) (level : ℕ) (s : State) : State :=
  { modMe (issuedState u t level) (fun th => suspendAsked (advance th)) with cur := s.cur }

theorem leavesParked_of_leaves (h : leavesNow s t level obj = some d) : leavesParked s t level obj =
    if !readsReturned (leftPhase s t level obj d) t (leftPhase s t level obj d).nextId then fencedState (leftPhase s t level obj d) s
    else resumedState (leftPhase s t level obj d) t level s := by
  unfold leavesParked
  rw [h]
  rfl

theorem leftPhase_cur : (leftPhase s t level obj d).cur = t := rfl

end

theorem threadAt_withCur (s : State) (c x : ThreadRef) : threadAt { s with cur := c } x = threadAt s x := rfl

theorem threadAt_modMe_cur {u : State} {t : ThreadRef} (h : u.cur = t) (f : Thread → Thread) :
    threadAt (modMe u f) t = f (threadAt u t) := by
  subst h
  exact me_modMe u f

theorem acquireDrops_cur (s : State) (t : ThreadRef) (scope : ℕ) : (acquireDrops s t scope).cur = s.cur := by
  have hbeyond := congrArg State.cur (beyondCopies_acquireDrops s t scope)
  exact hbeyond

section
variable {u : State} {t : ThreadRef} (hcur : u.cur = t) (level : ℕ) (s : State)
include hcur

theorem readied_cur : (modMe (acquireDrops u t level) readyAgain).cur = t := by
  rw [modMe_cur, acquireDrops_cur, hcur]

theorem issuedState_cur : (issuedState u t level).cur = t := by
  rw [issuedState, countIssue, modCore_cur, popChain_cur, readied_cur hcur]

theorem threadAt_issuedState : threadAt (issuedState u t level) t = { readyAgain (threadAt u t) with popped := [] } := by
  have hdrops : (acquireDrops u t level).cur = t := by rw [acquireDrops_cur, hcur]
  have hpop := me_popChain (modMe (acquireDrops u t level) readyAgain) 0
  rw [me, me, popChain_cur, readied_cur hcur, threadAt_modMe_cur hdrops, threadAt_acquireDrops] at hpop
  rw [issuedState, threadAt_countIssue, hpop]

theorem threadAt_issuedState_elsewhere {x : ThreadRef} (h : x.core ≠ t.core ∨ tid x ≠ tid t) :
    threadAt (issuedState u t level) x = threadAt u x := by
  have hdrops : (acquireDrops u t level).cur = t := by rw [acquireDrops_cur, hcur]
  rw [issuedState, threadAt_countIssue, threadAt_popChain (by rwa [readied_cur hcur]),
    threadAt_modMe_other (by rwa [hdrops]), threadAt_acquireDrops]

theorem threadAt_fencedState : threadAt (fencedState u s) t = waitingForReads (threadAt u t) := by
  rw [fencedState, threadAt_withCur, threadAt_modMe_cur hcur]

theorem threadAt_fencedState_elsewhere {x : ThreadRef} (h : x.core ≠ t.core ∨ tid x ≠ tid t) :
    threadAt (fencedState u s) x = threadAt u x := by
  rw [fencedState, threadAt_withCur, threadAt_modMe_other (by rwa [hcur])]

theorem threadAt_resumedState : threadAt (resumedState u t level s) t =
    suspendAsked (advance { readyAgain (threadAt u t) with popped := [] }) := by
  rw [resumedState, threadAt_withCur, threadAt_modMe_cur (issuedState_cur hcur level), threadAt_issuedState hcur]

theorem threadAt_resumedState_elsewhere {x : ThreadRef} (h : x.core ≠ t.core ∨ tid x ≠ tid t) :
    threadAt (resumedState u t level s) x = threadAt u x := by
  rw [resumedState, threadAt_withCur, threadAt_modMe_other (by rwa [issuedState_cur hcur]), threadAt_issuedState_elsewhere hcur level h]

end

theorem awaitedBy_withCur (s : State) (x : ThreadRef) (c level obj : ℕ) :
    awaitedBy { s with cur := x } c level obj = awaitedBy s c level obj := rfl

theorem awaitedBy_fencedState (u s : State) (c level obj : ℕ) : awaitedBy (fencedState u s) c level obj = awaitedBy u c level obj :=
  awaitedBy_modThread u c level obj u.cur waitingForReads

theorem awaitedBy_resumedState (u s : State) (t : ThreadRef) (l c level obj : ℕ) :
    awaitedBy (resumedState u t l s) c level obj = awaitedBy u c level obj := by
  rw [resumedState, awaitedBy_withCur, modMe, awaitedBy_modThread, issuedState, awaitedBy_countIssue, awaitedBy_popChain_none, modMe,
    awaitedBy_modThread, awaitedBy_acquireDrops]

/-- What a thread waits for is as before when another has left, or it itself. -/
theorem awaitedBy_leavesParked (s : State) (x : ThreadRef) (c level obj : ℕ) :
    awaitedBy (leavesParked s x level obj) c level obj = awaitedBy s c level obj := by
  cases h : leavesNow s x level obj with
  | none => rw [leavesParked_of_none h]
  | some d =>
    rw [leavesParked_of_leaves s x level obj d h]
    split
    · rw [awaitedBy_fencedState, awaitedBy_leftPhase]
    · rw [awaitedBy_resumedState, awaitedBy_leftPhase]

theorem threadAt_leavesParked_elsewhere (s : State) {t x : ThreadRef} (level obj : ℕ) (h : t.core ≠ x.core ∨ tid t ≠ tid x) :
    threadAt (leavesParked s x level obj) t = threadAt s t := by
  cases hleaves : leavesNow s x level obj with
  | none => rw [leavesParked_of_none hleaves]
  | some d =>
    rw [leavesParked_of_leaves s x level obj d hleaves]
    split
    · rw [threadAt_fencedState_elsewhere (leftPhase_cur ..) _ h, threadAt_leftPhase_elsewhere _ _ _ _ _ h]
    · rw [threadAt_resumedState_elsewhere (leftPhase_cur ..) _ _ h, threadAt_leftPhase_elsewhere _ _ _ _ _ h]

/-! ### The whole act (R353) -/

/-- The threads of an object's list leave it, one after another, where they may. -/
def leaveAll (level obj : ℕ) (s : State) (ts : List ThreadRef) : State := ts.foldl (fun s t => leavesParked s t level obj) s

section
variable {t : ThreadRef} (level obj : ℕ)

theorem awaitedBy_leaveAll (s : State) (ts : List ThreadRef) (c : ℕ) :
    awaitedBy (leaveAll level obj s ts) c level obj = awaitedBy s c level obj :=
  foldl_keeps (awaitedBy · c level obj) _ (fun u x => awaitedBy_leavesParked u x c level obj) _ _

/-- A thread that may not leave stays as it is while others do. -/
theorem threadAt_leaveAll_stays {s : State} (h : Stays (threadAt s t) level obj) (ts : List ThreadRef) :
    threadAt (leaveAll level obj s ts) t = threadAt s t := by
  refine List.foldlRecOn (motive := fun u => threadAt u t = threadAt s t) _ _ rfl fun u hu x _ => ?_
  by_cases hplace : t.core = x.core ∧ tid t = tid x
  · have hsame : threadAt u x = threadAt u t := by rw [threadAt, threadAt, hplace.1, hplace.2]
    rw [leavesParked_of_none (leavesNow_of_stays (by rwa [hsame, hu])), hu]
  · exact (threadAt_leavesParked_elsewhere u level obj (by tauto)).trans hu

/-- A thread stays as it is while the threads of other places leave. -/
theorem threadAt_leaveAll_elsewhere (s : State) {ts : List ThreadRef} (h : ∀ x ∈ ts, t.core ≠ x.core ∨ tid t ≠ tid x) :
    threadAt (leaveAll level obj s ts) t = threadAt s t :=
  List.foldlRecOn (motive := fun u => threadAt u t = threadAt s t) _ _ rfl fun u hu x hx =>
    (threadAt_leavesParked_elsewhere u level obj (h x hx)).trans hu

end

/-- What `readsReturned` reads of a state. -/
theorem readsReturned_of_fenceView {u s : State} {t : ThreadRef} (h : fenceView u t.core = fenceView s t.core)
    (hrid : (threadAt u t).rid = (threadAt s t).rid) : readsReturned u t u.nextId = readsReturned s t s.nextId := by
  simp only [fenceView, Prod.mk.injEq] at h
  obtain ⟨hin, hid, hmq, hctx⟩ := h
  unfold readsReturned stepsRead ofThread isOf
  rw [hin, hid, hmq, hctx, hrid]

theorem leavesNow_of_registered {s : State} {t : ThreadRef} {level obj d : ℕ} (hrun : (threadAt s t).run = .parked (.barrier level obj d))
    (hsusp : (threadAt s t).susp = false) (hfroz : (threadAt s t).froz = false)
    (hreg : ∃ r ∈ (threadAt s t).regs, r.level = level ∧ r.obj = obj ∧ r.phase ≠ (barrierAt s t.core level obj).phase) :
    leavesNow s t level obj = some d := by
  obtain ⟨r, hr, hlevel, hobj, hphase⟩ := hreg
  unfold leavesNow
  dsimp only
  rw [hrun, hsusp, hfroz]
  refine if_pos ?_
  simp only [Bool.not_false, beq_self_eq_true, Bool.and_true, Bool.true_and, List.any_eq_true]
  exact ⟨r, hr, by simp [hlevel, hobj, hphase.symm]⟩

/-- A thread after it has left: at its next unit or iteration, or in its acquire fence (R163, R353). -/
def leaver (th : Thread) (level d : ℕ) (back : Bool) : Thread :=
  if !back then waitingForReads (leftThread th level d)
  else suspendAsked (advance { readyAgain (leftThread th level d) with popped := [] })

section
variable {s : State} {t : ThreadRef} {level obj d : ℕ} (hrun : (threadAt s t).run = .parked (.barrier level obj d))
  (hsusp : (threadAt s t).susp = false) (hfroz : (threadAt s t).froz = false)
  (hreg : ∃ r ∈ (threadAt s t).regs, r.level = level ∧ r.obj = obj ∧ r.phase ≠ (barrierAt s t.core level obj).phase)
include hrun hsusp hfroz hreg

theorem threadAt_leavesParked : threadAt (leavesParked s t level obj) t =
    leaver (threadAt s t) level d (readsReturned s t s.nextId) := by
  have hrid : (threadAt (leftPhase s t level obj d) t).rid = (threadAt s t).rid := by
    rw [threadAt_leftPhase]
    rfl
  have hback := readsReturned_of_fenceView (congrArg Prod.fst (awaitedBy_leftPhase s t level obj d t.core)) hrid
  rw [leavesParked_of_leaves s t level obj d (leavesNow_of_registered hrun hsusp hfroz hreg), hback, leaver]
  split
  · rw [threadAt_fencedState (leftPhase_cur ..), threadAt_leftPhase]
  · rw [threadAt_resumedState (leftPhase_cur ..), threadAt_leftPhase]

end

/-! ### What a thread is after it has left -/

theorem suspendAdvance_keeps {β : Type} {p : Thread → β} (hp : AsideOfProgress p) (th : Thread) :
    p (suspendAsked (advance th)) = p th := by
  rw [suspendAsked_eq]
  exact (hp _ _ _ _ _ _ _ _ _ _).trans (advance_keeps hp th)

section
variable (th : Thread) (level d : ℕ) (back : Bool)

/-- What lies aside of its progress is as its leave made it. -/
theorem leaver_keeps {β : Type} {p : Thread → β} (hp : AsideOfProgress p) (hprog : ∀ th prog, p { th with prog := prog } = p th) :
    p (leaver th level d back) = p (leftThread th level d) := by
  have hready : ∀ th : Thread, p { readyAgain th with popped := [] } = p th := fun th =>
    (hp { th with prog := .none } .ready th.back th.susp th.suspReq [] th.claim th.ss th.pc th.desc).trans (hprog th _)
  have hwaits : ∀ th : Thread, p (waitingForReads th) = p th := fun th =>
    (hp { th with prog := .leaving } (.parked .reads) th.back th.susp th.suspReq th.popped th.claim th.ss th.pc th.desc).trans (hprog th _)
  unfold leaver
  split
  · exact hwaits _
  · exact (suspendAdvance_keeps hp _).trans (hready _)

theorem flags_suspendAdvance (th : Thread) : (suspendAsked (advance th)).ss.flags = th.ss.flags := by
  obtain ⟨pp, repc, hss⟩ := ss_advance th
  have hflags := congrArg Status.flags hss
  rw [suspendAsked_eq]
  exact hflags

theorem leaver_fields : (leaver th level d back).regs = (th.regs.filter fun r => r.level != level) ∧
    (leaver th level d back).pw = (wrQ th (regNum th .d d) true).pw ∧ (leaver th level d back).g = th.g ∧
    (leaver th level d back).v = th.v ∧ (leaver th level d back).ss.flags = th.ss.flags := by
  refine ⟨leaver_keeps th level d back (p := Thread.regs) (fun _ _ _ _ _ _ _ _ _ _ => rfl) fun _ _ => rfl,
    leaver_keeps th level d back (p := Thread.pw) (fun _ _ _ _ _ _ _ _ _ _ => rfl) fun _ _ => rfl,
    leaver_keeps th level d back (p := Thread.g) (fun _ _ _ _ _ _ _ _ _ _ => rfl) fun _ _ => rfl,
    leaver_keeps th level d back (p := Thread.v) (fun _ _ _ _ _ _ _ _ _ _ => rfl) fun _ _ => rfl, ?_⟩
  unfold leaver
  split
  · rfl
  · exact flags_suspendAdvance _

theorem leaver_back : (leaver th level d true).run = .ready ∧ (leaver th level d true).prog = .none ∧
    (leaver th level d true).pc = (advance th).pc := by
  change (suspendAsked (advance { readyAgain (leftThread th level d) with popped := [] })).run = _ ∧
    (suspendAsked (advance { readyAgain (leftThread th level d) with popped := [] })).prog = _ ∧
    (suspendAsked (advance { readyAgain (leftThread th level d) with popped := [] })).pc = _
  refine ⟨?_, suspendAdvance_keeps (p := Thread.prog) (fun _ _ _ _ _ _ _ _ _ _ => rfl) _, ?_⟩
  · rw [suspendAsked_eq]
    exact advance_run _
  · rw [suspendAsked_eq]
    exact (pc_advance _).trans (pc_advance th).symm

theorem leaver_waits : (leaver th level d false).run = .parked .reads ∧ (leaver th level d false).prog = .leaving ∧
    (leaver th level d false).pc = th.pc := ⟨rfl, rfl, rfl⟩

theorem stays_leaver (obj : ℕ) : Stays (leaver th level d back) level obj := by
  refine .inr (.inr fun q => ?_)
  cases back with
  | true => rw [(leaver_back th level d).1]; exact nofun
  | false => rw [(leaver_waits th level d).1]; exact nofun

end

/-! ### The threads of the package -/

/-- The threads of the package in the order in which they leave. -/
def threadsOf (s : State) : List ThreadRef := s.cores.flatMap fun e => e.2.threads.map fun x => ofTid e.1 x.1

theorem changeBarrier_eq (s : State) (core level obj : ℕ) (b : Barrier) :
    changeBarrier s core level obj b = leaveAll level obj (setBarrier s core level obj b) (threadsOf (setBarrier s core level obj b)) := rfl

/-- A table lists what it reads, but for its default. -/
theorem mem_of_aget_ne {α : Type} {dflt : α} {l : Assoc α} {k : ℕ} (h : aget dflt l k ≠ dflt) : (k, aget dflt l k) ∈ l := by
  have hread : aget dflt l k = dflt ∨ (k, aget dflt l k) ∈ l :=
    aget_of_forall (p := fun v => v = dflt ∨ (k, v) ∈ l) (.inl rfl) fun e he hk => .inr (hk ▸ he)
  exact hread.resolve_left h

theorem mem_threadsOf {s : State} {t : ThreadRef} (hplace : t = ofTid t.core (tid t)) (h : threadAt s t ≠ Thread.reset) :
    t ∈ threadsOf s := by
  have hcore : coreAt s t.core ≠ Core.reset := fun hreset => h (by rw [threadAt, hreset]; rfl)
  exact List.mem_flatMap.mpr ⟨_, mem_of_aget_ne hcore, List.mem_map.mpr ⟨_, mem_of_aget_ne h, hplace.symm⟩⟩

theorem placed_of_mem_threadsOf {s : State} {x : ThreadRef} (h : x ∈ threadsOf s) : x = ofTid x.core (tid x) := by
  obtain ⟨e, -, hx⟩ := List.mem_flatMap.mp h
  obtain ⟨y, -, rfl⟩ := List.mem_map.mp hx
  rw [ofTid_core, tid_ofTid]

/-- A registered thread that is parked at the object and not stopped leaves when its turn comes, whoever leaves before and after. -/
theorem threadAt_leaveAll_leaves {s : State} {t : ThreadRef} {level obj d : ℕ}
    (hrun : (threadAt s t).run = .parked (.barrier level obj d))
    (hsusp : (threadAt s t).susp = false) (hfroz : (threadAt s t).froz = false)
    (hreg : ∃ r ∈ (threadAt s t).regs, r.level = level ∧ r.obj = obj ∧ r.phase ≠ (barrierAt s t.core level obj).phase)
    (hplace : t = ofTid t.core (tid t)) :
    threadAt (leaveAll level obj s (threadsOf s)) t = leaver (threadAt s t) level d (readsReturned s t s.nextId) := by
  have hmem : t ∈ threadsOf s := mem_threadsOf hplace fun hreset => by
    rw [hreset] at hrun
    cases hrun
  obtain ⟨before, after, hlist, hfirst⟩ := List.eq_append_cons_of_mem hmem
  have helse : ∀ x ∈ before, t.core ≠ x.core ∨ tid t ≠ tid x := fun x hx => by
    by_contra hsame
    obtain ⟨hcore, htid⟩ := not_or.mp hsame
    have hx' := placed_of_mem_threadsOf (s := s) (x := x) (hlist ▸ List.mem_append_left _ hx)
    rw [← not_not.mp hcore, ← not_not.mp htid, ← hplace] at hx'
    exact hfirst (hx' ▸ hx)
  rw [hlist, leaveAll, List.foldl_append, List.foldl_cons]
  change threadAt (leaveAll level obj (leavesParked (leaveAll level obj s before) t level obj) after) t = _
  have hth := threadAt_leaveAll_elsewhere level obj s helse
  have hawaited := awaitedBy_leaveAll level obj s before t.core
  generalize leaveAll level obj s before = u at hth hawaited ⊢
  have hphase : (barrierAt u t.core level obj).phase = (barrierAt s t.core level obj).phase := congrArg Prod.snd hawaited
  have hleft := threadAt_leavesParked (s := u) (t := t) (level := level) (obj := obj) (d := d) (by rwa [hth]) (by rwa [hth]) (by rwa [hth])
    (by rwa [hth, hphase])
  rw [hth, readsReturned_of_fenceView (congrArg Prod.fst hawaited) (congrArg Thread.rid hth)] at hleft
  rw [threadAt_leaveAll_stays level obj (hleft ▸ stays_leaver ..), hleft]

theorem completedPhaseReleasesWaiters : CompletedPhaseReleasesWaiters := by
  intro s core level obj b t d
  dsimp only
  intro hb hrun hreg
  rw [changeBarrier_eq]
  have hth : threadAt (setBarrier s core level obj b) t = threadAt s t := threadAt_setBarrier ..
  have hback : readsReturned (setBarrier s core level obj b) t (setBarrier s core level obj b).nextId = readsReturned s t s.nextId :=
    readsReturned_of_fenceView (fenceView_setBarrier ..) (congrArg Thread.rid hth)
  generalize setBarrier s core level obj b = u at hb hth hback ⊢
  rw [← hb] at hreg
  rw [← hth] at hrun hreg ⊢
  refine ⟨fun hsusp hfroz hplace => ?_, fun hstop => threadAt_leaveAll_stays level obj (hstop.elim .inl fun h => .inr (.inl h)) _⟩
  rw [threadAt_leaveAll_leaves hrun hsusp hfroz hreg hplace, hback]
  obtain ⟨hregs, hpw, hg, hv, hflags⟩ := leaver_fields (threadAt u t) level d (readsReturned s t s.nextId)
  refine ⟨hregs, hpw, hg, hv, hflags, fun hyes => ?_, fun hno => ?_⟩
  · rw [hyes]
    exact leaver_back ..
  · rw [Bool.eq_false_iff.mpr hno]
    exact leaver_waits ..

/-- Settles O29: the units by their bodies, the object by its arithmetic, and the act that completes a phase by what each leave keeps for
the threads that wait with it. -/
theorem barrierResults : Obligations.BarrierResults :=
  ⟨barrierInstructions, barArrivesAndWaits, barrierObjectArithmetic, completedPhaseReleasesWaiters⟩

end Sys2Proof.Machine
end
